-- ==== Sys2Proof/Word.lean ====
section
/-! DEFINITION. The word types of the model and their plainest arithmetic. -/

namespace Sys2Proof

/-- A byte of memory or of a frame. -/
abbrev Byte := BitVec 8

/-- A 32-bit register word. -/
abbrev Word := BitVec 32

/-- A track position: 60 bits, edges in [59:12] and subpitch in [11:0] (R97). -/
abbrev Pos := BitVec 60

/-- An instant or a duration in picoseconds; an instant is counted from power-on. -/
abbrev Ps := Nat

/-- Bits [hi:lo] of a number, as a number (R5). -/
def bits (v hi lo : Nat) : Nat := (v / 2 ^ lo) % 2 ^ (hi + 1 - lo)

/-- A number with bits [hi:lo] replaced by `x` (R5). -/
def setBits (v hi lo x : Nat) : Nat :=
  v - bits v hi lo * 2 ^ lo + (x % 2 ^ (hi + 1 - lo)) * 2 ^ lo

end Sys2Proof
end

