-- ==== Sys2Proof/Machine/Operand.lean ====
section
/-! DEFINITION. The kinds of operands that commands carry. -/

namespace Sys2Proof.Machine

/-- A bus master, in the order of R13: the Prompter, the fabric control port, then the boxes. -/
inductive Master where
  | prompter
  | fabric
  | box (b : Nat)
  deriving DecidableEq, Repr

/-- A lane that trains under R346: a stage lane, or a lane of port D, of a ring port or of an Izrex port (R423, R473, R507). -/
inductive LaneId where
  | stage (k : Fin 32)
  | duplex (k : Fin 4)
  | ring (p : Fin 2)
  | izrex (p : Fin 2) (k : Fin 4)
  deriving DecidableEq, Repr

/-- A level change at an input of a track: for how many consecutive 625 ps samples it has persisted (R90). -/
structure Sampled where
  track : Fin 16
  samples : Nat
  deriving DecidableEq, Repr

/-- What the fabric returned for one plane of a line at a line tap: each group's RIN, or none where RVALID was 0 (R231, R233). -/
structure TapReturn where
  tap : Nat
  track : Nat
  item : Nat
  index : Nat
  plane : Nat
  groups : List (Option Nat)
  deriving DecidableEq, Repr

/-- One register access: R13, R767. -/
structure Access where
  master : Master
  addr : Nat
  /-- 64 bits wide -/
  wide : Bool
  /-- a write with this data, or a read -/
  data : Option Nat
  deriving DecidableEq, Repr

/-- What training found at one DIMM (R604, R622, R630): its organisation, the rating as a rate code, the SPD's minima of R633's
parameters in ps, and the failing step, cause and lane, if any. -/
structure Dimm where
  capacity : Nat
  density : Nat
  rowBits : Nat
  colBits : Nat
  ranks : Nat
  width : Nat
  rating : Nat
  minPs : List Nat
  fail : Option (Nat × Nat × Nat)
  /-- after a warm reset: VERIFY failed, and full training followed (R622) -/
  full : Bool
  deriving DecidableEq, Repr

/-- A DRAM fault as captured (R625, R634): device address, syndrome, beat, subchannel, and the last commands issued, newest
first, each in the layout of DMC_c_HIST. -/
structure DramFault where
  addr : Nat
  syndrome : Nat
  beat : Nat
  subch : Bool
  hist : List Nat
  deriving DecidableEq, Repr

/-- What the driver count found of a contended image (R543): the first offending wire in scan order, its drivers, and how many
wires offend. -/
structure Contend where
  cls : Nat
  x : Nat
  y : Nat
  index : Nat
  drivers : Nat
  count : Nat
  deriving DecidableEq, Repr

/-- A queued item in a resynchronisation snapshot (R452): its record, its serial issue record, its marks and STATE, and from
HEAD on its read instant and counters, from BOUND on its cue position and PERF. -/
structure SyncItem where
  record : List Byte
  issue : List Byte
  marks : Nat
  state : Nat
  instant : Nat
  counters : List (Nat × Nat)
  c : Nat
  perf : Bool
  deriving DecidableEq, Repr

/-- A resynchronisation snapshot part (R452). The spec names what a part holds and no layout for it. -/
inductive Sync where
  /-- part 1: a track with its accepted, fired and provisional marks and its items -/
  | queue (track accepted fired provisional : Nat) (items : List SyncItem)
  /-- part 2: the lead's accessions as (series, quantum, offset), its leases as 64-byte records, own or partner, and the
  counters as (counter, word) -/
  | series (accs : List (Nat × Nat × Nat)) (leases : List (Bool × List Byte)) (counters : List (Nat × Nat))
  /-- part 3: host-installed layouts as (track, ID, DRAM address, list), and both nozzle map pages, active or not, as (kind,
  index, value) -/
  | config (layouts : List (Nat × Nat × Nat × List Byte)) (maps : List (Bool × Nat × Nat × Nat))
  /-- part 4: the end record with S -/
  | finish (s : Nat)
  deriving DecidableEq, Repr

end Sys2Proof.Machine
end

