-- ==== Sys2Proof/Syntax.lean ====
section
/-! DEFINITION. The commands of the block: one constructor per row of spec/opcode_table.json, each with the operands its
rule gives it. The last operand `t` of every command is the instant it takes effect, in picoseconds from power-on (the
model's own operand, log entry 1). -/

namespace Sys2Proof

open Sys2Proof.Machine

/-- One command of the DZ8400, a row of the opcode table. -/
inductive Instr where
  /-- REGISTER_WRITE (R14). -/
  | registerWrite (a : Access) (t : Nat)
  /-- SYS_DECODE_FAULT (R12). -/
  | sysDecodeFault (a : Access) (t : Nat)
  /-- EVT_PIN_PULSE_END (R735). -/
  | evtPinPulseEnd (k : Fin 8) (t : Nat)
  /-- POWER_ON (R747). -/
  | powerOn (refSel : Nat) (banks : List (Nat × Nat)) (holdup : Bool) (t : Nat)
  /-- BROWN_OUT (R749). -/
  | brownOut (aonKept : Bool) (t : Nat)
  /-- PIN_RESET (R78). -/
  | pinReset (t : Nat)
  /-- STAGE_MANAGER_WATCHDOG (R78). -/
  | stageManagerWatchdog (t : Nat)
  /-- SUPPLY_EARLY_WARNING (R171). -/
  | supplyEarlyWarning (cut : Bool) (t : Nat)
  /-- EARLY_WARNING_CLEAR (R748). -/
  | earlyWarningClear (t : Nat)
  /-- PHASE_TRIM (R64). -/
  | phaseTrim (fault : Bool) (keyBad : Nat) (tableBad : Bool) (ext : Bool) (t : Nat)
  /-- PHASE_LIFE (R706). -/
  | phaseLife (t : Nat)
  /-- PHASE_SELECT (R570). -/
  | phaseSelect (t : Nat)
  /-- PHASE_CLOCKS (R645). -/
  | phaseClocks (t : Nat)
  /-- CLK_LOCK_FAIL (R645). -/
  | clkLockFail (k : Fin 8) (t : Nat)
  /-- PHASE_PLANE (R64). -/
  | phasePlane (valid : Bool) (drivers : Option Contend) (trees : List Nat) (t : Nat)
  /-- PHASE_DRAM (R622). -/
  | phaseDram (m0 : Dimm) (m1 : Dimm) (t : Nat)
  /-- PHASE_PROMPT (R183). -/
  | phasePrompt (mute : Nat) (t : Nat)
  /-- PHASE_JOIN (R469). -/
  | phaseJoin (aonBad : Nat) (t : Nat)
  /-- CMP_JOIN_LATE (R67). -/
  | cmpJoinLate (t : Nat)
  /-- DUPLEX_ROLE_TIMEOUT (R448). -/
  | duplexRoleTimeout (t : Nat)
  /-- PHASE_ARM (R64). -/
  | phaseArm (t : Nat)
  /-- CALL_CONTINUE (R68). -/
  | callContinue (m : Master) (stop : Bool) (t : Nat)
  /-- RETRY_PROMPT (R76). -/
  | retryPrompt (m : Master) (stop : Bool) (t : Nat)
  /-- MODE_REQ_REHEARSAL (R59). -/
  | modeReqRehearsal (m : Master) (t : Nat)
  /-- MODE_REQ_PERFORMANCE (R60). -/
  | modeReqPerformance (m : Master) (t : Nat)
  /-- MODE_REQ_UNDERSTUDY (R59). -/
  | modeReqUnderstudy (m : Master) (t : Nat)
  /-- MODE_REQ_INTERVAL (R664). -/
  | modeReqInterval (m : Master) (t : Nat)
  /-- MODE_REQ_SERVICE (R59). -/
  | modeReqService (m : Master) (t : Nat)
  /-- RESET_REQ_PRINT_PATH (R87). -/
  | resetReqPrintPath (m : Master) (t : Nat)
  /-- RESET_REQ_WARM (R87). -/
  | resetReqWarm (m : Master) (t : Nat)
  /-- RESET_REQ_COLD (R87). -/
  | resetReqCold (m : Master) (t : Nat)
  /-- PRINT_PATH_RESET (R80). -/
  | printPathReset (aonBad : Nat) (t : Nat)
  /-- WARM_RESET (R78). -/
  | warmReset (t : Nat)
  /-- COLD_RESET (R78). -/
  | coldReset (t : Nat)
  /-- CURTAIN_WINDOW (R123). -/
  | curtainWindow (n : Fin 16) (t : Nat)
  /-- TRK_CONFIG_WRITE (R123). -/
  | trkConfigWrite (m : Master) (n : Fin 16) (r : Fin 12) (v : Nat) (t : Nat)
  /-- TRK_SCHED_WRITE (R222). -/
  | trkSchedWrite (m : Master) (n : Fin 16) (v : Nat) (t : Nat)
  /-- POSITION_LOW_HALF_READ (R131). -/
  | positionLowHalfRead (m : Master) (n : Fin 16) (r : Fin 3) (t : Nat)
  /-- ENCODER_EDGE (R91). -/
  | encoderEdge (n : Sampled) (aLeads : Bool) (t : Nat)
  /-- ILLEGAL_QUAD_TRANSITION (R92). -/
  | illegalQuadTransition (n : Sampled) (t : Nat)
  /-- Z_EDGE (R93). -/
  | zEdge (n : Sampled) (t : Nat)
  /-- SYNTH_TIMEOUT (R101). -/
  | synthTimeout (n : Fin 16) (t : Nat)
  /-- TRK_COAST_END (R101). -/
  | trkCoastEnd (n : Fin 16) (t : Nat)
  /-- CUE_TRANSITION (R95). -/
  | cueTransition (n : Sampled) (k : Fin 8) (level : Bool) (t : Nat)
  /-- CUE_EVENT_RECOGNISED (R95). -/
  | cueEventRecognised (n : Fin 16) (k : Fin 8) (t : Nat)
  /-- LINE_ANNOUNCE (R115). -/
  | lineAnnounce (n : Fin 16) (t : Nat)
  /-- FIRE_INSTANT (R113). -/
  | fireInstant (n : Fin 16) (t : Nat)
  /-- ITEM_SUBMIT (R39). -/
  | itemSubmit (p : Fin 2) (b : Fin 15) (seq : Nat) (payload : List Byte) (t : Nat)
  /-- ITEM_BATCH (R159). -/
  | itemBatch (p : Fin 2) (b : Fin 15) (seq : Nat) (payload : List Byte) (t : Nat)
  /-- ITEM_PORT_RECORD (R558). -/
  | itemPortRecord (seq : Nat) (payload : List Byte) (t : Nat)
  /-- FRG_VD_SERIAL_WAIT (R276). -/
  | frgVdSerialWait (n : Fin 16) (t : Nat)
  /-- QUEUE_RECORD_WRITTEN (R39). -/
  | queueRecordWritten (n : Fin 16) (t : Nat)
  /-- RETRY_HOLD_EXPIRY (R158). -/
  | retryHoldExpiry (n : Fin 16) (t : Nat)
  /-- PRE_COMPOSE_DONE (R297). -/
  | preComposeDone (n : Fin 16) (id : Nat) (t : Nat)
  /-- FLUSH_AFTER_HEAD (R165). -/
  | flushAfterHead (m : Master) (n : Fin 16) (t : Nat)
  /-- FLUSH_INCLUDING_HEAD (R165). -/
  | flushIncludingHead (m : Master) (n : Fin 16) (t : Nat)
  /-- RETRY_HOLD_RELEASE (R158). -/
  | retryHoldRelease (m : Master) (n : Fin 16) (t : Nat)
  /-- FORGE_LINE_START (R195). -/
  | forgeLineStart (k : Fin 8) (t : Nat)
  /-- LINE_COMPOSED (R197). -/
  | lineComposed (k : Fin 8) (back : List TapReturn) (badEntries : List Nat) (badSets : List (Bool × Nat)) (badDelay : List Nat) (corrected : Nat) (t : Nat)
  /-- LINE_HANDED (R356). -/
  | lineHanded (n : Fin 16) (t : Nat)
  /-- FORGE_PARITY_ERROR (R238). -/
  | forgeParityError (k : Fin 8) (t : Nat)
  /-- FRG_CACHE_PARITY (R218). -/
  | frgCacheParity (t : Nat)
  /-- LINE_DEADLINE (R384). -/
  | lineDeadline (n : Fin 16) (read : Bool) (t : Nat)
  /-- FRG_DL_POP (R412). -/
  | frgDlPop (m : Master) (t : Nat)
  /-- LAYOUT_INSTALL (R227). -/
  | layoutInstall (m : Master) (track : Fin 16) (id : Nat) (t : Nat)
  /-- LAYOUT_REPLACE (R228). -/
  | layoutReplace (m : Master) (track : Fin 16) (id : Nat) (t : Nat)
  /-- LAYOUT_REMOVE (R227). -/
  | layoutRemove (m : Master) (track : Fin 16) (id : Nat) (t : Nat)
  /-- LAYOUT_OP_COMPLETE (R227). -/
  | layoutOpComplete (t : Nat)
  /-- FRG_BUDGET_WRITE (R245). -/
  | frgBudgetWrite (m : Master) (v : Nat) (t : Nat)
  /-- FRG_CTRL_WRITE (R243). -/
  | frgCtrlWrite (m : Master) (v : Nat) (t : Nat)
  /-- FRG_CACHE_CFG_WRITE (R251). -/
  | frgCacheCfgWrite (m : Master) (v : Nat) (t : Nat)
  /-- FRG_TAP_CTRL_WRITE (R234). -/
  | frgTapCtrlWrite (m : Master) (k : Fin 8) (v : Nat) (t : Nat)
  /-- LAYOUT_REBUILD_DONE (R242). -/
  | layoutRebuildDone (t : Nat)
  /-- VD_OP_TO_WORD (R266). -/
  | vdOpToWord (m : Master) (vector : Fin 128) (t : Nat)
  /-- VD_OP_TO_BIN (R266). -/
  | vdOpToBin (m : Master) (vector : Fin 128) (t : Nat)
  /-- VD_OP_ADD (R263). -/
  | vdOpAdd (m : Master) (vector : Fin 128) (t : Nat)
  /-- VD_OP_COMPARE (R264). -/
  | vdOpCompare (m : Master) (vector : Fin 128) (t : Nat)
  /-- VD_OP_DONE (R267). -/
  | vdOpDone (t : Nat)
  /-- FRG_VD_CNT_WRITE (R306). -/
  | frgVdCntWrite (m : Master) (k : Fin 64) (w : Fin 3) (v : Nat) (t : Nat)
  /-- NZC_OP_COPY (R325). -/
  | nzcOpCopy (m : Master) (t : Nat)
  /-- NZC_OP_LOAD (R326). -/
  | nzcOpLoad (m : Master) (t : Nat)
  /-- NZC_LOAD_DONE (R326). -/
  | nzcLoadDone (t : Nat)
  /-- NZC_OP_PREPARE (R327). -/
  | nzcOpPrepare (m : Master) (t : Nat)
  /-- NZC_PREPARE_DONE (R327). -/
  | nzcPrepareDone (ecc : Option Nat) (t : Nat)
  /-- NZC_OP_SWAP_LINE (R328). -/
  | nzcOpSwapLine (m : Master) (t : Nat)
  /-- NZC_OP_SWAP_CURTAIN (R328). -/
  | nzcOpSwapCurtain (m : Master) (t : Nat)
  /-- NZC_SWAPPED (R328). -/
  | nzcSwapped (t : Nat)
  /-- NZC_PATCH_ENTRY (R326). -/
  | nzcPatchEntry (m : Master) (v : Nat) (t : Nat)
  /-- NZC_MAP_RESTORED (R333). -/
  | nzcMapRestored (t : Nat)
  /-- LANE_DETECT (R346). -/
  | laneDetect (x : LaneId) (t : Nat)
  /-- LANE_ALIGN (R346). -/
  | laneAlign (x : LaneId) (board : Nat) (window : Nat) (t : Nat)
  /-- STG_LANE_UP (R346). -/
  | stgLaneUp (x : LaneId) (latency : Nat) (t : Nat)
  /-- LANE_TRAIN_TIMEOUT (R346). -/
  | laneTrainTimeout (x : LaneId) (t : Nat)
  /-- LANE_AUTO_RETRAIN (R346). -/
  | laneAutoRetrain (x : LaneId) (t : Nat)
  /-- STG_LANE_DOWN (R367). -/
  | stgLaneDown (x : LaneId) (cause : Fin 3) (last : Nat) (t : Nat)
  /-- STG_LANE_OP_RETRAIN (R377). -/
  | stgLaneOpRetrain (m : Master) (k : Fin 32) (t : Nat)
  /-- STG_LANE_OP_TAKE_DOWN (R377). -/
  | stgLaneOpTakeDown (m : Master) (k : Fin 32) (t : Nat)
  /-- STG_LANE_OP_RETURN (R370). -/
  | stgLaneOpReturn (m : Master) (k : Fin 32) (t : Nat)
  /-- FRAME_SEND (R360). -/
  | frameSend (k : Fin 32) (t : Nat)
  /-- FIRE_BLOCK_SLOT (R358). -/
  | fireBlockSlot (k : Fin 32) (n : Fin 16) (t : Nat)
  /-- STG_CREDIT_STALL (R360). -/
  | stgCreditStall (k : Fin 32) (t : Nat)
  /-- FENCE_PERIOD (R361). -/
  | fencePeriod (t : Nat)
  /-- CREDIT_BLOCK (R360). -/
  | creditBlock (k : Fin 32) (total : Nat) (t : Nat)
  /-- FENCE_UP_FRAME (R364). -/
  | fenceUpFrame (k : Fin 32) (h : Fin 256) (port : Bool) (key : Nat) (missed : Nat) (t : Nat)
  /-- ERROR_FRAME (R364). -/
  | errorFrame (k : Fin 32) (n : Fin 16) (key : Nat) (t : Nat)
  /-- VERDICT_FRAME (R398). -/
  | verdictFrame (k : Fin 32) (n : Fin 16) (id : Nat) (blocks : Nat) (verdict : Nat) (grade : Nat) (station : Nat) (t : Nat)
  /-- STG_RX_CRC (R366). -/
  | stgRxCrc (x : LaneId) (frame : Bool) (t : Nat)
  /-- VERDICT_WINDOW_CLOSE (R400). -/
  | verdictWindowClose (n : Fin 16) (id : Nat) (t : Nat)
  /-- REJECT_DECISION_TIMER (R401). -/
  | rejectDecisionTimer (n : Fin 16) (id : Nat) (t : Nat)
  /-- GATE_PULSE_START (R403). -/
  | gatePulseStart (g : Fin 32) (t : Nat)
  /-- GATE_PULSE_END (R403). -/
  | gatePulseEnd (g : Fin 32) (t : Nat)
  /-- INS_CFG_WRITE (R408). -/
  | insCfgWrite (m : Master) (r : Fin 4) (k : Fin 32) (v : Nat) (t : Nat)
  /-- HEARTBEAT_TOGGLE (R420). -/
  | heartbeatToggle (t : Nat)
  /-- CUE_BURST_RECOGNISED (R421). -/
  | cueBurstRecognised (t : Nat)
  /-- LEAD_LOST (R422). -/
  | leadLost (t : Nat)
  /-- DPX_CUE_FAULT (R422). -/
  | dpxCueFault (t : Nat)
  /-- DPX_ISOLATED (R433). -/
  | dpxIsolated (t : Nat)
  /-- DPX_HELLO (R448). -/
  | dpxHello (seq : Nat) (ack : Nat) (payload : List Byte) (t : Nat)
  /-- DPX_STATE (R427). -/
  | dpxState (seq : Nat) (ack : Nat) (payload : List Byte) (t : Nat)
  /-- DPX_ITEM (R429). -/
  | dpxItem (seq : Nat) (ack : Nat) (payload : List Byte) (t : Nat)
  /-- DPX_COMMIT_ACK (R429). -/
  | dpxCommitAck (seq : Nat) (ack : Nat) (payload : List Byte) (t : Nat)
  /-- DPX_ACCESSION (R430). -/
  | dpxAccession (seq : Nat) (ack : Nat) (payload : List Byte) (t : Nat)
  /-- DPX_LEASE (R494). -/
  | dpxLease (seq : Nat) (ack : Nat) (payload : List Byte) (t : Nat)
  /-- DPX_CONFIG (R428). -/
  | dpxConfig (seq : Nat) (ack : Nat) (payload : List Byte) (t : Nat)
  /-- DPX_FLUSH (R428). -/
  | dpxFlush (seq : Nat) (ack : Nat) (payload : List Byte) (t : Nat)
  /-- DPX_HEAD (R435). -/
  | dpxHead (seq : Nat) (ack : Nat) (payload : List Byte) (t : Nat)
  /-- DPX_BIND (R435). -/
  | dpxBind (seq : Nat) (ack : Nat) (payload : List Byte) (t : Nat)
  /-- DPX_MARK (R436). -/
  | dpxMark (seq : Nat) (ack : Nat) (payload : List Byte) (t : Nat)
  /-- DPX_POS (R437). -/
  | dpxPos (seq : Nat) (ack : Nat) (payload : List Byte) (t : Nat)
  /-- DPX_CO (R442). -/
  | dpxCo (seq : Nat) (ack : Nat) (payload : List Byte) (t : Nat)
  /-- DPX_CO_ACK (R442). -/
  | dpxCoAck (seq : Nat) (ack : Nat) (payload : List Byte) (t : Nat)
  /-- DPX_NAK (R426). -/
  | dpxNak (seq : Nat) (ack : Nat) (payload : List Byte) (t : Nat)
  /-- DPX_SUBMIT_FWD (R434). -/
  | dpxSubmitFwd (seq : Nat) (ack : Nat) (payload : List Byte) (t : Nat)
  /-- DPX_OUTCOME_FWD (R434). -/
  | dpxOutcomeFwd (seq : Nat) (ack : Nat) (payload : List Byte) (t : Nat)
  /-- DPX_SYNC_DATA (R452). -/
  | dpxSyncData (seq : Nat) (ack : Nat) (part : Sync) (t : Nat)
  /-- DPX_RESEND_TIMER (R426). -/
  | dpxResendTimer (t : Nat)
  /-- DPX_IDLE_STATE_SEND (R426). -/
  | dpxIdleStateSend (t : Nat)
  /-- DPX_POS_SEND (R437). -/
  | dpxPosSend (n : Fin 16) (t : Nat)
  /-- DPX_ACK_TIMEOUT (R432). -/
  | dpxAckTimeout (cueSilent : Bool) (t : Nat)
  /-- DPX_CO_HAND_OVER (R458). -/
  | dpxCoHandOver (m : Master) (t : Nat)
  /-- DPX_CO_TAKE (R441). -/
  | dpxCoTake (m : Master) (t : Nat)
  /-- TAKE_REQUEST_TIMEOUT (R441). -/
  | takeRequestTimeout (t : Nat)
  /-- SWITCH_AT (R442). -/
  | switchAt (t : Nat)
  /-- LEDGER_ENTRY_WRITTEN (R467). -/
  | ledgerEntryWritten (fails : Nat) (voidOk : Bool) (t : Nat)
  /-- LEDGER_ERASE_DONE (R468). -/
  | ledgerEraseDone (t : Nat)
  /-- LDG_RESEAL (R472). -/
  | ldgReseal (m : Master) (t : Nat)
  /-- BEACON (R478). -/
  | beacon (p : Fin 2) (src : Nat) (dest : Nat) (seq : Nat) (hops : Nat) (payload : List Byte) (t : Nat)
  /-- CAST (R479). -/
  | castFrame (p : Fin 2) (src : Nat) (dest : Nat) (seq : Nat) (hops : Nat) (payload : List Byte) (t : Nat)
  /-- CATALOGUE (R497). -/
  | catalogue (p : Fin 2) (src : Nat) (dest : Nat) (seq : Nat) (hops : Nat) (payload : List Byte) (t : Nat)
  /-- TIME (R482). -/
  | timeFrame (p : Fin 2) (src : Nat) (dest : Nat) (seq : Nat) (hops : Nat) (payload : List Byte) (residence : Nat) (t : Nat)
  /-- PDELAY_REQ (R482). -/
  | pdelayReq (p : Fin 2) (t1 : Nat) (t : Nat)
  /-- PDELAY_RESP (R482). -/
  | pdelayResp (p : Fin 2) (t1 : Nat) (t2 : Nat) (t3 : Nat) (t : Nat)
  /-- LEASE_REQ (R493). -/
  | leaseReq (p : Fin 2) (src : Nat) (dest : Nat) (seq : Nat) (hops : Nat) (payload : List Byte) (t : Nat)
  /-- PROPOSE (R493). -/
  | propose (p : Fin 2) (src : Nat) (dest : Nat) (seq : Nat) (hops : Nat) (payload : List Byte) (t : Nat)
  /-- ACCEPT (R493). -/
  | accept (p : Fin 2) (src : Nat) (dest : Nat) (seq : Nat) (hops : Nat) (payload : List Byte) (t : Nat)
  /-- GRANT (R493). -/
  | grant (p : Fin 2) (src : Nat) (dest : Nat) (seq : Nat) (hops : Nat) (payload : List Byte) (t : Nat)
  /-- REFUSE (R493). -/
  | refuse (p : Fin 2) (src : Nat) (dest : Nat) (seq : Nat) (hops : Nat) (payload : List Byte) (t : Nat)
  /-- RECALL (R480). -/
  | ringRecall (p : Fin 2) (src : Nat) (dest : Nat) (seq : Nat) (hops : Nat) (payload : List Byte) (t : Nat)
  /-- RECALL_REPLY (R480). -/
  | recallReply (p : Fin 2) (src : Nat) (dest : Nat) (seq : Nat) (hops : Nat) (payload : List Byte) (t : Nat)
  /-- BEACON_SEND (R476). -/
  | beaconSend (t : Nat)
  /-- CAST_SEND (R476). -/
  | castSend (t : Nat)
  /-- CATALOGUE_SEND (R476). -/
  | catalogueSend (t : Nat)
  /-- TIME_SEND (R476). -/
  | timeSend (t : Nat)
  /-- PDELAY_SEND (R476). -/
  | pdelaySend (p : Fin 2) (t : Nat)
  /-- KEEPER_LOST (R480). -/
  | keeperLost (t : Nat)
  /-- CMP_QUORUM_LOST (R479). -/
  | cmpQuorumLost (t : Nat)
  /-- LEASE_PROPOSAL_TIMEOUT (R493). -/
  | leaseProposalTimeout (t : Nat)
  /-- LEASE_REQUEST_TIMEOUT (R493). -/
  | leaseRequestTimeout (k : Fin 256) (t : Nat)
  /-- CMP_HOLDOVER (R486). -/
  | cmpHoldover (t : Nat)
  /-- CMP_HOLD_LIMIT (R487). -/
  | cmpHoldLimit (t : Nat)
  /-- CMP_TIME_OP_SET (R485). -/
  | cmpTimeOpSet (m : Master) (t : Nat)
  /-- CMP_TIME_OP_STEP (R485). -/
  | cmpTimeOpStep (m : Master) (t : Nat)
  /-- IZX_PORT_RETRAIN (R508). -/
  | izxPortRetrain (p : Fin 2) (lanes : Fin 16) (t : Nat)
  /-- IZX_PORT_AUTO_RETRAIN (R508). -/
  | izxPortAutoRetrain (p : Fin 2) (t : Nat)
  /-- IZX_PORT_OP_RETRAIN (R533). -/
  | izxPortOpRetrain (m : Master) (p : Fin 2) (t : Nat)
  /-- IZX_PORT_OP_TAKE_DOWN (R533). -/
  | izxPortOpTakeDown (m : Master) (p : Fin 2) (t : Nat)
  /-- IZX_BOX_OP_CLOSE (R512). -/
  | izxBoxOpClose (m : Master) (b : Fin 16) (t : Nat)
  /-- IZX_RX_CRC (R511). -/
  | izxRxCrc (p : Fin 2) (command : Bool) (b : Fin 16) (blocks : Nat) (t : Nat)
  /-- OPEN (R512). -/
  | openBox (p : Fin 2) (b : Fin 16) (host : Nat) (start : Nat) (force : Bool) (t : Nat)
  /-- CLOSE (R512). -/
  | closeBox (p : Fin 2) (b : Fin 16) (t : Nat)
  /-- NOP (R516). -/
  | nop (p : Fin 2) (b : Fin 16) (t : Nat)
  /-- BOX_HOLD_EXPIRY (R513). -/
  | boxHoldExpiry (b : Fin 16) (t : Nat)
  /-- REG_READ (R519). -/
  | regRead (p : Fin 2) (b : Fin 16) (seq : Nat) (payload : List Byte) (t : Nat)
  /-- REG_WRITE (R519). -/
  | regWrite (p : Fin 2) (b : Fin 16) (seq : Nat) (payload : List Byte) (t : Nat)
  /-- DRAM_WRITE (R520). -/
  | dramWrite (p : Fin 2) (b : Fin 16) (seq : Nat) (payload : List Byte) (t : Nat)
  /-- DRAM_WRITE_DONE (R520). -/
  | dramWriteDone (b : Fin 16) (seq : Nat) (t : Nat)
  /-- DRAM_READ (R520). -/
  | dramRead (p : Fin 2) (b : Fin 16) (seq : Nat) (payload : List Byte) (t : Nat)
  /-- ITEM_QUERY (R153). -/
  | itemQuery (p : Fin 2) (b : Fin 16) (seq : Nat) (payload : List Byte) (t : Nat)
  /-- TRACK_QUERY (R518). -/
  | trackQuery (p : Fin 2) (b : Fin 16) (seq : Nat) (payload : List Byte) (t : Nat)
  /-- SCENE_DATA_BEGIN (R574). -/
  | sceneDataBegin (p : Fin 2) (b : Fin 16) (seq : Nat) (payload : List Byte) (t : Nat)
  /-- SCENE_DATA_CHUNK (R574). -/
  | sceneDataChunk (p : Fin 2) (b : Fin 16) (seq : Nat) (payload : List Byte) (t : Nat)
  /-- SCENE_DATA_END (R576). -/
  | sceneDataEnd (p : Fin 2) (b : Fin 16) (seq : Nat) (payload : List Byte) (t : Nat)
  /-- PROMPT_DATA_BEGIN (R526). -/
  | promptDataBegin (p : Fin 2) (b : Fin 16) (seq : Nat) (payload : List Byte) (t : Nat)
  /-- PROMPT_DATA_CHUNK (R526). -/
  | promptDataChunk (p : Fin 2) (b : Fin 16) (seq : Nat) (payload : List Byte) (t : Nat)
  /-- PROMPT_DATA_END (R526). -/
  | promptDataEnd (p : Fin 2) (b : Fin 16) (seq : Nat) (payload : List Byte) (t : Nat)
  /-- SUBSCRIBE (R524). -/
  | subscribe (p : Fin 2) (b : Fin 16) (seq : Nat) (payload : List Byte) (t : Nat)
  /-- SERIES_QUERY (R525). -/
  | seriesQuery (p : Fin 2) (b : Fin 16) (seq : Nat) (payload : List Byte) (t : Nat)
  /-- CP_MASTER_REGISTER_ACCESS (R553). -/
  | cpMasterRegisterAccess (addr : Nat) (wide : Bool) (data : Option Nat) (t : Nat)
  /-- CP_MASTER_DRAM_ACCESS (R554). -/
  | cpMasterDramAccess (addr : Nat) (wide : Bool) (data : Option Nat) (t : Nat)
  /-- SLAVE_WINDOW_ACCESS (R555). -/
  | slaveWindowAccess (a : Access) (t : Nat)
  /-- PRB_SLAVE_TIMEOUT (R556). -/
  | prbSlaveTimeout (t : Nat)
  /-- PRB_USER (R561). -/
  | prbUser (k : Fin 32) (t : Nat)
  /-- PRB_SEL_WRITE (R562). -/
  | prbSelWrite (m : Master) (n : Fin 16) (v : Nat) (t : Nat)
  /-- CFG_PLANE_SEL_WRITE (R572). -/
  | cfgPlaneSelWrite (m : Master) (plane : Fin 4) (t : Nat)
  /-- CFG_SELECT_WRITTEN (R572). -/
  | cfgSelectWritten (t : Nat)
  /-- CFG_STAGE_LOAD (R574). -/
  | cfgStageLoad (m : Master) (t : Nat)
  /-- CFG_STAGE_ERASE (R577). -/
  | cfgStageErase (m : Master) (t : Nat)
  /-- CFG_STAGE_ABORT (R577). -/
  | cfgStageAbort (m : Master) (t : Nat)
  /-- STAGE_ERASE_DONE (R574). -/
  | stageEraseDone (pulses : Nat) (t : Nat)
  /-- STAGE_CHECKS_DONE (R576). -/
  | stageChecksDone (repaired : Nat) (bad : Option Nat) (drivers : Option Contend) (carryOk : Bool) (t : Nat)
  /-- CFG_SCENE_ARM (R582). -/
  | cfgSceneArm (m : Master) (tracks : Nat) (force : Bool) (trial : Bool) (t : Nat)
  /-- CFG_SCENE_DISARM (R583). -/
  | cfgSceneDisarm (m : Master) (t : Nat)
  /-- CFG_SCENE_FIRE_NOW (R583). -/
  | cfgSceneFireNow (m : Master) (trial : Bool) (t : Nat)
  /-- SCENE_FIRE (R583). -/
  | sceneFire (t : Nat)
  /-- CFG_ARM_TIMEOUT (R583). -/
  | cfgArmTimeout (t : Nat)
  /-- CFG_SCENE_CHANGED (R584). -/
  | cfgSceneChanged (trees : List Nat) (t : Nat)
  /-- SCENE_SELECT_RECORD (R584). -/
  | sceneSelectRecord (t : Nat)
  /-- FLC_READ (R597). -/
  | flcRead (m : Master) (t : Nat)
  /-- FLC_PROGRAM (R597). -/
  | flcProgram (m : Master) (t : Nat)
  /-- FLC_ERASE (R597). -/
  | flcErase (m : Master) (t : Nat)
  /-- FLC_QUERY (R597). -/
  | flcQuery (m : Master) (t : Nat)
  /-- FLC_OP_DONE (R597). -/
  | flcOpDone (ecc : Fin 3) (pulses : Nat) (fail : Bool) (t : Nat)
  /-- TEMP_SENSOR_READ (R608). -/
  | tempSensorRead (c : Fin 2) (ok : Bool) (ts0 : Fin 256) (ts1 : Fin 256) (t : Nat)
  /-- REFRESH_INTERVAL (R615). -/
  | refreshInterval (c : Fin 2) (t : Nat)
  /-- DMC_REFRESH_RECOVER (R617). -/
  | dmcRefreshRecover (c : Fin 2) (t : Nat)
  /-- DMC_FREQ_CHANGE (R620). -/
  | dmcFreqChange (m : Master) (fgr : Bool) (target : Fin 16) (t : Nat)
  /-- FREQ_CHANGE_START (R621). -/
  | freqChangeStart (t : Nat)
  /-- DMC_FREQ_DONE (R621). -/
  | dmcFreqDone (fail : Option (Nat × Nat × Nat × Nat)) (t : Nat)
  /-- FREQ_CHANGE_TIMEOUT (R620). -/
  | freqChangeTimeout (t : Nat)
  /-- DMC_ECC_CORRECTED (R623). -/
  | dmcEccCorrected (c : Fin 2) (t : Nat)
  /-- DMC_UNCORRECTABLE (R624). -/
  | dmcUncorrectable (c : Fin 2) (fault : DramFault) (t : Nat)
  /-- DMC_CA_PARITY (R624). -/
  | dmcCaParity (c : Fin 2) (fault : DramFault) (t : Nat)
  /-- DMC_SR_ABANDONED (R619). -/
  | dmcSrAbandoned (c : Fin 2) (t : Nat)
  /-- DMC_PLL_RELOCK_TIMEOUT (R653). -/
  | dmcPllRelockTimeout (c : Fin 2) (t : Nat)
  /-- CLK_REF_LOST (R638). -/
  | clkRefLost (t : Nat)
  /-- CLK_REF_RESTORED (R638). -/
  | clkRefRestored (t : Nat)
  /-- CLK_LOCKED (R642). -/
  | clkLocked (k : Fin 8) (band : Fin 64) (trim : Fin 1024) (t : Nat)
  /-- CLK_LOCK_LOST (R642). -/
  | clkLockLost (k : Fin 8) (t : Nat)
  /-- CLK_BAND_STALE (R643). -/
  | clkBandStale (k : Fin 8) (t : Nat)
  /-- CLK_PLL_RELOCK (R658). -/
  | clkPllRelock (m : Master) (k : Fin 8) (t : Nat)
  /-- CLK_PLL_FULL_SEARCH (R658). -/
  | clkPllFullSearch (m : Master) (k : Fin 8) (t : Nat)
  /-- CLK_PLL_CLEAR_BAND (R658). -/
  | clkPllClearBand (m : Master) (k : Fin 8) (t : Nat)
  /-- CLK_DOM_RESTORE (R651). -/
  | clkDomRestore (m : Master) (d : Fin 64) (t : Nat)
  /-- CLK_DOM_WRITE (R655). -/
  | clkDomWrite (m : Master) (d : Fin 64) (v : Nat) (t : Nat)
  /-- ENTRY_CURTAIN_REACHED (R664). -/
  | entryCurtainReached (t : Nat)
  /-- ENTRY_CHECKPOINTS_DONE (R664). -/
  | entryCheckpointsDone (t : Nat)
  /-- ENTRY_RETENTION_WRITTEN (R671). -/
  | entryRetentionWritten (t : Nat)
  /-- ENTRY_SELF_REFRESH (R664). -/
  | entrySelfRefresh (t : Nat)
  /-- PWR_ENTERED (R664). -/
  | pwrEntered (t : Nat)
  /-- ENTRY_TIMEOUT (R664). -/
  | entryTimeout (t : Nat)
  /-- WAKE_ACCESS (R667). -/
  | wakeAccess (a : Access) (t : Nat)
  /-- WAKE_TIMER (R667). -/
  | wakeTimer (t : Nat)
  /-- WAKE_PIN (R667). -/
  | wakePin (t : Nat)
  /-- WAKE_MONITOR (R667). -/
  | wakeMonitor (t : Nat)
  /-- WAKE_TRACK_CUE (R667). -/
  | wakeTrackCue (n : Fin 16) (t : Nat)
  /-- WAKE_FABRIC (R667). -/
  | wakeFabric (k : Fin 32) (q : Fin 4) (t : Nat)
  /-- PWR_OP_WAKE (R677). -/
  | pwrOpWake (m : Master) (t : Nat)
  /-- PWR_OP_RETRY (R670). -/
  | pwrOpRetry (m : Master) (t : Nat)
  /-- WAKE_DOMAIN_READY (R668). -/
  | wakeDomainReady (bad : Fin 256) (t : Nat)
  /-- WAKE_READY_TIMEOUT (R670). -/
  | wakeReadyTimeout (cause : Fin 6) (domain : Fin 20) (pll : Fin 8) (t : Nat)
  /-- PWR_STALL_LONG (R669). -/
  | pwrStallLong (t : Nat)
  /-- PWR_RET_RELEASE (R675). -/
  | pwrRetRelease (m : Master) (banks : Fin 256) (t : Nat)
  /-- GPIO_PIN_WRITE (R686). -/
  | gpioPinWrite (m : Master) (pin : Fin 640) (v : Nat) (t : Nat)
  /-- PIN_HAND_OVER (R688). -/
  | pinHandOver (pin : Fin 640) (t : Nat)
  /-- GPIO_MWR_WRITE (R690). -/
  | gpioMwrWrite (m : Master) (h : Fin 40) (v : Nat) (t : Nat)
  /-- GPIO_MOE_WRITE (R690). -/
  | gpioMoeWrite (m : Master) (h : Fin 40) (v : Nat) (t : Nat)
  /-- GPIO_PATTERN (R692). -/
  | gpioPattern (u : Fin 8) (levels : Nat) (changed : Nat) (t : Nat)
  /-- GPIO_BANK_FAULT (R681). -/
  | gpioBankFault (n : Fin 16) (code : Fin 8) (t : Nat)
  /-- UART_RX_BYTE (R693). -/
  | uartRxByte (u : Fin 4) (byte : Fin 256) (parityBad : Bool) (framingBad : Bool) (t : Nat)
  /-- UART_DATA_WRITE (R701). -/
  | uartDataWrite (m : Master) (u : Fin 4) (v : Nat) (t : Nat)
  /-- UART_DATA_READ (R701). -/
  | uartDataRead (m : Master) (u : Fin 4) (t : Nat)
  /-- UART_TX_DONE (R704). -/
  | uartTxDone (u : Fin 4) (t : Nat)
  /-- SPI_DATA_WRITE (R694). -/
  | spiDataWrite (m : Master) (u : Fin 4) (v : Nat) (t : Nat)
  /-- SPI_DATA_READ (R702). -/
  | spiDataRead (m : Master) (u : Fin 4) (t : Nat)
  /-- SPI_FRAME_DONE (R694). -/
  | spiFrameDone (u : Fin 4) (byte : Fin 256) (t : Nat)
  /-- PER_SPI_DONE (R694). -/
  | perSpiDone (u : Fin 4) (t : Nat)
  /-- I2C_START (R695). -/
  | i2cStart (m : Master) (u : Fin 4) (t : Nat)
  /-- I2C_WRITE (R695). -/
  | i2cWrite (m : Master) (u : Fin 4) (byte : Fin 256) (t : Nat)
  /-- I2C_READ_ACK (R695). -/
  | i2cReadAck (m : Master) (u : Fin 4) (t : Nat)
  /-- I2C_READ_NACK (R695). -/
  | i2cReadNack (m : Master) (u : Fin 4) (t : Nat)
  /-- I2C_STOP (R695). -/
  | i2cStop (m : Master) (u : Fin 4) (t : Nat)
  /-- I2C_RXDATA_READ (R702). -/
  | i2cRxdataRead (m : Master) (u : Fin 4) (t : Nat)
  /-- I2C_COMMAND_DONE (R695). -/
  | i2cCommandDone (u : Fin 4) (res : Fin 3) (byte : Fin 256) (t : Nat)
  /-- I2C_STRETCH_TIMEOUT (R695). -/
  | i2cStretchTimeout (u : Fin 4) (t : Nat)
  /-- PER_TIMER (R696). -/
  | perTimer (k : Fin 8) (t : Nat)
  /-- PER_TIMER_CAP (R696). -/
  | perTimerCap (k : Fin 8) (t : Nat)
  /-- TIMER_CAPTURE_READ (R703). -/
  | timerCaptureRead (m : Master) (k : Fin 8) (t : Nat)
  /-- LCY_TO_FACTORY_TEST (R708). -/
  | lcyToFactoryTest (m : Master) (holdup : Bool) (t : Nat)
  /-- LCY_TO_PROVISIONED (R708). -/
  | lcyToProvisioned (m : Master) (holdup : Bool) (t : Nat)
  /-- LCY_TO_FIELD (R708). -/
  | lcyToField (m : Master) (holdup : Bool) (t : Nat)
  /-- LCY_TO_FIELD_TEST (R712). -/
  | lcyToFieldTest (m : Master) (holdup : Bool) (t : Nat)
  /-- LCY_TO_ANALYSIS (R708). -/
  | lcyToAnalysis (m : Master) (holdup : Bool) (t : Nat)
  /-- LCY_TO_SCRAP (R708). -/
  | lcyToScrap (m : Master) (holdup : Bool) (t : Nat)
  /-- LCY_TRANSITION_DONE (R710). -/
  | lcyTransitionDone (t : Nat)
  /-- LCY_CHALLENGE (R718). -/
  | lcyChallenge (m : Master) (t : Nat)
  /-- LCY_VERIFY (R719). -/
  | lcyVerify (m : Master) (t : Nat)
  /-- LCY_VERIFY_DONE (R719). -/
  | lcyVerifyDone (t : Nat)
  /-- NONCE_EXPIRY (R719). -/
  | nonceExpiry (t : Nat)
  /-- KEY_AES_SCENE (R717). -/
  | keyAesScene (m : Master) (slot : Fin 256) (t : Nat)
  /-- KEY_AES_PROMPT (R717). -/
  | keyAesPrompt (m : Master) (slot : Fin 256) (t : Nat)
  /-- KEY_SCENE_PUB_X (R717). -/
  | keyScenePubX (m : Master) (t : Nat)
  /-- KEY_SCENE_PUB_Y (R717). -/
  | keyScenePubY (m : Master) (t : Nat)
  /-- KEY_PROMPT_PUB_X (R717). -/
  | keyPromptPubX (m : Master) (t : Nat)
  /-- KEY_PROMPT_PUB_Y (R717). -/
  | keyPromptPubY (m : Master) (t : Nat)
  /-- PROMPTER_LINE (R721). -/
  | prompterLine (chars : List Nat) (t : Nat)
  /-- PROMPTER_ID (R723). -/
  | prompterId (t : Nat)
  /-- PROMPTER_STATUS (R723). -/
  | prompterStatus (t : Nat)
  /-- PROMPTER_READ (R723). -/
  | prompterRead (addr : Nat) (count : Nat) (t : Nat)
  /-- PROMPTER_READ64 (R723). -/
  | prompterRead64 (addr : Nat) (t : Nat)
  /-- PROMPTER_WRITE (R723). -/
  | prompterWrite (addr : Nat) (value : Nat) (t : Nat)
  /-- PROMPTER_WRITE64 (R723). -/
  | prompterWrite64 (addr : Nat) (value : Nat) (t : Nat)
  /-- PROMPTER_MODE (R723). -/
  | prompterMode (mode : Fin 8) (t : Nat)
  /-- PROMPTER_RESET (R723). -/
  | prompterReset (kind : Fin 4) (t : Nat)
  /-- PROMPTER_LOG (R723). -/
  | prompterLog (count : Nat) (t : Nat)
  /-- PROMPTER_SELECT (R725). -/
  | prompterSelect (plane : Fin 2) (t : Nat)
  /-- PROMPTER_LCY (R723). -/
  | prompterLcy (target : Fin 8) (t : Nat)
  /-- PROMPTER_CHALLENGE (R723). -/
  | prompterChallenge (t : Nat)
  /-- PROMPTER_RESPOND (R723). -/
  | prompterRespond (sig : List Byte) (t : Nat)
  /-- SLAVE_WINDOW_ACK (R555). -/
  | slaveWindowAck (data : Nat) (status : Fin 4) (t : Nat)
  /-- FAB_RSTIN_N_CHANGE (R550). -/
  | fabRstinNChange (high : Bool) (trees : Fin 16) (t : Nat)
  /-- IDLE_REFRESH (R615). -/
  | idleRefresh (c : Fin 2) (t : Nat)
  /-- HELD_LINE_FIRE (R116). -/
  | heldLineFire (n : Fin 16) (t : Nat)
  /-- LCY_KEY_WRITTEN (R717). -/
  | lcyKeyWritten (t : Nat)
  /-- PROMPT_SLOT_ERASE_DONE (R526). -/
  | promptSlotEraseDone (t : Nat)
  /-- NZC_COPY_DONE (R325). -/
  | nzcCopyDone (t : Nat)
  /-- UART_CTS_N_CHANGE (R693). -/
  | uartCtsNChange (u : Fin 4) (high : Bool) (t : Nat)
  /-- UART_BREAK (R693). -/
  | uartBreak (u : Fin 4) (t : Nat)
  /-- HELLO_SEND (R448). -/
  | helloSend (t : Nat)
  deriving DecidableEq, Repr

/-- RECALL under the spelling of its mnemonic. The constructor has another name because `recall` alone is a word of Lean's
libraries. -/
abbrev Instr.recall (p : Fin 2) (src dest seq hops : Nat) (payload : List Byte) (t : Nat) : Instr :=
  .ringRecall p src dest seq hops payload t

end Sys2Proof
end

