-- ==== Sys2Proof/WellFormed.lean ====
section
/-! DEFINITION. Which commands are well formed: every operand within the width that its rule gives it. The meanings take an
operand's bits within that width, so an ill-formed command is none that the block can be sent. -/

namespace Sys2Proof

open Sys2Proof.Machine

/-- A number of at most `n` bits. -/
def okWidth (n v : Nat) : Bool := decide (v < 2 ^ n)

/-- An absent number, or one of at most `n` bits. -/
def okOpt (n : Nat) : Option Nat → Bool
  | none => true
  | some v => okWidth n v

/-- Numbers of at most `n` bits each. -/
def okList (n : Nat) (l : List Nat) : Bool := l.all (okWidth n)

/-- A payload of at most `n` bytes (R350, R425, R474, R510). -/
def okPayload (n : Nat) (l : List Byte) : Bool := decide (l.length ≤ n)

/-- A register access in the 2 MiB register space, its data as wide as the access (R12, R13). -/
def okAccess (a : Access) : Bool := okWidth 21 a.addr && okOpt (if a.wide then 64 else 32) a.data

/-- The PLL of up to 16 clock trees, 14 FRG_TAP_CLK, 15 none (R549). -/
def okTrees (l : List Nat) : Bool := decide (l.length ≤ 16) && okList 4 l

/-- Straps and supply codes of up to 16 banks (R681, R699). -/
def okBanks (l : List (Nat × Nat)) : Bool := decide (l.length ≤ 16) && l.all (fun b => okWidth 2 b.1 && okWidth 3 b.2)

/-- What came back from the line taps (R231): groups of 256 bits, of a tap, a track and a plane that exist. -/
def okTaps (l : List TapReturn) : Bool :=
  l.all (fun r => okWidth 3 r.tap && okWidth 4 r.track && okWidth 64 r.item && okWidth 24 r.index && okWidth 3 r.plane &&
    r.groups.all (okOpt 256))

/-- Curves and weight sets of a page, 16 of each (R314). -/
def okSets (l : List (Bool × Nat)) : Bool := l.all (fun b => okWidth 4 b.2)

/-- What training found (R604, R622): seven dimensions of a module within their fields. -/
def okDimm (d : Dimm) : Bool :=
  okWidth 16 d.capacity && okWidth 8 d.rowBits && okWidth 8 d.colBits && okWidth 4 d.ranks && okWidth 8 d.width &&
    okWidth 4 d.rating && okList 32 d.minPs

/-- A captured fault (R634). -/
def okFault (f : DramFault) : Bool := okWidth 40 f.addr && okWidth 32 f.syndrome && okWidth 8 f.beat && okList 64 f.hist

/-- A contended wire of the grid (R536, R540, R543). -/
def okContend : Option Contend → Bool
  | none => true
  | some c => okWidth 3 c.cls && decide (c.x < 552) && okWidth 8 c.y && okWidth 10 c.index && decide (2 ≤ c.drivers)

/-- A failed retraining (R621, R628): controller, step, cause and lane. -/
def okFail : Option (Nat × Nat × Nat × Nat) → Bool
  | none => true
  | some (c, step, cause, lane) => okWidth 1 c && okWidth 8 step && okWidth 8 cause && okWidth 8 lane

/-- A snapshot part names a track or holds records of 64 bytes (R452). -/
def okSync : Sync → Bool
  | .queue n _ _ _ _ => okWidth 4 n
  | .series _ leases _ => leases.all (fun l => decide (l.2.length = 64))
  | .config layouts _ => layouts.all (fun l => okWidth 4 l.1)
  | .finish s => okWidth 32 s

/-- A command's operands lie within their widths. -/
def Instr.wellFormed (i : Instr) : Bool :=
  match i with
  | .registerWrite a _ => okAccess a
  | .sysDecodeFault a _ => okAccess a
  | .evtPinPulseEnd _ _ => true
  | .powerOn refSel banks _ _ => okWidth 3 refSel && okBanks banks
  | .brownOut _ _ => true
  | .pinReset _ => true
  | .stageManagerWatchdog _ => true
  | .supplyEarlyWarning _ _ => true
  | .earlyWarningClear _ => true
  | .phaseTrim _ keyBad _ _ _ => okWidth 18 keyBad
  | .phaseLife _ => true
  | .phaseSelect _ => true
  | .phaseClocks _ => true
  | .clkLockFail _ _ => true
  | .phasePlane _ drivers trees _ => okContend drivers && okTrees trees
  | .phaseDram m0 m1 _ => okDimm m0 && okDimm m1
  | .phasePrompt mute _ => okWidth 2 mute
  | .phaseJoin aonBad _ => okWidth 16 aonBad
  | .cmpJoinLate _ => true
  | .duplexRoleTimeout _ => true
  | .phaseArm _ => true
  | .callContinue _ _ _ => true
  | .retryPrompt _ _ _ => true
  | .modeReqRehearsal _ _ => true
  | .modeReqPerformance _ _ => true
  | .modeReqUnderstudy _ _ => true
  | .modeReqInterval _ _ => true
  | .modeReqService _ _ => true
  | .resetReqPrintPath _ _ => true
  | .resetReqWarm _ _ => true
  | .resetReqCold _ _ => true
  | .printPathReset aonBad _ => okWidth 16 aonBad
  | .warmReset _ => true
  | .coldReset _ => true
  | .curtainWindow _ _ => true
  | .trkConfigWrite _ _ _ v _ => okWidth 64 v
  | .trkSchedWrite _ _ v _ => okWidth 64 v
  | .positionLowHalfRead _ _ _ _ => true
  | .encoderEdge n _ _ => okWidth 32 n.samples
  | .illegalQuadTransition n _ => okWidth 32 n.samples
  | .zEdge n _ => okWidth 32 n.samples
  | .synthTimeout _ _ => true
  | .trkCoastEnd _ _ => true
  | .cueTransition n _ _ _ => okWidth 32 n.samples
  | .cueEventRecognised _ _ _ => true
  | .lineAnnounce _ _ => true
  | .fireInstant _ _ => true
  | .itemSubmit _ _ seq payload _ => okWidth 32 seq && okPayload 4160 payload
  | .itemBatch _ _ seq payload _ => okWidth 32 seq && okPayload 4160 payload
  | .itemPortRecord seq payload _ => okWidth 32 seq && okPayload 64 payload
  | .frgVdSerialWait _ _ => true
  | .queueRecordWritten _ _ => true
  | .retryHoldExpiry _ _ => true
  | .preComposeDone _ id _ => okWidth 64 id
  | .flushAfterHead _ _ _ => true
  | .flushIncludingHead _ _ _ => true
  | .retryHoldRelease _ _ _ => true
  | .forgeLineStart _ _ => true
  | .lineComposed _ back badEntries badSets badDelay corrected _ => okTaps back && okList 20 badEntries && okSets badSets && okList 24 badDelay && okWidth 32 corrected
  | .lineHanded _ _ => true
  | .forgeParityError _ _ => true
  | .frgCacheParity _ => true
  | .lineDeadline _ _ _ => true
  | .frgDlPop _ _ => true
  | .layoutInstall _ _ id _ => okWidth 64 id
  | .layoutReplace _ _ id _ => okWidth 64 id
  | .layoutRemove _ _ id _ => okWidth 64 id
  | .layoutOpComplete _ => true
  | .frgBudgetWrite _ v _ => okWidth 64 v
  | .frgCtrlWrite _ v _ => okWidth 64 v
  | .frgCacheCfgWrite _ v _ => okWidth 64 v
  | .frgTapCtrlWrite _ _ v _ => okWidth 64 v
  | .layoutRebuildDone _ => true
  | .vdOpToWord _ _ _ => true
  | .vdOpToBin _ _ _ => true
  | .vdOpAdd _ _ _ => true
  | .vdOpCompare _ _ _ => true
  | .vdOpDone _ => true
  | .frgVdCntWrite _ _ _ v _ => okWidth 64 v
  | .nzcOpCopy _ _ => true
  | .nzcOpLoad _ _ => true
  | .nzcLoadDone _ => true
  | .nzcOpPrepare _ _ => true
  | .nzcPrepareDone ecc _ => okOpt 16 ecc
  | .nzcOpSwapLine _ _ => true
  | .nzcOpSwapCurtain _ _ => true
  | .nzcSwapped _ => true
  | .nzcPatchEntry _ v _ => okWidth 64 v
  | .nzcMapRestored _ => true
  | .laneDetect _ _ => true
  | .laneAlign _ board window _ => okWidth 32 board && okWidth 8 window
  | .stgLaneUp _ latency _ => okWidth 16 latency
  | .laneTrainTimeout _ _ => true
  | .laneAutoRetrain _ _ => true
  | .stgLaneDown _ _ last _ => okWidth 64 last
  | .stgLaneOpRetrain _ _ _ => true
  | .stgLaneOpTakeDown _ _ _ => true
  | .stgLaneOpReturn _ _ _ => true
  | .frameSend _ _ => true
  | .fireBlockSlot _ _ _ => true
  | .stgCreditStall _ _ => true
  | .fencePeriod _ => true
  | .creditBlock _ total _ => okWidth 32 total
  | .fenceUpFrame _ _ _ key missed _ => okWidth 40 key && okWidth 32 missed
  | .errorFrame _ _ key _ => okWidth 40 key
  | .verdictFrame _ _ id blocks verdict grade station _ => okWidth 64 id && okWidth 16 blocks && okWidth 8 verdict && okWidth 8 grade && okWidth 8 station
  | .stgRxCrc _ _ _ => true
  | .verdictWindowClose _ id _ => okWidth 64 id
  | .rejectDecisionTimer _ id _ => okWidth 64 id
  | .gatePulseStart _ _ => true
  | .gatePulseEnd _ _ => true
  | .insCfgWrite _ _ _ v _ => okWidth 64 v
  | .heartbeatToggle _ => true
  | .cueBurstRecognised _ => true
  | .leadLost _ => true
  | .dpxCueFault _ => true
  | .dpxIsolated _ => true
  | .dpxHello seq ack payload _ => okWidth 32 seq && okWidth 32 ack && okPayload 512 payload
  | .dpxState seq ack payload _ => okWidth 32 seq && okWidth 32 ack && okPayload 512 payload
  | .dpxItem seq ack payload _ => okWidth 32 seq && okWidth 32 ack && okPayload 512 payload
  | .dpxCommitAck seq ack payload _ => okWidth 32 seq && okWidth 32 ack && okPayload 512 payload
  | .dpxAccession seq ack payload _ => okWidth 32 seq && okWidth 32 ack && okPayload 512 payload
  | .dpxLease seq ack payload _ => okWidth 32 seq && okWidth 32 ack && okPayload 512 payload
  | .dpxConfig seq ack payload _ => okWidth 32 seq && okWidth 32 ack && okPayload 512 payload
  | .dpxFlush seq ack payload _ => okWidth 32 seq && okWidth 32 ack && okPayload 512 payload
  | .dpxHead seq ack payload _ => okWidth 32 seq && okWidth 32 ack && okPayload 512 payload
  | .dpxBind seq ack payload _ => okWidth 32 seq && okWidth 32 ack && okPayload 512 payload
  | .dpxMark seq ack payload _ => okWidth 32 seq && okWidth 32 ack && okPayload 512 payload
  | .dpxPos seq ack payload _ => okWidth 32 seq && okWidth 32 ack && okPayload 512 payload
  | .dpxCo seq ack payload _ => okWidth 32 seq && okWidth 32 ack && okPayload 512 payload
  | .dpxCoAck seq ack payload _ => okWidth 32 seq && okWidth 32 ack && okPayload 512 payload
  | .dpxNak seq ack payload _ => okWidth 32 seq && okWidth 32 ack && okPayload 512 payload
  | .dpxSubmitFwd seq ack payload _ => okWidth 32 seq && okWidth 32 ack && okPayload 512 payload
  | .dpxOutcomeFwd seq ack payload _ => okWidth 32 seq && okWidth 32 ack && okPayload 512 payload
  | .dpxSyncData seq ack part _ => okWidth 32 seq && okWidth 32 ack && okSync part
  | .dpxResendTimer _ => true
  | .dpxIdleStateSend _ => true
  | .dpxPosSend _ _ => true
  | .dpxAckTimeout _ _ => true
  | .dpxCoHandOver _ _ => true
  | .dpxCoTake _ _ => true
  | .takeRequestTimeout _ => true
  | .switchAt _ => true
  | .ledgerEntryWritten fails _ _ => okWidth 16 fails
  | .ledgerEraseDone _ => true
  | .ldgReseal _ _ => true
  | .beacon _ src dest seq hops payload _ => okWidth 16 src && okWidth 16 dest && okWidth 32 seq && okWidth 16 hops && okPayload 512 payload
  | .castFrame _ src dest seq hops payload _ => okWidth 16 src && okWidth 16 dest && okWidth 32 seq && okWidth 16 hops && okPayload 512 payload
  | .catalogue _ src dest seq hops payload _ => okWidth 16 src && okWidth 16 dest && okWidth 32 seq && okWidth 16 hops && okPayload 512 payload
  | .timeFrame _ src dest seq hops payload residence _ => okWidth 16 src && okWidth 16 dest && okWidth 32 seq && okWidth 16 hops && okPayload 512 payload && okWidth 64 residence
  | .pdelayReq _ t1 _ => okWidth 64 t1
  | .pdelayResp _ t1 t2 t3 _ => okWidth 64 t1 && okWidth 64 t2 && okWidth 64 t3
  | .leaseReq _ src dest seq hops payload _ => okWidth 16 src && okWidth 16 dest && okWidth 32 seq && okWidth 16 hops && okPayload 512 payload
  | .propose _ src dest seq hops payload _ => okWidth 16 src && okWidth 16 dest && okWidth 32 seq && okWidth 16 hops && okPayload 512 payload
  | .accept _ src dest seq hops payload _ => okWidth 16 src && okWidth 16 dest && okWidth 32 seq && okWidth 16 hops && okPayload 512 payload
  | .grant _ src dest seq hops payload _ => okWidth 16 src && okWidth 16 dest && okWidth 32 seq && okWidth 16 hops && okPayload 512 payload
  | .refuse _ src dest seq hops payload _ => okWidth 16 src && okWidth 16 dest && okWidth 32 seq && okWidth 16 hops && okPayload 512 payload
  | .ringRecall _ src dest seq hops payload _ => okWidth 16 src && okWidth 16 dest && okWidth 32 seq && okWidth 16 hops && okPayload 512 payload
  | .recallReply _ src dest seq hops payload _ => okWidth 16 src && okWidth 16 dest && okWidth 32 seq && okWidth 16 hops && okPayload 512 payload
  | .beaconSend _ => true
  | .castSend _ => true
  | .catalogueSend _ => true
  | .timeSend _ => true
  | .pdelaySend _ _ => true
  | .keeperLost _ => true
  | .cmpQuorumLost _ => true
  | .leaseProposalTimeout _ => true
  | .leaseRequestTimeout _ _ => true
  | .cmpHoldover _ => true
  | .cmpHoldLimit _ => true
  | .cmpTimeOpSet _ _ => true
  | .cmpTimeOpStep _ _ => true
  | .izxPortRetrain _ _ _ => true
  | .izxPortAutoRetrain _ _ => true
  | .izxPortOpRetrain _ _ _ => true
  | .izxPortOpTakeDown _ _ _ => true
  | .izxBoxOpClose _ _ _ => true
  | .izxRxCrc _ _ _ blocks _ => okWidth 16 blocks
  | .openBox _ _ host start _ _ => okWidth 64 host && okWidth 32 start
  | .closeBox _ _ _ => true
  | .nop _ _ _ => true
  | .boxHoldExpiry _ _ => true
  | .regRead _ _ seq payload _ => okWidth 32 seq && okPayload 4160 payload
  | .regWrite _ _ seq payload _ => okWidth 32 seq && okPayload 4160 payload
  | .dramWrite _ _ seq payload _ => okWidth 32 seq && okPayload 4160 payload
  | .dramWriteDone _ seq _ => okWidth 32 seq
  | .dramRead _ _ seq payload _ => okWidth 32 seq && okPayload 4160 payload
  | .itemQuery _ _ seq payload _ => okWidth 32 seq && okPayload 4160 payload
  | .trackQuery _ _ seq payload _ => okWidth 32 seq && okPayload 4160 payload
  | .sceneDataBegin _ _ seq payload _ => okWidth 32 seq && okPayload 4159 payload
  | .sceneDataChunk _ _ seq payload _ => okWidth 32 seq && okPayload 4159 payload
  | .sceneDataEnd _ _ seq payload _ => okWidth 32 seq && okPayload 4159 payload
  | .promptDataBegin _ _ seq payload _ => okWidth 32 seq && okPayload 4159 payload
  | .promptDataChunk _ _ seq payload _ => okWidth 32 seq && okPayload 4159 payload
  | .promptDataEnd _ _ seq payload _ => okWidth 32 seq && okPayload 4159 payload
  | .subscribe _ _ seq payload _ => okWidth 32 seq && okPayload 4160 payload
  | .seriesQuery _ _ seq payload _ => okWidth 32 seq && okPayload 4160 payload
  | .cpMasterRegisterAccess addr _ data _ => okWidth 38 addr && okOpt 64 data
  | .cpMasterDramAccess addr _ data _ => okWidth 38 addr && okOpt 64 data
  | .slaveWindowAccess a _ => okAccess a
  | .prbSlaveTimeout _ => true
  | .prbUser _ _ => true
  | .prbSelWrite _ _ v _ => okWidth 64 v
  | .cfgPlaneSelWrite _ _ _ => true
  | .cfgSelectWritten _ => true
  | .cfgStageLoad _ _ => true
  | .cfgStageErase _ _ => true
  | .cfgStageAbort _ _ => true
  | .stageEraseDone pulses _ => okWidth 16 pulses
  | .stageChecksDone repaired bad drivers _ _ => okWidth 32 repaired && okOpt 16 bad && okContend drivers
  | .cfgSceneArm _ tracks _ _ _ => okWidth 16 tracks
  | .cfgSceneDisarm _ _ => true
  | .cfgSceneFireNow _ _ _ => true
  | .sceneFire _ => true
  | .cfgArmTimeout _ => true
  | .cfgSceneChanged trees _ => okTrees trees
  | .sceneSelectRecord _ => true
  | .flcRead _ _ => true
  | .flcProgram _ _ => true
  | .flcErase _ _ => true
  | .flcQuery _ _ => true
  | .flcOpDone _ pulses _ _ => okWidth 16 pulses
  | .tempSensorRead _ _ _ _ _ => true
  | .refreshInterval _ _ => true
  | .dmcRefreshRecover _ _ => true
  | .dmcFreqChange _ _ _ _ => true
  | .freqChangeStart _ => true
  | .dmcFreqDone fail _ => okFail fail
  | .freqChangeTimeout _ => true
  | .dmcEccCorrected _ _ => true
  | .dmcUncorrectable _ fault _ => okFault fault
  | .dmcCaParity _ fault _ => okFault fault
  | .dmcSrAbandoned _ _ => true
  | .dmcPllRelockTimeout _ _ => true
  | .clkRefLost _ => true
  | .clkRefRestored _ => true
  | .clkLocked _ _ _ _ => true
  | .clkLockLost _ _ => true
  | .clkBandStale _ _ => true
  | .clkPllRelock _ _ _ => true
  | .clkPllFullSearch _ _ _ => true
  | .clkPllClearBand _ _ _ => true
  | .clkDomRestore _ _ _ => true
  | .clkDomWrite _ _ v _ => okWidth 64 v
  | .entryCurtainReached _ => true
  | .entryCheckpointsDone _ => true
  | .entryRetentionWritten _ => true
  | .entrySelfRefresh _ => true
  | .pwrEntered _ => true
  | .entryTimeout _ => true
  | .wakeAccess a _ => okAccess a
  | .wakeTimer _ => true
  | .wakePin _ => true
  | .wakeMonitor _ => true
  | .wakeTrackCue _ _ => true
  | .wakeFabric _ _ _ => true
  | .pwrOpWake _ _ => true
  | .pwrOpRetry _ _ => true
  | .wakeDomainReady _ _ => true
  | .wakeReadyTimeout _ _ _ _ => true
  | .pwrStallLong _ => true
  | .pwrRetRelease _ _ _ => true
  | .gpioPinWrite _ _ v _ => okWidth 64 v
  | .pinHandOver _ _ => true
  | .gpioMwrWrite _ _ v _ => okWidth 64 v
  | .gpioMoeWrite _ _ v _ => okWidth 64 v
  | .gpioPattern _ levels changed _ => okWidth 32 levels && okWidth 32 changed
  | .gpioBankFault _ _ _ => true
  | .uartRxByte _ _ _ _ _ => true
  | .uartDataWrite _ _ v _ => okWidth 64 v
  | .uartDataRead _ _ _ => true
  | .uartTxDone _ _ => true
  | .spiDataWrite _ _ v _ => okWidth 64 v
  | .spiDataRead _ _ _ => true
  | .spiFrameDone _ _ _ => true
  | .perSpiDone _ _ => true
  | .i2cStart _ _ _ => true
  | .i2cWrite _ _ _ _ => true
  | .i2cReadAck _ _ _ => true
  | .i2cReadNack _ _ _ => true
  | .i2cStop _ _ _ => true
  | .i2cRxdataRead _ _ _ => true
  | .i2cCommandDone _ _ _ _ => true
  | .i2cStretchTimeout _ _ => true
  | .perTimer _ _ => true
  | .perTimerCap _ _ => true
  | .timerCaptureRead _ _ _ => true
  | .lcyToFactoryTest _ _ _ => true
  | .lcyToProvisioned _ _ _ => true
  | .lcyToField _ _ _ => true
  | .lcyToFieldTest _ _ _ => true
  | .lcyToAnalysis _ _ _ => true
  | .lcyToScrap _ _ _ => true
  | .lcyTransitionDone _ => true
  | .lcyChallenge _ _ => true
  | .lcyVerify _ _ => true
  | .lcyVerifyDone _ => true
  | .nonceExpiry _ => true
  | .keyAesScene _ _ _ => true
  | .keyAesPrompt _ _ _ => true
  | .keyScenePubX _ _ => true
  | .keyScenePubY _ _ => true
  | .keyPromptPubX _ _ => true
  | .keyPromptPubY _ _ => true
  | .prompterLine chars _ => okList 7 chars
  | .prompterId _ => true
  | .prompterStatus _ => true
  | .prompterRead addr count _ => okWidth 40 addr && okWidth 16 count
  | .prompterRead64 addr _ => okWidth 40 addr
  | .prompterWrite addr value _ => okWidth 40 addr && okWidth 64 value
  | .prompterWrite64 addr value _ => okWidth 40 addr && okWidth 64 value
  | .prompterMode _ _ => true
  | .prompterReset _ _ => true
  | .prompterLog count _ => okWidth 16 count
  | .prompterSelect _ _ => true
  | .prompterLcy _ _ => true
  | .prompterChallenge _ => true
  | .prompterRespond sig _ => decide (sig.length = 64)
  | .slaveWindowAck data _ _ => okWidth 64 data
  | .fabRstinNChange _ _ _ => true
  | .idleRefresh _ _ => true
  | .heldLineFire _ _ => true
  | .lcyKeyWritten _ => true
  | .promptSlotEraseDone _ => true
  | .nzcCopyDone _ => true
  | .uartCtsNChange _ _ _ => true
  | .uartBreak _ _ => true
  | .helloSend _ => true

/-- The instant at which a command takes effect. -/
def Instr.time (i : Instr) : Nat :=
  match i with
  | .registerWrite _ t => t
  | .sysDecodeFault _ t => t
  | .evtPinPulseEnd _ t => t
  | .powerOn _ _ _ t => t
  | .brownOut _ t => t
  | .pinReset t => t
  | .stageManagerWatchdog t => t
  | .supplyEarlyWarning _ t => t
  | .earlyWarningClear t => t
  | .phaseTrim _ _ _ _ t => t
  | .phaseLife t => t
  | .phaseSelect t => t
  | .phaseClocks t => t
  | .clkLockFail _ t => t
  | .phasePlane _ _ _ t => t
  | .phaseDram _ _ t => t
  | .phasePrompt _ t => t
  | .phaseJoin _ t => t
  | .cmpJoinLate t => t
  | .duplexRoleTimeout t => t
  | .phaseArm t => t
  | .callContinue _ _ t => t
  | .retryPrompt _ _ t => t
  | .modeReqRehearsal _ t => t
  | .modeReqPerformance _ t => t
  | .modeReqUnderstudy _ t => t
  | .modeReqInterval _ t => t
  | .modeReqService _ t => t
  | .resetReqPrintPath _ t => t
  | .resetReqWarm _ t => t
  | .resetReqCold _ t => t
  | .printPathReset _ t => t
  | .warmReset t => t
  | .coldReset t => t
  | .curtainWindow _ t => t
  | .trkConfigWrite _ _ _ _ t => t
  | .trkSchedWrite _ _ _ t => t
  | .positionLowHalfRead _ _ _ t => t
  | .encoderEdge _ _ t => t
  | .illegalQuadTransition _ t => t
  | .zEdge _ t => t
  | .synthTimeout _ t => t
  | .trkCoastEnd _ t => t
  | .cueTransition _ _ _ t => t
  | .cueEventRecognised _ _ t => t
  | .lineAnnounce _ t => t
  | .fireInstant _ t => t
  | .itemSubmit _ _ _ _ t => t
  | .itemBatch _ _ _ _ t => t
  | .itemPortRecord _ _ t => t
  | .frgVdSerialWait _ t => t
  | .queueRecordWritten _ t => t
  | .retryHoldExpiry _ t => t
  | .preComposeDone _ _ t => t
  | .flushAfterHead _ _ t => t
  | .flushIncludingHead _ _ t => t
  | .retryHoldRelease _ _ t => t
  | .forgeLineStart _ t => t
  | .lineComposed _ _ _ _ _ _ t => t
  | .lineHanded _ t => t
  | .forgeParityError _ t => t
  | .frgCacheParity t => t
  | .lineDeadline _ _ t => t
  | .frgDlPop _ t => t
  | .layoutInstall _ _ _ t => t
  | .layoutReplace _ _ _ t => t
  | .layoutRemove _ _ _ t => t
  | .layoutOpComplete t => t
  | .frgBudgetWrite _ _ t => t
  | .frgCtrlWrite _ _ t => t
  | .frgCacheCfgWrite _ _ t => t
  | .frgTapCtrlWrite _ _ _ t => t
  | .layoutRebuildDone t => t
  | .vdOpToWord _ _ t => t
  | .vdOpToBin _ _ t => t
  | .vdOpAdd _ _ t => t
  | .vdOpCompare _ _ t => t
  | .vdOpDone t => t
  | .frgVdCntWrite _ _ _ _ t => t
  | .nzcOpCopy _ t => t
  | .nzcOpLoad _ t => t
  | .nzcLoadDone t => t
  | .nzcOpPrepare _ t => t
  | .nzcPrepareDone _ t => t
  | .nzcOpSwapLine _ t => t
  | .nzcOpSwapCurtain _ t => t
  | .nzcSwapped t => t
  | .nzcPatchEntry _ _ t => t
  | .nzcMapRestored t => t
  | .laneDetect _ t => t
  | .laneAlign _ _ _ t => t
  | .stgLaneUp _ _ t => t
  | .laneTrainTimeout _ t => t
  | .laneAutoRetrain _ t => t
  | .stgLaneDown _ _ _ t => t
  | .stgLaneOpRetrain _ _ t => t
  | .stgLaneOpTakeDown _ _ t => t
  | .stgLaneOpReturn _ _ t => t
  | .frameSend _ t => t
  | .fireBlockSlot _ _ t => t
  | .stgCreditStall _ t => t
  | .fencePeriod t => t
  | .creditBlock _ _ t => t
  | .fenceUpFrame _ _ _ _ _ t => t
  | .errorFrame _ _ _ t => t
  | .verdictFrame _ _ _ _ _ _ _ t => t
  | .stgRxCrc _ _ t => t
  | .verdictWindowClose _ _ t => t
  | .rejectDecisionTimer _ _ t => t
  | .gatePulseStart _ t => t
  | .gatePulseEnd _ t => t
  | .insCfgWrite _ _ _ _ t => t
  | .heartbeatToggle t => t
  | .cueBurstRecognised t => t
  | .leadLost t => t
  | .dpxCueFault t => t
  | .dpxIsolated t => t
  | .dpxHello _ _ _ t => t
  | .dpxState _ _ _ t => t
  | .dpxItem _ _ _ t => t
  | .dpxCommitAck _ _ _ t => t
  | .dpxAccession _ _ _ t => t
  | .dpxLease _ _ _ t => t
  | .dpxConfig _ _ _ t => t
  | .dpxFlush _ _ _ t => t
  | .dpxHead _ _ _ t => t
  | .dpxBind _ _ _ t => t
  | .dpxMark _ _ _ t => t
  | .dpxPos _ _ _ t => t
  | .dpxCo _ _ _ t => t
  | .dpxCoAck _ _ _ t => t
  | .dpxNak _ _ _ t => t
  | .dpxSubmitFwd _ _ _ t => t
  | .dpxOutcomeFwd _ _ _ t => t
  | .dpxSyncData _ _ _ t => t
  | .dpxResendTimer t => t
  | .dpxIdleStateSend t => t
  | .dpxPosSend _ t => t
  | .dpxAckTimeout _ t => t
  | .dpxCoHandOver _ t => t
  | .dpxCoTake _ t => t
  | .takeRequestTimeout t => t
  | .switchAt t => t
  | .ledgerEntryWritten _ _ t => t
  | .ledgerEraseDone t => t
  | .ldgReseal _ t => t
  | .beacon _ _ _ _ _ _ t => t
  | .castFrame _ _ _ _ _ _ t => t
  | .catalogue _ _ _ _ _ _ t => t
  | .timeFrame _ _ _ _ _ _ _ t => t
  | .pdelayReq _ _ t => t
  | .pdelayResp _ _ _ _ t => t
  | .leaseReq _ _ _ _ _ _ t => t
  | .propose _ _ _ _ _ _ t => t
  | .accept _ _ _ _ _ _ t => t
  | .grant _ _ _ _ _ _ t => t
  | .refuse _ _ _ _ _ _ t => t
  | .ringRecall _ _ _ _ _ _ t => t
  | .recallReply _ _ _ _ _ _ t => t
  | .beaconSend t => t
  | .castSend t => t
  | .catalogueSend t => t
  | .timeSend t => t
  | .pdelaySend _ t => t
  | .keeperLost t => t
  | .cmpQuorumLost t => t
  | .leaseProposalTimeout t => t
  | .leaseRequestTimeout _ t => t
  | .cmpHoldover t => t
  | .cmpHoldLimit t => t
  | .cmpTimeOpSet _ t => t
  | .cmpTimeOpStep _ t => t
  | .izxPortRetrain _ _ t => t
  | .izxPortAutoRetrain _ t => t
  | .izxPortOpRetrain _ _ t => t
  | .izxPortOpTakeDown _ _ t => t
  | .izxBoxOpClose _ _ t => t
  | .izxRxCrc _ _ _ _ t => t
  | .openBox _ _ _ _ _ t => t
  | .closeBox _ _ t => t
  | .nop _ _ t => t
  | .boxHoldExpiry _ t => t
  | .regRead _ _ _ _ t => t
  | .regWrite _ _ _ _ t => t
  | .dramWrite _ _ _ _ t => t
  | .dramWriteDone _ _ t => t
  | .dramRead _ _ _ _ t => t
  | .itemQuery _ _ _ _ t => t
  | .trackQuery _ _ _ _ t => t
  | .sceneDataBegin _ _ _ _ t => t
  | .sceneDataChunk _ _ _ _ t => t
  | .sceneDataEnd _ _ _ _ t => t
  | .promptDataBegin _ _ _ _ t => t
  | .promptDataChunk _ _ _ _ t => t
  | .promptDataEnd _ _ _ _ t => t
  | .subscribe _ _ _ _ t => t
  | .seriesQuery _ _ _ _ t => t
  | .cpMasterRegisterAccess _ _ _ t => t
  | .cpMasterDramAccess _ _ _ t => t
  | .slaveWindowAccess _ t => t
  | .prbSlaveTimeout t => t
  | .prbUser _ t => t
  | .prbSelWrite _ _ _ t => t
  | .cfgPlaneSelWrite _ _ t => t
  | .cfgSelectWritten t => t
  | .cfgStageLoad _ t => t
  | .cfgStageErase _ t => t
  | .cfgStageAbort _ t => t
  | .stageEraseDone _ t => t
  | .stageChecksDone _ _ _ _ t => t
  | .cfgSceneArm _ _ _ _ t => t
  | .cfgSceneDisarm _ t => t
  | .cfgSceneFireNow _ _ t => t
  | .sceneFire t => t
  | .cfgArmTimeout t => t
  | .cfgSceneChanged _ t => t
  | .sceneSelectRecord t => t
  | .flcRead _ t => t
  | .flcProgram _ t => t
  | .flcErase _ t => t
  | .flcQuery _ t => t
  | .flcOpDone _ _ _ t => t
  | .tempSensorRead _ _ _ _ t => t
  | .refreshInterval _ t => t
  | .dmcRefreshRecover _ t => t
  | .dmcFreqChange _ _ _ t => t
  | .freqChangeStart t => t
  | .dmcFreqDone _ t => t
  | .freqChangeTimeout t => t
  | .dmcEccCorrected _ t => t
  | .dmcUncorrectable _ _ t => t
  | .dmcCaParity _ _ t => t
  | .dmcSrAbandoned _ t => t
  | .dmcPllRelockTimeout _ t => t
  | .clkRefLost t => t
  | .clkRefRestored t => t
  | .clkLocked _ _ _ t => t
  | .clkLockLost _ t => t
  | .clkBandStale _ t => t
  | .clkPllRelock _ _ t => t
  | .clkPllFullSearch _ _ t => t
  | .clkPllClearBand _ _ t => t
  | .clkDomRestore _ _ t => t
  | .clkDomWrite _ _ _ t => t
  | .entryCurtainReached t => t
  | .entryCheckpointsDone t => t
  | .entryRetentionWritten t => t
  | .entrySelfRefresh t => t
  | .pwrEntered t => t
  | .entryTimeout t => t
  | .wakeAccess _ t => t
  | .wakeTimer t => t
  | .wakePin t => t
  | .wakeMonitor t => t
  | .wakeTrackCue _ t => t
  | .wakeFabric _ _ t => t
  | .pwrOpWake _ t => t
  | .pwrOpRetry _ t => t
  | .wakeDomainReady _ t => t
  | .wakeReadyTimeout _ _ _ t => t
  | .pwrStallLong t => t
  | .pwrRetRelease _ _ t => t
  | .gpioPinWrite _ _ _ t => t
  | .pinHandOver _ t => t
  | .gpioMwrWrite _ _ _ t => t
  | .gpioMoeWrite _ _ _ t => t
  | .gpioPattern _ _ _ t => t
  | .gpioBankFault _ _ t => t
  | .uartRxByte _ _ _ _ t => t
  | .uartDataWrite _ _ _ t => t
  | .uartDataRead _ _ t => t
  | .uartTxDone _ t => t
  | .spiDataWrite _ _ _ t => t
  | .spiDataRead _ _ t => t
  | .spiFrameDone _ _ t => t
  | .perSpiDone _ t => t
  | .i2cStart _ _ t => t
  | .i2cWrite _ _ _ t => t
  | .i2cReadAck _ _ t => t
  | .i2cReadNack _ _ t => t
  | .i2cStop _ _ t => t
  | .i2cRxdataRead _ _ t => t
  | .i2cCommandDone _ _ _ t => t
  | .i2cStretchTimeout _ t => t
  | .perTimer _ t => t
  | .perTimerCap _ t => t
  | .timerCaptureRead _ _ t => t
  | .lcyToFactoryTest _ _ t => t
  | .lcyToProvisioned _ _ t => t
  | .lcyToField _ _ t => t
  | .lcyToFieldTest _ _ t => t
  | .lcyToAnalysis _ _ t => t
  | .lcyToScrap _ _ t => t
  | .lcyTransitionDone t => t
  | .lcyChallenge _ t => t
  | .lcyVerify _ t => t
  | .lcyVerifyDone t => t
  | .nonceExpiry t => t
  | .keyAesScene _ _ t => t
  | .keyAesPrompt _ _ t => t
  | .keyScenePubX _ t => t
  | .keyScenePubY _ t => t
  | .keyPromptPubX _ t => t
  | .keyPromptPubY _ t => t
  | .prompterLine _ t => t
  | .prompterId t => t
  | .prompterStatus t => t
  | .prompterRead _ _ t => t
  | .prompterRead64 _ t => t
  | .prompterWrite _ _ t => t
  | .prompterWrite64 _ _ t => t
  | .prompterMode _ t => t
  | .prompterReset _ t => t
  | .prompterLog _ t => t
  | .prompterSelect _ t => t
  | .prompterLcy _ t => t
  | .prompterChallenge t => t
  | .prompterRespond _ t => t
  | .slaveWindowAck _ _ t => t
  | .fabRstinNChange _ _ t => t
  | .idleRefresh _ t => t
  | .heldLineFire _ t => t
  | .lcyKeyWritten t => t
  | .promptSlotEraseDone t => t
  | .nzcCopyDone t => t
  | .uartCtsNChange _ _ t => t
  | .uartBreak _ t => t
  | .helloSend t => t

end Sys2Proof
end

