-- ==== Sys2Proof/Decode.lean ====
section
/-! DEFINITION. The table gives no row any bits: the commands are accesses, frames and occurrences, not words, and no word
spells one. -/

namespace Sys2Proof

/-- The command that a word of the opcode table spells: none, for every word. -/
def decodeTableWord (_nbits _w : Nat) : Option Instr := none

end Sys2Proof
end

