-- ==== Sys2Proof/Machine/Tbl.lean ====
section
/-! DEFINITION. Sparse tables: a list of (key, value) pairs with strictly rising keys in which no value equals what an
unlisted key reads as. Memories, the register file and every block's numbered instances are such tables. -/

namespace Sys2Proof.Machine

/-- A sparse table from numbers to values. -/
abbrev Tbl (α : Type) := List (Nat × α)

/-- The value at key `k`; an unlisted key reads as `d`. -/
def tblGet {α : Type} (d : α) : Tbl α → Nat → α
  | [], _ => d
  | (j, v) :: m, k => if k = j then v else tblGet d m k

/-- The table with the entry of key `k` removed. -/
def tblDel {α : Type} : Tbl α → Nat → Tbl α
  | [], _ => []
  | (j, v) :: m, k => if k = j then tblDel m k else (j, v) :: tblDel m k

/-- The table with value `v` at key `k`, kept in rising order. -/
def tblIns {α : Type} : Tbl α → Nat → α → Tbl α
  | [], k, v => [(k, v)]
  | (j, w) :: m, k, v =>
    if k < j then (k, v) :: (j, w) :: m
    else if k = j then tblIns m k v
    else (j, w) :: tblIns m k v

/-- The table with value `v` at key `k` in canonical form: the value an unlisted key reads as is not listed. -/
def tblPut {α : Type} [DecidableEq α] (d : α) (m : Tbl α) (k : Nat) (v : α) : Tbl α :=
  if v = d then tblDel m k else tblIns m k v

/-- Keys rise strictly, each above `lo` where one is given, and no value is the unlisted one. -/
def tblOk {α : Type} [DecidableEq α] (d : α) : Option Nat → Tbl α → Bool
  | _, [] => true
  | lo, (k, v) :: m =>
    (match lo with | none => true | some l => decide (l < k)) && decide (v ≠ d) && tblOk d (some k) m

/-- A memory: bytes at addresses. -/
abbrev Memory := Tbl Byte

/-- What a byte that nothing has written reads as, per array: DRAM 0 (the log's design choice), a flash array 0xFF
(erased). -/
inductive MemKind where
  | dram
  | flash
  deriving DecidableEq, Repr

/-- The byte an unlisted address reads as. -/
def MemKind.blank : MemKind → Byte
  | .dram => 0
  | .flash => 0xFF

/-- The canonical form of a memory of the given kind. -/
def Memory.wf (k : MemKind) (m : Memory) : Bool := tblOk k.blank none m

/-- One byte of a memory. -/
def memGet (k : MemKind) (m : Memory) (a : Nat) : Byte := tblGet k.blank m a

/-- A memory with one byte stored. -/
def memPut (k : MemKind) (m : Memory) (a : Nat) (b : Byte) : Memory := tblPut k.blank m a b

/-- `n` bytes from address `a`, lowest address first. -/
def memBytes (k : MemKind) (m : Memory) (a : Nat) : Nat → List Byte
  | 0 => []
  | n + 1 => memGet k m a :: memBytes k m (a + 1) n

/-- A memory with a run of bytes stored from address `a` upward. -/
def memWrite (k : MemKind) (m : Memory) (a : Nat) : List Byte → Memory
  | [] => m
  | b :: bs => memWrite k (memPut k m a b) (a + 1) bs

/-- A memory with the addresses in `[lo, hi)` returned to their blank value. -/
def memErase (m : Memory) (lo hi : Nat) : Memory := m.filter (fun c => c.1 < lo ∨ hi ≤ c.1)

/-- A little-endian number from bytes (R144). -/
def leNat : List Byte → Nat
  | [] => 0
  | b :: bs => b.toNat + 256 * leNat bs

/-- The `n` little-endian bytes of a number. -/
def leBytes : Nat → Nat → List Byte
  | 0, _ => []
  | n + 1, v => BitVec.ofNat 8 v :: leBytes n (v / 256)

/-- A little-endian number of `n` bytes at offset `o` of a byte list; bytes past the end count 0. -/
def leAt (l : List Byte) (o n : Nat) : Nat := leNat ((l.drop o).take n)

/-- One CRC-32C step over one bit (reflected polynomial 0x82F63B78). -/
def crcBit (c : Nat) : Nat := if c % 2 = 1 then (c / 2) ^^^ 0x82F63B78 else c / 2

/-- CRC-32C over one byte. -/
def crcByte (c : Nat) (b : Byte) : Nat :=
  crcBit (crcBit (crcBit (crcBit (crcBit (crcBit (crcBit (crcBit (c ^^^ b.toNat))))))))

/-- CRC-32C of a byte string: initial value and final inversion all ones, as the name CRC-32C fixes them. -/
def crc32c (l : List Byte) : Nat := (l.foldl crcByte 0xFFFFFFFF) ^^^ 0xFFFFFFFF

end Sys2Proof.Machine
end

