-- ==== Sys2Proof/Machine/TypesFab.lean ====
section
/-! DEFINITION. Plain data of the logic fabric: the design that a scene's configuration bits spell (R538 to R550), and what its
flip-flops, block RAMs and arithmetic blocks hold. The spec lays out neither the configuration bits nor the columns: log entries
101 and 102. -/

namespace Sys2Proof.Machine

/-- What can feed an input of the fabric or drive a wire: a constant, a wire (R540), an output of a logic cell (R538), of a block
RAM (R544 to R546) or of an arithmetic block (R547, R548), an event line (R560), or any other signal from outside the fabric. -/
inductive Sig where
  | low
  | high
  /-- the wire that starts in tile X, Y, by its class and index -/
  | wire (x y cls index : Nat)
  /-- the LUT of LC_l in tile X, Y; `second` for the second of two 5-input functions -/
  | lut (x y l : Nat) (second : Bool)
  /-- the sum and the carry out of its carry stage -/
  | sum (x y l : Nat)
  | carry (x y l : Nat)
  /-- flip-flop 0 or 1 of it -/
  | ff (x y l k : Nat)
  /-- bit `n` that port A or B of block RAM `i` reads, and its flags: 0 SBITERR, 1 DBITERR, 2 COLLIDE -/
  | ram (i : Nat) (b : Bool) (n : Nat)
  | ramFlag (i : Nat) (b : Bool) (k : Nat)
  /-- bit `n` of P of arithmetic block `i`, and its OVF -/
  | prod (i n : Nat)
  | ovf (i : Nat)
  | evt (line : Nat)
  | outside (k : Nat)
  deriving DecidableEq, Repr, Inhabited

/-- One flip-flop in use: data, clock tree, clock enable, synchronous set or reset, asynchronous reset tree, initial value. -/
structure FfCfg where
  d : Sig
  clk : Nat
  ce : Sig
  sr : Sig
  srSet : Bool
  arst : Option Nat
  init : Bool
  deriving DecidableEq, Repr, Inhabited

/-- A LUT: one function of 6 inputs, or two functions of the same 5. Bit `j` of a table is the value at inputs that spell `j`. -/
inductive LutCfg where
  | one (table : Nat) (ins : List Sig)
  | two (table0 table1 : Nat) (ins : List Sig)
  deriving DecidableEq, Repr, Inhabited

/-- A logic cell in use; `gen` is what its carry stage generates where it does not propagate. -/
structure CellCfg where
  lut : LutCfg
  gen : Option Sig
  ff0 : Option FfCfg
  ff1 : Option FfCfg
  deriving DecidableEq, Repr, Inhabited

/-- One port of a block RAM: clock, width, address, write enable, data, read-during-write mode (0 WRITE_FIRST, 1 READ_FIRST,
2 NO_CHANGE), output register, ECC. -/
structure RamPort where
  clk : Nat
  width : Nat
  addr : List Sig
  we : Sig
  din : List Sig
  mode : Nat
  outReg : Bool
  ecc : Bool
  deriving DecidableEq, Repr, Inhabited

/-- A block RAM in use: its ports, and which of its 36,864 bits are 1 at first. -/
structure RamCfg where
  a : RamPort
  b : RamPort
  init : List Nat
  deriving DecidableEq, Repr, Inhabited

/-- An arithmetic block in use: pre-adder (0 bypassed, 1 A + D, 2 A − D), op (0 load, 1 add, 2 subtract), SATURATE, the optional
pipeline registers, and C taken from the block below by cascade. -/
structure ArithCfg where
  clk : Nat
  a : List Sig
  d : List Sig
  b : List Sig
  c : List Sig
  pre : Nat
  op : Nat
  saturate : Bool
  inReg : Bool
  mulReg : Bool
  pReg : Bool
  cascade : Bool
  deriving DecidableEq, Repr, Inhabited

/-- A global reset tree: its sources beside PIN, and the clock tree of its synchroniser (R550). -/
structure GrstCfg where
  call : Bool
  path : Bool
  net : Option Sig
  clk : Nat
  deriving DecidableEq, Repr, Inhabited

/-- The design of a scene: cells by (X, Y, LC), the enabled drivers of wires by (X, Y, class, index), block RAMs and arithmetic
blocks by number, reset trees, user pins with value and enable, and the 64 probe points. -/
structure Design where
  cells : List ((Nat × Nat × Nat) × CellCfg) := []
  wires : List ((Nat × Nat × Nat × Nat) × List Sig) := []
  rams : List (Nat × RamCfg) := []
  ariths : List (Nat × ArithCfg) := []
  grst : List (Nat × GrstCfg) := []
  pins : List (Nat × Sig × Sig) := []
  probes : List Sig := []
  deriving DecidableEq, Repr, Inhabited

/-- What a port of a block RAM holds: the word read with its ECC flags, as bits 0 SBITERR and 1 DBITERR, the same in its output
register, and COLLIDE. -/
structure RamOut where
  word : Nat := 0
  flags : Nat := 0
  regWord : Nat := 0
  regFlags : Nat := 0
  collide : Bool := false
  deriving DecidableEq, Repr

/-- What an arithmetic block holds: its input, product and P registers, and OVF of the cycle. -/
structure ArithRun where
  a : Int := 0
  d : Int := 0
  b : Int := 0
  c : Int := 0
  m : Int := 0
  p : Int := 0
  ovf : Bool := false
  deriving DecidableEq, Repr

/-- The fabric: the design of the running scene, and all that it holds. -/
structure Fab where
  design : Design := {}
  /-- flip-flops that are 1, by `ffIx` -/
  ff : Tbl Bool := []
  /-- bits of block RAM `i` that are 1, from 36,864 × i on -/
  ram : Tbl Bool := []
  /-- port A of block RAM `i` at 2 × i, port B next to it -/
  ports : Tbl RamOut := []
  arith : Tbl ArithRun := []
  /-- flops of each reset tree's synchroniser that still assert it -/
  rst : Tbl Nat := []
  /-- quadrants whose flip-flops are held in reset after bank 7 failed (R672) -/
  held : Nat := 0
  /-- a print-path reset asserts its trees up to this instant (R550) -/
  pathTill : Ps := 0
  /-- what the design presents at user pin `p`: bit 0 its enable, bit 1 its value (R685) -/
  outs : Tbl Nat := []
  /-- levels of the 64 probe points -/
  points : Tbl Bool := []
  deriving DecidableEq, Repr

end Sys2Proof.Machine
end

