-- ==== Sys2Proof/Config.lean ====
section
/-! DEFINITION. What one implementation fixes and what the spec leaves open: constants without a body, so that no proof
can see a value. Each is named in the assumption log. -/

namespace Sys2Proof.Config

/-- A free value of at most `bound - 1` is `free ix % bound`; `ix` is the state's counter (log entry 2). -/
opaque free : Nat → Nat

/-- The silicon stepping of SYS_ID, a factory value (R741). -/
opaque stepping : Nat

/-- Which of the two speed grades the device is, a factory value (R1, R741). -/
opaque speedBit : Nat

/-- Which of the two temperature grades the device is, a factory value (R1, R741). -/
opaque tempBit : Nat

/-- The speed grade digit, 1 or 2 (R741). -/
def speedGrade : Nat := speedBit % 2 + 1

/-- The factory fields of SYS_ID: STEPPING, SPEED and TEMP as bits [11:0] (R741). -/
def sysIdLow : Nat := stepping % 16 * 256 + speedGrade * 16 + tempBit % 2

/-- DEVICE_ID (R741). -/
opaque deviceId : Nat

/-- AES-256-GCM decryption of a byte string under a key, nonce and additional authenticated data: the plain bytes, or none
when the tag fails. -/
opaque gcmOpen (key nonce aad data tag : List (BitVec 8)) : Option (List (BitVec 8))

/-- SHA-256 of a byte string. -/
opaque sha256 (data : List (BitVec 8)) : List (BitVec 8)

/-- ECDSA P-256 verification of a digest under a public key (x, y). -/
opaque ecdsaOk (x y digest r s : List (BitVec 8)) : Bool

/-- The authorisation public key of the identity area (R719). -/
opaque authKeyX : List (BitVec 8)
opaque authKeyY : List (BitVec 8)

/-- The TRACKS section of a prompt book, whose layout the spec does not give: whether a body is laid out, and the value that
it gives the register at an address. -/
opaque tracksLaid (body : List (BitVec 8)) : Bool
opaque tracksReg (body : List (BitVec 8)) (addr : Nat) : Nat

/-- The pattern of one Code 128 symbol character: module `j` of character value `v` (ISO/IEC 15417); value 106 is the stop. -/
opaque code128 (v j : Nat) : Bool

/-- Module `j` of the EAN-13 or UPC-A symbol of the digits given, check digit included (ISO/IEC 15420). -/
opaque eanBar (digits : List Nat) (j : Nat) : Bool

/-- How many data codewords a Data Matrix symbol of a SIZE code holds, and module `j` of the symbol of those codewords (ISO/IEC
16022). -/
opaque dmHolds (size : Nat) : Nat
opaque dmModule (size : Nat) (codewords : List Nat) (j : Nat) : Bool

/-- A QR symbol holds `n` characters in one segment of a mode: 0 numeric, 1 alphanumeric, 2 byte (ISO/IEC 18004). -/
opaque qrHolds (version level mode n : Nat) (gs1 : Bool) : Bool

/-- The penalty of a mask, and module `j` of the symbol under it (ISO/IEC 18004). -/
opaque qrPenalty (version level mask mode : Nat) (gs1 : Bool) (chars : List Nat) : Nat
opaque qrModule (version level mask mode : Nat) (gs1 : Bool) (chars : List Nat) (j : Nat) : Bool

/-- The characters of a field whose parts join to more than 1,024: the spec states no result. -/
opaque overlong (chars : List Nat) : List Nat

/-- The design that the configuration bits of a plane and its FABRIC_CFG section spell (log entry 101). -/
opaque design (cells : List (Nat × BitVec 8)) (fabricCfg : List (BitVec 8)) : Machine.Design

/-- The order in which the columns of each half of the grid take their kinds (log entry 102). -/
opaque columnKey (x : Nat) : Nat

/-- The SEC-DED check bits of a 64-bit word of block RAM (R545). -/
opaque eccCheck (w : Nat) : Nat

/-- The level of a signal that the model does not know at the `ix`-th fabric event: one from outside the fabric, one in a loop of
LUTs, or the outcome of two clock edges within 400 ps (R546). -/
opaque fabIn (ix : Nat) (g : Machine.Sig) : Bool

end Sys2Proof.Config
end

