-- ==== Sys2Proof/Machine/Events.lean ====
section
/-! DEFINITION. The cue board sources: source number s = 32 i + k of every event (R729, R730, R740; TRK by R143)
and how many instances each source has (R730, R742). -/

namespace Sys2Proof.Machine

def Ev.SYS_DECODE_FAULT : Nat := 0
def Ev.SYS_GUARD_FAULT : Nat := 1
def Ev.SYS_MODE_REFUSED : Nat := 2
def Ev.SYS_MODE_CHANGED : Nat := 3
def Ev.SYS_TRIM_FAULT : Nat := 4
def Ev.SYS_RESET_FAULT : Nat := 5
def Ev.LCY_LIMBO : Nat := 32
def Ev.LCY_TRANSITION_DONE : Nat := 33
def Ev.LCY_REFUSED : Nat := 34
def Ev.LCY_TOKEN_FAULT : Nat := 35
def Ev.LCY_WIPE_DONE : Nat := 36
def Ev.LCY_KEY_WRITTEN : Nat := 37
def Ev.LCY_KEY_FAULT : Nat := 38
def Ev.LCY_DEBUG_OPENED : Nat := 39
def Ev.LCY_AUTH_FAIL : Nat := 40
def Ev.PWR_ENTERED : Nat := 64
def Ev.PWR_ENTRY_ABORTED : Nat := 65
def Ev.PWR_WOKEN : Nat := 66
def Ev.PWR_WAKE_FAIL : Nat := 67
def Ev.PWR_RET_FAIL : Nat := 68
def Ev.PWR_STALL_LONG : Nat := 69
def Ev.PWR_ACCESS_FAIL : Nat := 70
def Ev.CLK_LOCKED : Nat := 96
def Ev.CLK_LOCK_LOST : Nat := 97
def Ev.CLK_LOCK_FAIL : Nat := 98
def Ev.CLK_BAND_STALE : Nat := 99
def Ev.CLK_DOM_HELD : Nat := 100
def Ev.CLK_DOM_STOPPED : Nat := 101
def Ev.CLK_DOM_SWITCHED : Nat := 102
def Ev.CLK_REF_LOST : Nat := 103
def Ev.CLK_REF_RESTORED : Nat := 104
def Ev.CLK_OP_REFUSED : Nat := 105
def Ev.FLC_OP_DONE : Nat := 160
def Ev.FLC_NOT_ERASED : Nat := 161
def Ev.FLC_ECC_CORRECTED : Nat := 162
def Ev.FLC_ECC_FAULT : Nat := 163
def Ev.FLC_INTERRUPTED : Nat := 164
def Ev.FLC_WEAR : Nat := 165
def Ev.FLC_ROW_REPAIRED : Nat := 166
def Ev.FLC_PLANE_DEGRADED : Nat := 167
def Ev.FLC_BAD_SECTOR : Nat := 168
def Ev.FLC_TABLE_FULL : Nat := 169
def Ev.FLC_TABLE_FAULT : Nat := 170
def Ev.CFG_NO_SCENE : Nat := 192
def Ev.CFG_SELECT_FAULT : Nat := 193
def Ev.CFG_REFUSED : Nat := 194
def Ev.CFG_PROMPT_BAD : Nat := 195
def Ev.CFG_PROMPT_FALLBACK : Nat := 196
def Ev.CFG_STAGED : Nat := 197
def Ev.CFG_STAGE_FAIL : Nat := 198
def Ev.CFG_SCENE_ARMED : Nat := 199
def Ev.CFG_ARM_ENDED : Nat := 200
def Ev.CFG_SCENE_CHANGED : Nat := 201
def Ev.CFG_SELECT_WRITTEN : Nat := 202
def Ev.CFG_TRIAL_REVERTED : Nat := 203
def Ev.CFG_WINGS_INTERRUPTED : Nat := 204
def Ev.GPIO_PATTERN : Nat := 224
def Ev.GPIO_MAP_FAULT : Nat := 225
def Ev.GPIO_BANK_FAULT : Nat := 226
def Ev.DMC_TRAIN_FAIL : Nat := 256
def Ev.DMC_ECC_CORRECTED : Nat := 257
def Ev.DMC_UNCORRECTABLE : Nat := 258
def Ev.DMC_CA_PARITY : Nat := 259
def Ev.DMC_HOT : Nat := 260
def Ev.DMC_COOL : Nat := 261
def Ev.DMC_TEMP_CRIT : Nat := 262
def Ev.DMC_TS_FAULT : Nat := 263
def Ev.DMC_REFRESH_RECOVER : Nat := 264
def Ev.DMC_SR_ABANDONED : Nat := 265
def Ev.DMC_FREQ_DONE : Nat := 266
def Ev.IZX_PORT_UP : Nat := 320
def Ev.IZX_PORT_DOWN : Nat := 321
def Ev.IZX_WIDTH_CHANGE : Nat := 322
def Ev.IZX_RX_CRC : Nat := 323
def Ev.IZX_BOX_OPENED : Nat := 324
def Ev.IZX_BOX_TAKEN : Nat := 325
def Ev.IZX_BOX_CLOSED : Nat := 326
def Ev.IZX_DENIED : Nat := 327
def Ev.IZX_OVERRUN : Nat := 328
def Ev.IZX_EVENT_LOST : Nat := 329
def Ev.CMP_JOINED : Nat := 352
def Ev.CMP_JOIN_LATE : Nat := 353
def Ev.CMP_JOIN_REFUSED : Nat := 354
def Ev.CMP_KEEPER_CHANGED : Nat := 355
def Ev.CMP_QUORUM_LOST : Nat := 356
def Ev.CMP_QUORUM_REGAINED : Nat := 357
def Ev.CMP_NOT_CAST : Nat := 358
def Ev.CMP_VERSION_DIFF : Nat := 359
def Ev.CMP_STATE_CONFLICT : Nat := 360
def Ev.CMP_HOLDOVER : Nat := 361
def Ev.CMP_HOLDOVER_END : Nat := 362
def Ev.CMP_HOLD_LIMIT : Nat := 363
def Ev.CMP_TIME_STEP : Nat := 364
def Ev.CMP_TIME_REFUSED : Nat := 365
def Ev.CMP_LEASE_GRANTED : Nat := 366
def Ev.CMP_LEASE_REFUSED : Nat := 367
def Ev.CMP_LEASE_FAULT : Nat := 368
def Ev.CMP_SERIES_EXHAUSTED : Nat := 369
def Ev.CMP_PORT_DOWN : Nat := 370
def Ev.DPX_CHANGEOVER : Nat := 384
def Ev.DPX_CO_REFUSED : Nat := 385
def Ev.DPX_MISSED_LINES : Nat := 386
def Ev.DPX_PARTNER_LOST : Nat := 387
def Ev.DPX_ISOLATED : Nat := 388
def Ev.DPX_CUE_FAULT : Nat := 389
def Ev.DPX_COMMIT_FAULT : Nat := 390
def Ev.DPX_READY : Nat := 391
def Ev.DPX_NOT_READY : Nat := 392
def Ev.DPX_POS_MISMATCH : Nat := 393
def Ev.DPX_VERSION_MISMATCH : Nat := 394
def Ev.DPX_PARTNER_WRONG : Nat := 395
def Ev.TRK_EARLY_MOTION : Nat := 416
def Ev.TRK_LOCKED : Nat := 417
def Ev.TRK_LOST : Nat := 418
def Ev.TRK_COAST_END : Nat := 419
def Ev.TRK_ABSORB : Nat := 420
def Ev.TRK_JUMP : Nat := 421
def Ev.TRK_SKIP : Nat := 422
def Ev.TRK_RATE_STEP : Nat := 423
def Ev.TRK_RATE_RANGE : Nat := 424
def Ev.TRK_REVERSE : Nat := 425
def Ev.TRK_OVERSPEED : Nat := 426
def Ev.TRK_QUAD_ERR : Nat := 427
def Ev.TRK_Z_MISMATCH : Nat := 428
def Ev.TRK_CUE_AUX : Nat := 429
def Ev.TRK_CUE_IGNORED : Nat := 430
def Ev.TRK_CUE_LOCKOUT : Nat := 431
def Ev.TRK_CUE_ORPHAN : Nat := 432
def Ev.WQ_STARVED : Nat := 448
def Ev.WQ_CEILING_WAIT : Nat := 449
def Ev.WQ_VDATA_BAD : Nat := 450
def Ev.WQ_COMMIT_FAIL : Nat := 451
def Ev.WQ_QUEUE_FULL : Nat := 452
def Ev.WQ_FLUSHED : Nat := 453
def Ev.WQ_JOURNAL_FAULT : Nat := 454
def Ev.WQ_REC_MISMATCH : Nat := 455
def Ev.WQ_REC_BOUNDED : Nat := 456
def Ev.LDG_TORN : Nat := 480
def Ev.LDG_LOG_FAULT : Nat := 481
def Ev.LDG_RESEALED : Nat := 482
def Ev.LDG_WRITE_FAIL : Nat := 483
def Ev.LDG_LEASE_ABANDONED : Nat := 484
def Ev.FRG_LAYOUT_INSTALLED : Nat := 512
def Ev.FRG_ADMIT_REFUSED : Nat := 513
def Ev.FRG_LAYOUT_CORRUPT : Nat := 514
def Ev.FRG_STORE_WAIT : Nat := 515
def Ev.FRG_TAP_GAP : Nat := 516
def Ev.FRG_PIPE_FAULT : Nat := 517
def Ev.FRG_CACHE_PARITY : Nat := 518
def Ev.FRG_DEADLINE : Nat := 519
def Ev.FRG_DL_LOG_OVERFLOW : Nat := 520
def Ev.FRG_VD_FIELD_FAULT : Nat := 521
def Ev.FRG_VD_SYMBOL_FAULT : Nat := 522
def Ev.FRG_VD_SERIAL_WAIT : Nat := 523
def Ev.FRG_VD_NO_SERIAL : Nat := 524
def Ev.FRG_VD_DATE_UNSURE : Nat := 525
def Ev.FRG_VD_REDATE : Nat := 526
def Ev.FRG_VD_WRAP : Nat := 527
def Ev.FRG_VD_SATURATE : Nat := 528
def Ev.NZC_OP_DONE : Nat := 544
def Ev.NZC_SWAPPED : Nat := 545
def Ev.NZC_DELAY_STEP : Nat := 546
def Ev.NZC_DELAY_CLIP : Nat := 547
def Ev.NZC_TAIL_LOST : Nat := 548
def Ev.NZC_MAP_CORRECTED : Nat := 549
def Ev.NZC_MAP_UNCORRECTABLE : Nat := 550
def Ev.NZC_DELAY_PARITY : Nat := 551
def Ev.NZC_MAP_RESTORED : Nat := 552
def Ev.STG_TRAIN_FAIL : Nat := 576
def Ev.STG_LANE_FAILED : Nat := 577
def Ev.STG_BOARD_MISMATCH : Nat := 578
def Ev.STG_LANE_UP : Nat := 579
def Ev.STG_LANE_DOWN : Nat := 580
def Ev.STG_FAILOVER : Nat := 581
def Ev.STG_LANE_LOST : Nat := 582
def Ev.STG_CREDIT_STALL : Nat := 583
def Ev.STG_DRAIN_LATE : Nat := 584
def Ev.STG_RX_CRC : Nat := 585
def Ev.STG_BOARD_ERROR : Nat := 586
def Ev.STG_FENCE_LAG : Nat := 587
def Ev.STG_VERDICT_FORMAT : Nat := 588
def Ev.INS_VERDICT_EARLY : Nat := 608
def Ev.INS_VERDICT_LATE : Nat := 609
def Ev.INS_VERDICT_UNMATCHED : Nat := 610
def Ev.INS_VERDICT_MISSING : Nat := 611
def Ev.INS_GATE_UNDECIDED : Nat := 612
def Ev.INS_GATE_MERGED : Nat := 613
def Ev.INS_CFG_REFUSED : Nat := 614
def Ev.PER_UART_RX : Nat := 640
def Ev.PER_UART_TX_EMPTY : Nat := 641
def Ev.PER_UART_ERR : Nat := 642
def Ev.PER_SPI_DONE : Nat := 643
def Ev.PER_SPI_OVERRUN : Nat := 644
def Ev.PER_I2C_DONE : Nat := 645
def Ev.PER_I2C_FAULT : Nat := 646
def Ev.PER_TIMER : Nat := 647
def Ev.PER_TIMER_CAP : Nat := 648
def Ev.PRB_CP_DENIED : Nat := 672
def Ev.PRB_SLAVE_TIMEOUT : Nat := 673
def Ev.PRB_USER : Nat := 674
def Ev.AON_ALARM : Nat := 704

/-- The instance counts of the sources that hold an event: (source, instances) (R730). -/
def evInst0 : List (Nat × Nat) := [
  (0, 1), (1, 1), (2, 1), (3, 1), (4, 1), (5, 1), (32, 1), (33, 1), (34, 1), (35, 1), (36, 1), (37, 1),
  (38, 1), (39, 1), (40, 1), (64, 1), (65, 1), (66, 1), (67, 1), (68, 1), (69, 1), (70, 1), (96, 8), (97, 8),
  (98, 8), (99, 8), (100, 8), (101, 8), (102, 8), (103, 1), (104, 1), (105, 1), (160, 1), (161, 1), (162, 1), (163, 1),
  (164, 1), (165, 1), (166, 1), (167, 1), (168, 1), (169, 1), (170, 1), (192, 1), (193, 1), (194, 1), (195, 1), (196, 1)]

def evInst1 : List (Nat × Nat) := [
  (197, 1), (198, 1), (199, 1), (200, 1), (201, 1), (202, 1), (203, 1), (204, 1), (224, 8), (225, 1), (226, 16), (256, 2),
  (257, 2), (258, 2), (259, 2), (260, 2), (261, 2), (262, 2), (263, 2), (264, 2), (265, 2), (266, 2), (320, 2), (321, 2),
  (322, 2), (323, 2), (324, 15), (325, 15), (326, 15), (327, 15), (328, 15), (329, 15), (352, 1), (353, 1), (354, 1), (355, 1),
  (356, 1), (357, 1), (358, 1), (359, 1), (360, 1), (361, 1), (362, 1), (363, 1), (364, 1), (365, 1), (366, 1), (367, 1)]

def evInst2 : List (Nat × Nat) := [
  (368, 1), (369, 1), (370, 2), (384, 1), (385, 1), (386, 1), (387, 1), (388, 1), (389, 1), (390, 1), (391, 1), (392, 1),
  (393, 1), (394, 1), (395, 1), (416, 16), (417, 16), (418, 16), (419, 16), (420, 16), (421, 16), (422, 16), (423, 16), (424, 16),
  (425, 16), (426, 16), (427, 16), (428, 16), (429, 16), (430, 16), (431, 16), (432, 16), (448, 16), (449, 16), (450, 16), (451, 16),
  (452, 16), (453, 16), (454, 16), (455, 16), (456, 16), (480, 1), (481, 1), (482, 1), (483, 1), (484, 1), (512, 1), (513, 1)]

def evInst3 : List (Nat × Nat) := [
  (514, 16), (515, 16), (516, 1), (517, 1), (518, 1), (519, 16), (520, 1), (521, 1), (522, 1), (523, 1), (524, 1), (525, 1),
  (526, 1), (527, 1), (528, 1), (544, 1), (545, 1), (546, 16), (547, 16), (548, 16), (549, 1), (550, 1), (551, 1), (552, 1),
  (576, 1), (577, 32), (578, 32), (579, 32), (580, 32), (581, 32), (582, 32), (583, 32), (584, 32), (585, 32), (586, 32), (587, 16),
  (588, 32), (608, 16), (609, 16), (610, 16), (611, 16), (612, 32), (613, 32), (614, 1), (640, 4), (641, 4), (642, 4), (643, 4)]

def evInst4 : List (Nat × Nat) := [
  (644, 4), (645, 4), (646, 4), (647, 8), (648, 8), (672, 1), (673, 1), (674, 32), (704, 1)]

/-- INSTANCES of source s: 0 for a source with no event (R742). -/
def evInstances (s : Nat) : Nat := ((evInst0 ++ evInst1 ++ evInst2 ++ evInst3 ++ evInst4).lookup s).getD 0

end Sys2Proof.Machine
end

