-- ==== Sys2Proof/Machine/Regs.lean ====
section
/-! DEFINITION. The register map: every register of the spec's register tables with its address, its instances,
the access codes of its fields (R14) and its reset value, and a named reference for every field.
Written from the register tables of spec/02 to spec/20 and the block bases of R740. -/

namespace Sys2Proof.Machine

/-- A field of a register: the byte address of the register, the bits, and the reset value of the whole register. -/
structure Fld where
  addr : Nat
  hi : Nat
  lo : Nat
  rst : Nat
  deriving DecidableEq, Repr

/-- The reset value of `CUE_SRC_s_ROUTE` (R742): EN 1, and LOG 1 for the blocks that R742 names. -/
def routeReset (s : Nat) : Nat :=
  if [0, 1, 2, 3, 5, 6, 8, 11, 12, 15, 22].contains (s / 32) then 0xC000 else 0x8000

/-- The reset value of `DMC_c_CFG` (R629): MAP and CALL_RATE exist in DMC_0 only. -/
def dmcCfgReset (c : Nat) : Nat := if c = 0 then 0x55525F8A else 0x55525F08

/-- The registers of the register map, without their instance index. -/
inductive RegId where
  | SYS_MODE | SYS_MODE_REQ | SYS_CALL_STATUS | SYS_CALL_CTRL | SYS_RESET_CAUSE | SYS_RESET_REQ
  | TRK_CTRL | TRK_STATUS | TRK_INPUT | TRK_PITCH | TRK_POS | TRK_HWM
  | TRK_CUE_POS | TRK_VEL | TRK_LOCK | TRK_COAST | TRK_DECEL | TRK_REJOIN
  | TRK_JUMP | TRK_REV | TRK_SCHED | TRK_CUE | TRK_CUE_CFG | TRK_Z
  | WQ_STATUS | WQ_ACC_HWM | WQ_FIRED_HWM | WQ_HEAD_ID | WQ_CEILING | WQ_REC_FIRED
  | WQ_REC_CEIL | WQ_REC_STATUS | WQ_CFG | WQ_FLUSH | WQ_STARVED | WQ_STARVE_OFFSET
  | CFG_PROMPT_STATUS | FRG_CTRL | FRG_STATUS | FRG_BUDGET | FRG_ADMIT_CYCLES | FRG_ADMIT_DRAM
  | FRG_CAP_CYCLES | FRG_CAP_DRAM | FRG_LAYOUT_ADDR | FRG_LAYOUT_OP | FRG_LAYOUT_RESULT | FRG_LAYOUT_CMAX
  | FRG_LAYOUT_COUNT | FRG_CACHE_CFG | FRG_CACHE_PINNED | FRG_CACHE_HITS | FRG_CACHE_MISSES | FRG_REFUSE
  | FRG_TAP_CTRL | FRG_TAP_GAPS | FRG_TRK_CMAX | FRG_TRK_RATE | FRG_TRK_DRAM | FRG_TRK_LATENCY
  | FRG_VD_CTRL | FRG_VD_STATUS | FRG_VD_OP | FRG_VD_RESULT | FRG_VD_BIN | FRG_VD_WORDA
  | FRG_VD_WORDB | FRG_VD_CNT_VAL | FRG_VD_CNT_CFG | FRG_VD_SERIES_NEXT | FRG_VD_SERIES_END | FRG_VD_SERIES_STATUS
  | FRG_VD_SERIES_LOW_WATER | FRG_VD_CAL | NZC_CTRL | NZC_STATUS | NZC_OP | NZC_RESULT
  | NZC_LOAD_ADDR | NZC_LOAD_CFG | NZC_LOAD_COUNT | NZC_LOAD_CRC | NZC_PATCH_INDEX | NZC_PATCH_ENTRY
  | NZC_READ_INDEX | NZC_READ_ACTIVE | NZC_READ_SHADOW | NZC_CORRECTED | NZC_DELAY_USED | NZC_SWAP_POS
  | NZC_TAIL_LOST | NZC_HEAD_A | NZC_HEAD_B | NZC_HEAD_C | STG_CTRL | STG_STATUS
  | STG_OP_RESULT | STG_LANE_OP | STG_QUAD | STG_LANE_CFG | STG_LANE_STATUS | STG_LANE_BOARD
  | STG_LANE_FILL | STG_LANE_DRAIN_MAX | STG_LANE_RX_ERR | STG_LANE_CREDIT | STG_HEAD_CFG | STG_HEAD_LAG
  | STG_HEAD_FENCE | FRG_DL_CTRL | FRG_DL_STATUS | FRG_DL_STORE_USED | FRG_DL_REC | FRG_DL_POP
  | FRG_DL_COUNT | FRG_DL_LAST | FRG_DL_SLACK | INS_TRK_CFG | INS_TRK_WINDOW | INS_TRK_PASS
  | INS_TRK_REJECT | INS_TRK_MISSING | INS_TRK_UNMATCHED | INS_GATE_CFG | INS_GATE_OFFSET | INS_GATE_PULSES
  | INS_GATE_CANCELLED | DPX_CFG | DPX_CO_POLICY | DPX_STATUS | DPX_CO_REQ | DPX_CO_LAST
  | DPX_CO_TIME | DPX_CO_COUNT | DPX_PARTNER_ID | DPX_COMMIT | DPX_LINK | DPX_RETRY
  | LDG_STATUS | LDG_HEAD_SEQ | LDG_LIVE | LDG_WRITES | LDG_FAULT_POS | LDG_FLOOR
  | LDG_SERIES_LEASE | LDG_SERIES_INFO | LDG_RESEAL | CMP_STATUS | CMP_KEEPER | CMP_EPOCH
  | CMP_TIME | CMP_TIME_BOUND | CMP_TIME_CFG | CMP_HOLD_LIMIT | CMP_TIME_SET | CMP_LINK
  | CMP_HOPS | CMP_NOT_CAST | CMP_RX_ERR | CMP_CAST | CMP_TIME_OP | IZX_CTRL
  | IZX_BOOT_TAG | IZX_PORT_STATUS | IZX_PORT_RX_ERR | IZX_PORT_OP | IZX_BOX_OP | IZX_BOX_STATUS
  | IZX_BOX_HIGH | IZX_BOX_HOST | IZX_BOX_WRITE | IZX_BOX_READ | IZX_BOX_RIGHTS | IZX_BOX_CREDITS
  | IZX_BOX_REPLAYS | IZX_BOX_DENIED | IZX_BOX_EVT_LOST | IZX_BOX_EVT_SEQ | PRB_SEL | PRB_CP_CFG
  | PRB_CP_STATUS | PRB_CP_WMASK | PRB_CP_FAULT | PRB_SLAVE_TIMEOUTS | PRB_USER_EVT | CFG_REFUSE_WIRE_0
  | CFG_REFUSE_WIRE_1 | CFG_STATUS | CFG_PLANE_SEL | CFG_STAGE_OP | CFG_SCENE_OP | CFG_STAGE_CTRL
  | CFG_STAGE_ADDR | CFG_STAGE_LEN | CFG_STAGE_STATUS | CFG_ARM_STATUS | CFG_ARM_TIMEOUT | CFG_SWAP_TIME
  | CFG_CYCLES | CFG_SCENE_VERSION | FLC_CFG | FLC_CMD | FLC_ADDR | FLC_DATA
  | FLC_RESULT | FLC_INFO | FLC_WEAR_THRESH | FLC_BAD | FLC_ECC | DMC_STATUS
  | DMC_CFG | DMC_MODULE | DMC_TEMP | DMC_REFRESH | DMC_RECOVER_MAX | DMC_RECOVER_COUNT
  | DMC_ECC_COUNT | DMC_TRAIN | DMC_FREQ_OP | DMC_FREQ_RESULT | DMC_SHADOW | DMC_CAP_STATUS
  | DMC_CAP_ADDR | DMC_CAP_SYND | DMC_HIST_SEL | DMC_HIST | CLK_STATUS | CLK_REF
  | CLK_PLL_CFG | CLK_PLL_FRAC | CLK_PLL_DITHER | CLK_PLL_LOCK | CLK_PLL_OUT | CLK_PLL_STATUS
  | CLK_PLL_LOSSES | CLK_PLL_BAND_SEL | CLK_PLL_BAND | CLK_PLL_OP | CLK_DOM | PWR_STATUS
  | PWR_INTERVAL_CFG | PWR_WAKE_EN | PWR_WAKE_CAUSE | PWR_ENTRY | PWR_WAKE_STATUS | PWR_WAKE_TIME
  | PWR_RET_STATUS | PWR_RET_RELEASE | PWR_STALL_CFG | PWR_STALL_MAX | PWR_OP | AON_TIMER
  | AON_ALARM | AON_RET_SEQ | AON_SCRATCH | GPIO_IN | GPIO_OUT | GPIO_OE
  | GPIO_MWR | GPIO_MOE | GPIO_BANK | GPIO_MAP_FAULT_PIN | GPIO_PIN | GPIO_PAT_CFG
  | GPIO_PAT_MASK | GPIO_PAT_VALUE | GPIO_PAT_EDGE | UART_CTRL | UART_STATUS | UART_DATA
  | SPI_CTRL | SPI_STATUS | SPI_DATA | I2C_CTRL | I2C_CMD | I2C_STATUS
  | I2C_RXDATA | TIMER_CTRL | TIMER_COUNT | TIMER_PERIOD | TIMER_COMPARE | TIMER_CAPTURE
  | LCY_STATUS | LCY_COUNTER | LCY_COUNTER_NOT | LCY_TRANSITION | LCY_RESULT | LCY_TOKENS
  | LCY_DEBUG_OP | LCY_NONCE | LCY_RESP | LCY_KEY_DATA | LCY_KEY_CRC | LCY_KEY_OP
  | LCY_KEY_STATUS | LCY_KEY_PUB | SYS_ID | SYS_DEVICE_ID | CUE_SRC_ROUTE | CUE_SRC_FLAGS
  | CUE_SRC_INFO | CUE_SUMMARY | CUE_CNT_SEL | CUE_CNT | CUE_LOG_STATUS | CUE_LOG_TOTAL
  | CUE_LOG_SEL | CUE_LOG_DATA | CUE_PIN_CFG | CLK_DOM_OP | WQ_HOLD_ID | CFG_PROMPT_VERSION
  | CFG_PROMPT_SEQ | CFG_PROMPT_DIGEST | SYS_CALL_TIME | CFG_SCENE_DIGEST | CFG_WINGS_DIGEST
  deriving DecidableEq, Repr

/-- One register of the map: base address, stride and count of up to two indices, whether it is 64 bits wide,
whether it is guarded (WG, R15), the masks of its RW (or WG), W1C, RC and WO bits (R14), and its reset value. -/
structure RegRow where
  id : RegId
  base : Nat
  s1 : Nat
  n1 : Nat
  s2 : Nat
  n2 : Nat
  wide : Bool
  wg : Bool
  rw : Nat
  w1c : Nat
  rc : Nat
  wo : Nat
  rst : Nat
  deriving DecidableEq, Repr

def regRows0 : List RegRow := [
  ⟨.SYS_MODE, 0x100, 0x0, 1, 0x0, 1, false, false, 0x0, 0x0, 0x0, 0x0, 0x8000000⟩,
  ⟨.SYS_MODE_REQ, 0x108, 0x0, 1, 0x0, 1, true, true, 0x7, 0x0, 0x0, 0x0, 0x0⟩,
  ⟨.SYS_CALL_STATUS, 0x110, 0x0, 1, 0x0, 1, false, false, 0x0, 0x0, 0x0, 0x0, 0x0⟩,
  ⟨.SYS_CALL_CTRL, 0x118, 0x0, 1, 0x0, 1, false, false, 0x1, 0x0, 0x0, 0x6, 0x0⟩,
  ⟨.SYS_RESET_CAUSE, 0x120, 0x0, 1, 0x0, 1, false, false, 0x0, 0x7F, 0x0, 0x0, 0x1⟩,
  ⟨.SYS_RESET_REQ, 0x128, 0x0, 1, 0x0, 1, true, true, 0x3, 0x0, 0x0, 0x0, 0x0⟩,
  ⟨.TRK_CTRL, 0xD0000, 0x800, 16, 0x0, 1, false, false, 0x7, 0x0, 0x0, 0x0, 0x0⟩,
  ⟨.TRK_STATUS, 0xD0004, 0x800, 16, 0x0, 1, false, false, 0x0, 0x0, 0x0, 0x0, 0x0⟩,
  ⟨.TRK_INPUT, 0xD0008, 0x800, 16, 0x0, 1, false, false, 0xFF0305, 0x0, 0x0, 0x0, 0x100000⟩,
  ⟨.TRK_PITCH, 0xD000C, 0x800, 16, 0x0, 1, false, false, 0xFFFFFFFF, 0x0, 0x0, 0x0, 0x1000⟩,
  ⟨.TRK_POS, 0xD0010, 0x800, 16, 0x0, 1, true, false, 0x0, 0x0, 0x0, 0x0, 0x0⟩,
  ⟨.TRK_HWM, 0xD0018, 0x800, 16, 0x0, 1, true, false, 0x0, 0x0, 0x0, 0x0, 0x0⟩,
  ⟨.TRK_CUE_POS, 0xD0048, 0x800, 16, 0x0, 1, true, false, 0x0, 0x0, 0x0, 0x0, 0x0⟩,
  ⟨.TRK_VEL, 0xD0020, 0x800, 16, 0x0, 1, false, false, 0x0, 0x0, 0x0, 0x0, 0x0⟩,
  ⟨.TRK_LOCK, 0xD0024, 0x800, 16, 0x0, 1, false, false, 0xFFFF0FFF, 0x0, 0x0, 0x0, 0x10540200⟩,
  ⟨.TRK_COAST, 0xD0028, 0x800, 16, 0x0, 1, false, false, 0xFFFF80FF, 0x0, 0x0, 0x0, 0x400020⟩,
  ⟨.TRK_DECEL, 0xD002C, 0x800, 16, 0x0, 1, false, false, 0xFFFFFFFF, 0x0, 0x0, 0x0, 0x0⟩,
  ⟨.TRK_REJOIN, 0xD0030, 0x800, 16, 0x0, 1, false, false, 0xFFFF0FFF, 0x0, 0x0, 0x0, 0x40000100⟩,
  ⟨.TRK_JUMP, 0xD0034, 0x800, 16, 0x0, 1, false, false, 0x0, 0x0, 0x0, 0x0, 0x0⟩,
  ⟨.TRK_REV, 0xD0038, 0x800, 16, 0x0, 1, false, false, 0xFFFF, 0x0, 0x0, 0x0, 0x4⟩,
  ⟨.TRK_SCHED, 0xD003C, 0x800, 16, 0x0, 1, false, false, 0xFFFFFFFF, 0x0, 0x0, 0x0, 0x40100C8⟩,
  ⟨.TRK_CUE, 0xD0040, 0x800, 16, 0x0, 1, false, false, 0xFFFFFFF7, 0x0, 0x0, 0x0, 0x10⟩,
  ⟨.TRK_CUE_CFG, 0xD0044, 0x800, 16, 0x0, 1, false, false, 0xFFFFFFFF, 0x0, 0x0, 0x0, 0x0⟩,
  ⟨.TRK_Z, 0xD0050, 0x800, 16, 0x0, 1, false, false, 0xFFFFFFFF, 0x0, 0x0, 0x0, 0x0⟩,
  ⟨.WQ_STATUS, 0xE0000, 0x100, 16, 0x0, 1, false, false, 0x0, 0x0, 0x0, 0x0, 0x0⟩,
  ⟨.WQ_ACC_HWM, 0xE0008, 0x100, 16, 0x0, 1, true, false, 0x0, 0x0, 0x0, 0x0, 0x0⟩,
  ⟨.WQ_FIRED_HWM, 0xE0010, 0x100, 16, 0x0, 1, true, false, 0x0, 0x0, 0x0, 0x0, 0x0⟩,
  ⟨.WQ_HEAD_ID, 0xE0018, 0x100, 16, 0x0, 1, true, false, 0x0, 0x0, 0x0, 0x0, 0x0⟩,
  ⟨.WQ_CEILING, 0xE0020, 0x100, 16, 0x0, 1, true, false, 0x0, 0x0, 0x0, 0x0, 0x0⟩,
  ⟨.WQ_REC_FIRED, 0xE0028, 0x100, 16, 0x0, 1, true, false, 0x0, 0x0, 0x0, 0x0, 0x0⟩,
  ⟨.WQ_REC_CEIL, 0xE0030, 0x100, 16, 0x0, 1, true, false, 0x0, 0x0, 0x0, 0x0, 0x0⟩,
  ⟨.WQ_REC_STATUS, 0xE0038, 0x100, 16, 0x0, 1, false, false, 0x0, 0x0, 0x0, 0x0, 0x0⟩]

def regRows1 : List RegRow := [
  ⟨.WQ_CFG, 0xE0040, 0x100, 16, 0x0, 1, false, false, 0xFFFFFF01, 0x0, 0x0, 0x0, 0x6400⟩,
  ⟨.WQ_FLUSH, 0xE0048, 0x100, 16, 0x0, 1, true, true, 0x3, 0x0, 0x0, 0x0, 0x0⟩,
  ⟨.WQ_STARVED, 0xE0050, 0x100, 16, 0x0, 1, false, false, 0x0, 0x0, 0x0, 0x0, 0x0⟩,
  ⟨.WQ_STARVE_OFFSET, 0xE0060, 0x100, 16, 0x0, 1, false, false, 0xFFFFFFFF, 0x0, 0x0, 0x0, 0x0⟩,
  ⟨.CFG_PROMPT_STATUS, 0x60800, 0x0, 1, 0x0, 1, false, false, 0x0, 0x0, 0x0, 0x0, 0x0⟩,
  ⟨.FRG_CTRL, 0x100000, 0x0, 1, 0x0, 1, false, false, 0xFF, 0x0, 0x0, 0x0, 0xFF⟩,
  ⟨.FRG_STATUS, 0x100004, 0x0, 1, 0x0, 1, false, false, 0x0, 0xFF000000, 0x0, 0x0, 0x0⟩,
  ⟨.FRG_BUDGET, 0x100008, 0x0, 1, 0x0, 1, false, false, 0xFFFCFF00, 0x0, 0x0, 0x0, 0xFAC00400⟩,
  ⟨.FRG_ADMIT_CYCLES, 0x100010, 0x0, 1, 0x0, 1, true, false, 0x0, 0x0, 0x0, 0x0, 0x0⟩,
  ⟨.FRG_ADMIT_DRAM, 0x100018, 0x0, 1, 0x0, 1, true, false, 0x0, 0x0, 0x0, 0x0, 0x0⟩,
  ⟨.FRG_CAP_CYCLES, 0x100020, 0x0, 1, 0x0, 1, true, false, 0x0, 0x0, 0x0, 0x0, 0x0⟩,
  ⟨.FRG_CAP_DRAM, 0x100028, 0x0, 1, 0x0, 1, true, false, 0x0, 0x0, 0x0, 0x0, 0x0⟩,
  ⟨.FRG_LAYOUT_ADDR, 0x100030, 0x0, 1, 0x0, 1, false, false, 0xFFFFFFFF, 0x0, 0x0, 0x0, 0x0⟩,
  ⟨.FRG_LAYOUT_OP, 0x100038, 0x0, 1, 0x0, 1, true, true, 0x3FFFFF, 0x0, 0x0, 0x0, 0x0⟩,
  ⟨.FRG_LAYOUT_RESULT, 0x100040, 0x0, 1, 0x0, 1, false, false, 0x0, 0x0, 0x0, 0x0, 0xFF0000⟩,
  ⟨.FRG_LAYOUT_CMAX, 0x100044, 0x0, 1, 0x0, 1, false, false, 0x0, 0x0, 0x0, 0x0, 0x0⟩,
  ⟨.FRG_LAYOUT_COUNT, 0x100048, 0x0, 1, 0x0, 1, false, false, 0x0, 0x0, 0x0, 0x0, 0x0⟩,
  ⟨.FRG_CACHE_CFG, 0x100050, 0x0, 1, 0x0, 1, false, false, 0xF, 0x0, 0x0, 0x0, 0x8⟩,
  ⟨.FRG_CACHE_PINNED, 0x100054, 0x0, 1, 0x0, 1, false, false, 0x0, 0x0, 0x0, 0x0, 0x0⟩,
  ⟨.FRG_CACHE_HITS, 0x100058, 0x0, 1, 0x0, 1, false, false, 0x0, 0x0, 0xFFFFFFFF, 0x0, 0x0⟩,
  ⟨.FRG_CACHE_MISSES, 0x10005C, 0x0, 1, 0x0, 1, false, false, 0x0, 0x0, 0xFFFFFFFF, 0x0, 0x0⟩,
  ⟨.FRG_REFUSE, 0x100060, 0x0, 1, 0x0, 1, false, false, 0x0, 0x0, 0x0, 0x0, 0x0⟩,
  ⟨.FRG_TAP_CTRL, 0x100080, 0x4, 8, 0x0, 1, false, false, 0xFFFF0003, 0x0, 0x0, 0x0, 0x0⟩,
  ⟨.FRG_TAP_GAPS, 0x1000A0, 0x4, 8, 0x0, 1, false, false, 0x0, 0x0, 0xFFFFFFFF, 0x0, 0x0⟩,
  ⟨.FRG_TRK_CMAX, 0x100100, 0x10, 16, 0x0, 1, false, false, 0x0, 0x0, 0x0, 0x0, 0x0⟩,
  ⟨.FRG_TRK_RATE, 0x100104, 0x10, 16, 0x0, 1, false, false, 0x0, 0x0, 0x0, 0x0, 0x0⟩,
  ⟨.FRG_TRK_DRAM, 0x100108, 0x10, 16, 0x0, 1, false, false, 0x0, 0x0, 0x0, 0x0, 0x0⟩,
  ⟨.FRG_TRK_LATENCY, 0x10010C, 0x10, 16, 0x0, 1, false, false, 0x0, 0x0, 0x0, 0x0, 0x0⟩,
  ⟨.FRG_VD_CTRL, 0x102000, 0x0, 1, 0x0, 1, false, false, 0xFFFF0001, 0x0, 0x0, 0x0, 0x320000⟩,
  ⟨.FRG_VD_STATUS, 0x102004, 0x0, 1, 0x0, 1, false, false, 0x0, 0x0, 0xFFFF0000, 0x0, 0x0⟩,
  ⟨.FRG_VD_OP, 0x102010, 0x0, 1, 0x0, 1, false, false, 0x0, 0x0, 0x0, 0x7F07, 0x0⟩,
  ⟨.FRG_VD_RESULT, 0x102014, 0x0, 1, 0x0, 1, false, false, 0x0, 0x0, 0x0, 0x0, 0x0⟩]

def regRows2 : List RegRow := [
  ⟨.FRG_VD_BIN, 0x102020, 0x8, 2, 0x0, 1, true, false, 0xFFFFFFFFFFFFFFFF, 0x0, 0x0, 0x0, 0x0⟩,
  ⟨.FRG_VD_WORDA, 0x102040, 0x8, 3, 0x0, 1, true, false, 0xFFFFFFFFFFFF, 0x0, 0x0, 0x0, 0x0⟩,
  ⟨.FRG_VD_WORDB, 0x102060, 0x8, 3, 0x0, 1, true, false, 0xFFFFFFFFFFFF, 0x0, 0x0, 0x0, 0x0⟩,
  ⟨.FRG_VD_CNT_VAL, 0x102400, 0x20, 64, 0x8, 3, true, false, 0xFFFFFFFFFFFF, 0x0, 0x0, 0x0, 0x0⟩,
  ⟨.FRG_VD_CNT_CFG, 0x102418, 0x20, 64, 0x0, 1, false, false, 0x0, 0x0, 0x0, 0x0, 0x1⟩,
  ⟨.FRG_VD_SERIES_NEXT, 0x103000, 0x40, 256, 0x8, 3, true, false, 0x0, 0x0, 0x0, 0x0, 0x0⟩,
  ⟨.FRG_VD_SERIES_END, 0x103018, 0x40, 256, 0x8, 3, true, false, 0x0, 0x0, 0x0, 0x0, 0x0⟩,
  ⟨.FRG_VD_SERIES_STATUS, 0x103030, 0x40, 256, 0x0, 1, false, false, 0x0, 0x0, 0x0, 0x0, 0x0⟩,
  ⟨.FRG_VD_SERIES_LOW_WATER, 0x103034, 0x40, 256, 0x0, 1, false, false, 0x1FFFFF, 0x0, 0x0, 0x0, 0x100⟩,
  ⟨.FRG_VD_CAL, 0x107000, 0x40, 16, 0x0, 1, false, false, 0x10FFF, 0x0, 0x0, 0x0, 0x0⟩,
  ⟨.NZC_CTRL, 0x110000, 0x0, 1, 0x0, 1, false, false, 0x1, 0x0, 0x0, 0x0, 0x1⟩,
  ⟨.NZC_STATUS, 0x110004, 0x0, 1, 0x0, 1, false, false, 0x0, 0x40, 0x0, 0x0, 0x0⟩,
  ⟨.NZC_OP, 0x110008, 0x0, 1, 0x0, 1, true, true, 0xF, 0x0, 0x0, 0x0, 0x0⟩,
  ⟨.NZC_RESULT, 0x110010, 0x0, 1, 0x0, 1, false, false, 0x0, 0x0, 0x0, 0x0, 0xFFFFF⟩,
  ⟨.NZC_LOAD_ADDR, 0x110018, 0x0, 1, 0x0, 1, true, false, 0x3FFFFFFFFF, 0x0, 0x0, 0x0, 0x0⟩,
  ⟨.NZC_LOAD_CFG, 0x110020, 0x0, 1, 0x0, 1, false, false, 0xC00FFFFF, 0x0, 0x0, 0x0, 0x0⟩,
  ⟨.NZC_LOAD_COUNT, 0x110024, 0x0, 1, 0x0, 1, false, false, 0x1FFFFF, 0x0, 0x0, 0x0, 0x1⟩,
  ⟨.NZC_LOAD_CRC, 0x110028, 0x0, 1, 0x0, 1, false, false, 0xFFFFFFFF, 0x0, 0x0, 0x0, 0x0⟩,
  ⟨.NZC_PATCH_INDEX, 0x110030, 0x0, 1, 0x0, 1, false, false, 0xFFFFF, 0x0, 0x0, 0x0, 0x0⟩,
  ⟨.NZC_PATCH_ENTRY, 0x110034, 0x0, 1, 0x0, 1, false, false, 0x0, 0x0, 0x0, 0xFFFFFFFF, 0x0⟩,
  ⟨.NZC_READ_INDEX, 0x110040, 0x0, 1, 0x0, 1, false, false, 0xFFFFF, 0x0, 0x0, 0x0, 0x0⟩,
  ⟨.NZC_READ_ACTIVE, 0x110044, 0x0, 1, 0x0, 1, false, false, 0x0, 0x0, 0x0, 0x0, 0x0⟩,
  ⟨.NZC_READ_SHADOW, 0x110048, 0x0, 1, 0x0, 1, false, false, 0x0, 0x0, 0x0, 0x0, 0x0⟩,
  ⟨.NZC_CORRECTED, 0x110050, 0x0, 1, 0x0, 1, false, false, 0x0, 0x0, 0xFFFFFFFF, 0x0, 0x0⟩,
  ⟨.NZC_DELAY_USED, 0x110054, 0x0, 1, 0x0, 1, false, false, 0x0, 0x0, 0x0, 0x0, 0x0⟩,
  ⟨.NZC_SWAP_POS, 0x110100, 0x8, 16, 0x0, 1, true, false, 0x0, 0x0, 0x0, 0x0, 0x0⟩,
  ⟨.NZC_TAIL_LOST, 0x110180, 0x4, 16, 0x0, 1, false, false, 0x0, 0x0, 0xFFFFFFFF, 0x0, 0x0⟩,
  ⟨.NZC_HEAD_A, 0x111000, 0x10, 256, 0x0, 1, false, false, 0x0, 0x0, 0x0, 0x0, 0x0⟩,
  ⟨.NZC_HEAD_B, 0x111004, 0x10, 256, 0x0, 1, false, false, 0x0, 0x0, 0x0, 0x0, 0x0⟩,
  ⟨.NZC_HEAD_C, 0x111008, 0x10, 256, 0x0, 1, false, false, 0x0, 0x0, 0x0, 0x0, 0x0⟩,
  ⟨.STG_CTRL, 0x120000, 0x0, 1, 0x0, 1, false, false, 0xFF03, 0x0, 0x0, 0x0, 0xA03⟩,
  ⟨.STG_STATUS, 0x120004, 0x0, 1, 0x0, 1, false, false, 0x0, 0x0, 0x0, 0x0, 0x0⟩]

def regRows3 : List RegRow := [
  ⟨.STG_OP_RESULT, 0x120010, 0x0, 1, 0x0, 1, false, false, 0x0, 0x0, 0x0, 0x0, 0x0⟩,
  ⟨.STG_LANE_OP, 0x120008, 0x0, 1, 0x0, 1, true, true, 0x1F03, 0x0, 0x0, 0x0, 0x0⟩,
  ⟨.STG_QUAD, 0x120020, 0x4, 8, 0x0, 1, false, false, 0x0, 0x0, 0x0, 0x0, 0x0⟩,
  ⟨.STG_LANE_CFG, 0x120100, 0x20, 32, 0x0, 1, false, false, 0x0, 0x0, 0x0, 0x0, 0x0⟩,
  ⟨.STG_LANE_STATUS, 0x120104, 0x20, 32, 0x0, 1, false, false, 0x0, 0x0, 0x0, 0x0, 0x0⟩,
  ⟨.STG_LANE_BOARD, 0x120108, 0x20, 32, 0x0, 1, false, false, 0x0, 0x0, 0x0, 0x0, 0x0⟩,
  ⟨.STG_LANE_FILL, 0x12010C, 0x20, 32, 0x0, 1, false, false, 0x0, 0x0, 0x0, 0x0, 0x0⟩,
  ⟨.STG_LANE_DRAIN_MAX, 0x120110, 0x20, 32, 0x0, 1, false, false, 0x0, 0x0, 0xFFFFFFFF, 0x0, 0x0⟩,
  ⟨.STG_LANE_RX_ERR, 0x120114, 0x20, 32, 0x0, 1, false, false, 0x0, 0x0, 0xFFFFFFFF, 0x0, 0x0⟩,
  ⟨.STG_LANE_CREDIT, 0x120118, 0x20, 32, 0x0, 1, false, false, 0x0, 0x0, 0x0, 0x0, 0x0⟩,
  ⟨.STG_HEAD_CFG, 0x122000, 0x10, 256, 0x0, 1, false, false, 0x0, 0x0, 0x0, 0x0, 0xFF0000⟩,
  ⟨.STG_HEAD_LAG, 0x122004, 0x10, 256, 0x0, 1, false, false, 0x0, 0x0, 0x0, 0x0, 0x0⟩,
  ⟨.STG_HEAD_FENCE, 0x122008, 0x10, 256, 0x0, 1, true, false, 0x0, 0x0, 0x0, 0x0, 0x0⟩,
  ⟨.FRG_DL_CTRL, 0x101000, 0x0, 1, 0x0, 1, false, false, 0xFE, 0x0, 0x0, 0x0, 0x0⟩,
  ⟨.FRG_DL_STATUS, 0x101004, 0x0, 1, 0x0, 1, false, false, 0x0, 0x100, 0x0, 0x0, 0x0⟩,
  ⟨.FRG_DL_STORE_USED, 0x101008, 0x0, 1, 0x0, 1, false, false, 0x0, 0x0, 0x0, 0x0, 0x0⟩,
  ⟨.FRG_DL_REC, 0x101010, 0x4, 4, 0x0, 1, false, false, 0x0, 0x0, 0x0, 0x0, 0x0⟩,
  ⟨.FRG_DL_POP, 0x101020, 0x0, 1, 0x0, 1, false, false, 0x0, 0x0, 0x0, 0x1, 0x0⟩,
  ⟨.FRG_DL_COUNT, 0x101100, 0x10, 16, 0x0, 1, false, false, 0x0, 0x0, 0xFFFFFFFF, 0x0, 0x0⟩,
  ⟨.FRG_DL_LAST, 0x101104, 0x10, 16, 0x0, 1, false, false, 0x0, 0x0, 0x0, 0x0, 0x0⟩,
  ⟨.FRG_DL_SLACK, 0x101108, 0x10, 16, 0x0, 1, false, false, 0x0, 0x0, 0xFFFFFFFF, 0x0, 0xFFFFFFFF⟩,
  ⟨.INS_TRK_CFG, 0x130100, 0x20, 16, 0x0, 1, false, false, 0xFF0000FF, 0x0, 0x0, 0x0, 0x0⟩,
  ⟨.INS_TRK_WINDOW, 0x130104, 0x20, 16, 0x0, 1, false, false, 0xFFFFFFFF, 0x0, 0x0, 0x0, 0x0⟩,
  ⟨.INS_TRK_PASS, 0x130108, 0x20, 16, 0x0, 1, false, false, 0x0, 0x0, 0xFFFFFFFF, 0x0, 0x0⟩,
  ⟨.INS_TRK_REJECT, 0x13010C, 0x20, 16, 0x0, 1, false, false, 0x0, 0x0, 0xFFFFFFFF, 0x0, 0x0⟩,
  ⟨.INS_TRK_MISSING, 0x130110, 0x20, 16, 0x0, 1, false, false, 0x0, 0x0, 0xFFFFFFFF, 0x0, 0x0⟩,
  ⟨.INS_TRK_UNMATCHED, 0x130114, 0x20, 16, 0x0, 1, false, false, 0x0, 0x0, 0xFFFFFFFF, 0x0, 0x0⟩,
  ⟨.INS_GATE_CFG, 0x130800, 0x10, 32, 0x0, 1, false, false, 0xEFFFFFFF, 0x0, 0x0, 0x0, 0x1⟩,
  ⟨.INS_GATE_OFFSET, 0x130804, 0x10, 32, 0x0, 1, false, false, 0xFFFFFFFF, 0x0, 0x0, 0x0, 0x0⟩,
  ⟨.INS_GATE_PULSES, 0x130808, 0x10, 32, 0x0, 1, false, false, 0x0, 0x0, 0xFFFFFFFF, 0x0, 0x0⟩,
  ⟨.INS_GATE_CANCELLED, 0x13080C, 0x10, 32, 0x0, 1, false, false, 0x0, 0x0, 0xFFFFFFFF, 0x0, 0x0⟩,
  ⟨.DPX_CFG, 0xC0000, 0x0, 1, 0x0, 1, false, false, 0xFFFFFF, 0x0, 0x0, 0x0, 0xA0064⟩]

def regRows4 : List RegRow := [
  ⟨.DPX_CO_POLICY, 0xC0004, 0x0, 1, 0x0, 1, false, false, 0x1A, 0x0, 0x0, 0x0, 0x15⟩,
  ⟨.DPX_STATUS, 0xC0008, 0x0, 1, 0x0, 1, false, false, 0x0, 0x0, 0x0, 0x0, 0x0⟩,
  ⟨.DPX_CO_REQ, 0xC0010, 0x0, 1, 0x0, 1, true, true, 0x3, 0x0, 0x0, 0x0, 0x0⟩,
  ⟨.DPX_CO_LAST, 0xC0018, 0x0, 1, 0x0, 1, false, false, 0x0, 0x0, 0x0, 0x0, 0x0⟩,
  ⟨.DPX_CO_TIME, 0xC0020, 0x0, 1, 0x0, 1, true, false, 0x0, 0x0, 0x0, 0x0, 0x0⟩,
  ⟨.DPX_CO_COUNT, 0xC0028, 0x0, 1, 0x0, 1, false, false, 0x0, 0x0, 0xFFFFFFFF, 0x0, 0x0⟩,
  ⟨.DPX_PARTNER_ID, 0xC0030, 0x0, 1, 0x0, 1, true, false, 0x0, 0x0, 0x0, 0x0, 0x0⟩,
  ⟨.DPX_COMMIT, 0xC0038, 0x0, 1, 0x0, 1, false, false, 0x0, 0x0, 0x0, 0x0, 0x0⟩,
  ⟨.DPX_LINK, 0xC0040, 0x0, 1, 0x0, 1, false, false, 0x0, 0x0, 0x0, 0x0, 0x0⟩,
  ⟨.DPX_RETRY, 0xC0044, 0x0, 1, 0x0, 1, false, false, 0x0, 0x0, 0xFFFFFFFF, 0x0, 0x0⟩,
  ⟨.LDG_STATUS, 0xF0000, 0x0, 1, 0x0, 1, false, false, 0x0, 0x40000000, 0x0, 0x0, 0x0⟩,
  ⟨.LDG_HEAD_SEQ, 0xF0004, 0x0, 1, 0x0, 1, false, false, 0x0, 0x0, 0x0, 0x0, 0x0⟩,
  ⟨.LDG_LIVE, 0xF0008, 0x0, 1, 0x0, 1, false, false, 0x0, 0x0, 0x0, 0x0, 0x0⟩,
  ⟨.LDG_WRITES, 0xF000C, 0x0, 1, 0x0, 1, false, false, 0x0, 0x0, 0xFFFFFFFF, 0x0, 0x0⟩,
  ⟨.LDG_FAULT_POS, 0xF0010, 0x0, 1, 0x0, 1, false, false, 0x0, 0x0, 0x0, 0x0, 0x0⟩,
  ⟨.LDG_FLOOR, 0xF0100, 0x8, 16, 0x0, 1, true, false, 0xFFFFFFFFFFFFFFFF, 0x0, 0x0, 0x0, 0x0⟩,
  ⟨.LDG_SERIES_LEASE, 0xF1000, 0x8, 256, 0x0, 1, false, false, 0x0, 0x0, 0x0, 0x0, 0x0⟩,
  ⟨.LDG_SERIES_INFO, 0xF1004, 0x8, 256, 0x0, 1, false, false, 0x0, 0x0, 0x0, 0x0, 0x0⟩,
  ⟨.LDG_RESEAL, 0xF0018, 0x0, 1, 0x0, 1, true, true, 0xFFFF, 0x0, 0x0, 0x0, 0x0⟩,
  ⟨.CMP_STATUS, 0xB0000, 0x0, 1, 0x0, 1, false, false, 0x0, 0x0, 0x0, 0x0, 0xFFC00000⟩,
  ⟨.CMP_KEEPER, 0xB0004, 0x0, 1, 0x0, 1, false, false, 0x0, 0x0, 0x0, 0x0, 0x3FF0000⟩,
  ⟨.CMP_EPOCH, 0xB0008, 0x0, 1, 0x0, 1, false, false, 0x0, 0x0, 0x0, 0x0, 0x0⟩,
  ⟨.CMP_TIME, 0xB0010, 0x0, 1, 0x0, 1, true, false, 0x0, 0x0, 0x0, 0x0, 0x0⟩,
  ⟨.CMP_TIME_BOUND, 0xB0018, 0x0, 1, 0x0, 1, false, false, 0x0, 0x0, 0x0, 0x0, 0xFFFFFFFF⟩,
  ⟨.CMP_TIME_CFG, 0xB001C, 0x0, 1, 0x0, 1, false, false, 0xFFFFFFFF, 0x0, 0x0, 0x0, 0x1F403E8⟩,
  ⟨.CMP_HOLD_LIMIT, 0xB0020, 0x0, 1, 0x0, 1, false, false, 0xFFFFFFFF, 0x0, 0x0, 0x0, 0x7530⟩,
  ⟨.CMP_TIME_SET, 0xB0028, 0x0, 1, 0x0, 1, true, false, 0xFFFFFFFFFFFFFFFF, 0x0, 0x0, 0x0, 0x0⟩,
  ⟨.CMP_LINK, 0xB0038, 0x0, 1, 0x0, 1, false, false, 0x0, 0x0, 0x0, 0x0, 0x0⟩,
  ⟨.CMP_HOPS, 0xB003C, 0x0, 1, 0x0, 1, false, false, 0x0, 0x0, 0x0, 0x0, 0x0⟩,
  ⟨.CMP_NOT_CAST, 0xB0040, 0x4, 8, 0x0, 1, false, false, 0x0, 0x0, 0x0, 0x0, 0x0⟩,
  ⟨.CMP_RX_ERR, 0xB0060, 0x0, 1, 0x0, 1, false, false, 0x0, 0x0, 0xFFFFFFFF, 0x0, 0x0⟩,
  ⟨.CMP_CAST, 0xB0100, 0x4, 16, 0x0, 1, false, false, 0x0, 0x0, 0x0, 0x0, 0x0⟩]

def regRows5 : List RegRow := [
  ⟨.CMP_TIME_OP, 0xB0030, 0x0, 1, 0x0, 1, true, true, 0x3, 0x0, 0x0, 0x0, 0x0⟩,
  ⟨.IZX_CTRL, 0xA0000, 0x0, 1, 0x0, 1, false, false, 0xFFFF0001, 0x0, 0x0, 0x0, 0x3C0001⟩,
  ⟨.IZX_BOOT_TAG, 0xA0004, 0x0, 1, 0x0, 1, false, false, 0x0, 0x0, 0x0, 0x0, 0x0⟩,
  ⟨.IZX_PORT_STATUS, 0xA0010, 0x4, 2, 0x0, 1, false, false, 0x0, 0x0, 0x0, 0x0, 0x0⟩,
  ⟨.IZX_PORT_RX_ERR, 0xA0018, 0x4, 2, 0x0, 1, false, false, 0x0, 0x0, 0xFFFFFFFF, 0x0, 0x0⟩,
  ⟨.IZX_PORT_OP, 0xA0020, 0x0, 1, 0x0, 1, true, true, 0x103, 0x0, 0x0, 0x0, 0x0⟩,
  ⟨.IZX_BOX_OP, 0xA0028, 0x0, 1, 0x0, 1, true, true, 0xF03, 0x0, 0x0, 0x0, 0x0⟩,
  ⟨.IZX_BOX_STATUS, 0xA0100, 0x40, 15, 0x0, 1, false, false, 0x0, 0x0, 0x0, 0x0, 0x0⟩,
  ⟨.IZX_BOX_HIGH, 0xA0104, 0x40, 15, 0x0, 1, false, false, 0x0, 0x0, 0x0, 0x0, 0x0⟩,
  ⟨.IZX_BOX_HOST, 0xA0108, 0x40, 15, 0x0, 1, true, false, 0x0, 0x0, 0x0, 0x0, 0x0⟩,
  ⟨.IZX_BOX_WRITE, 0xA0110, 0x40, 15, 0x0, 1, false, false, 0x0, 0x0, 0x0, 0x0, 0x0⟩,
  ⟨.IZX_BOX_READ, 0xA0114, 0x40, 15, 0x0, 1, false, false, 0x0, 0x0, 0x0, 0x0, 0x0⟩,
  ⟨.IZX_BOX_RIGHTS, 0xA0118, 0x40, 15, 0x0, 1, false, false, 0x0, 0x0, 0x0, 0x0, 0x0⟩,
  ⟨.IZX_BOX_CREDITS, 0xA011C, 0x40, 15, 0x0, 1, false, false, 0x0, 0x0, 0x0, 0x0, 0x0⟩,
  ⟨.IZX_BOX_REPLAYS, 0xA0120, 0x40, 15, 0x0, 1, false, false, 0x0, 0x0, 0xFFFFFFFF, 0x0, 0x0⟩,
  ⟨.IZX_BOX_DENIED, 0xA0124, 0x40, 15, 0x0, 1, false, false, 0x0, 0x0, 0xFFFFFFFF, 0x0, 0x0⟩,
  ⟨.IZX_BOX_EVT_LOST, 0xA0128, 0x40, 15, 0x0, 1, false, false, 0x0, 0x0, 0xFFFFFFFF, 0x0, 0x0⟩,
  ⟨.IZX_BOX_EVT_SEQ, 0xA012C, 0x40, 15, 0x0, 1, false, false, 0x0, 0x0, 0x0, 0x0, 0x0⟩,
  ⟨.PRB_SEL, 0x150000, 0x4, 16, 0x0, 1, false, false, 0xBF, 0x0, 0x0, 0x0, 0x0⟩,
  ⟨.PRB_CP_CFG, 0x150080, 0x0, 1, 0x0, 1, false, false, 0xFFFF, 0x0, 0x0, 0x0, 0x64⟩,
  ⟨.PRB_CP_STATUS, 0x150084, 0x0, 1, 0x0, 1, false, false, 0x0, 0x0, 0x0, 0x0, 0x0⟩,
  ⟨.PRB_CP_WMASK, 0x150088, 0x0, 1, 0x0, 1, false, false, 0x0, 0x0, 0x0, 0x0, 0x0⟩,
  ⟨.PRB_CP_FAULT, 0x150090, 0x0, 1, 0x0, 1, true, false, 0x0, 0x0, 0x0, 0x0, 0x0⟩,
  ⟨.PRB_SLAVE_TIMEOUTS, 0x150098, 0x0, 1, 0x0, 1, false, false, 0x0, 0x0, 0xFFFFFFFF, 0x0, 0x0⟩,
  ⟨.PRB_USER_EVT, 0x1500A0, 0x0, 1, 0x0, 1, false, false, 0x0, 0x0, 0x0, 0x0, 0x0⟩,
  ⟨.CFG_REFUSE_WIRE_0, 0x60900, 0x0, 1, 0x0, 1, false, false, 0x0, 0x0, 0x0, 0x0, 0x0⟩,
  ⟨.CFG_REFUSE_WIRE_1, 0x60904, 0x0, 1, 0x0, 1, false, false, 0x0, 0x0, 0x0, 0x0, 0x0⟩,
  ⟨.CFG_STATUS, 0x60000, 0x0, 1, 0x0, 1, false, false, 0x0, 0x0, 0x0, 0x0, 0x0⟩,
  ⟨.CFG_PLANE_SEL, 0x60008, 0x0, 1, 0x0, 1, true, true, 0x3, 0x0, 0x0, 0x0, 0x0⟩,
  ⟨.CFG_STAGE_OP, 0x60010, 0x0, 1, 0x0, 1, true, true, 0x3, 0x0, 0x0, 0x0, 0x0⟩,
  ⟨.CFG_SCENE_OP, 0x60018, 0x0, 1, 0x0, 1, true, true, 0xFFFF001B, 0x0, 0x0, 0x0, 0x0⟩,
  ⟨.CFG_STAGE_CTRL, 0x60020, 0x0, 1, 0x0, 1, false, false, 0x3, 0x0, 0x0, 0x0, 0x0⟩]

def regRows6 : List RegRow := [
  ⟨.CFG_STAGE_ADDR, 0x60028, 0x0, 1, 0x0, 1, true, false, 0xFFFFFFFFFFFFFFFF, 0x0, 0x0, 0x0, 0x0⟩,
  ⟨.CFG_STAGE_LEN, 0x60030, 0x0, 1, 0x0, 1, false, false, 0xFFFFFFFF, 0x0, 0x0, 0x0, 0x0⟩,
  ⟨.CFG_STAGE_STATUS, 0x60034, 0x0, 1, 0x0, 1, false, false, 0x0, 0x0, 0x0, 0x0, 0x0⟩,
  ⟨.CFG_ARM_STATUS, 0x60038, 0x0, 1, 0x0, 1, false, false, 0x0, 0x0, 0x0, 0x0, 0x0⟩,
  ⟨.CFG_ARM_TIMEOUT, 0x6003C, 0x0, 1, 0x0, 1, false, false, 0xFFFFFFFF, 0x0, 0x0, 0x0, 0x3E8⟩,
  ⟨.CFG_SWAP_TIME, 0x60040, 0x0, 1, 0x0, 1, false, false, 0x0, 0x0, 0x0, 0x0, 0x0⟩,
  ⟨.CFG_CYCLES, 0x60044, 0x0, 1, 0x0, 1, false, false, 0x0, 0x0, 0x0, 0x0, 0x0⟩,
  ⟨.CFG_SCENE_VERSION, 0x60048, 0x0, 1, 0x0, 1, true, false, 0x0, 0x0, 0x0, 0x0, 0x0⟩,
  ⟨.FLC_CFG, 0x50000, 0x0, 1, 0x0, 1, false, false, 0xF, 0x0, 0x0, 0x0, 0x8⟩,
  ⟨.FLC_CMD, 0x50008, 0x0, 1, 0x0, 1, true, true, 0x7, 0x0, 0x0, 0x0, 0x0⟩,
  ⟨.FLC_ADDR, 0x50010, 0x0, 1, 0x0, 1, false, false, 0xF3FFFFFF, 0x0, 0x0, 0x0, 0x0⟩,
  ⟨.FLC_DATA, 0x50020, 0x4, 4, 0x0, 1, false, false, 0xFFFFFFFF, 0x0, 0x0, 0x0, 0x0⟩,
  ⟨.FLC_RESULT, 0x50030, 0x0, 1, 0x0, 1, false, false, 0x0, 0x0, 0x0, 0x0, 0x0⟩,
  ⟨.FLC_INFO, 0x50034, 0x0, 1, 0x0, 1, false, false, 0x0, 0x0, 0x0, 0x0, 0x0⟩,
  ⟨.FLC_WEAR_THRESH, 0x50038, 0x0, 1, 0x0, 1, false, false, 0xFFFFFF00, 0x0, 0x0, 0x0, 0x18181800⟩,
  ⟨.FLC_BAD, 0x5003C, 0x0, 1, 0x0, 1, false, false, 0x0, 0x0, 0x0, 0x0, 0x0⟩,
  ⟨.FLC_ECC, 0x50040, 0x0, 1, 0x0, 1, false, false, 0x0, 0x0, 0xFFFFFFFF, 0x0, 0x0⟩,
  ⟨.DMC_STATUS, 0x80000, 0x10000, 2, 0x0, 1, false, false, 0x0, 0x0, 0x0, 0x0, 0x0⟩,
  ⟨.DMC_CFG, 0x80004, 0x10000, 2, 0x0, 1, false, false, 0xFFFFFFFF, 0x0, 0x0, 0x0, 0x55525F8A⟩,
  ⟨.DMC_MODULE, 0x80008, 0x10000, 2, 0x0, 1, false, false, 0x0, 0x0, 0x0, 0x0, 0x0⟩,
  ⟨.DMC_TEMP, 0x8000C, 0x10000, 2, 0x0, 1, false, false, 0x0, 0x0, 0x0, 0x0, 0x0⟩,
  ⟨.DMC_REFRESH, 0x80010, 0x10000, 2, 0x0, 1, false, false, 0x0, 0x0, 0x0, 0x0, 0x0⟩,
  ⟨.DMC_RECOVER_MAX, 0x80014, 0x10000, 2, 0x0, 1, false, false, 0x0, 0x0, 0xFFFFFFFF, 0x0, 0x0⟩,
  ⟨.DMC_RECOVER_COUNT, 0x80018, 0x10000, 2, 0x0, 1, false, false, 0x0, 0x0, 0xFFFFFFFF, 0x0, 0x0⟩,
  ⟨.DMC_ECC_COUNT, 0x8001C, 0x10000, 2, 0x0, 1, false, false, 0x0, 0x0, 0xFFFFFFFF, 0x0, 0x0⟩,
  ⟨.DMC_TRAIN, 0x80020, 0x10000, 2, 0x0, 1, false, false, 0x0, 0x0, 0x0, 0x0, 0xFF00⟩,
  ⟨.DMC_FREQ_OP, 0x80028, 0x0, 1, 0x0, 1, true, true, 0x1F3, 0x0, 0x0, 0x0, 0x0⟩,
  ⟨.DMC_FREQ_RESULT, 0x80030, 0x0, 1, 0x0, 1, false, false, 0x0, 0x0, 0x0, 0x0, 0x0⟩,
  ⟨.DMC_SHADOW, 0x80100, 0x10000, 2, 0x4, 16, false, false, 0xFFFF, 0x0, 0x0, 0x0, 0x0⟩,
  ⟨.DMC_CAP_STATUS, 0x80040, 0x10000, 2, 0x0, 1, false, false, 0x0, 0x0, 0x0, 0x0, 0x0⟩,
  ⟨.DMC_CAP_ADDR, 0x80048, 0x10000, 2, 0x0, 1, true, false, 0x0, 0x0, 0x0, 0x0, 0x0⟩,
  ⟨.DMC_CAP_SYND, 0x80050, 0x10000, 2, 0x0, 1, false, false, 0x0, 0x0, 0x0, 0x0, 0x0⟩]

def regRows7 : List RegRow := [
  ⟨.DMC_HIST_SEL, 0x80058, 0x10000, 2, 0x0, 1, false, false, 0x3F, 0x0, 0x0, 0x0, 0x0⟩,
  ⟨.DMC_HIST, 0x80060, 0x10000, 2, 0x0, 1, true, false, 0x0, 0x0, 0x0, 0x0, 0x0⟩,
  ⟨.CLK_STATUS, 0x30000, 0x0, 1, 0x0, 1, false, false, 0x0, 0x0, 0x0, 0x0, 0x0⟩,
  ⟨.CLK_REF, 0x30004, 0x0, 1, 0x0, 1, false, false, 0x0, 0x0, 0x0, 0x0, 0x0⟩,
  ⟨.CLK_PLL_CFG, 0x30100, 0x40, 8, 0x0, 1, false, false, 0xBC00FF00, 0x0, 0x0, 0x0, 0x0⟩,
  ⟨.CLK_PLL_FRAC, 0x30104, 0x40, 8, 0x0, 1, false, false, 0xFFFFFF, 0x0, 0x0, 0x0, 0x0⟩,
  ⟨.CLK_PLL_DITHER, 0x30108, 0x40, 8, 0x0, 1, false, false, 0x1FFFF, 0x0, 0x0, 0x0, 0x1A5A0⟩,
  ⟨.CLK_PLL_LOCK, 0x3010C, 0x40, 8, 0x0, 1, false, false, 0xFF3F1FFF, 0x0, 0x0, 0x0, 0x20080100⟩,
  ⟨.CLK_PLL_OUT, 0x30110, 0x40, 8, 0x0, 1, false, false, 0xFFFFFFFF, 0x0, 0x0, 0x0, 0x1010101⟩,
  ⟨.CLK_PLL_STATUS, 0x30114, 0x40, 8, 0x0, 1, false, false, 0x0, 0x0, 0x0, 0x0, 0x0⟩,
  ⟨.CLK_PLL_LOSSES, 0x30118, 0x40, 8, 0x0, 1, false, false, 0x0, 0x0, 0xFFFFFFFF, 0x0, 0x0⟩,
  ⟨.CLK_PLL_BAND_SEL, 0x30128, 0x40, 8, 0x0, 1, false, false, 0xF, 0x0, 0x0, 0x0, 0x0⟩,
  ⟨.CLK_PLL_BAND, 0x3012C, 0x40, 8, 0x0, 1, false, false, 0x0, 0x0, 0x0, 0x0, 0x0⟩,
  ⟨.CLK_PLL_OP, 0x30120, 0x40, 8, 0x0, 1, true, true, 0x3, 0x0, 0x0, 0x0, 0x0⟩,
  ⟨.CLK_DOM, 0x30800, 0x4, 64, 0x0, 1, false, false, 0x7F, 0x0, 0x0, 0x0, 0xF000050⟩,
  ⟨.PWR_STATUS, 0x20000, 0x0, 1, 0x0, 1, false, false, 0x0, 0x0, 0x0, 0x0, 0x3⟩,
  ⟨.PWR_INTERVAL_CFG, 0x20004, 0x0, 1, 0x0, 1, false, false, 0x10F, 0x0, 0x0, 0x0, 0x0⟩,
  ⟨.PWR_WAKE_EN, 0x20008, 0x0, 1, 0x0, 1, false, false, 0x3E, 0x0, 0x0, 0x0, 0x1F⟩,
  ⟨.PWR_WAKE_CAUSE, 0x2000C, 0x0, 1, 0x0, 1, false, false, 0x0, 0x3F, 0x0, 0x0, 0x0⟩,
  ⟨.PWR_ENTRY, 0x20010, 0x0, 1, 0x0, 1, false, false, 0xFFFF, 0x0, 0x0, 0x0, 0x3E8⟩,
  ⟨.PWR_WAKE_STATUS, 0x20014, 0x0, 1, 0x0, 1, false, false, 0x0, 0x0, 0x0, 0x0, 0x0⟩,
  ⟨.PWR_WAKE_TIME, 0x20018, 0x0, 1, 0x0, 1, false, false, 0x0, 0x0, 0x0, 0x0, 0x0⟩,
  ⟨.PWR_RET_STATUS, 0x20020, 0x0, 1, 0x0, 1, false, false, 0x0, 0xFF, 0x0, 0x0, 0x0⟩,
  ⟨.PWR_RET_RELEASE, 0x20028, 0x0, 1, 0x0, 1, true, true, 0xFF, 0x0, 0x0, 0x0, 0x0⟩,
  ⟨.PWR_STALL_CFG, 0x20030, 0x0, 1, 0x0, 1, false, false, 0xFFFF, 0x0, 0x0, 0x0, 0x7D0⟩,
  ⟨.PWR_STALL_MAX, 0x20034, 0x0, 1, 0x0, 1, false, false, 0x0, 0x0, 0xFFFFFFFF, 0x0, 0x0⟩,
  ⟨.PWR_OP, 0x20038, 0x0, 1, 0x0, 1, true, true, 0x3, 0x0, 0x0, 0x0, 0x0⟩,
  ⟨.AON_TIMER, 0x160000, 0x0, 1, 0x0, 1, true, false, 0x0, 0x0, 0x0, 0x0, 0x0⟩,
  ⟨.AON_ALARM, 0x160008, 0x0, 1, 0x0, 1, true, false, 0xFFFFFFFFFFFFFFFF, 0x0, 0x0, 0x0, 0x0⟩,
  ⟨.AON_RET_SEQ, 0x160010, 0x0, 1, 0x0, 1, false, false, 0x0, 0x0, 0x0, 0x0, 0x0⟩,
  ⟨.AON_SCRATCH, 0x160040, 0x4, 8, 0x0, 1, false, false, 0xFFFFFFFF, 0x0, 0x0, 0x0, 0x0⟩,
  ⟨.GPIO_IN, 0x70000, 0x4, 40, 0x0, 1, false, false, 0x0, 0x0, 0x0, 0x0, 0x0⟩]

def regRows8 : List RegRow := [
  ⟨.GPIO_OUT, 0x70100, 0x4, 40, 0x0, 1, false, false, 0xFFFF, 0x0, 0x0, 0x0, 0x0⟩,
  ⟨.GPIO_OE, 0x70200, 0x4, 40, 0x0, 1, false, false, 0xFFFF, 0x0, 0x0, 0x0, 0x0⟩,
  ⟨.GPIO_MWR, 0x70300, 0x4, 40, 0x0, 1, false, false, 0x0, 0x0, 0x0, 0xFFFFFFFF, 0x0⟩,
  ⟨.GPIO_MOE, 0x70400, 0x4, 40, 0x0, 1, false, false, 0x0, 0x0, 0x0, 0xFFFFFFFF, 0x0⟩,
  ⟨.GPIO_BANK, 0x70500, 0x4, 16, 0x0, 1, false, false, 0x0, 0x0, 0x0, 0x0, 0x0⟩,
  ⟨.GPIO_MAP_FAULT_PIN, 0x70540, 0x0, 1, 0x0, 1, false, false, 0x0, 0x0, 0x0, 0x0, 0x0⟩,
  ⟨.GPIO_PIN, 0x71000, 0x4, 640, 0x0, 1, false, false, 0x1FFFFF, 0x0, 0x0, 0x0, 0x0⟩,
  ⟨.GPIO_PAT_CFG, 0x70600, 0x20, 8, 0x0, 1, false, false, 0x803FFFFF, 0x0, 0x0, 0x0, 0x0⟩,
  ⟨.GPIO_PAT_MASK, 0x70604, 0x20, 8, 0x0, 1, false, false, 0xFFFFFFFF, 0x0, 0x0, 0x0, 0x0⟩,
  ⟨.GPIO_PAT_VALUE, 0x70608, 0x20, 8, 0x0, 1, false, false, 0xFFFFFFFF, 0x0, 0x0, 0x0, 0x0⟩,
  ⟨.GPIO_PAT_EDGE, 0x7060C, 0x20, 8, 0x0, 1, false, false, 0xFFFFFFFF, 0x0, 0x0, 0x0, 0x0⟩,
  ⟨.UART_CTRL, 0x140000, 0x100, 4, 0x0, 1, false, false, 0xB800FFFF, 0x0, 0x0, 0x0, 0x36⟩,
  ⟨.UART_STATUS, 0x140004, 0x100, 4, 0x0, 1, false, false, 0x0, 0xF, 0x0, 0x0, 0x0⟩,
  ⟨.UART_DATA, 0x140008, 0x100, 4, 0x0, 1, false, false, 0xFF, 0x0, 0x0, 0x0, 0x100⟩,
  ⟨.SPI_CTRL, 0x140400, 0x100, 4, 0x0, 1, false, false, 0xE00003FF, 0x0, 0x0, 0x0, 0x32⟩,
  ⟨.SPI_STATUS, 0x140404, 0x100, 4, 0x0, 1, false, false, 0x0, 0x1, 0x0, 0x0, 0x0⟩,
  ⟨.SPI_DATA, 0x140408, 0x100, 4, 0x0, 1, false, false, 0xFF, 0x0, 0x0, 0x0, 0x100⟩,
  ⟨.I2C_CTRL, 0x140800, 0x100, 4, 0x0, 1, false, false, 0x80000003, 0x0, 0x0, 0x0, 0x0⟩,
  ⟨.I2C_CMD, 0x140804, 0x100, 4, 0x0, 1, false, false, 0x0, 0x0, 0x0, 0x7FF, 0x0⟩,
  ⟨.I2C_STATUS, 0x140808, 0x100, 4, 0x0, 1, false, false, 0x0, 0x7, 0x0, 0x0, 0x0⟩,
  ⟨.I2C_RXDATA, 0x14080C, 0x100, 4, 0x0, 1, false, false, 0x0, 0x0, 0x0, 0x0, 0x100⟩,
  ⟨.TIMER_CTRL, 0x140C00, 0x40, 8, 0x0, 1, false, false, 0xF80000FF, 0x2000000, 0x0, 0x0, 0x0⟩,
  ⟨.TIMER_COUNT, 0x140C04, 0x40, 8, 0x0, 1, false, false, 0x0, 0x0, 0x0, 0x0, 0x0⟩,
  ⟨.TIMER_PERIOD, 0x140C08, 0x40, 8, 0x0, 1, false, false, 0xFFFFFFFF, 0x0, 0x0, 0x0, 0xFFFFFFFF⟩,
  ⟨.TIMER_COMPARE, 0x140C0C, 0x40, 8, 0x0, 1, false, false, 0xFFFFFFFF, 0x0, 0x0, 0x0, 0x0⟩,
  ⟨.TIMER_CAPTURE, 0x140C10, 0x40, 8, 0x0, 1, false, false, 0x0, 0x0, 0x0, 0x0, 0x0⟩,
  ⟨.LCY_STATUS, 0x10000, 0x0, 1, 0x0, 1, false, false, 0x0, 0x0, 0x0, 0x0, 0x0⟩,
  ⟨.LCY_COUNTER, 0x10008, 0x0, 1, 0x0, 1, true, false, 0x0, 0x0, 0x0, 0x0, 0x0⟩,
  ⟨.LCY_COUNTER_NOT, 0x10010, 0x0, 1, 0x0, 1, true, false, 0x0, 0x0, 0x0, 0x0, 0x0⟩,
  ⟨.LCY_TRANSITION, 0x10018, 0x0, 1, 0x0, 1, true, true, 0x7, 0x0, 0x0, 0x0, 0x0⟩,
  ⟨.LCY_RESULT, 0x10020, 0x0, 1, 0x0, 1, false, false, 0x0, 0x0, 0x0, 0x0, 0x0⟩,
  ⟨.LCY_TOKENS, 0x10024, 0x0, 1, 0x0, 1, false, false, 0x0, 0x0, 0x0, 0x0, 0x0⟩]

def regRows9 : List RegRow := [
  ⟨.LCY_DEBUG_OP, 0x10028, 0x0, 1, 0x0, 1, true, true, 0x3, 0x0, 0x0, 0x0, 0x0⟩,
  ⟨.LCY_NONCE, 0x10040, 0x4, 4, 0x0, 1, false, false, 0x0, 0x0, 0x0, 0x0, 0x0⟩,
  ⟨.LCY_RESP, 0x10060, 0x4, 16, 0x0, 1, false, false, 0xFFFFFFFF, 0x0, 0x0, 0x0, 0x0⟩,
  ⟨.LCY_KEY_DATA, 0x100A0, 0x4, 8, 0x0, 1, false, false, 0x0, 0x0, 0x0, 0xFFFFFFFF, 0x0⟩,
  ⟨.LCY_KEY_CRC, 0x100D0, 0x0, 1, 0x0, 1, false, false, 0xFFFFFFFF, 0x0, 0x0, 0x0, 0x0⟩,
  ⟨.LCY_KEY_OP, 0x100C0, 0x0, 1, 0x0, 1, true, true, 0xFF0F, 0x0, 0x0, 0x0, 0x0⟩,
  ⟨.LCY_KEY_STATUS, 0x100C8, 0x0, 1, 0x0, 1, false, false, 0x0, 0x0, 0x0, 0x0, 0x0⟩,
  ⟨.LCY_KEY_PUB, 0x100CC, 0x0, 1, 0x0, 1, false, false, 0x0, 0x0, 0x0, 0x0, 0x0⟩,
  ⟨.SYS_ID, 0x0, 0x0, 1, 0x0, 1, false, false, 0x0, 0x0, 0x0, 0x0, 0x84000000⟩,
  ⟨.SYS_DEVICE_ID, 0x8, 0x0, 1, 0x0, 1, true, false, 0x0, 0x0, 0x0, 0x0, 0x0⟩,
  ⟨.CUE_SRC_ROUTE, 0x40000, 0x10, 1024, 0x0, 1, false, false, 0x7FFFFFF0, 0x0, 0x0, 0x0, 0x8000⟩,
  ⟨.CUE_SRC_FLAGS, 0x40004, 0x10, 1024, 0x0, 1, false, false, 0x0, 0xFFFFFFFF, 0x0, 0x0, 0x0⟩,
  ⟨.CUE_SRC_INFO, 0x40008, 0x10, 1024, 0x0, 1, false, false, 0x0, 0x0, 0x0, 0x0, 0x0⟩,
  ⟨.CUE_SUMMARY, 0x44000, 0x4, 32, 0x0, 1, false, false, 0x0, 0x0, 0x0, 0x0, 0x0⟩,
  ⟨.CUE_CNT_SEL, 0x44080, 0x0, 1, 0x0, 1, false, false, 0xFFFF, 0x0, 0x0, 0x0, 0x0⟩,
  ⟨.CUE_CNT, 0x44084, 0x0, 1, 0x0, 1, false, false, 0x0, 0x0, 0x0, 0x0, 0x0⟩,
  ⟨.CUE_LOG_STATUS, 0x44090, 0x0, 1, 0x0, 1, false, false, 0x0, 0x0, 0x0, 0x0, 0x0⟩,
  ⟨.CUE_LOG_TOTAL, 0x44094, 0x0, 1, 0x0, 1, false, false, 0x0, 0x0, 0x0, 0x0, 0x0⟩,
  ⟨.CUE_LOG_SEL, 0x44098, 0x0, 1, 0x0, 1, false, false, 0xFFF, 0x0, 0x0, 0x0, 0x0⟩,
  ⟨.CUE_LOG_DATA, 0x440A0, 0x4, 4, 0x0, 1, false, false, 0x0, 0x0, 0x0, 0x0, 0x0⟩,
  ⟨.CUE_PIN_CFG, 0x44100, 0x4, 8, 0x0, 1, false, false, 0x8000FFFF, 0x0, 0x0, 0x0, 0x14⟩,
  ⟨.CLK_DOM_OP, 0x30900, 0x0, 1, 0x0, 1, true, true, 0x3F03, 0x0, 0x0, 0x0, 0x0⟩,
  ⟨.WQ_HOLD_ID, 0xE0058, 0x100, 16, 0x0, 1, true, false, 0x0, 0x0, 0x0, 0x0, 0x0⟩,
  ⟨.CFG_PROMPT_VERSION, 0x60808, 0x0, 1, 0x0, 1, true, false, 0x0, 0x0, 0x0, 0x0, 0x0⟩,
  ⟨.CFG_PROMPT_SEQ, 0x60810, 0x0, 1, 0x0, 1, false, false, 0x0, 0x0, 0x0, 0x0, 0x0⟩,
  ⟨.CFG_PROMPT_DIGEST, 0x60820, 0x4, 8, 0x0, 1, false, false, 0x0, 0x0, 0x0, 0x0, 0x0⟩,
  ⟨.SYS_CALL_TIME, 0x114, 0x0, 1, 0x0, 1, false, false, 0x0, 0x0, 0x0, 0x0, 0x0⟩,
  ⟨.CFG_SCENE_DIGEST, 0x60080, 0x4, 8, 0x0, 1, false, false, 0x0, 0x0, 0x0, 0x0, 0x0⟩,
  ⟨.CFG_WINGS_DIGEST, 0x600A0, 0x4, 8, 0x0, 1, false, false, 0x0, 0x0, 0x0, 0x0, 0x0⟩]

/-- Every register of the map, in the order of the chapters. -/
def regRows : List RegRow :=
  regRows0 ++ regRows1 ++ regRows2 ++ regRows3 ++ regRows4 ++ regRows5 ++ regRows6 ++ regRows7 ++ regRows8 ++ regRows9

/-- SYS_MODE, R82. -/
def F.SYS_MODE : Fld := ⟨0x100, 31, 0, 0x8000000⟩
def F.SYS_MODE_CAUSE : Fld := ⟨0x100, 27, 24, 0x8000000⟩
def F.SYS_MODE_REQ_RESULT : Fld := ⟨0x100, 23, 20, 0x8000000⟩
def F.SYS_MODE_PREV : Fld := ⟨0x100, 10, 8, 0x8000000⟩
def F.SYS_MODE_BUSY : Fld := ⟨0x100, 3, 3, 0x8000000⟩
def F.SYS_MODE_MODE : Fld := ⟨0x100, 2, 0, 0x8000000⟩
/-- SYS_MODE_REQ, R83. -/
def F.SYS_MODE_REQ : Fld := ⟨0x108, 31, 0, 0x0⟩
def F.SYS_MODE_REQ_TARGET : Fld := ⟨0x108, 2, 0, 0x0⟩
/-- SYS_CALL_STATUS, R84. -/
def F.SYS_CALL_STATUS : Fld := ⟨0x110, 31, 0, 0x0⟩
def F.SYS_CALL_STATUS_WAITING : Fld := ⟨0x110, 15, 15, 0x0⟩
def F.SYS_CALL_STATUS_PROMPT_BAD : Fld := ⟨0x110, 14, 14, 0x0⟩
def F.SYS_CALL_STATUS_JOIN_LATE : Fld := ⟨0x110, 13, 13, 0x0⟩
def F.SYS_CALL_STATUS_SOLO : Fld := ⟨0x110, 12, 12, 0x0⟩
def F.SYS_CALL_STATUS_ROLE : Fld := ⟨0x110, 11, 10, 0x0⟩
def F.SYS_CALL_STATUS_DRAM_OK_1 : Fld := ⟨0x110, 9, 9, 0x0⟩
def F.SYS_CALL_STATUS_DRAM_OK_0 : Fld := ⟨0x110, 8, 8, 0x0⟩
def F.SYS_CALL_STATUS_DONE : Fld := ⟨0x110, 4, 4, 0x0⟩
def F.SYS_CALL_STATUS_PHASE : Fld := ⟨0x110, 3, 0, 0x0⟩
/-- SYS_CALL_CTRL, R85. -/
def F.SYS_CALL_CTRL : Fld := ⟨0x118, 31, 0, 0x0⟩
def F.SYS_CALL_CTRL_CONTINUE : Fld := ⟨0x118, 2, 2, 0x0⟩
def F.SYS_CALL_CTRL_RETRY_PROMPT : Fld := ⟨0x118, 1, 1, 0x0⟩
def F.SYS_CALL_CTRL_STOP_BEFORE_ARM : Fld := ⟨0x118, 0, 0, 0x0⟩
/-- SYS_RESET_CAUSE, R86. -/
def F.SYS_RESET_CAUSE : Fld := ⟨0x120, 31, 0, 0x1⟩
def F.SYS_RESET_CAUSE_PRINT_PATH : Fld := ⟨0x120, 6, 6, 0x1⟩
def F.SYS_RESET_CAUSE_WARM : Fld := ⟨0x120, 5, 5, 0x1⟩
def F.SYS_RESET_CAUSE_REQUEST_COLD : Fld := ⟨0x120, 4, 4, 0x1⟩
def F.SYS_RESET_CAUSE_WATCHDOG : Fld := ⟨0x120, 3, 3, 0x1⟩
def F.SYS_RESET_CAUSE_PIN : Fld := ⟨0x120, 2, 2, 0x1⟩
def F.SYS_RESET_CAUSE_BROWN_OUT : Fld := ⟨0x120, 1, 1, 0x1⟩
def F.SYS_RESET_CAUSE_POWER_ON : Fld := ⟨0x120, 0, 0, 0x1⟩
/-- SYS_RESET_REQ, R87. -/
def F.SYS_RESET_REQ : Fld := ⟨0x128, 31, 0, 0x0⟩
def F.SYS_RESET_REQ_KIND : Fld := ⟨0x128, 1, 0, 0x0⟩
/-- TRK_CTRL_n, R127. -/
def F.TRK_CTRL (i : Nat) : Fld := ⟨0xD0000 + 0x800 * i, 31, 0, 0x0⟩
def F.TRK_CTRL_MARK_ON_STEP (i : Nat) : Fld := ⟨0xD0000 + 0x800 * i, 2, 2, 0x0⟩
def F.TRK_CTRL_KEEP_IN_INTERVAL (i : Nat) : Fld := ⟨0xD0000 + 0x800 * i, 1, 1, 0x0⟩
def F.TRK_CTRL_ENABLE (i : Nat) : Fld := ⟨0xD0000 + 0x800 * i, 0, 0, 0x0⟩
/-- TRK_STATUS_n, R128. -/
def F.TRK_STATUS (i : Nat) : Fld := ⟨0xD0004 + 0x800 * i, 31, 0, 0x0⟩
def F.TRK_STATUS_MULT (i : Nat) : Fld := ⟨0xD0004 + 0x800 * i, 31, 27, 0x0⟩
def F.TRK_STATUS_LOSS_CAUSE (i : Nat) : Fld := ⟨0xD0004 + 0x800 * i, 13, 12, 0x0⟩
def F.TRK_STATUS_CFG_PENDING (i : Nat) : Fld := ⟨0xD0004 + 0x800 * i, 11, 11, 0x0⟩
def F.TRK_STATUS_OVERSPEED (i : Nat) : Fld := ⟨0xD0004 + 0x800 * i, 10, 10, 0x0⟩
def F.TRK_STATUS_REVERSE (i : Nat) : Fld := ⟨0xD0004 + 0x800 * i, 9, 9, 0x0⟩
def F.TRK_STATUS_REHEARSING (i : Nat) : Fld := ⟨0xD0004 + 0x800 * i, 8, 8, 0x0⟩
def F.TRK_STATUS_LOCKED_ONCE (i : Nat) : Fld := ⟨0xD0004 + 0x800 * i, 7, 7, 0x0⟩
def F.TRK_STATUS_ARMED (i : Nat) : Fld := ⟨0xD0004 + 0x800 * i, 6, 6, 0x0⟩
def F.TRK_STATUS_DIRECTION (i : Nat) : Fld := ⟨0xD0004 + 0x800 * i, 5, 5, 0x0⟩
def F.TRK_STATUS_STATE (i : Nat) : Fld := ⟨0xD0004 + 0x800 * i, 1, 0, 0x0⟩
/-- TRK_INPUT_n, R129. -/
def F.TRK_INPUT (i : Nat) : Fld := ⟨0xD0008 + 0x800 * i, 31, 0, 0x100000⟩
def F.TRK_INPUT_FILTER (i : Nat) : Fld := ⟨0xD0008 + 0x800 * i, 23, 16, 0x100000⟩
def F.TRK_INPUT_Z_MODE (i : Nat) : Fld := ⟨0xD0008 + 0x800 * i, 9, 8, 0x100000⟩
def F.TRK_INPUT_DIR_INVERT (i : Nat) : Fld := ⟨0xD0008 + 0x800 * i, 2, 2, 0x100000⟩
def F.TRK_INPUT_STD (i : Nat) : Fld := ⟨0xD0008 + 0x800 * i, 0, 0, 0x100000⟩
/-- TRK_PITCH_n, R130. -/
def F.TRK_PITCH (i : Nat) : Fld := ⟨0xD000C + 0x800 * i, 31, 0, 0x1000⟩
def F.TRK_PITCH_EDGES (i : Nat) : Fld := ⟨0xD000C + 0x800 * i, 31, 12, 0x1000⟩
def F.TRK_PITCH_SUBPITCH (i : Nat) : Fld := ⟨0xD000C + 0x800 * i, 11, 0, 0x1000⟩
/-- TRK_POS_n, R131. -/
def F.TRK_POS (i : Nat) : Fld := ⟨0xD0010 + 0x800 * i, 63, 0, 0x0⟩
def F.TRK_POS_EDGES (i : Nat) : Fld := ⟨0xD0010 + 0x800 * i, 59, 12, 0x0⟩
def F.TRK_POS_SUBPITCH (i : Nat) : Fld := ⟨0xD0010 + 0x800 * i, 11, 0, 0x0⟩
/-- TRK_HWM_n, R131. -/
def F.TRK_HWM (i : Nat) : Fld := ⟨0xD0018 + 0x800 * i, 63, 0, 0x0⟩
def F.TRK_HWM_EDGES (i : Nat) : Fld := ⟨0xD0018 + 0x800 * i, 59, 12, 0x0⟩
def F.TRK_HWM_SUBPITCH (i : Nat) : Fld := ⟨0xD0018 + 0x800 * i, 11, 0, 0x0⟩
/-- TRK_CUE_POS_n, R131. -/
def F.TRK_CUE_POS (i : Nat) : Fld := ⟨0xD0048 + 0x800 * i, 63, 0, 0x0⟩
def F.TRK_CUE_POS_EDGES (i : Nat) : Fld := ⟨0xD0048 + 0x800 * i, 59, 12, 0x0⟩
def F.TRK_CUE_POS_SUBPITCH (i : Nat) : Fld := ⟨0xD0048 + 0x800 * i, 11, 0, 0x0⟩
/-- TRK_VEL_n, R132. -/
def F.TRK_VEL (i : Nat) : Fld := ⟨0xD0020 + 0x800 * i, 31, 0, 0x0⟩
/-- TRK_LOCK_n, R133. -/
def F.TRK_LOCK (i : Nat) : Fld := ⟨0xD0024 + 0x800 * i, 31, 0, 0x10540200⟩
def F.TRK_LOCK_ACQ_EDGES (i : Nat) : Fld := ⟨0xD0024 + 0x800 * i, 31, 24, 0x10540200⟩
def F.TRK_LOCK_ACQ_TOL (i : Nat) : Fld := ⟨0xD0024 + 0x800 * i, 23, 20, 0x10540200⟩
def F.TRK_LOCK_STEP_MAX (i : Nat) : Fld := ⟨0xD0024 + 0x800 * i, 19, 16, 0x10540200⟩
def F.TRK_LOCK_WINDOW (i : Nat) : Fld := ⟨0xD0024 + 0x800 * i, 11, 0, 0x10540200⟩
/-- TRK_COAST_n, R134. -/
def F.TRK_COAST (i : Nat) : Fld := ⟨0xD0028 + 0x800 * i, 31, 0, 0x400020⟩
def F.TRK_COAST_DISTANCE (i : Nat) : Fld := ⟨0xD0028 + 0x800 * i, 31, 16, 0x400020⟩
def F.TRK_COAST_MARK (i : Nat) : Fld := ⟨0xD0028 + 0x800 * i, 15, 15, 0x400020⟩
def F.TRK_COAST_TIMEOUT (i : Nat) : Fld := ⟨0xD0028 + 0x800 * i, 7, 0, 0x400020⟩
/-- TRK_DECEL_n, R135. -/
def F.TRK_DECEL (i : Nat) : Fld := ⟨0xD002C + 0x800 * i, 31, 0, 0x0⟩
/-- TRK_REJOIN_n, R136. -/
def F.TRK_REJOIN (i : Nat) : Fld := ⟨0xD0030 + 0x800 * i, 31, 0, 0x40000100⟩
def F.TRK_REJOIN_ABSORB (i : Nat) : Fld := ⟨0xD0030 + 0x800 * i, 31, 16, 0x40000100⟩
def F.TRK_REJOIN_SLEW (i : Nat) : Fld := ⟨0xD0030 + 0x800 * i, 11, 0, 0x40000100⟩
/-- TRK_JUMP_n, R137. -/
def F.TRK_JUMP (i : Nat) : Fld := ⟨0xD0034 + 0x800 * i, 31, 0, 0x0⟩
/-- TRK_REV_n, R138. -/
def F.TRK_REV (i : Nat) : Fld := ⟨0xD0038 + 0x800 * i, 31, 0, 0x4⟩
def F.TRK_REV_TOLERANCE (i : Nat) : Fld := ⟨0xD0038 + 0x800 * i, 15, 0, 0x4⟩
/-- TRK_SCHED_n, R139. -/
def F.TRK_SCHED (i : Nat) : Fld := ⟨0xD003C + 0x800 * i, 31, 0, 0x40100C8⟩
def F.TRK_SCHED_COMPOSE_AHEAD (i : Nat) : Fld := ⟨0xD003C + 0x800 * i, 31, 20, 0x40100C8⟩
def F.TRK_SCHED_OVERSPEED_TOL (i : Nat) : Fld := ⟨0xD003C + 0x800 * i, 19, 12, 0x40100C8⟩
def F.TRK_SCHED_MIN_SPACING (i : Nat) : Fld := ⟨0xD003C + 0x800 * i, 11, 0, 0x40100C8⟩
/-- TRK_CUE_n, R140. -/
def F.TRK_CUE (i : Nat) : Fld := ⟨0xD0040 + 0x800 * i, 31, 0, 0x10⟩
def F.TRK_CUE_LOCKOUT (i : Nat) : Fld := ⟨0xD0040 + 0x800 * i, 31, 16, 0x10⟩
def F.TRK_CUE_DEBOUNCE (i : Nat) : Fld := ⟨0xD0040 + 0x800 * i, 15, 4, 0x10⟩
def F.TRK_CUE_BIND_SEL (i : Nat) : Fld := ⟨0xD0040 + 0x800 * i, 2, 0, 0x10⟩
/-- TRK_CUE_CFG_n, R141. -/
def F.TRK_CUE_CFG (i : Nat) : Fld := ⟨0xD0044 + 0x800 * i, 31, 0, 0x0⟩
def F.TRK_CUE_CFG_EN_7 (i : Nat) : Fld := ⟨0xD0044 + 0x800 * i, 31, 31, 0x0⟩
def F.TRK_CUE_CFG_EDGE_7 (i : Nat) : Fld := ⟨0xD0044 + 0x800 * i, 30, 30, 0x0⟩
def F.TRK_CUE_CFG_ROLE_7 (i : Nat) : Fld := ⟨0xD0044 + 0x800 * i, 29, 28, 0x0⟩
def F.TRK_CUE_CFG_EN_6 (i : Nat) : Fld := ⟨0xD0044 + 0x800 * i, 27, 27, 0x0⟩
def F.TRK_CUE_CFG_EDGE_6 (i : Nat) : Fld := ⟨0xD0044 + 0x800 * i, 26, 26, 0x0⟩
def F.TRK_CUE_CFG_ROLE_6 (i : Nat) : Fld := ⟨0xD0044 + 0x800 * i, 25, 24, 0x0⟩
def F.TRK_CUE_CFG_EN_5 (i : Nat) : Fld := ⟨0xD0044 + 0x800 * i, 23, 23, 0x0⟩
def F.TRK_CUE_CFG_EDGE_5 (i : Nat) : Fld := ⟨0xD0044 + 0x800 * i, 22, 22, 0x0⟩
def F.TRK_CUE_CFG_ROLE_5 (i : Nat) : Fld := ⟨0xD0044 + 0x800 * i, 21, 20, 0x0⟩
def F.TRK_CUE_CFG_EN_4 (i : Nat) : Fld := ⟨0xD0044 + 0x800 * i, 19, 19, 0x0⟩
def F.TRK_CUE_CFG_EDGE_4 (i : Nat) : Fld := ⟨0xD0044 + 0x800 * i, 18, 18, 0x0⟩
def F.TRK_CUE_CFG_ROLE_4 (i : Nat) : Fld := ⟨0xD0044 + 0x800 * i, 17, 16, 0x0⟩
def F.TRK_CUE_CFG_EN_3 (i : Nat) : Fld := ⟨0xD0044 + 0x800 * i, 15, 15, 0x0⟩
def F.TRK_CUE_CFG_EDGE_3 (i : Nat) : Fld := ⟨0xD0044 + 0x800 * i, 14, 14, 0x0⟩
def F.TRK_CUE_CFG_ROLE_3 (i : Nat) : Fld := ⟨0xD0044 + 0x800 * i, 13, 12, 0x0⟩
def F.TRK_CUE_CFG_EN_2 (i : Nat) : Fld := ⟨0xD0044 + 0x800 * i, 11, 11, 0x0⟩
def F.TRK_CUE_CFG_EDGE_2 (i : Nat) : Fld := ⟨0xD0044 + 0x800 * i, 10, 10, 0x0⟩
def F.TRK_CUE_CFG_ROLE_2 (i : Nat) : Fld := ⟨0xD0044 + 0x800 * i, 9, 8, 0x0⟩
def F.TRK_CUE_CFG_EN_1 (i : Nat) : Fld := ⟨0xD0044 + 0x800 * i, 7, 7, 0x0⟩
def F.TRK_CUE_CFG_EDGE_1 (i : Nat) : Fld := ⟨0xD0044 + 0x800 * i, 6, 6, 0x0⟩
def F.TRK_CUE_CFG_ROLE_1 (i : Nat) : Fld := ⟨0xD0044 + 0x800 * i, 5, 4, 0x0⟩
def F.TRK_CUE_CFG_EN_0 (i : Nat) : Fld := ⟨0xD0044 + 0x800 * i, 3, 3, 0x0⟩
def F.TRK_CUE_CFG_EDGE_0 (i : Nat) : Fld := ⟨0xD0044 + 0x800 * i, 2, 2, 0x0⟩
def F.TRK_CUE_CFG_ROLE_0 (i : Nat) : Fld := ⟨0xD0044 + 0x800 * i, 1, 0, 0x0⟩
/-- TRK_Z_n, R142. -/
def F.TRK_Z (i : Nat) : Fld := ⟨0xD0050 + 0x800 * i, 31, 0, 0x0⟩
/-- WQ_STATUS_n, R185. -/
def F.WQ_STATUS (i : Nat) : Fld := ⟨0xE0000 + 0x100 * i, 31, 0, 0x0⟩
def F.WQ_STATUS_COMMITTING (i : Nat) : Fld := ⟨0xE0000 + 0x100 * i, 31, 25, 0x0⟩
def F.WQ_STATUS_HEAD_VALID (i : Nat) : Fld := ⟨0xE0000 + 0x100 * i, 24, 24, 0x0⟩
def F.WQ_STATUS_CEILING_WAIT (i : Nat) : Fld := ⟨0xE0000 + 0x100 * i, 23, 23, 0x0⟩
def F.WQ_STATUS_JOURNAL_BUSY (i : Nat) : Fld := ⟨0xE0000 + 0x100 * i, 22, 22, 0x0⟩
def F.WQ_STATUS_RETRY_HOLD (i : Nat) : Fld := ⟨0xE0000 + 0x100 * i, 21, 21, 0x0⟩
def F.WQ_STATUS_OCCUPIED (i : Nat) : Fld := ⟨0xE0000 + 0x100 * i, 16, 0, 0x0⟩
/-- WQ_ACC_HWM_n, R186. -/
def F.WQ_ACC_HWM (i : Nat) : Fld := ⟨0xE0008 + 0x100 * i, 63, 0, 0x0⟩
/-- WQ_FIRED_HWM_n, R186. -/
def F.WQ_FIRED_HWM (i : Nat) : Fld := ⟨0xE0010 + 0x100 * i, 63, 0, 0x0⟩
/-- WQ_HEAD_ID_n, R186. -/
def F.WQ_HEAD_ID (i : Nat) : Fld := ⟨0xE0018 + 0x100 * i, 63, 0, 0x0⟩
/-- WQ_CEILING_n, R186. -/
def F.WQ_CEILING (i : Nat) : Fld := ⟨0xE0020 + 0x100 * i, 63, 0, 0x0⟩
/-- WQ_REC_FIRED_n, R186. -/
def F.WQ_REC_FIRED (i : Nat) : Fld := ⟨0xE0028 + 0x100 * i, 63, 0, 0x0⟩
/-- WQ_REC_CEIL_n, R186. -/
def F.WQ_REC_CEIL (i : Nat) : Fld := ⟨0xE0030 + 0x100 * i, 63, 0, 0x0⟩
/-- WQ_REC_STATUS_n, R187. -/
def F.WQ_REC_STATUS (i : Nat) : Fld := ⟨0xE0038 + 0x100 * i, 31, 0, 0x0⟩
def F.WQ_REC_STATUS_EXACT (i : Nat) : Fld := ⟨0xE0038 + 0x100 * i, 3, 3, 0x0⟩
def F.WQ_REC_STATUS_SOURCE (i : Nat) : Fld := ⟨0xE0038 + 0x100 * i, 2, 0, 0x0⟩
/-- WQ_CFG_n, R188. -/
def F.WQ_CFG (i : Nat) : Fld := ⟨0xE0040 + 0x100 * i, 31, 0, 0x6400⟩
def F.WQ_CFG_STARVE_LAYOUT (i : Nat) : Fld := ⟨0xE0040 + 0x100 * i, 31, 16, 0x6400⟩
def F.WQ_CFG_RETRY_HOLD (i : Nat) : Fld := ⟨0xE0040 + 0x100 * i, 15, 8, 0x6400⟩
def F.WQ_CFG_STARVE_PRINT (i : Nat) : Fld := ⟨0xE0040 + 0x100 * i, 0, 0, 0x6400⟩
/-- WQ_FLUSH_n, R189. -/
def F.WQ_FLUSH (i : Nat) : Fld := ⟨0xE0048 + 0x100 * i, 31, 0, 0x0⟩
def F.WQ_FLUSH_SCOPE (i : Nat) : Fld := ⟨0xE0048 + 0x100 * i, 1, 0, 0x0⟩
/-- WQ_STARVED_n, R190. -/
def F.WQ_STARVED (i : Nat) : Fld := ⟨0xE0050 + 0x100 * i, 31, 0, 0x0⟩
/-- WQ_STARVE_OFFSET_n, R768. -/
def F.WQ_STARVE_OFFSET (i : Nat) : Fld := ⟨0xE0060 + 0x100 * i, 31, 0, 0x0⟩
/-- CFG_PROMPT_STATUS, R191. -/
def F.CFG_PROMPT_STATUS : Fld := ⟨0x60800, 31, 0, 0x0⟩
def F.CFG_PROMPT_STATUS_FAIL_SECTION : Fld := ⟨0x60800, 31, 24, 0x0⟩
def F.CFG_PROMPT_STATUS_FAIL_CHECK : Fld := ⟨0x60800, 23, 16, 0x0⟩
def F.CFG_PROMPT_STATUS_FAIL_SLOT : Fld := ⟨0x60800, 10, 10, 0x0⟩
def F.CFG_PROMPT_STATUS_SLOT1_OK : Fld := ⟨0x60800, 9, 9, 0x0⟩
def F.CFG_PROMPT_STATUS_SLOT0_OK : Fld := ⟨0x60800, 8, 8, 0x0⟩
def F.CFG_PROMPT_STATUS_SLOT : Fld := ⟨0x60800, 4, 4, 0x0⟩
def F.CFG_PROMPT_STATUS_IMPORTED : Fld := ⟨0x60800, 0, 0, 0x0⟩
/-- FRG_CTRL, R243. -/
def F.FRG_CTRL : Fld := ⟨0x100000, 31, 0, 0xFF⟩
def F.FRG_CTRL_PIPE_EN : Fld := ⟨0x100000, 7, 0, 0xFF⟩
/-- FRG_STATUS, R244. -/
def F.FRG_STATUS : Fld := ⟨0x100004, 31, 0, 0x0⟩
def F.FRG_STATUS_PIPE_FAULTED : Fld := ⟨0x100004, 31, 24, 0x0⟩
def F.FRG_STATUS_PIPE_BUSY : Fld := ⟨0x100004, 23, 16, 0x0⟩
def F.FRG_STATUS_QUEUED : Fld := ⟨0x100004, 12, 0, 0x0⟩
/-- FRG_BUDGET, R245. -/
def F.FRG_BUDGET : Fld := ⟨0x100008, 31, 0, 0xFAC00400⟩
def F.FRG_BUDGET_UTIL : Fld := ⟨0x100008, 31, 24, 0xFAC00400⟩
def F.FRG_BUDGET_DRAM_SHARE : Fld := ⟨0x100008, 23, 18, 0xFAC00400⟩
def F.FRG_BUDGET_DOWNSTREAM : Fld := ⟨0x100008, 15, 8, 0xFAC00400⟩
/-- FRG_ADMIT_CYCLES, R246. -/
def F.FRG_ADMIT_CYCLES : Fld := ⟨0x100010, 63, 0, 0x0⟩
/-- FRG_ADMIT_DRAM, R246. -/
def F.FRG_ADMIT_DRAM : Fld := ⟨0x100018, 63, 0, 0x0⟩
/-- FRG_CAP_CYCLES, R246. -/
def F.FRG_CAP_CYCLES : Fld := ⟨0x100020, 63, 0, 0x0⟩
/-- FRG_CAP_DRAM, R246. -/
def F.FRG_CAP_DRAM : Fld := ⟨0x100028, 63, 0, 0x0⟩
/-- FRG_LAYOUT_ADDR, R247. -/
def F.FRG_LAYOUT_ADDR : Fld := ⟨0x100030, 31, 0, 0x0⟩
/-- FRG_LAYOUT_OP, R248. -/
def F.FRG_LAYOUT_OP : Fld := ⟨0x100038, 31, 0, 0x0⟩
def F.FRG_LAYOUT_OP_OP : Fld := ⟨0x100038, 21, 20, 0x0⟩
def F.FRG_LAYOUT_OP_TRACK : Fld := ⟨0x100038, 19, 16, 0x0⟩
def F.FRG_LAYOUT_OP_LAYOUT_ID : Fld := ⟨0x100038, 15, 0, 0x0⟩
/-- FRG_LAYOUT_RESULT, R249. -/
def F.FRG_LAYOUT_RESULT : Fld := ⟨0x100040, 31, 0, 0xFF0000⟩
def F.FRG_LAYOUT_RESULT_CODE : Fld := ⟨0x100040, 31, 24, 0xFF0000⟩
def F.FRG_LAYOUT_RESULT_STAMP : Fld := ⟨0x100040, 23, 16, 0xFF0000⟩
def F.FRG_LAYOUT_RESULT_BUSY : Fld := ⟨0x100040, 0, 0, 0xFF0000⟩
/-- FRG_LAYOUT_CMAX, R250. -/
def F.FRG_LAYOUT_CMAX : Fld := ⟨0x100044, 31, 0, 0x0⟩
/-- FRG_LAYOUT_COUNT, R250. -/
def F.FRG_LAYOUT_COUNT : Fld := ⟨0x100048, 31, 0, 0x0⟩
def F.FRG_LAYOUT_COUNT_RETIRING : Fld := ⟨0x100048, 26, 16, 0x0⟩
def F.FRG_LAYOUT_COUNT_INSTALLED : Fld := ⟨0x100048, 10, 0, 0x0⟩
/-- FRG_CACHE_CFG, R251. -/
def F.FRG_CACHE_CFG : Fld := ⟨0x100050, 31, 0, 0x8⟩
def F.FRG_CACHE_CFG_PIN_WAYS : Fld := ⟨0x100050, 3, 0, 0x8⟩
/-- FRG_CACHE_PINNED, R252. -/
def F.FRG_CACHE_PINNED : Fld := ⟨0x100054, 31, 0, 0x0⟩
def F.FRG_CACHE_PINNED_UNITS : Fld := ⟨0x100054, 17, 0, 0x0⟩
/-- FRG_CACHE_HITS, R252. -/
def F.FRG_CACHE_HITS : Fld := ⟨0x100058, 31, 0, 0x0⟩
/-- FRG_CACHE_MISSES, R252. -/
def F.FRG_CACHE_MISSES : Fld := ⟨0x10005C, 31, 0, 0x0⟩
/-- FRG_REFUSE, R253. -/
def F.FRG_REFUSE : Fld := ⟨0x100060, 31, 0, 0x0⟩
def F.FRG_REFUSE_CODE : Fld := ⟨0x100060, 31, 24, 0x0⟩
def F.FRG_REFUSE_TRACK : Fld := ⟨0x100060, 23, 20, 0x0⟩
def F.FRG_REFUSE_TAP : Fld := ⟨0x100060, 19, 16, 0x0⟩
def F.FRG_REFUSE_SOURCE : Fld := ⟨0x100060, 3, 0, 0x0⟩
/-- FRG_TAP_CTRL_k, R254. -/
def F.FRG_TAP_CTRL (i : Nat) : Fld := ⟨0x100080 + 0x4 * i, 31, 0, 0x0⟩
def F.FRG_TAP_CTRL_TRACKS (i : Nat) : Fld := ⟨0x100080 + 0x4 * i, 31, 16, 0x0⟩
def F.FRG_TAP_CTRL_MODIFY (i : Nat) : Fld := ⟨0x100080 + 0x4 * i, 1, 1, 0x0⟩
def F.FRG_TAP_CTRL_EN (i : Nat) : Fld := ⟨0x100080 + 0x4 * i, 0, 0, 0x0⟩
/-- FRG_TAP_GAPS_k, R254. -/
def F.FRG_TAP_GAPS (i : Nat) : Fld := ⟨0x1000A0 + 0x4 * i, 31, 0, 0x0⟩
/-- FRG_TRK_CMAX_n, R255. -/
def F.FRG_TRK_CMAX (i : Nat) : Fld := ⟨0x100100 + 0x10 * i, 31, 0, 0x0⟩
/-- FRG_TRK_RATE_n, R255. -/
def F.FRG_TRK_RATE (i : Nat) : Fld := ⟨0x100104 + 0x10 * i, 31, 0, 0x0⟩
/-- FRG_TRK_DRAM_n, R255. -/
def F.FRG_TRK_DRAM (i : Nat) : Fld := ⟨0x100108 + 0x10 * i, 31, 0, 0x0⟩
/-- FRG_TRK_LATENCY_n, R255. -/
def F.FRG_TRK_LATENCY (i : Nat) : Fld := ⟨0x10010C + 0x10 * i, 31, 0, 0x0⟩
/-- FRG_VD_CTRL, R302. -/
def F.FRG_VD_CTRL : Fld := ⟨0x102000, 31, 0, 0x320000⟩
def F.FRG_VD_CTRL_SERIES_WAIT : Fld := ⟨0x102000, 31, 16, 0x320000⟩
def F.FRG_VD_CTRL_REDATE : Fld := ⟨0x102000, 0, 0, 0x320000⟩
/-- FRG_VD_STATUS, R303. -/
def F.FRG_VD_STATUS : Fld := ⟨0x102004, 31, 0, 0x0⟩
def F.FRG_VD_STATUS_PRECOMP_MAX : Fld := ⟨0x102004, 31, 16, 0x0⟩
def F.FRG_VD_STATUS_ENGINE_BUSY : Fld := ⟨0x102004, 3, 0, 0x0⟩
/-- FRG_VD_OP, R304. -/
def F.FRG_VD_OP : Fld := ⟨0x102010, 31, 0, 0x0⟩
def F.FRG_VD_OP_VECTOR : Fld := ⟨0x102010, 14, 8, 0x0⟩
def F.FRG_VD_OP_OP : Fld := ⟨0x102010, 2, 0, 0x0⟩
/-- FRG_VD_RESULT, R304. -/
def F.FRG_VD_RESULT : Fld := ⟨0x102014, 31, 0, 0x0⟩
def F.FRG_VD_RESULT_CODE : Fld := ⟨0x102014, 15, 8, 0x0⟩
def F.FRG_VD_RESULT_CMP : Fld := ⟨0x102014, 5, 4, 0x0⟩
def F.FRG_VD_RESULT_BUSY : Fld := ⟨0x102014, 0, 0, 0x0⟩
/-- FRG_VD_BIN_w, R305. -/
def F.FRG_VD_BIN (i : Nat) : Fld := ⟨0x102020 + 0x8 * i, 63, 0, 0x0⟩
/-- FRG_VD_WORDA_w, R305. -/
def F.FRG_VD_WORDA (i : Nat) : Fld := ⟨0x102040 + 0x8 * i, 63, 0, 0x0⟩
def F.FRG_VD_WORDA_DIGITS (i : Nat) : Fld := ⟨0x102040 + 0x8 * i, 47, 0, 0x0⟩
/-- FRG_VD_WORDB_w, R305. -/
def F.FRG_VD_WORDB (i : Nat) : Fld := ⟨0x102060 + 0x8 * i, 63, 0, 0x0⟩
def F.FRG_VD_WORDB_DIGITS (i : Nat) : Fld := ⟨0x102060 + 0x8 * i, 47, 0, 0x0⟩
/-- FRG_VD_CNT_k_VAL_w, R306. -/
def F.FRG_VD_CNT_VAL (i : Nat) (j : Nat) : Fld := ⟨0x102400 + 0x20 * i + 0x8 * j, 63, 0, 0x0⟩
def F.FRG_VD_CNT_VAL_DIGITS (i : Nat) (j : Nat) : Fld := ⟨0x102400 + 0x20 * i + 0x8 * j, 47, 0, 0x0⟩
/-- FRG_VD_CNT_k_CFG, R306. -/
def F.FRG_VD_CNT_CFG (i : Nat) : Fld := ⟨0x102418 + 0x20 * i, 31, 0, 0x1⟩
def F.FRG_VD_CNT_CFG_VECTOR (i : Nat) : Fld := ⟨0x102418 + 0x20 * i, 31, 25, 0x1⟩
def F.FRG_VD_CNT_CFG_STEP (i : Nat) : Fld := ⟨0x102418 + 0x20 * i, 20, 0, 0x1⟩
/-- FRG_VD_SERIES_n_NEXT_w, R307. -/
def F.FRG_VD_SERIES_NEXT (i : Nat) (j : Nat) : Fld := ⟨0x103000 + 0x40 * i + 0x8 * j, 63, 0, 0x0⟩
def F.FRG_VD_SERIES_NEXT_DIGITS (i : Nat) (j : Nat) : Fld := ⟨0x103000 + 0x40 * i + 0x8 * j, 47, 0, 0x0⟩
/-- FRG_VD_SERIES_n_END_w, R307. -/
def F.FRG_VD_SERIES_END (i : Nat) (j : Nat) : Fld := ⟨0x103018 + 0x40 * i + 0x8 * j, 63, 0, 0x0⟩
def F.FRG_VD_SERIES_END_DIGITS (i : Nat) (j : Nat) : Fld := ⟨0x103018 + 0x40 * i + 0x8 * j, 47, 0, 0x0⟩
/-- FRG_VD_SERIES_n_STATUS, R307. -/
def F.FRG_VD_SERIES_STATUS (i : Nat) : Fld := ⟨0x103030 + 0x40 * i, 31, 0, 0x0⟩
def F.FRG_VD_SERIES_STATUS_NO_LEASE (i : Nat) : Fld := ⟨0x103030 + 0x40 * i, 31, 31, 0x0⟩
def F.FRG_VD_SERIES_STATUS_WAITING (i : Nat) : Fld := ⟨0x103030 + 0x40 * i, 30, 30, 0x0⟩
def F.FRG_VD_SERIES_STATUS_PREFETCHED (i : Nat) : Fld := ⟨0x103030 + 0x40 * i, 29, 29, 0x0⟩
def F.FRG_VD_SERIES_STATUS_REMAINING (i : Nat) : Fld := ⟨0x103030 + 0x40 * i, 20, 0, 0x0⟩
/-- FRG_VD_SERIES_n_LOW_WATER, R307. -/
def F.FRG_VD_SERIES_LOW_WATER (i : Nat) : Fld := ⟨0x103034 + 0x40 * i, 31, 0, 0x100⟩
def F.FRG_VD_SERIES_LOW_WATER_VALUES (i : Nat) : Fld := ⟨0x103034 + 0x40 * i, 20, 0, 0x100⟩
/-- FRG_VD_CAL_c, R308. -/
def F.FRG_VD_CAL (i : Nat) : Fld := ⟨0x107000 + 0x40 * i, 31, 0, 0x0⟩
def F.FRG_VD_CAL_PRODUCTION_DAY (i : Nat) : Fld := ⟨0x107000 + 0x40 * i, 16, 16, 0x0⟩
def F.FRG_VD_CAL_OFFSET (i : Nat) : Fld := ⟨0x107000 + 0x40 * i, 11, 0, 0x0⟩
/-- NZC_CTRL, R335. -/
def F.NZC_CTRL : Fld := ⟨0x110000, 31, 0, 0x1⟩
def F.NZC_CTRL_MARK_DELAY_STEP : Fld := ⟨0x110000, 0, 0, 0x1⟩
/-- NZC_STATUS, R336. -/
def F.NZC_STATUS : Fld := ⟨0x110004, 31, 0, 0x0⟩
def F.NZC_STATUS_ENGINE_BUSY : Fld := ⟨0x110004, 15, 8, 0x0⟩
def F.NZC_STATUS_ACTIVE_BAD : Fld := ⟨0x110004, 6, 6, 0x0⟩
def F.NZC_STATUS_MAP_SOURCE : Fld := ⟨0x110004, 5, 5, 0x0⟩
def F.NZC_STATUS_BUSY : Fld := ⟨0x110004, 4, 4, 0x0⟩
def F.NZC_STATUS_SHADOW : Fld := ⟨0x110004, 2, 1, 0x0⟩
def F.NZC_STATUS_ACTIVE_PAGE : Fld := ⟨0x110004, 0, 0, 0x0⟩
/-- NZC_OP, R337. -/
def F.NZC_OP : Fld := ⟨0x110008, 31, 0, 0x0⟩
def F.NZC_OP_OP : Fld := ⟨0x110008, 3, 0, 0x0⟩
/-- NZC_RESULT, R338. -/
def F.NZC_RESULT : Fld := ⟨0x110010, 31, 0, 0xFFFFF⟩
def F.NZC_RESULT_CODE : Fld := ⟨0x110010, 31, 24, 0xFFFFF⟩
def F.NZC_RESULT_INDEX : Fld := ⟨0x110010, 19, 0, 0xFFFFF⟩
/-- NZC_LOAD_ADDR, R339. -/
def F.NZC_LOAD_ADDR : Fld := ⟨0x110018, 63, 0, 0x0⟩
def F.NZC_LOAD_ADDR_ADDR : Fld := ⟨0x110018, 37, 0, 0x0⟩
/-- NZC_LOAD_CFG, R339. -/
def F.NZC_LOAD_CFG : Fld := ⟨0x110020, 31, 0, 0x0⟩
def F.NZC_LOAD_CFG_KIND : Fld := ⟨0x110020, 31, 30, 0x0⟩
def F.NZC_LOAD_CFG_FIRST : Fld := ⟨0x110020, 19, 0, 0x0⟩
/-- NZC_LOAD_COUNT, R339. -/
def F.NZC_LOAD_COUNT : Fld := ⟨0x110024, 31, 0, 0x1⟩
def F.NZC_LOAD_COUNT_COUNT : Fld := ⟨0x110024, 20, 0, 0x1⟩
/-- NZC_LOAD_CRC, R339. -/
def F.NZC_LOAD_CRC : Fld := ⟨0x110028, 31, 0, 0x0⟩
/-- NZC_PATCH_INDEX, R339. -/
def F.NZC_PATCH_INDEX : Fld := ⟨0x110030, 31, 0, 0x0⟩
def F.NZC_PATCH_INDEX_INDEX : Fld := ⟨0x110030, 19, 0, 0x0⟩
/-- NZC_PATCH_ENTRY, R339. -/
def F.NZC_PATCH_ENTRY : Fld := ⟨0x110034, 31, 0, 0x0⟩
/-- NZC_READ_INDEX, R339. -/
def F.NZC_READ_INDEX : Fld := ⟨0x110040, 31, 0, 0x0⟩
def F.NZC_READ_INDEX_INDEX : Fld := ⟨0x110040, 19, 0, 0x0⟩
/-- NZC_READ_ACTIVE, R339. -/
def F.NZC_READ_ACTIVE : Fld := ⟨0x110044, 31, 0, 0x0⟩
/-- NZC_READ_SHADOW, R339. -/
def F.NZC_READ_SHADOW : Fld := ⟨0x110048, 31, 0, 0x0⟩
/-- NZC_CORRECTED, R340. -/
def F.NZC_CORRECTED : Fld := ⟨0x110050, 31, 0, 0x0⟩
/-- NZC_DELAY_USED, R340. -/
def F.NZC_DELAY_USED : Fld := ⟨0x110054, 31, 0, 0x0⟩
def F.NZC_DELAY_USED_BITS : Fld := ⟨0x110054, 25, 0, 0x0⟩
/-- NZC_SWAP_POS_n, R340. -/
def F.NZC_SWAP_POS (i : Nat) : Fld := ⟨0x110100 + 0x8 * i, 63, 0, 0x0⟩
def F.NZC_SWAP_POS_EDGES (i : Nat) : Fld := ⟨0x110100 + 0x8 * i, 59, 12, 0x0⟩
def F.NZC_SWAP_POS_SUBPITCH (i : Nat) : Fld := ⟨0x110100 + 0x8 * i, 11, 0, 0x0⟩
/-- NZC_TAIL_LOST_n, R340. -/
def F.NZC_TAIL_LOST (i : Nat) : Fld := ⟨0x110180 + 0x4 * i, 31, 0, 0x0⟩
/-- NZC_HEAD_h_A, R341. -/
def F.NZC_HEAD_A (i : Nat) : Fld := ⟨0x111000 + 0x10 * i, 31, 0, 0x0⟩
def F.NZC_HEAD_A_TRACK (i : Nat) : Fld := ⟨0x111000 + 0x10 * i, 31, 28, 0x0⟩
def F.NZC_HEAD_A_PLANE (i : Nat) : Fld := ⟨0x111000 + 0x10 * i, 27, 25, 0x0⟩
def F.NZC_HEAD_A_REVERSED (i : Nat) : Fld := ⟨0x111000 + 0x10 * i, 24, 24, 0x0⟩
def F.NZC_HEAD_A_OUT_DEPTH (i : Nat) : Fld := ⟨0x111000 + 0x10 * i, 23, 22, 0x0⟩
def F.NZC_HEAD_A_VALID (i : Nat) : Fld := ⟨0x111000 + 0x10 * i, 21, 21, 0x0⟩
def F.NZC_HEAD_A_COUNT (i : Nat) : Fld := ⟨0x111000 + 0x10 * i, 16, 0, 0x0⟩
/-- NZC_HEAD_h_B, R341. -/
def F.NZC_HEAD_B (i : Nat) : Fld := ⟨0x111004 + 0x10 * i, 31, 0, 0x0⟩
def F.NZC_HEAD_B_FIRST_NOZZLE (i : Nat) : Fld := ⟨0x111004 + 0x10 * i, 19, 0, 0x0⟩
/-- NZC_HEAD_h_C, R341. -/
def F.NZC_HEAD_C (i : Nat) : Fld := ⟨0x111008 + 0x10 * i, 31, 0, 0x0⟩
def F.NZC_HEAD_C_DELAY_LINES (i : Nat) : Fld := ⟨0x111008 + 0x10 * i, 27, 20, 0x0⟩
def F.NZC_HEAD_C_FIRST_DOT (i : Nat) : Fld := ⟨0x111008 + 0x10 * i, 19, 0, 0x0⟩
/-- STG_CTRL, R376. -/
def F.STG_CTRL : Fld := ⟨0x120000, 31, 0, 0xA03⟩
def F.STG_CTRL_FENCE_PERIOD : Fld := ⟨0x120000, 15, 8, 0xA03⟩
def F.STG_CTRL_AUTO_RETURN : Fld := ⟨0x120000, 1, 1, 0xA03⟩
def F.STG_CTRL_AUTO_RETRAIN : Fld := ⟨0x120000, 0, 0, 0xA03⟩
/-- STG_STATUS, R376. -/
def F.STG_STATUS : Fld := ⟨0x120004, 31, 0, 0x0⟩
/-- STG_OP_RESULT, R376. -/
def F.STG_OP_RESULT : Fld := ⟨0x120010, 31, 0, 0x0⟩
def F.STG_OP_RESULT_CODE : Fld := ⟨0x120010, 7, 0, 0x0⟩
/-- STG_LANE_OP, R377. -/
def F.STG_LANE_OP : Fld := ⟨0x120008, 31, 0, 0x0⟩
def F.STG_LANE_OP_LANE : Fld := ⟨0x120008, 12, 8, 0x0⟩
def F.STG_LANE_OP_OP : Fld := ⟨0x120008, 1, 0, 0x0⟩
/-- STG_QUAD_q, R378. -/
def F.STG_QUAD (i : Nat) : Fld := ⟨0x120020 + 0x4 * i, 31, 0, 0x0⟩
def F.STG_QUAD_PLL_LOCKED (i : Nat) : Fld := ⟨0x120020 + 0x4 * i, 8, 8, 0x0⟩
def F.STG_QUAD_REFCLK (i : Nat) : Fld := ⟨0x120020 + 0x4 * i, 4, 4, 0x0⟩
def F.STG_QUAD_RATE (i : Nat) : Fld := ⟨0x120020 + 0x4 * i, 3, 0, 0x0⟩
/-- STG_LANE_k_CFG, R379. -/
def F.STG_LANE_CFG (i : Nat) : Fld := ⟨0x120100 + 0x20 * i, 31, 0, 0x0⟩
def F.STG_LANE_CFG_ADVANCE (i : Nat) : Fld := ⟨0x120100 + 0x20 * i, 31, 16, 0x0⟩
def F.STG_LANE_CFG_VISION_TRACKS (i : Nat) : Fld := ⟨0x120100 + 0x20 * i, 15, 0, 0x0⟩
/-- STG_LANE_k_STATUS, R379. -/
def F.STG_LANE_STATUS (i : Nat) : Fld := ⟨0x120104 + 0x20 * i, 31, 0, 0x0⟩
def F.STG_LANE_STATUS_CAUSE (i : Nat) : Fld := ⟨0x120104 + 0x20 * i, 19, 16, 0x0⟩
def F.STG_LANE_STATUS_PARTNER (i : Nat) : Fld := ⟨0x120104 + 0x20 * i, 9, 8, 0x0⟩
def F.STG_LANE_STATUS_CARRYING_SPARE (i : Nat) : Fld := ⟨0x120104 + 0x20 * i, 6, 6, 0x0⟩
def F.STG_LANE_STATUS_FAILED_OVER (i : Nat) : Fld := ⟨0x120104 + 0x20 * i, 5, 5, 0x0⟩
def F.STG_LANE_STATUS_CREDIT_STALL (i : Nat) : Fld := ⟨0x120104 + 0x20 * i, 4, 4, 0x0⟩
def F.STG_LANE_STATUS_STATE (i : Nat) : Fld := ⟨0x120104 + 0x20 * i, 2, 0, 0x0⟩
/-- STG_LANE_k_BOARD, R379. -/
def F.STG_LANE_BOARD (i : Nat) : Fld := ⟨0x120108 + 0x20 * i, 31, 0, 0x0⟩
/-- STG_LANE_k_FILL, R379. -/
def F.STG_LANE_FILL (i : Nat) : Fld := ⟨0x12010C + 0x20 * i, 31, 0, 0x0⟩
def F.STG_LANE_FILL_BYTES (i : Nat) : Fld := ⟨0x12010C + 0x20 * i, 18, 0, 0x0⟩
/-- STG_LANE_k_DRAIN_MAX, R379. -/
def F.STG_LANE_DRAIN_MAX (i : Nat) : Fld := ⟨0x120110 + 0x20 * i, 31, 0, 0x0⟩
/-- STG_LANE_k_RX_ERR, R379. -/
def F.STG_LANE_RX_ERR (i : Nat) : Fld := ⟨0x120114 + 0x20 * i, 31, 0, 0x0⟩
/-- STG_LANE_k_CREDIT, R379. -/
def F.STG_LANE_CREDIT (i : Nat) : Fld := ⟨0x120118 + 0x20 * i, 31, 0, 0x0⟩
def F.STG_LANE_CREDIT_BLOCKS (i : Nat) : Fld := ⟨0x120118 + 0x20 * i, 15, 0, 0x0⟩
/-- STG_HEAD_h_CFG, R380. -/
def F.STG_HEAD_CFG (i : Nat) : Fld := ⟨0x122000 + 0x10 * i, 31, 0, 0xFF0000⟩
def F.STG_HEAD_CFG_LANE (i : Nat) : Fld := ⟨0x122000 + 0x10 * i, 31, 24, 0xFF0000⟩
def F.STG_HEAD_CFG_SPARE (i : Nat) : Fld := ⟨0x122000 + 0x10 * i, 23, 16, 0xFF0000⟩
def F.STG_HEAD_CFG_VALID (i : Nat) : Fld := ⟨0x122000 + 0x10 * i, 15, 15, 0xFF0000⟩
def F.STG_HEAD_CFG_LEAD_TIME (i : Nat) : Fld := ⟨0x122000 + 0x10 * i, 8, 0, 0xFF0000⟩
/-- STG_HEAD_h_LAG, R380. -/
def F.STG_HEAD_LAG (i : Nat) : Fld := ⟨0x122004 + 0x10 * i, 31, 0, 0x0⟩
/-- STG_HEAD_h_FENCE, R380. -/
def F.STG_HEAD_FENCE (i : Nat) : Fld := ⟨0x122008 + 0x10 * i, 63, 0, 0x0⟩
def F.STG_HEAD_FENCE_PORT (i : Nat) : Fld := ⟨0x122008 + 0x10 * i, 40, 40, 0x0⟩
def F.STG_HEAD_FENCE_LINE_KEY (i : Nat) : Fld := ⟨0x122008 + 0x10 * i, 39, 0, 0x0⟩
/-- FRG_DL_CTRL, R411. -/
def F.FRG_DL_CTRL : Fld := ⟨0x101000, 31, 0, 0x0⟩
def F.FRG_DL_CTRL_CO_CAUSES : Fld := ⟨0x101000, 7, 2, 0x0⟩
def F.FRG_DL_CTRL_DEFER_TO_TWIN : Fld := ⟨0x101000, 1, 1, 0x0⟩
/-- FRG_DL_STATUS, R411. -/
def F.FRG_DL_STATUS : Fld := ⟨0x101004, 31, 0, 0x0⟩
def F.FRG_DL_STATUS_STORE_FULL : Fld := ⟨0x101004, 9, 9, 0x0⟩
def F.FRG_DL_STATUS_OVERFLOW : Fld := ⟨0x101004, 8, 8, 0x0⟩
def F.FRG_DL_STATUS_UNREAD : Fld := ⟨0x101004, 6, 0, 0x0⟩
/-- FRG_DL_STORE_USED, R412. -/
def F.FRG_DL_STORE_USED : Fld := ⟨0x101008, 31, 0, 0x0⟩
def F.FRG_DL_STORE_USED_BYTES : Fld := ⟨0x101008, 24, 0, 0x0⟩
/-- FRG_DL_REC_w, R412. -/
def F.FRG_DL_REC (i : Nat) : Fld := ⟨0x101010 + 0x4 * i, 31, 0, 0x0⟩
/-- FRG_DL_POP, R412. -/
def F.FRG_DL_POP : Fld := ⟨0x101020, 31, 0, 0x0⟩
def F.FRG_DL_POP_POP : Fld := ⟨0x101020, 0, 0, 0x0⟩
/-- FRG_DL_COUNT_n, R413. -/
def F.FRG_DL_COUNT (i : Nat) : Fld := ⟨0x101100 + 0x10 * i, 31, 0, 0x0⟩
/-- FRG_DL_LAST_n, R413. -/
def F.FRG_DL_LAST (i : Nat) : Fld := ⟨0x101104 + 0x10 * i, 31, 0, 0x0⟩
def F.FRG_DL_LAST_CAUSE (i : Nat) : Fld := ⟨0x101104 + 0x10 * i, 31, 24, 0x0⟩
def F.FRG_DL_LAST_LINE_INDEX (i : Nat) : Fld := ⟨0x101104 + 0x10 * i, 23, 0, 0x0⟩
/-- FRG_DL_SLACK_n, R413. -/
def F.FRG_DL_SLACK (i : Nat) : Fld := ⟨0x101108 + 0x10 * i, 31, 0, 0xFFFFFFFF⟩
/-- INS_TRK_n_CFG, R414. -/
def F.INS_TRK_CFG (i : Nat) : Fld := ⟨0x130100 + 0x20 * i, 31, 0, 0x0⟩
def F.INS_TRK_CFG_MIN_GRADE (i : Nat) : Fld := ⟨0x130100 + 0x20 * i, 31, 24, 0x0⟩
def F.INS_TRK_CFG_STATIONS (i : Nat) : Fld := ⟨0x130100 + 0x20 * i, 7, 0, 0x0⟩
/-- INS_TRK_n_WINDOW, R414. -/
def F.INS_TRK_WINDOW (i : Nat) : Fld := ⟨0x130104 + 0x20 * i, 31, 0, 0x0⟩
/-- INS_TRK_n_PASS, R414. -/
def F.INS_TRK_PASS (i : Nat) : Fld := ⟨0x130108 + 0x20 * i, 31, 0, 0x0⟩
/-- INS_TRK_n_REJECT, R414. -/
def F.INS_TRK_REJECT (i : Nat) : Fld := ⟨0x13010C + 0x20 * i, 31, 0, 0x0⟩
/-- INS_TRK_n_MISSING, R414. -/
def F.INS_TRK_MISSING (i : Nat) : Fld := ⟨0x130110 + 0x20 * i, 31, 0, 0x0⟩
/-- INS_TRK_n_UNMATCHED, R414. -/
def F.INS_TRK_UNMATCHED (i : Nat) : Fld := ⟨0x130114 + 0x20 * i, 31, 0, 0x0⟩
/-- INS_GATE_g_CFG, R415. -/
def F.INS_GATE_CFG (i : Nat) : Fld := ⟨0x130800 + 0x10 * i, 31, 0, 0x1⟩
def F.INS_GATE_CFG_EN (i : Nat) : Fld := ⟨0x130800 + 0x10 * i, 31, 31, 0x1⟩
def F.INS_GATE_CFG_MODE (i : Nat) : Fld := ⟨0x130800 + 0x10 * i, 30, 30, 0x1⟩
def F.INS_GATE_CFG_INVERT (i : Nat) : Fld := ⟨0x130800 + 0x10 * i, 29, 29, 0x1⟩
def F.INS_GATE_CFG_ACTIVE (i : Nat) : Fld := ⟨0x130800 + 0x10 * i, 28, 28, 0x1⟩
def F.INS_GATE_CFG_TRACK (i : Nat) : Fld := ⟨0x130800 + 0x10 * i, 27, 24, 0x1⟩
def F.INS_GATE_CFG_WIDTH (i : Nat) : Fld := ⟨0x130800 + 0x10 * i, 23, 0, 0x1⟩
/-- INS_GATE_g_OFFSET, R415. -/
def F.INS_GATE_OFFSET (i : Nat) : Fld := ⟨0x130804 + 0x10 * i, 31, 0, 0x0⟩
/-- INS_GATE_g_PULSES, R415. -/
def F.INS_GATE_PULSES (i : Nat) : Fld := ⟨0x130808 + 0x10 * i, 31, 0, 0x0⟩
/-- INS_GATE_g_CANCELLED, R415. -/
def F.INS_GATE_CANCELLED (i : Nat) : Fld := ⟨0x13080C + 0x10 * i, 31, 0, 0x0⟩
/-- DPX_CFG, R456. -/
def F.DPX_CFG : Fld := ⟨0xC0000, 31, 0, 0xA0064⟩
def F.DPX_CFG_HOLDOFF : Fld := ⟨0xC0000, 23, 16, 0xA0064⟩
def F.DPX_CFG_ACK_TIMEOUT : Fld := ⟨0xC0000, 15, 0, 0xA0064⟩
/-- DPX_CO_POLICY, R456. -/
def F.DPX_CO_POLICY : Fld := ⟨0xC0004, 31, 0, 0x15⟩
def F.DPX_CO_POLICY_COMMAND : Fld := ⟨0xC0004, 4, 4, 0x15⟩
def F.DPX_CO_POLICY_FENCE_LAG : Fld := ⟨0xC0004, 3, 3, 0x15⟩
def F.DPX_CO_POLICY_LOST : Fld := ⟨0xC0004, 2, 2, 0x15⟩
def F.DPX_CO_POLICY_DEADLINE : Fld := ⟨0xC0004, 1, 1, 0x15⟩
def F.DPX_CO_POLICY_HOLD : Fld := ⟨0xC0004, 0, 0, 0x15⟩
/-- DPX_STATUS, R457. -/
def F.DPX_STATUS : Fld := ⟨0xC0008, 31, 0, 0x0⟩
def F.DPX_STATUS_ALIGNED : Fld := ⟨0xC0008, 31, 16, 0x0⟩
def F.DPX_STATUS_CUE_OK : Fld := ⟨0xC0008, 15, 15, 0x0⟩
def F.DPX_STATUS_PARTNER_MODE : Fld := ⟨0xC0008, 14, 12, 0x0⟩
def F.DPX_STATUS_WIDTH : Fld := ⟨0xC0008, 10, 8, 0x0⟩
def F.DPX_STATUS_SYNC : Fld := ⟨0xC0008, 7, 5, 0x0⟩
def F.DPX_STATUS_ISOLATED : Fld := ⟨0xC0008, 4, 4, 0x0⟩
def F.DPX_STATUS_LINK_UP : Fld := ⟨0xC0008, 3, 3, 0x0⟩
def F.DPX_STATUS_READY : Fld := ⟨0xC0008, 2, 2, 0x0⟩
def F.DPX_STATUS_ROLE : Fld := ⟨0xC0008, 1, 0, 0x0⟩
/-- DPX_CO_REQ, R458. -/
def F.DPX_CO_REQ : Fld := ⟨0xC0010, 31, 0, 0x0⟩
def F.DPX_CO_REQ_OP : Fld := ⟨0xC0010, 1, 0, 0x0⟩
/-- DPX_CO_LAST, R459. -/
def F.DPX_CO_LAST : Fld := ⟨0xC0018, 31, 0, 0x0⟩
def F.DPX_CO_LAST_CAUSE : Fld := ⟨0xC0018, 31, 28, 0x0⟩
def F.DPX_CO_LAST_RESULT : Fld := ⟨0xC0018, 27, 24, 0x0⟩
def F.DPX_CO_LAST_MARKED : Fld := ⟨0xC0018, 15, 0, 0x0⟩
/-- DPX_CO_TIME, R459. -/
def F.DPX_CO_TIME : Fld := ⟨0xC0020, 63, 0, 0x0⟩
/-- DPX_CO_COUNT, R459. -/
def F.DPX_CO_COUNT : Fld := ⟨0xC0028, 31, 0, 0x0⟩
/-- DPX_PARTNER_ID, R459. -/
def F.DPX_PARTNER_ID : Fld := ⟨0xC0030, 63, 0, 0x0⟩
/-- DPX_COMMIT, R459. -/
def F.DPX_COMMIT : Fld := ⟨0xC0038, 31, 0, 0x0⟩
def F.DPX_COMMIT_PENDING : Fld := ⟨0xC0038, 31, 24, 0x0⟩
def F.DPX_COMMIT_SEQ_LOW : Fld := ⟨0xC0038, 23, 0, 0x0⟩
/-- DPX_LINK, R459. -/
def F.DPX_LINK : Fld := ⟨0xC0040, 31, 0, 0x0⟩
def F.DPX_LINK_LANES_UP : Fld := ⟨0xC0040, 19, 16, 0x0⟩
def F.DPX_LINK_LATENCY : Fld := ⟨0xC0040, 15, 0, 0x0⟩
/-- DPX_RETRY, R459. -/
def F.DPX_RETRY : Fld := ⟨0xC0044, 31, 0, 0x0⟩
/-- LDG_STATUS, R500. -/
def F.LDG_STATUS : Fld := ⟨0xF0000, 31, 0, 0x0⟩
def F.LDG_STATUS_LOG_FAULT : Fld := ⟨0xF0000, 31, 31, 0x0⟩
def F.LDG_STATUS_TORN : Fld := ⟨0xF0000, 30, 30, 0x0⟩
def F.LDG_STATUS_COMPACTING : Fld := ⟨0xF0000, 29, 29, 0x0⟩
def F.LDG_STATUS_FREE : Fld := ⟨0xF0000, 13, 8, 0x0⟩
def F.LDG_STATUS_HEAD : Fld := ⟨0xF0000, 4, 0, 0x0⟩
/-- LDG_HEAD_SEQ, R500. -/
def F.LDG_HEAD_SEQ : Fld := ⟨0xF0004, 31, 0, 0x0⟩
/-- LDG_LIVE, R500. -/
def F.LDG_LIVE : Fld := ⟨0xF0008, 31, 0, 0x0⟩
def F.LDG_LIVE_ENTRIES : Fld := ⟨0xF0008, 11, 0, 0x0⟩
/-- LDG_WRITES, R500. -/
def F.LDG_WRITES : Fld := ⟨0xF000C, 31, 0, 0x0⟩
/-- LDG_FAULT_POS, R500. -/
def F.LDG_FAULT_POS : Fld := ⟨0xF0010, 31, 0, 0x0⟩
def F.LDG_FAULT_POS_SECTOR : Fld := ⟨0xF0010, 12, 8, 0x0⟩
def F.LDG_FAULT_POS_SLOT : Fld := ⟨0xF0010, 7, 0, 0x0⟩
/-- LDG_FLOOR_n, R500. -/
def F.LDG_FLOOR (i : Nat) : Fld := ⟨0xF0100 + 0x8 * i, 63, 0, 0x0⟩
/-- LDG_SERIES_s_LEASE, R500. -/
def F.LDG_SERIES_LEASE (i : Nat) : Fld := ⟨0xF1000 + 0x8 * i, 31, 0, 0x0⟩
/-- LDG_SERIES_s_INFO, R500. -/
def F.LDG_SERIES_INFO (i : Nat) : Fld := ⟨0xF1004 + 0x8 * i, 31, 0, 0x0⟩
def F.LDG_SERIES_INFO_CURRENT (i : Nat) : Fld := ⟨0xF1004 + 0x8 * i, 31, 31, 0x0⟩
def F.LDG_SERIES_INFO_NEXT (i : Nat) : Fld := ⟨0xF1004 + 0x8 * i, 30, 30, 0x0⟩
def F.LDG_SERIES_INFO_PARTNER (i : Nat) : Fld := ⟨0xF1004 + 0x8 * i, 29, 29, 0x0⟩
def F.LDG_SERIES_INFO_PREPARED (i : Nat) : Fld := ⟨0xF1004 + 0x8 * i, 28, 28, 0x0⟩
def F.LDG_SERIES_INFO_QUANTA (i : Nat) : Fld := ⟨0xF1004 + 0x8 * i, 15, 0, 0x0⟩
/-- LDG_RESEAL, R501. -/
def F.LDG_RESEAL : Fld := ⟨0xF0018, 31, 0, 0x0⟩
def F.LDG_RESEAL_KEY : Fld := ⟨0xF0018, 15, 0, 0x0⟩
/-- CMP_STATUS, R502. -/
def F.CMP_STATUS : Fld := ⟨0xB0000, 31, 0, 0xFFC00000⟩
def F.CMP_STATUS_SEAT : Fld := ⟨0xB0000, 31, 22, 0xFFC00000⟩
def F.CMP_STATUS_HOLD_CAUSE : Fld := ⟨0xB0000, 21, 19, 0xFFC00000⟩
def F.CMP_STATUS_VERSION_DIFF : Fld := ⟨0xB0000, 11, 11, 0xFFC00000⟩
def F.CMP_STATUS_TIME_SET : Fld := ⟨0xB0000, 10, 10, 0xFFC00000⟩
def F.CMP_STATUS_HOLDOVER : Fld := ⟨0xB0000, 9, 9, 0xFFC00000⟩
def F.CMP_STATUS_QUORUM : Fld := ⟨0xB0000, 8, 8, 0xFFC00000⟩
def F.CMP_STATUS_KEEPER : Fld := ⟨0xB0000, 7, 7, 0xFFC00000⟩
def F.CMP_STATUS_JOINED : Fld := ⟨0xB0000, 6, 6, 0xFFC00000⟩
def F.CMP_STATUS_SOLE : Fld := ⟨0xB0000, 5, 5, 0xFFC00000⟩
def F.CMP_STATUS_SLEWING : Fld := ⟨0xB0000, 2, 2, 0xFFC00000⟩
def F.CMP_STATUS_PORT1_UP : Fld := ⟨0xB0000, 1, 1, 0xFFC00000⟩
def F.CMP_STATUS_PORT0_UP : Fld := ⟨0xB0000, 0, 0, 0xFFC00000⟩
/-- CMP_KEEPER, R503. -/
def F.CMP_KEEPER : Fld := ⟨0xB0004, 31, 0, 0x3FF0000⟩
def F.CMP_KEEPER_KEEPER : Fld := ⟨0xB0004, 25, 16, 0x3FF0000⟩
def F.CMP_KEEPER_PRESENT : Fld := ⟨0xB0004, 9, 0, 0x3FF0000⟩
/-- CMP_EPOCH, R503. -/
def F.CMP_EPOCH : Fld := ⟨0xB0008, 31, 0, 0x0⟩
/-- CMP_TIME, R503. -/
def F.CMP_TIME : Fld := ⟨0xB0010, 63, 0, 0x0⟩
/-- CMP_TIME_BOUND, R503. -/
def F.CMP_TIME_BOUND : Fld := ⟨0xB0018, 31, 0, 0xFFFFFFFF⟩
/-- CMP_TIME_CFG, R503. -/
def F.CMP_TIME_CFG : Fld := ⟨0xB001C, 31, 0, 0x1F403E8⟩
def F.CMP_TIME_CFG_HOLD_PPB : Fld := ⟨0xB001C, 31, 16, 0x1F403E8⟩
def F.CMP_TIME_CFG_TOL : Fld := ⟨0xB001C, 15, 0, 0x1F403E8⟩
/-- CMP_HOLD_LIMIT, R503. -/
def F.CMP_HOLD_LIMIT : Fld := ⟨0xB0020, 31, 0, 0x7530⟩
/-- CMP_TIME_SET, R503. -/
def F.CMP_TIME_SET : Fld := ⟨0xB0028, 63, 0, 0x0⟩
/-- CMP_LINK, R503. -/
def F.CMP_LINK : Fld := ⟨0xB0038, 31, 0, 0x0⟩
def F.CMP_LINK_DELAY_1 : Fld := ⟨0xB0038, 31, 16, 0x0⟩
def F.CMP_LINK_DELAY_0 : Fld := ⟨0xB0038, 15, 0, 0x0⟩
/-- CMP_HOPS, R503. -/
def F.CMP_HOPS : Fld := ⟨0xB003C, 31, 0, 0x0⟩
def F.CMP_HOPS_HOPS_1 : Fld := ⟨0xB003C, 25, 16, 0x0⟩
def F.CMP_HOPS_HOPS_0 : Fld := ⟨0xB003C, 9, 0, 0x0⟩
/-- CMP_NOT_CAST_w, R503. -/
def F.CMP_NOT_CAST (i : Nat) : Fld := ⟨0xB0040 + 0x4 * i, 31, 0, 0x0⟩
/-- CMP_RX_ERR, R503. -/
def F.CMP_RX_ERR : Fld := ⟨0xB0060, 31, 0, 0x0⟩
/-- CMP_CAST_w, R503. -/
def F.CMP_CAST (i : Nat) : Fld := ⟨0xB0100 + 0x4 * i, 31, 0, 0x0⟩
/-- CMP_TIME_OP, R504. -/
def F.CMP_TIME_OP : Fld := ⟨0xB0030, 31, 0, 0x0⟩
def F.CMP_TIME_OP_OP : Fld := ⟨0xB0030, 1, 0, 0x0⟩
/-- IZX_CTRL, R532. -/
def F.IZX_CTRL : Fld := ⟨0xA0000, 31, 0, 0x3C0001⟩
def F.IZX_CTRL_BOX_HOLD : Fld := ⟨0xA0000, 31, 16, 0x3C0001⟩
def F.IZX_CTRL_AUTO_RETRAIN : Fld := ⟨0xA0000, 0, 0, 0x3C0001⟩
/-- IZX_BOOT_TAG, R532. -/
def F.IZX_BOOT_TAG : Fld := ⟨0xA0004, 31, 0, 0x0⟩
/-- IZX_PORT_p_STATUS, R532. -/
def F.IZX_PORT_STATUS (i : Nat) : Fld := ⟨0xA0010 + 0x4 * i, 31, 0, 0x0⟩
def F.IZX_PORT_STATUS_LANES_UP (i : Nat) : Fld := ⟨0xA0010 + 0x4 * i, 19, 16, 0x0⟩
def F.IZX_PORT_STATUS_WIDTH (i : Nat) : Fld := ⟨0xA0010 + 0x4 * i, 10, 8, 0x0⟩
def F.IZX_PORT_STATUS_CAUSE (i : Nat) : Fld := ⟨0xA0010 + 0x4 * i, 7, 4, 0x0⟩
def F.IZX_PORT_STATUS_STATE (i : Nat) : Fld := ⟨0xA0010 + 0x4 * i, 2, 0, 0x0⟩
/-- IZX_PORT_p_RX_ERR, R532. -/
def F.IZX_PORT_RX_ERR (i : Nat) : Fld := ⟨0xA0018 + 0x4 * i, 31, 0, 0x0⟩
/-- IZX_PORT_OP, R533. -/
def F.IZX_PORT_OP : Fld := ⟨0xA0020, 31, 0, 0x0⟩
def F.IZX_PORT_OP_PORT : Fld := ⟨0xA0020, 8, 8, 0x0⟩
def F.IZX_PORT_OP_OP : Fld := ⟨0xA0020, 1, 0, 0x0⟩
/-- IZX_BOX_OP, R533. -/
def F.IZX_BOX_OP : Fld := ⟨0xA0028, 31, 0, 0x0⟩
def F.IZX_BOX_OP_BOX : Fld := ⟨0xA0028, 11, 8, 0x0⟩
def F.IZX_BOX_OP_OP : Fld := ⟨0xA0028, 1, 0, 0x0⟩
/-- IZX_BOX_b_STATUS, R534. -/
def F.IZX_BOX_STATUS (i : Nat) : Fld := ⟨0xA0100 + 0x40 * i, 31, 0, 0x0⟩
def F.IZX_BOX_STATUS_OPEN (i : Nat) : Fld := ⟨0xA0100 + 0x40 * i, 31, 31, 0x0⟩
def F.IZX_BOX_STATUS_PORT (i : Nat) : Fld := ⟨0xA0100 + 0x40 * i, 30, 30, 0x0⟩
def F.IZX_BOX_STATUS_HELD (i : Nat) : Fld := ⟨0xA0100 + 0x40 * i, 29, 29, 0x0⟩
def F.IZX_BOX_STATUS_RUNNING (i : Nat) : Fld := ⟨0xA0100 + 0x40 * i, 23, 17, 0x0⟩
def F.IZX_BOX_STATUS_OUTSTANDING (i : Nat) : Fld := ⟨0xA0100 + 0x40 * i, 16, 0, 0x0⟩
/-- IZX_BOX_b_HIGH, R534. -/
def F.IZX_BOX_HIGH (i : Nat) : Fld := ⟨0xA0104 + 0x40 * i, 31, 0, 0x0⟩
/-- IZX_BOX_b_HOST, R534. -/
def F.IZX_BOX_HOST (i : Nat) : Fld := ⟨0xA0108 + 0x40 * i, 63, 0, 0x0⟩
/-- IZX_BOX_b_WRITE, R534. -/
def F.IZX_BOX_WRITE (i : Nat) : Fld := ⟨0xA0110 + 0x40 * i, 31, 0, 0x0⟩
/-- IZX_BOX_b_READ, R534. -/
def F.IZX_BOX_READ (i : Nat) : Fld := ⟨0xA0114 + 0x40 * i, 31, 0, 0x0⟩
/-- IZX_BOX_b_RIGHTS, R534. -/
def F.IZX_BOX_RIGHTS (i : Nat) : Fld := ⟨0xA0118 + 0x40 * i, 31, 0, 0x0⟩
def F.IZX_BOX_RIGHTS_TRACKS (i : Nat) : Fld := ⟨0xA0118 + 0x40 * i, 31, 16, 0x0⟩
def F.IZX_BOX_RIGHTS_DRAM (i : Nat) : Fld := ⟨0xA0118 + 0x40 * i, 15, 12, 0x0⟩
def F.IZX_BOX_RIGHTS_CMD (i : Nat) : Fld := ⟨0xA0118 + 0x40 * i, 11, 8, 0x0⟩
def F.IZX_BOX_RIGHTS_PORTS (i : Nat) : Fld := ⟨0xA0118 + 0x40 * i, 1, 0, 0x0⟩
/-- IZX_BOX_b_CREDITS, R534. -/
def F.IZX_BOX_CREDITS (i : Nat) : Fld := ⟨0xA011C + 0x40 * i, 31, 0, 0x0⟩
def F.IZX_BOX_CREDITS_BLOCKS (i : Nat) : Fld := ⟨0xA011C + 0x40 * i, 14, 0, 0x0⟩
/-- IZX_BOX_b_REPLAYS, R534. -/
def F.IZX_BOX_REPLAYS (i : Nat) : Fld := ⟨0xA0120 + 0x40 * i, 31, 0, 0x0⟩
/-- IZX_BOX_b_DENIED, R534. -/
def F.IZX_BOX_DENIED (i : Nat) : Fld := ⟨0xA0124 + 0x40 * i, 31, 0, 0x0⟩
/-- IZX_BOX_b_EVT_LOST, R534. -/
def F.IZX_BOX_EVT_LOST (i : Nat) : Fld := ⟨0xA0128 + 0x40 * i, 31, 0, 0x0⟩
/-- IZX_BOX_b_EVT_SEQ, R534. -/
def F.IZX_BOX_EVT_SEQ (i : Nat) : Fld := ⟨0xA012C + 0x40 * i, 31, 0, 0x0⟩
/-- PRB_SEL_k, R565. -/
def F.PRB_SEL (i : Nat) : Fld := ⟨0x150000 + 0x4 * i, 31, 0, 0x0⟩
def F.PRB_SEL_EN (i : Nat) : Fld := ⟨0x150000 + 0x4 * i, 7, 7, 0x0⟩
def F.PRB_SEL_POINT (i : Nat) : Fld := ⟨0x150000 + 0x4 * i, 5, 0, 0x0⟩
/-- PRB_CP_CFG, R566. -/
def F.PRB_CP_CFG : Fld := ⟨0x150080, 31, 0, 0x64⟩
def F.PRB_CP_CFG_SLAVE_TIMEOUT : Fld := ⟨0x150080, 15, 0, 0x64⟩
/-- PRB_CP_STATUS, R566. -/
def F.PRB_CP_STATUS : Fld := ⟨0x150084, 31, 0, 0x0⟩
def F.PRB_CP_STATUS_SLAVE : Fld := ⟨0x150084, 1, 1, 0x0⟩
def F.PRB_CP_STATUS_MASTER : Fld := ⟨0x150084, 0, 0, 0x0⟩
/-- PRB_CP_WMASK, R566. -/
def F.PRB_CP_WMASK : Fld := ⟨0x150088, 31, 0, 0x0⟩
def F.PRB_CP_WMASK_BLOCKS : Fld := ⟨0x150088, 22, 0, 0x0⟩
/-- PRB_CP_FAULT, R566. -/
def F.PRB_CP_FAULT : Fld := ⟨0x150090, 63, 0, 0x0⟩
def F.PRB_CP_FAULT_ADDR : Fld := ⟨0x150090, 37, 0, 0x0⟩
/-- PRB_SLAVE_TIMEOUTS, R566. -/
def F.PRB_SLAVE_TIMEOUTS : Fld := ⟨0x150098, 31, 0, 0x0⟩
/-- PRB_USER_EVT, R566. -/
def F.PRB_USER_EVT : Fld := ⟨0x1500A0, 31, 0, 0x0⟩
/-- CFG_REFUSE_WIRE_0, R567. -/
def F.CFG_REFUSE_WIRE_0 : Fld := ⟨0x60900, 31, 0, 0x0⟩
def F.CFG_REFUSE_WIRE_0_VALID : Fld := ⟨0x60900, 31, 31, 0x0⟩
def F.CFG_REFUSE_WIRE_0_CLASS : Fld := ⟨0x60900, 30, 28, 0x0⟩
def F.CFG_REFUSE_WIRE_0_X : Fld := ⟨0x60900, 27, 18, 0x0⟩
def F.CFG_REFUSE_WIRE_0_Y : Fld := ⟨0x60900, 17, 10, 0x0⟩
def F.CFG_REFUSE_WIRE_0_INDEX : Fld := ⟨0x60900, 9, 0, 0x0⟩
/-- CFG_REFUSE_WIRE_1, R567. -/
def F.CFG_REFUSE_WIRE_1 : Fld := ⟨0x60904, 31, 0, 0x0⟩
def F.CFG_REFUSE_WIRE_1_PLANE : Fld := ⟨0x60904, 31, 31, 0x0⟩
def F.CFG_REFUSE_WIRE_1_DRIVERS : Fld := ⟨0x60904, 27, 24, 0x0⟩
def F.CFG_REFUSE_WIRE_1_COUNT : Fld := ⟨0x60904, 23, 0, 0x0⟩
/-- CFG_STATUS, R599. -/
def F.CFG_STATUS : Fld := ⟨0x60000, 31, 0, 0x0⟩
def F.CFG_STATUS_WINGS : Fld := ⟨0x60000, 27, 24, 0x0⟩
def F.CFG_STATUS_SEL_RESULT : Fld := ⟨0x60000, 19, 18, 0x0⟩
def F.CFG_STATUS_ARM : Fld := ⟨0x60000, 17, 16, 0x0⟩
def F.CFG_STATUS_TRIAL : Fld := ⟨0x60000, 8, 8, 0x0⟩
def F.CFG_STATUS_SELECT_NONE : Fld := ⟨0x60000, 4, 4, 0x0⟩
def F.CFG_STATUS_ACTIVE : Fld := ⟨0x60000, 0, 0, 0x0⟩
/-- CFG_PLANE_SEL, R600. -/
def F.CFG_PLANE_SEL : Fld := ⟨0x60008, 31, 0, 0x0⟩
def F.CFG_PLANE_SEL_PLANE : Fld := ⟨0x60008, 1, 0, 0x0⟩
/-- CFG_STAGE_OP, R600. -/
def F.CFG_STAGE_OP : Fld := ⟨0x60010, 31, 0, 0x0⟩
def F.CFG_STAGE_OP_OP : Fld := ⟨0x60010, 1, 0, 0x0⟩
/-- CFG_SCENE_OP, R600. -/
def F.CFG_SCENE_OP : Fld := ⟨0x60018, 31, 0, 0x0⟩
def F.CFG_SCENE_OP_TRACKS : Fld := ⟨0x60018, 31, 16, 0x0⟩
def F.CFG_SCENE_OP_FORCE : Fld := ⟨0x60018, 4, 4, 0x0⟩
def F.CFG_SCENE_OP_TRIAL : Fld := ⟨0x60018, 3, 3, 0x0⟩
def F.CFG_SCENE_OP_OP : Fld := ⟨0x60018, 1, 0, 0x0⟩
/-- CFG_STAGE_CTRL, R601. -/
def F.CFG_STAGE_CTRL : Fld := ⟨0x60020, 31, 0, 0x0⟩
def F.CFG_STAGE_CTRL_TARGET : Fld := ⟨0x60020, 1, 0, 0x0⟩
/-- CFG_STAGE_ADDR, R601. -/
def F.CFG_STAGE_ADDR : Fld := ⟨0x60028, 63, 0, 0x0⟩
/-- CFG_STAGE_LEN, R601. -/
def F.CFG_STAGE_LEN : Fld := ⟨0x60030, 31, 0, 0x0⟩
/-- CFG_STAGE_STATUS, R601. -/
def F.CFG_STAGE_STATUS : Fld := ⟨0x60034, 31, 0, 0x0⟩
def F.CFG_STAGE_STATUS_FAIL_CHECK : Fld := ⟨0x60034, 31, 24, 0x0⟩
def F.CFG_STAGE_STATUS_DETAIL : Fld := ⟨0x60034, 23, 16, 0x0⟩
def F.CFG_STAGE_STATUS_BUSY : Fld := ⟨0x60034, 15, 15, 0x0⟩
def F.CFG_STAGE_STATUS_SECTORS : Fld := ⟨0x60034, 12, 0, 0x0⟩
/-- CFG_ARM_STATUS, R601. -/
def F.CFG_ARM_STATUS : Fld := ⟨0x60038, 31, 0, 0x0⟩
def F.CFG_ARM_STATUS_RESULT : Fld := ⟨0x60038, 31, 24, 0x0⟩
def F.CFG_ARM_STATUS_TRACKS : Fld := ⟨0x60038, 15, 0, 0x0⟩
/-- CFG_ARM_TIMEOUT, R601. -/
def F.CFG_ARM_TIMEOUT : Fld := ⟨0x6003C, 31, 0, 0x3E8⟩
/-- CFG_SWAP_TIME, R601. -/
def F.CFG_SWAP_TIME : Fld := ⟨0x60040, 31, 0, 0x0⟩
/-- CFG_CYCLES, R601. -/
def F.CFG_CYCLES : Fld := ⟨0x60044, 31, 0, 0x0⟩
def F.CFG_CYCLES_B : Fld := ⟨0x60044, 31, 16, 0x0⟩
def F.CFG_CYCLES_A : Fld := ⟨0x60044, 15, 0, 0x0⟩
/-- CFG_SCENE_VERSION, R601. -/
def F.CFG_SCENE_VERSION : Fld := ⟨0x60048, 63, 0, 0x0⟩
/-- FLC_CFG, R602. -/
def F.FLC_CFG : Fld := ⟨0x50000, 31, 0, 0x8⟩
def F.FLC_CFG_PRIORITY : Fld := ⟨0x50000, 3, 0, 0x8⟩
/-- FLC_CMD, R602. -/
def F.FLC_CMD : Fld := ⟨0x50008, 31, 0, 0x0⟩
def F.FLC_CMD_OP : Fld := ⟨0x50008, 2, 0, 0x0⟩
/-- FLC_ADDR, R602. -/
def F.FLC_ADDR : Fld := ⟨0x50010, 31, 0, 0x0⟩
def F.FLC_ADDR_ARRAY : Fld := ⟨0x50010, 31, 28, 0x0⟩
def F.FLC_ADDR_ADDR : Fld := ⟨0x50010, 25, 0, 0x0⟩
/-- FLC_DATA_w, R602. -/
def F.FLC_DATA (i : Nat) : Fld := ⟨0x50020 + 0x4 * i, 31, 0, 0x0⟩
/-- FLC_RESULT, R602. -/
def F.FLC_RESULT : Fld := ⟨0x50030, 31, 0, 0x0⟩
def F.FLC_RESULT_CODE : Fld := ⟨0x50030, 31, 24, 0x0⟩
def F.FLC_RESULT_BUSY : Fld := ⟨0x50030, 0, 0, 0x0⟩
/-- FLC_INFO, R602. -/
def F.FLC_INFO : Fld := ⟨0x50034, 31, 0, 0x0⟩
def F.FLC_INFO_STATE : Fld := ⟨0x50034, 31, 30, 0x0⟩
def F.FLC_INFO_PULSES : Fld := ⟨0x50034, 29, 24, 0x0⟩
def F.FLC_INFO_CYCLES : Fld := ⟨0x50034, 17, 0, 0x0⟩
/-- FLC_WEAR_THRESH, R602. -/
def F.FLC_WEAR_THRESH : Fld := ⟨0x50038, 31, 0, 0x18181800⟩
def F.FLC_WEAR_THRESH_LEDGER : Fld := ⟨0x50038, 31, 24, 0x18181800⟩
def F.FLC_WEAR_THRESH_USER : Fld := ⟨0x50038, 23, 16, 0x18181800⟩
def F.FLC_WEAR_THRESH_PLANE : Fld := ⟨0x50038, 15, 8, 0x18181800⟩
/-- FLC_BAD, R602. -/
def F.FLC_BAD : Fld := ⟨0x5003C, 31, 0, 0x0⟩
def F.FLC_BAD_GROWN : Fld := ⟨0x5003C, 7, 0, 0x0⟩
/-- FLC_ECC, R602. -/
def F.FLC_ECC : Fld := ⟨0x50040, 31, 0, 0x0⟩
/-- DMC_c_STATUS, R628. -/
def F.DMC_STATUS (i : Nat) : Fld := ⟨0x80000 + 0x10000 * i, 31, 0, 0x0⟩
def F.DMC_STATUS_STATE (i : Nat) : Fld := ⟨0x80000 + 0x10000 * i, 31, 28, 0x0⟩
def F.DMC_STATUS_RATE (i : Nat) : Fld := ⟨0x80000 + 0x10000 * i, 27, 24, 0x0⟩
def F.DMC_STATUS_HOT (i : Nat) : Fld := ⟨0x80000 + 0x10000 * i, 19, 19, 0x0⟩
def F.DMC_STATUS_FGR (i : Nat) : Fld := ⟨0x80000 + 0x10000 * i, 18, 18, 0x0⟩
def F.DMC_STATUS_TS_FAULT (i : Nat) : Fld := ⟨0x80000 + 0x10000 * i, 17, 17, 0x0⟩
def F.DMC_STATUS_RECOVERING (i : Nat) : Fld := ⟨0x80000 + 0x10000 * i, 16, 16, 0x0⟩
def F.DMC_STATUS_SETS (i : Nat) : Fld := ⟨0x80000 + 0x10000 * i, 7, 4, 0x0⟩
/-- DMC_c_CFG, R629. -/
def F.DMC_CFG (i : Nat) : Fld := ⟨0x80004 + 0x10000 * i, 31, 0, dmcCfgReset i⟩
def F.DMC_CFG_HOT_ENTER (i : Nat) : Fld := ⟨0x80004 + 0x10000 * i, 31, 24, dmcCfgReset i⟩
def F.DMC_CFG_HOT_LEAVE (i : Nat) : Fld := ⟨0x80004 + 0x10000 * i, 23, 16, dmcCfgReset i⟩
def F.DMC_CFG_CRIT (i : Nat) : Fld := ⟨0x80004 + 0x10000 * i, 15, 8, dmcCfgReset i⟩
def F.DMC_CFG_CALL_RATE (i : Nat) : Fld := ⟨0x80004 + 0x10000 * i, 7, 4, dmcCfgReset i⟩
def F.DMC_CFG_POSTPONE (i : Nat) : Fld := ⟨0x80004 + 0x10000 * i, 3, 3, dmcCfgReset i⟩
def F.DMC_CFG_UE_REPORT (i : Nat) : Fld := ⟨0x80004 + 0x10000 * i, 2, 2, dmcCfgReset i⟩
def F.DMC_CFG_MAP (i : Nat) : Fld := ⟨0x80004 + 0x10000 * i, 1, 0, dmcCfgReset i⟩
/-- DMC_c_MODULE, R630. -/
def F.DMC_MODULE (i : Nat) : Fld := ⟨0x80008 + 0x10000 * i, 31, 0, 0x0⟩
def F.DMC_MODULE_CAPACITY (i : Nat) : Fld := ⟨0x80008 + 0x10000 * i, 31, 24, 0x0⟩
def F.DMC_MODULE_DENSITY (i : Nat) : Fld := ⟨0x80008 + 0x10000 * i, 23, 16, 0x0⟩
def F.DMC_MODULE_ROW_BITS (i : Nat) : Fld := ⟨0x80008 + 0x10000 * i, 15, 11, 0x0⟩
def F.DMC_MODULE_COL_BITS (i : Nat) : Fld := ⟨0x80008 + 0x10000 * i, 10, 8, 0x0⟩
def F.DMC_MODULE_RANKS (i : Nat) : Fld := ⟨0x80008 + 0x10000 * i, 5, 4, 0x0⟩
def F.DMC_MODULE_WIDTH (i : Nat) : Fld := ⟨0x80008 + 0x10000 * i, 1, 0, 0x0⟩
/-- DMC_c_TEMP, R630. -/
def F.DMC_TEMP (i : Nat) : Fld := ⟨0x8000C + 0x10000 * i, 31, 0, 0x0⟩
def F.DMC_TEMP_TS1 (i : Nat) : Fld := ⟨0x8000C + 0x10000 * i, 31, 24, 0x0⟩
def F.DMC_TEMP_TS0 (i : Nat) : Fld := ⟨0x8000C + 0x10000 * i, 23, 16, 0x0⟩
/-- DMC_c_REFRESH, R630. -/
def F.DMC_REFRESH (i : Nat) : Fld := ⟨0x80010 + 0x10000 * i, 31, 0, 0x0⟩
def F.DMC_REFRESH_DEBT (i : Nat) : Fld := ⟨0x80010 + 0x10000 * i, 31, 28, 0x0⟩
def F.DMC_REFRESH_CEILING (i : Nat) : Fld := ⟨0x80010 + 0x10000 * i, 27, 24, 0x0⟩
def F.DMC_REFRESH_PHASE (i : Nat) : Fld := ⟨0x80010 + 0x10000 * i, 23, 12, 0x0⟩
/-- DMC_c_RECOVER_MAX, R631. -/
def F.DMC_RECOVER_MAX (i : Nat) : Fld := ⟨0x80014 + 0x10000 * i, 31, 0, 0x0⟩
/-- DMC_c_RECOVER_COUNT, R631. -/
def F.DMC_RECOVER_COUNT (i : Nat) : Fld := ⟨0x80018 + 0x10000 * i, 31, 0, 0x0⟩
/-- DMC_c_ECC_COUNT, R631. -/
def F.DMC_ECC_COUNT (i : Nat) : Fld := ⟨0x8001C + 0x10000 * i, 31, 0, 0x0⟩
/-- DMC_c_TRAIN, R631. -/
def F.DMC_TRAIN (i : Nat) : Fld := ⟨0x80020 + 0x10000 * i, 31, 0, 0xFF00⟩
def F.DMC_TRAIN_STEP (i : Nat) : Fld := ⟨0x80020 + 0x10000 * i, 31, 24, 0xFF00⟩
def F.DMC_TRAIN_CAUSE (i : Nat) : Fld := ⟨0x80020 + 0x10000 * i, 23, 16, 0xFF00⟩
def F.DMC_TRAIN_LANE (i : Nat) : Fld := ⟨0x80020 + 0x10000 * i, 15, 8, 0xFF00⟩
/-- DMC_FREQ_OP, R632. -/
def F.DMC_FREQ_OP : Fld := ⟨0x80028, 31, 0, 0x0⟩
def F.DMC_FREQ_OP_FGR : Fld := ⟨0x80028, 8, 8, 0x0⟩
def F.DMC_FREQ_OP_TARGET : Fld := ⟨0x80028, 7, 4, 0x0⟩
def F.DMC_FREQ_OP_OP : Fld := ⟨0x80028, 1, 0, 0x0⟩
/-- DMC_FREQ_RESULT, R632. -/
def F.DMC_FREQ_RESULT : Fld := ⟨0x80030, 31, 0, 0x0⟩
def F.DMC_FREQ_RESULT_CODE : Fld := ⟨0x80030, 31, 24, 0x0⟩
def F.DMC_FREQ_RESULT_US : Fld := ⟨0x80030, 15, 0, 0x0⟩
/-- DMC_c_SHADOW_k, R633. -/
def F.DMC_SHADOW (i : Nat) (j : Nat) : Fld := ⟨0x80100 + 0x10000 * i + 0x4 * j, 31, 0, 0x0⟩
def F.DMC_SHADOW_CYCLES (i : Nat) (j : Nat) : Fld := ⟨0x80100 + 0x10000 * i + 0x4 * j, 15, 0, 0x0⟩
/-- DMC_c_CAP_STATUS, R634. -/
def F.DMC_CAP_STATUS (i : Nat) : Fld := ⟨0x80040 + 0x10000 * i, 31, 0, 0x0⟩
def F.DMC_CAP_STATUS_VALID (i : Nat) : Fld := ⟨0x80040 + 0x10000 * i, 31, 31, 0x0⟩
def F.DMC_CAP_STATUS_UE (i : Nat) : Fld := ⟨0x80040 + 0x10000 * i, 30, 30, 0x0⟩
def F.DMC_CAP_STATUS_CA_PARITY (i : Nat) : Fld := ⟨0x80040 + 0x10000 * i, 29, 29, 0x0⟩
def F.DMC_CAP_STATUS_ENTRIES (i : Nat) : Fld := ⟨0x80040 + 0x10000 * i, 6, 0, 0x0⟩
/-- DMC_c_CAP_ADDR, R634. -/
def F.DMC_CAP_ADDR (i : Nat) : Fld := ⟨0x80048 + 0x10000 * i, 63, 0, 0x0⟩
def F.DMC_CAP_ADDR_ADDR (i : Nat) : Fld := ⟨0x80048 + 0x10000 * i, 37, 0, 0x0⟩
/-- DMC_c_CAP_SYND, R634. -/
def F.DMC_CAP_SYND (i : Nat) : Fld := ⟨0x80050 + 0x10000 * i, 31, 0, 0x0⟩
def F.DMC_CAP_SYND_SYNDROME (i : Nat) : Fld := ⟨0x80050 + 0x10000 * i, 23, 16, 0x0⟩
def F.DMC_CAP_SYND_BEAT (i : Nat) : Fld := ⟨0x80050 + 0x10000 * i, 15, 12, 0x0⟩
def F.DMC_CAP_SYND_SUBCH (i : Nat) : Fld := ⟨0x80050 + 0x10000 * i, 11, 11, 0x0⟩
/-- DMC_c_HIST_SEL, R634. -/
def F.DMC_HIST_SEL (i : Nat) : Fld := ⟨0x80058 + 0x10000 * i, 31, 0, 0x0⟩
def F.DMC_HIST_SEL_INDEX (i : Nat) : Fld := ⟨0x80058 + 0x10000 * i, 5, 0, 0x0⟩
/-- DMC_c_HIST, R634. -/
def F.DMC_HIST (i : Nat) : Fld := ⟨0x80060 + 0x10000 * i, 63, 0, 0x0⟩
def F.DMC_HIST_AGE (i : Nat) : Fld := ⟨0x80060 + 0x10000 * i, 63, 48, 0x0⟩
def F.DMC_HIST_CMD (i : Nat) : Fld := ⟨0x80060 + 0x10000 * i, 47, 44, 0x0⟩
def F.DMC_HIST_SUBCH (i : Nat) : Fld := ⟨0x80060 + 0x10000 * i, 43, 43, 0x0⟩
def F.DMC_HIST_RANK (i : Nat) : Fld := ⟨0x80060 + 0x10000 * i, 42, 42, 0x0⟩
def F.DMC_HIST_BG (i : Nat) : Fld := ⟨0x80060 + 0x10000 * i, 41, 39, 0x0⟩
def F.DMC_HIST_BA (i : Nat) : Fld := ⟨0x80060 + 0x10000 * i, 38, 37, 0x0⟩
def F.DMC_HIST_ROW (i : Nat) : Fld := ⟨0x80060 + 0x10000 * i, 36, 20, 0x0⟩
def F.DMC_HIST_COL (i : Nat) : Fld := ⟨0x80060 + 0x10000 * i, 19, 13, 0x0⟩
/-- CLK_STATUS, R656. -/
def F.CLK_STATUS : Fld := ⟨0x30000, 31, 0, 0x0⟩
def F.CLK_STATUS_LOCKED : Fld := ⟨0x30000, 15, 8, 0x0⟩
def F.CLK_STATUS_MAIN_RC_OK : Fld := ⟨0x30000, 1, 1, 0x0⟩
def F.CLK_STATUS_REF_OK : Fld := ⟨0x30000, 0, 0, 0x0⟩
/-- CLK_REF, R656. -/
def F.CLK_REF : Fld := ⟨0x30004, 31, 0, 0x0⟩
def F.CLK_REF_EXT : Fld := ⟨0x30004, 19, 19, 0x0⟩
def F.CLK_REF_SEL : Fld := ⟨0x30004, 18, 16, 0x0⟩
def F.CLK_REF_FREQ : Fld := ⟨0x30004, 15, 0, 0x0⟩
/-- CLK_PLL_k_CFG, R657. -/
def F.CLK_PLL_CFG (i : Nat) : Fld := ⟨0x30100 + 0x40 * i, 31, 0, 0x0⟩
def F.CLK_PLL_CFG_EN (i : Nat) : Fld := ⟨0x30100 + 0x40 * i, 31, 31, 0x0⟩
def F.CLK_PLL_CFG_REF_SRC (i : Nat) : Fld := ⟨0x30100 + 0x40 * i, 29, 26, 0x0⟩
def F.CLK_PLL_CFG_N_INT (i : Nat) : Fld := ⟨0x30100 + 0x40 * i, 15, 8, 0x0⟩
/-- CLK_PLL_k_FRAC, R657. -/
def F.CLK_PLL_FRAC (i : Nat) : Fld := ⟨0x30104 + 0x40 * i, 31, 0, 0x0⟩
def F.CLK_PLL_FRAC_N_FRAC (i : Nat) : Fld := ⟨0x30104 + 0x40 * i, 23, 0, 0x0⟩
/-- CLK_PLL_k_DITHER, R657. -/
def F.CLK_PLL_DITHER (i : Nat) : Fld := ⟨0x30108 + 0x40 * i, 31, 0, 0x1A5A0 + i⟩
def F.CLK_PLL_DITHER_DITHER_EN (i : Nat) : Fld := ⟨0x30108 + 0x40 * i, 16, 16, 0x1A5A0 + i⟩
def F.CLK_PLL_DITHER_SEED (i : Nat) : Fld := ⟨0x30108 + 0x40 * i, 15, 0, 0x1A5A0 + i⟩
/-- CLK_PLL_k_LOCK, R657. -/
def F.CLK_PLL_LOCK (i : Nat) : Fld := ⟨0x3010C + 0x40 * i, 31, 0, 0x20080100⟩
def F.CLK_PLL_LOCK_LOSS_WIN (i : Nat) : Fld := ⟨0x3010C + 0x40 * i, 31, 24, 0x20080100⟩
def F.CLK_PLL_LOCK_WINDOW (i : Nat) : Fld := ⟨0x3010C + 0x40 * i, 21, 16, 0x20080100⟩
def F.CLK_PLL_LOCK_CYCLES (i : Nat) : Fld := ⟨0x3010C + 0x40 * i, 12, 0, 0x20080100⟩
/-- CLK_PLL_k_OUT, R657. -/
def F.CLK_PLL_OUT (i : Nat) : Fld := ⟨0x30110 + 0x40 * i, 31, 0, 0x1010101⟩
def F.CLK_PLL_OUT_EN_3 (i : Nat) : Fld := ⟨0x30110 + 0x40 * i, 31, 31, 0x1010101⟩
def F.CLK_PLL_OUT_DIV_3 (i : Nat) : Fld := ⟨0x30110 + 0x40 * i, 30, 24, 0x1010101⟩
def F.CLK_PLL_OUT_EN_2 (i : Nat) : Fld := ⟨0x30110 + 0x40 * i, 23, 23, 0x1010101⟩
def F.CLK_PLL_OUT_DIV_2 (i : Nat) : Fld := ⟨0x30110 + 0x40 * i, 22, 16, 0x1010101⟩
def F.CLK_PLL_OUT_EN_1 (i : Nat) : Fld := ⟨0x30110 + 0x40 * i, 15, 15, 0x1010101⟩
def F.CLK_PLL_OUT_DIV_1 (i : Nat) : Fld := ⟨0x30110 + 0x40 * i, 14, 8, 0x1010101⟩
def F.CLK_PLL_OUT_EN_0 (i : Nat) : Fld := ⟨0x30110 + 0x40 * i, 7, 7, 0x1010101⟩
def F.CLK_PLL_OUT_DIV_0 (i : Nat) : Fld := ⟨0x30110 + 0x40 * i, 6, 0, 0x1010101⟩
/-- CLK_PLL_k_STATUS, R657. -/
def F.CLK_PLL_STATUS (i : Nat) : Fld := ⟨0x30114 + 0x40 * i, 31, 0, 0x0⟩
def F.CLK_PLL_STATUS_STATE (i : Nat) : Fld := ⟨0x30114 + 0x40 * i, 31, 28, 0x0⟩
def F.CLK_PLL_STATUS_ENTRY (i : Nat) : Fld := ⟨0x30114 + 0x40 * i, 27, 24, 0x0⟩
def F.CLK_PLL_STATUS_OP_RESULT (i : Nat) : Fld := ⟨0x30114 + 0x40 * i, 23, 16, 0x0⟩
def F.CLK_PLL_STATUS_LOCK_US (i : Nat) : Fld := ⟨0x30114 + 0x40 * i, 15, 0, 0x0⟩
/-- CLK_PLL_k_LOSSES, R657. -/
def F.CLK_PLL_LOSSES (i : Nat) : Fld := ⟨0x30118 + 0x40 * i, 31, 0, 0x0⟩
/-- CLK_PLL_k_BAND_SEL, R657. -/
def F.CLK_PLL_BAND_SEL (i : Nat) : Fld := ⟨0x30128 + 0x40 * i, 31, 0, 0x0⟩
def F.CLK_PLL_BAND_SEL_INDEX (i : Nat) : Fld := ⟨0x30128 + 0x40 * i, 3, 0, 0x0⟩
/-- CLK_PLL_k_BAND, R657. -/
def F.CLK_PLL_BAND (i : Nat) : Fld := ⟨0x3012C + 0x40 * i, 31, 0, 0x0⟩
def F.CLK_PLL_BAND_VALID (i : Nat) : Fld := ⟨0x3012C + 0x40 * i, 31, 31, 0x0⟩
def F.CLK_PLL_BAND_BAND (i : Nat) : Fld := ⟨0x3012C + 0x40 * i, 30, 25, 0x0⟩
def F.CLK_PLL_BAND_TRIM (i : Nat) : Fld := ⟨0x3012C + 0x40 * i, 24, 15, 0x0⟩
def F.CLK_PLL_BAND_KEY (i : Nat) : Fld := ⟨0x3012C + 0x40 * i, 14, 0, 0x0⟩
/-- CLK_PLL_k_OP, R658. -/
def F.CLK_PLL_OP (i : Nat) : Fld := ⟨0x30120 + 0x40 * i, 31, 0, 0x0⟩
def F.CLK_PLL_OP_OP (i : Nat) : Fld := ⟨0x30120 + 0x40 * i, 1, 0, 0x0⟩
/-- CLK_DOM_k, R659. -/
def F.CLK_DOM (i : Nat) : Fld := ⟨0x30800 + 0x4 * i, 31, 0, 0xF000050⟩
def F.CLK_DOM_STATE (i : Nat) : Fld := ⟨0x30800 + 0x4 * i, 31, 28, 0xF000050⟩
def F.CLK_DOM_PLL (i : Nat) : Fld := ⟨0x30800 + 0x4 * i, 27, 24, 0xF000050⟩
def F.CLK_DOM_AUTO_RESTART (i : Nat) : Fld := ⟨0x30800 + 0x4 * i, 6, 6, 0xF000050⟩
def F.CLK_DOM_POLICY (i : Nat) : Fld := ⟨0x30800 + 0x4 * i, 5, 4, 0xF000050⟩
def F.CLK_DOM_BACKUP (i : Nat) : Fld := ⟨0x30800 + 0x4 * i, 3, 0, 0xF000050⟩
/-- PWR_STATUS, R677. -/
def F.PWR_STATUS : Fld := ⟨0x20000, 31, 0, 0x3⟩
def F.PWR_STATUS_STATE : Fld := ⟨0x20000, 31, 28, 0x3⟩
def F.PWR_STATUS_ON : Fld := ⟨0x20000, 19, 0, 0x3⟩
/-- PWR_INTERVAL_CFG, R677. -/
def F.PWR_INTERVAL_CFG : Fld := ⟨0x20004, 31, 0, 0x0⟩
def F.PWR_INTERVAL_CFG_REF_OFF : Fld := ⟨0x20004, 8, 8, 0x0⟩
def F.PWR_INTERVAL_CFG_FQ_KEEP : Fld := ⟨0x20004, 3, 0, 0x0⟩
/-- PWR_WAKE_EN, R677. -/
def F.PWR_WAKE_EN : Fld := ⟨0x20008, 31, 0, 0x1F⟩
def F.PWR_WAKE_EN_SOURCES : Fld := ⟨0x20008, 5, 1, 0x1F⟩
def F.PWR_WAKE_EN_ACCESS : Fld := ⟨0x20008, 0, 0, 0x1F⟩
/-- PWR_WAKE_CAUSE, R677. -/
def F.PWR_WAKE_CAUSE : Fld := ⟨0x2000C, 31, 0, 0x0⟩
def F.PWR_WAKE_CAUSE_CAUSE : Fld := ⟨0x2000C, 5, 0, 0x0⟩
/-- PWR_ENTRY, R677. -/
def F.PWR_ENTRY : Fld := ⟨0x20010, 31, 0, 0x3E8⟩
def F.PWR_ENTRY_RESULT : Fld := ⟨0x20010, 31, 24, 0x3E8⟩
def F.PWR_ENTRY_POINT : Fld := ⟨0x20010, 18, 16, 0x3E8⟩
def F.PWR_ENTRY_TIMEOUT_MS : Fld := ⟨0x20010, 15, 0, 0x3E8⟩
/-- PWR_WAKE_STATUS, R677. -/
def F.PWR_WAKE_STATUS : Fld := ⟨0x20014, 31, 0, 0x0⟩
def F.PWR_WAKE_STATUS_RESULT : Fld := ⟨0x20014, 31, 24, 0x0⟩
def F.PWR_WAKE_STATUS_CAUSE : Fld := ⟨0x20014, 23, 20, 0x0⟩
def F.PWR_WAKE_STATUS_DOMAIN : Fld := ⟨0x20014, 19, 15, 0x0⟩
def F.PWR_WAKE_STATUS_PLL : Fld := ⟨0x20014, 14, 12, 0x0⟩
def F.PWR_WAKE_STATUS_ATTEMPTS : Fld := ⟨0x20014, 11, 8, 0x0⟩
/-- PWR_WAKE_TIME, R677. -/
def F.PWR_WAKE_TIME : Fld := ⟨0x20018, 31, 0, 0x0⟩
/-- PWR_RET_STATUS, R677. -/
def F.PWR_RET_STATUS : Fld := ⟨0x20020, 31, 0, 0x0⟩
def F.PWR_RET_STATUS_HELD : Fld := ⟨0x20020, 15, 8, 0x0⟩
def F.PWR_RET_STATUS_FAIL : Fld := ⟨0x20020, 7, 0, 0x0⟩
/-- PWR_RET_RELEASE, R677. -/
def F.PWR_RET_RELEASE : Fld := ⟨0x20028, 31, 0, 0x0⟩
def F.PWR_RET_RELEASE_BANKS : Fld := ⟨0x20028, 7, 0, 0x0⟩
/-- PWR_STALL_CFG, R677. -/
def F.PWR_STALL_CFG : Fld := ⟨0x20030, 31, 0, 0x7D0⟩
def F.PWR_STALL_CFG_LIMIT_US : Fld := ⟨0x20030, 15, 0, 0x7D0⟩
/-- PWR_STALL_MAX, R677. -/
def F.PWR_STALL_MAX : Fld := ⟨0x20034, 31, 0, 0x0⟩
/-- PWR_OP, R677. -/
def F.PWR_OP : Fld := ⟨0x20038, 31, 0, 0x0⟩
def F.PWR_OP_OP : Fld := ⟨0x20038, 1, 0, 0x0⟩
/-- AON_TIMER, R678. -/
def F.AON_TIMER : Fld := ⟨0x160000, 63, 0, 0x0⟩
/-- AON_ALARM, R678. -/
def F.AON_ALARM : Fld := ⟨0x160008, 63, 0, 0x0⟩
/-- AON_RET_SEQ, R678. -/
def F.AON_RET_SEQ : Fld := ⟨0x160010, 31, 0, 0x0⟩
/-- AON_SCRATCH_k, R678. -/
def F.AON_SCRATCH (i : Nat) : Fld := ⟨0x160040 + 0x4 * i, 31, 0, 0x0⟩
/-- GPIO_IN_n, R699. -/
def F.GPIO_IN (i : Nat) : Fld := ⟨0x70000 + 0x4 * i, 31, 0, 0x0⟩
def F.GPIO_IN_LEVEL (i : Nat) : Fld := ⟨0x70000 + 0x4 * i, 15, 0, 0x0⟩
/-- GPIO_OUT_n, R699. -/
def F.GPIO_OUT (i : Nat) : Fld := ⟨0x70100 + 0x4 * i, 31, 0, 0x0⟩
def F.GPIO_OUT_VALUE (i : Nat) : Fld := ⟨0x70100 + 0x4 * i, 15, 0, 0x0⟩
/-- GPIO_OE_n, R699. -/
def F.GPIO_OE (i : Nat) : Fld := ⟨0x70200 + 0x4 * i, 31, 0, 0x0⟩
def F.GPIO_OE_ENABLE (i : Nat) : Fld := ⟨0x70200 + 0x4 * i, 15, 0, 0x0⟩
/-- GPIO_MWR_n, R699. -/
def F.GPIO_MWR (i : Nat) : Fld := ⟨0x70300 + 0x4 * i, 31, 0, 0x0⟩
def F.GPIO_MWR_MASK (i : Nat) : Fld := ⟨0x70300 + 0x4 * i, 31, 16, 0x0⟩
def F.GPIO_MWR_VALUE (i : Nat) : Fld := ⟨0x70300 + 0x4 * i, 15, 0, 0x0⟩
/-- GPIO_MOE_n, R699. -/
def F.GPIO_MOE (i : Nat) : Fld := ⟨0x70400 + 0x4 * i, 31, 0, 0x0⟩
/-- GPIO_BANK_b, R699. -/
def F.GPIO_BANK (i : Nat) : Fld := ⟨0x70500 + 0x4 * i, 31, 0, 0x0⟩
def F.GPIO_BANK_STRAP (i : Nat) : Fld := ⟨0x70500 + 0x4 * i, 4, 3, 0x0⟩
def F.GPIO_BANK_VCCIO (i : Nat) : Fld := ⟨0x70500 + 0x4 * i, 2, 0, 0x0⟩
/-- GPIO_MAP_FAULT_PIN, R699. -/
def F.GPIO_MAP_FAULT_PIN : Fld := ⟨0x70540, 31, 0, 0x0⟩
def F.GPIO_MAP_FAULT_PIN_PIN : Fld := ⟨0x70540, 9, 0, 0x0⟩
/-- GPIO_PIN_p, R699. -/
def F.GPIO_PIN (i : Nat) : Fld := ⟨0x71000 + 0x4 * i, 31, 0, 0x0⟩
def F.GPIO_PIN_SLEW_FAST (i : Nat) : Fld := ⟨0x71000 + 0x4 * i, 20, 20, 0x0⟩
def F.GPIO_PIN_PULL (i : Nat) : Fld := ⟨0x71000 + 0x4 * i, 19, 18, 0x0⟩
def F.GPIO_PIN_DRIVE (i : Nat) : Fld := ⟨0x71000 + 0x4 * i, 17, 16, 0x0⟩
def F.GPIO_PIN_FUNC_B (i : Nat) : Fld := ⟨0x71000 + 0x4 * i, 15, 8, 0x0⟩
def F.GPIO_PIN_FUNC_A (i : Nat) : Fld := ⟨0x71000 + 0x4 * i, 7, 0, 0x0⟩
/-- GPIO_PAT_u_CFG, R700. -/
def F.GPIO_PAT_CFG (i : Nat) : Fld := ⟨0x70600 + 0x20 * i, 31, 0, 0x0⟩
def F.GPIO_PAT_CFG_EN (i : Nat) : Fld := ⟨0x70600 + 0x20 * i, 31, 31, 0x0⟩
def F.GPIO_PAT_CFG_MATCH (i : Nat) : Fld := ⟨0x70600 + 0x20 * i, 30, 30, 0x0⟩
def F.GPIO_PAT_CFG_BASE (i : Nat) : Fld := ⟨0x70600 + 0x20 * i, 21, 16, 0x0⟩
def F.GPIO_PAT_CFG_DEBOUNCE (i : Nat) : Fld := ⟨0x70600 + 0x20 * i, 15, 0, 0x0⟩
/-- GPIO_PAT_u_MASK, R700. -/
def F.GPIO_PAT_MASK (i : Nat) : Fld := ⟨0x70604 + 0x20 * i, 31, 0, 0x0⟩
/-- GPIO_PAT_u_VALUE, R700. -/
def F.GPIO_PAT_VALUE (i : Nat) : Fld := ⟨0x70608 + 0x20 * i, 31, 0, 0x0⟩
/-- GPIO_PAT_u_EDGE, R700. -/
def F.GPIO_PAT_EDGE (i : Nat) : Fld := ⟨0x7060C + 0x20 * i, 31, 0, 0x0⟩
/-- UART_k_CTRL, R701. -/
def F.UART_CTRL (i : Nat) : Fld := ⟨0x140000 + 0x100 * i, 31, 0, 0x36⟩
def F.UART_CTRL_EN (i : Nat) : Fld := ⟨0x140000 + 0x100 * i, 31, 31, 0x36⟩
def F.UART_CTRL_PARITY (i : Nat) : Fld := ⟨0x140000 + 0x100 * i, 29, 28, 0x36⟩
def F.UART_CTRL_FLOW (i : Nat) : Fld := ⟨0x140000 + 0x100 * i, 27, 27, 0x36⟩
def F.UART_CTRL_DIV (i : Nat) : Fld := ⟨0x140000 + 0x100 * i, 15, 0, 0x36⟩
/-- UART_k_STATUS, R701. -/
def F.UART_STATUS (i : Nat) : Fld := ⟨0x140004 + 0x100 * i, 31, 0, 0x0⟩
def F.UART_STATUS_RX_COUNT (i : Nat) : Fld := ⟨0x140004 + 0x100 * i, 31, 24, 0x0⟩
def F.UART_STATUS_TX_COUNT (i : Nat) : Fld := ⟨0x140004 + 0x100 * i, 23, 16, 0x0⟩
def F.UART_STATUS_BREAK (i : Nat) : Fld := ⟨0x140004 + 0x100 * i, 3, 3, 0x0⟩
def F.UART_STATUS_FRAMING (i : Nat) : Fld := ⟨0x140004 + 0x100 * i, 2, 2, 0x0⟩
def F.UART_STATUS_PARITY (i : Nat) : Fld := ⟨0x140004 + 0x100 * i, 1, 1, 0x0⟩
def F.UART_STATUS_OVERRUN (i : Nat) : Fld := ⟨0x140004 + 0x100 * i, 0, 0, 0x0⟩
/-- UART_k_DATA, R701. -/
def F.UART_DATA (i : Nat) : Fld := ⟨0x140008 + 0x100 * i, 31, 0, 0x100⟩
def F.UART_DATA_EMPTY (i : Nat) : Fld := ⟨0x140008 + 0x100 * i, 8, 8, 0x100⟩
def F.UART_DATA_BYTE (i : Nat) : Fld := ⟨0x140008 + 0x100 * i, 7, 0, 0x100⟩
/-- SPI_k_CTRL, R702. -/
def F.SPI_CTRL (i : Nat) : Fld := ⟨0x140400 + 0x100 * i, 31, 0, 0x32⟩
def F.SPI_CTRL_EN (i : Nat) : Fld := ⟨0x140400 + 0x100 * i, 31, 31, 0x32⟩
def F.SPI_CTRL_CS_HOLD (i : Nat) : Fld := ⟨0x140400 + 0x100 * i, 30, 30, 0x32⟩
def F.SPI_CTRL_LSB_FIRST (i : Nat) : Fld := ⟨0x140400 + 0x100 * i, 29, 29, 0x32⟩
def F.SPI_CTRL_MODE (i : Nat) : Fld := ⟨0x140400 + 0x100 * i, 9, 8, 0x32⟩
def F.SPI_CTRL_DIV (i : Nat) : Fld := ⟨0x140400 + 0x100 * i, 7, 0, 0x32⟩
/-- SPI_k_STATUS, R702. -/
def F.SPI_STATUS (i : Nat) : Fld := ⟨0x140404 + 0x100 * i, 31, 0, 0x0⟩
def F.SPI_STATUS_RX_COUNT (i : Nat) : Fld := ⟨0x140404 + 0x100 * i, 31, 24, 0x0⟩
def F.SPI_STATUS_TX_COUNT (i : Nat) : Fld := ⟨0x140404 + 0x100 * i, 23, 16, 0x0⟩
def F.SPI_STATUS_BUSY (i : Nat) : Fld := ⟨0x140404 + 0x100 * i, 1, 1, 0x0⟩
def F.SPI_STATUS_OVERRUN (i : Nat) : Fld := ⟨0x140404 + 0x100 * i, 0, 0, 0x0⟩
/-- SPI_k_DATA, R702. -/
def F.SPI_DATA (i : Nat) : Fld := ⟨0x140408 + 0x100 * i, 31, 0, 0x100⟩
def F.SPI_DATA_EMPTY (i : Nat) : Fld := ⟨0x140408 + 0x100 * i, 8, 8, 0x100⟩
def F.SPI_DATA_BYTE (i : Nat) : Fld := ⟨0x140408 + 0x100 * i, 7, 0, 0x100⟩
/-- I2C_k_CTRL, R702. -/
def F.I2C_CTRL (i : Nat) : Fld := ⟨0x140800 + 0x100 * i, 31, 0, 0x0⟩
def F.I2C_CTRL_EN (i : Nat) : Fld := ⟨0x140800 + 0x100 * i, 31, 31, 0x0⟩
def F.I2C_CTRL_SPEED (i : Nat) : Fld := ⟨0x140800 + 0x100 * i, 1, 0, 0x0⟩
/-- I2C_k_CMD, R702. -/
def F.I2C_CMD (i : Nat) : Fld := ⟨0x140804 + 0x100 * i, 31, 0, 0x0⟩
def F.I2C_CMD_OP (i : Nat) : Fld := ⟨0x140804 + 0x100 * i, 10, 8, 0x0⟩
def F.I2C_CMD_DATA (i : Nat) : Fld := ⟨0x140804 + 0x100 * i, 7, 0, 0x0⟩
/-- I2C_k_STATUS, R702. -/
def F.I2C_STATUS (i : Nat) : Fld := ⟨0x140808 + 0x100 * i, 31, 0, 0x0⟩
def F.I2C_STATUS_RX_COUNT (i : Nat) : Fld := ⟨0x140808 + 0x100 * i, 31, 24, 0x0⟩
def F.I2C_STATUS_CMD_COUNT (i : Nat) : Fld := ⟨0x140808 + 0x100 * i, 23, 16, 0x0⟩
def F.I2C_STATUS_BUSY (i : Nat) : Fld := ⟨0x140808 + 0x100 * i, 3, 3, 0x0⟩
def F.I2C_STATUS_TIMEOUT (i : Nat) : Fld := ⟨0x140808 + 0x100 * i, 2, 2, 0x0⟩
def F.I2C_STATUS_ARB_LOST (i : Nat) : Fld := ⟨0x140808 + 0x100 * i, 1, 1, 0x0⟩
def F.I2C_STATUS_NACK (i : Nat) : Fld := ⟨0x140808 + 0x100 * i, 0, 0, 0x0⟩
/-- I2C_k_RXDATA, R702. -/
def F.I2C_RXDATA (i : Nat) : Fld := ⟨0x14080C + 0x100 * i, 31, 0, 0x100⟩
def F.I2C_RXDATA_EMPTY (i : Nat) : Fld := ⟨0x14080C + 0x100 * i, 8, 8, 0x100⟩
def F.I2C_RXDATA_BYTE (i : Nat) : Fld := ⟨0x14080C + 0x100 * i, 7, 0, 0x100⟩
/-- TIMER_k_CTRL, R703. -/
def F.TIMER_CTRL (i : Nat) : Fld := ⟨0x140C00 + 0x40 * i, 31, 0, 0x0⟩
def F.TIMER_CTRL_EN (i : Nat) : Fld := ⟨0x140C00 + 0x40 * i, 31, 31, 0x0⟩
def F.TIMER_CTRL_MODE (i : Nat) : Fld := ⟨0x140C00 + 0x40 * i, 30, 29, 0x0⟩
def F.TIMER_CTRL_INVERT (i : Nat) : Fld := ⟨0x140C00 + 0x40 * i, 28, 28, 0x0⟩
def F.TIMER_CTRL_CAP_EDGE (i : Nat) : Fld := ⟨0x140C00 + 0x40 * i, 27, 27, 0x0⟩
def F.TIMER_CTRL_CAPTURE_FULL (i : Nat) : Fld := ⟨0x140C00 + 0x40 * i, 26, 26, 0x0⟩
def F.TIMER_CTRL_CAPTURE_LOST (i : Nat) : Fld := ⟨0x140C00 + 0x40 * i, 25, 25, 0x0⟩
def F.TIMER_CTRL_PRESCALE (i : Nat) : Fld := ⟨0x140C00 + 0x40 * i, 7, 0, 0x0⟩
/-- TIMER_k_COUNT, R703. -/
def F.TIMER_COUNT (i : Nat) : Fld := ⟨0x140C04 + 0x40 * i, 31, 0, 0x0⟩
/-- TIMER_k_PERIOD, R703. -/
def F.TIMER_PERIOD (i : Nat) : Fld := ⟨0x140C08 + 0x40 * i, 31, 0, 0xFFFFFFFF⟩
/-- TIMER_k_COMPARE, R703. -/
def F.TIMER_COMPARE (i : Nat) : Fld := ⟨0x140C0C + 0x40 * i, 31, 0, 0x0⟩
/-- TIMER_k_CAPTURE, R703. -/
def F.TIMER_CAPTURE (i : Nat) : Fld := ⟨0x140C10 + 0x40 * i, 31, 0, 0x0⟩
/-- LCY_STATUS, R727. -/
def F.LCY_STATUS : Fld := ⟨0x10000, 31, 0, 0x0⟩
def F.LCY_STATUS_STATE : Fld := ⟨0x10000, 31, 29, 0x0⟩
def F.LCY_STATUS_DEBUG_OPEN : Fld := ⟨0x10000, 28, 28, 0x0⟩
def F.LCY_STATUS_HOLDUP : Fld := ⟨0x10000, 27, 27, 0x0⟩
def F.LCY_STATUS_EARLY_WARNING : Fld := ⟨0x10000, 26, 26, 0x0⟩
def F.LCY_STATUS_WIPE_PENDING : Fld := ⟨0x10000, 25, 25, 0x0⟩
def F.LCY_STATUS_BUSY : Fld := ⟨0x10000, 24, 24, 0x0⟩
def F.LCY_STATUS_AUTH_FAILS : Fld := ⟨0x10000, 23, 16, 0x0⟩
/-- LCY_COUNTER, R727. -/
def F.LCY_COUNTER : Fld := ⟨0x10008, 63, 0, 0x0⟩
/-- LCY_COUNTER_NOT, R727. -/
def F.LCY_COUNTER_NOT : Fld := ⟨0x10010, 63, 0, 0x0⟩
/-- LCY_TRANSITION, R727. -/
def F.LCY_TRANSITION : Fld := ⟨0x10018, 31, 0, 0x0⟩
def F.LCY_TRANSITION_TARGET : Fld := ⟨0x10018, 2, 0, 0x0⟩
/-- LCY_RESULT, R727. -/
def F.LCY_RESULT : Fld := ⟨0x10020, 31, 0, 0x0⟩
def F.LCY_RESULT_CODE : Fld := ⟨0x10020, 31, 24, 0x0⟩
def F.LCY_RESULT_SOURCE : Fld := ⟨0x10020, 23, 16, 0x0⟩
/-- LCY_TOKENS, R727. -/
def F.LCY_TOKENS : Fld := ⟨0x10024, 31, 0, 0x0⟩
def F.LCY_TOKENS_FAULT : Fld := ⟨0x10024, 15, 8, 0x0⟩
def F.LCY_TOKENS_SPENT : Fld := ⟨0x10024, 7, 0, 0x0⟩
/-- LCY_DEBUG_OP, R727. -/
def F.LCY_DEBUG_OP : Fld := ⟨0x10028, 31, 0, 0x0⟩
def F.LCY_DEBUG_OP_OP : Fld := ⟨0x10028, 1, 0, 0x0⟩
/-- LCY_NONCE_k, R727. -/
def F.LCY_NONCE (i : Nat) : Fld := ⟨0x10040 + 0x4 * i, 31, 0, 0x0⟩
/-- LCY_RESP_k, R727. -/
def F.LCY_RESP (i : Nat) : Fld := ⟨0x10060 + 0x4 * i, 31, 0, 0x0⟩
/-- LCY_KEY_DATA_k, R727. -/
def F.LCY_KEY_DATA (i : Nat) : Fld := ⟨0x100A0 + 0x4 * i, 31, 0, 0x0⟩
/-- LCY_KEY_CRC, R727. -/
def F.LCY_KEY_CRC : Fld := ⟨0x100D0, 31, 0, 0x0⟩
/-- LCY_KEY_OP, R727. -/
def F.LCY_KEY_OP : Fld := ⟨0x100C0, 31, 0, 0x0⟩
def F.LCY_KEY_OP_SLOT : Fld := ⟨0x100C0, 15, 8, 0x0⟩
def F.LCY_KEY_OP_KIND : Fld := ⟨0x100C0, 3, 0, 0x0⟩
/-- LCY_KEY_STATUS, R727. -/
def F.LCY_KEY_STATUS : Fld := ⟨0x100C8, 31, 0, 0x0⟩
def F.LCY_KEY_STATUS_SCENE : Fld := ⟨0x100C8, 31, 16, 0x0⟩
def F.LCY_KEY_STATUS_PROMPT : Fld := ⟨0x100C8, 15, 0, 0x0⟩
/-- LCY_KEY_PUB, R727. -/
def F.LCY_KEY_PUB : Fld := ⟨0x100CC, 31, 0, 0x0⟩
def F.LCY_KEY_PUB_PROMPT_PUB : Fld := ⟨0x100CC, 1, 1, 0x0⟩
def F.LCY_KEY_PUB_SCENE_PUB : Fld := ⟨0x100CC, 0, 0, 0x0⟩
/-- SYS_ID, R741. -/
def F.SYS_ID : Fld := ⟨0x0, 31, 0, 0x84000000⟩
def F.SYS_ID_PART : Fld := ⟨0x0, 31, 16, 0x84000000⟩
def F.SYS_ID_STEPPING : Fld := ⟨0x0, 11, 8, 0x84000000⟩
def F.SYS_ID_SPEED : Fld := ⟨0x0, 7, 4, 0x84000000⟩
def F.SYS_ID_TEMP : Fld := ⟨0x0, 3, 0, 0x84000000⟩
/-- SYS_DEVICE_ID, R741. -/
def F.SYS_DEVICE_ID : Fld := ⟨0x8, 63, 0, 0x0⟩
/-- CUE_SRC_s_ROUTE, R742. -/
def F.CUE_SRC_ROUTE (i : Nat) : Fld := ⟨0x40000 + 0x10 * i, 31, 0, routeReset i⟩
def F.CUE_SRC_ROUTE_BOXES (i : Nat) : Fld := ⟨0x40000 + 0x10 * i, 30, 16, routeReset i⟩
def F.CUE_SRC_ROUTE_EN (i : Nat) : Fld := ⟨0x40000 + 0x10 * i, 15, 15, routeReset i⟩
def F.CUE_SRC_ROUTE_LOG (i : Nat) : Fld := ⟨0x40000 + 0x10 * i, 14, 14, routeReset i⟩
def F.CUE_SRC_ROUTE_FAB_EN (i : Nat) : Fld := ⟨0x40000 + 0x10 * i, 13, 13, routeReset i⟩
def F.CUE_SRC_ROUTE_FAB_LINE (i : Nat) : Fld := ⟨0x40000 + 0x10 * i, 12, 8, routeReset i⟩
def F.CUE_SRC_ROUTE_PIN_EN (i : Nat) : Fld := ⟨0x40000 + 0x10 * i, 7, 7, routeReset i⟩
def F.CUE_SRC_ROUTE_PIN (i : Nat) : Fld := ⟨0x40000 + 0x10 * i, 6, 4, routeReset i⟩
/-- CUE_SRC_s_FLAGS, R742. -/
def F.CUE_SRC_FLAGS (i : Nat) : Fld := ⟨0x40004 + 0x10 * i, 31, 0, 0x0⟩
/-- CUE_SRC_s_INFO, R742. -/
def F.CUE_SRC_INFO (i : Nat) : Fld := ⟨0x40008 + 0x10 * i, 31, 0, 0x0⟩
def F.CUE_SRC_INFO_INSTANCES (i : Nat) : Fld := ⟨0x40008 + 0x10 * i, 5, 0, 0x0⟩
/-- CUE_SUMMARY_w, R743. -/
def F.CUE_SUMMARY (i : Nat) : Fld := ⟨0x44000 + 0x4 * i, 31, 0, 0x0⟩
/-- CUE_CNT_SEL, R743. -/
def F.CUE_CNT_SEL : Fld := ⟨0x44080, 31, 0, 0x0⟩
def F.CUE_CNT_SEL_SOURCE : Fld := ⟨0x44080, 15, 0, 0x0⟩
/-- CUE_CNT, R743. -/
def F.CUE_CNT : Fld := ⟨0x44084, 31, 0, 0x0⟩
/-- CUE_LOG_STATUS, R743. -/
def F.CUE_LOG_STATUS : Fld := ⟨0x44090, 31, 0, 0x0⟩
def F.CUE_LOG_STATUS_HEAD : Fld := ⟨0x44090, 11, 0, 0x0⟩
/-- CUE_LOG_TOTAL, R743. -/
def F.CUE_LOG_TOTAL : Fld := ⟨0x44094, 31, 0, 0x0⟩
/-- CUE_LOG_SEL, R743. -/
def F.CUE_LOG_SEL : Fld := ⟨0x44098, 31, 0, 0x0⟩
def F.CUE_LOG_SEL_AGE : Fld := ⟨0x44098, 11, 0, 0x0⟩
/-- CUE_LOG_DATA_w, R743. -/
def F.CUE_LOG_DATA (i : Nat) : Fld := ⟨0x440A0 + 0x4 * i, 31, 0, 0x0⟩
/-- CUE_PIN_k_CFG, R743. -/
def F.CUE_PIN_CFG (i : Nat) : Fld := ⟨0x44100 + 0x4 * i, 31, 0, 0x14⟩
def F.CUE_PIN_CFG_MODE (i : Nat) : Fld := ⟨0x44100 + 0x4 * i, 31, 31, 0x14⟩
def F.CUE_PIN_CFG_ACTIVE (i : Nat) : Fld := ⟨0x44100 + 0x4 * i, 30, 30, 0x14⟩
def F.CUE_PIN_CFG_WIDTH (i : Nat) : Fld := ⟨0x44100 + 0x4 * i, 15, 0, 0x14⟩
/-- CLK_DOM_OP, R659. -/
def F.CLK_DOM_OP : Fld := ⟨0x30900, 31, 0, 0x0⟩
def F.CLK_DOM_OP_DOMAIN : Fld := ⟨0x30900, 13, 8, 0x0⟩
def F.CLK_DOM_OP_OP : Fld := ⟨0x30900, 1, 0, 0x0⟩
/-- WQ_HOLD_ID_n, R158. -/
def F.WQ_HOLD_ID (i : Nat) : Fld := ⟨0xE0058 + 0x100 * i, 63, 0, 0x0⟩
/-- CFG_PROMPT_VERSION, R191. -/
def F.CFG_PROMPT_VERSION : Fld := ⟨0x60808, 63, 0, 0x0⟩
/-- CFG_PROMPT_SEQ, R191. -/
def F.CFG_PROMPT_SEQ : Fld := ⟨0x60810, 31, 0, 0x0⟩
/-- CFG_PROMPT_DIGEST_k, R191. -/
def F.CFG_PROMPT_DIGEST (i : Nat) : Fld := ⟨0x60820 + 0x4 * i, 31, 0, 0x0⟩
/-- SYS_CALL_TIME, R84. -/
def F.SYS_CALL_TIME : Fld := ⟨0x114, 31, 0, 0x0⟩
/-- CFG_SCENE_DIGEST_k, R601. -/
def F.CFG_SCENE_DIGEST (i : Nat) : Fld := ⟨0x60080 + 0x4 * i, 31, 0, 0x0⟩
/-- CFG_WINGS_DIGEST_k, R601. -/
def F.CFG_WINGS_DIGEST (i : Nat) : Fld := ⟨0x600A0 + 0x4 * i, 31, 0, 0x0⟩

/-- A register found at an address: its row, its two indices and the byte offset inside it (0 or 4). -/
structure RegAt where
  row : RegRow
  i : Nat
  j : Nat
  off : Nat
  deriving DecidableEq, Repr

/-- The indices at which the 4-byte aligned address `a` falls inside the row, or none. -/
def RegRow.at? (r : RegRow) (a : Nat) : Option RegAt :=
  if a < r.base then none else
  let o := a - r.base
  let i := if r.s1 = 0 then 0 else o / r.s1
  let o1 := if r.s1 = 0 then o else o % r.s1
  let j := if r.s2 = 0 then 0 else o1 / r.s2
  let o2 := if r.s2 = 0 then o1 else o1 % r.s2
  if i < r.n1 ∧ j < r.n2 ∧ (o2 = 0 ∨ (r.wide = true ∧ o2 = 4)) then some ⟨r, i, j, o2⟩ else none

/-- The register that holds the 4-byte aligned address `a`, if one does (R12, R740). -/
def findReg (a : Nat) : Option RegAt := regRows.findSome? (fun r => r.at? a)

/-- The reset value of a register instance. -/
def RegAt.reset (r : RegAt) : Nat :=
  match r.row.id with
  | .CLK_PLL_DITHER => r.row.rst + r.i
  | .CUE_SRC_ROUTE => routeReset r.i
  | .DMC_CFG => dmcCfgReset r.i
  | _ => r.row.rst

/-- The byte address of the register instance (its low half when it is 64 bits wide). -/
def RegAt.addr (r : RegAt) : Nat := r.row.base + r.row.s1 * r.i + r.row.s2 * r.j

end Sys2Proof.Machine
end

