-- ==== Sys2Proof/Machine/TypesBase.lean ====
section
/-! DEFINITION. Plain data of the cue board (R729 to R739), the clocks (R636 to R659), house time (R482 to R489) and the
stores of the running command. -/

namespace Sys2Proof.Machine

/-- One 16-byte event record: SOURCE, COUNT and TIME (R524, R737). -/
structure EvRec where
  source : Nat := 0
  count : Nat := 0
  time : Nat := 0
  deriving DecidableEq, Repr

/-- The cue board beside its registers. -/
structure Cue where
  /-- occurrences per SOURCE value (R731, R732) -/
  counts : Tbl Nat := []
  /-- level of FAB_EVT_OUT_l in bit l (R560) -/
  fabLevel : Nat := 0
  /-- instant at which a PULSE-mode pin falls (R735); 0: low -/
  pinEnd : Tbl Nat := []
  /-- the Prompter log, newest first, at most 4,096 records (R737) -/
  log : List EvRec := []
  /-- index of the next record written -/
  logHead : Nat := 0
  /-- records written since power-on, saturating -/
  logTotal : Nat := 0
  /-- SOURCE values latched in AON while the cue board is gated (R663, R738) -/
  latched : List Nat := []
  deriving DecidableEq, Repr

/-- The states of the pins that the mode and the phases of CALL set (R69, R71, R562). -/
structure Pins where
  /-- SYS_READY; none: high-impedance with its weak pull-down -/
  ready : Option Bool
  /-- SYS_HOLD_N; none: high-impedance with its weak pull-up -/
  holdN : Option Bool
  /-- the reject gates are driven; otherwise high-impedance -/
  gates : Bool
  /-- tracks whose encoder and cue receivers are on -/
  receivers : List Nat
  /-- user I/O take their scene function; otherwise the strap pull -/
  userIo : Bool
  /-- quadrants whose user flip-flops run, as a mask -/
  quadrants : Nat
  /-- MON_TX is driven -/
  monTx : Bool
  /-- CUE_A is driven and CUE_B watched; otherwise high-impedance with weak pull-down -/
  cue : Bool
  /-- PRB_k: none high-impedance, otherwise its level (R562) -/
  probes : List (Option Bool)
  /-- what the fabric presents at user pins: bit 0 enable, bit 1 value (R685) -/
  fabric : Tbl Nat
  deriving DecidableEq, Repr

/-- What hardware did to a register in the present instant (R19, R20): the flags it set, and the value before. -/
structure Hit where
  bits : Nat := 0
  old : Nat := 0
  deriving DecidableEq, Repr

/-- One band memory entry of a PLL (R643). -/
structure Band where
  valid : Bool := false
  band : Nat := 0
  trim : Nat := 0
  key : Nat := 0
  /-- order of last use: greater is later -/
  used : Nat := 0
  deriving DecidableEq, Repr

/-- One PLL beside its registers. -/
structure Pll where
  bands : Tbl Band := []
  useCount : Nat := 0
  /-- start of the running lock attempt -/
  since : Ps := 0
  /-- lock settings of the running or last attempt: LOSS_WIN, WINDOW, CYCLES (R642) -/
  lockCfg : Nat := 0
  /-- CFG, FRAC and OUT as the last RELOCK applied them -/
  cfg : Nat := 0
  frac : Nat := 0
  outs : Nat := 0
  /-- the fractional-divider LFSR as loaded at the attempt (R641) -/
  lfsr : Nat := 0
  deriving DecidableEq, Repr

/-- The clocks beside their registers. -/
structure Clk where
  pll : Tbl Pll := []
  /-- the clock trees that FRG_TAP_CLK feeds, as a mask (R549) -/
  tapTrees : Nat := 0
  /-- REF lost since this instant (R639) -/
  refLostAt : Option Ps := none
  /-- REF_SEL straps as sampled, and whether REF is an external clock (R637) -/
  refSel : Nat := 0
  deriving DecidableEq, Repr

/-- The house time counter (R482 to R489), in ps: the value at one instant, the learned rate and a slew under way. -/
structure House where
  set : Bool := false
  base : Nat := 0
  baseAt : Ps := 0
  /-- frequency correction in parts per billion -/
  rate : Int := 0
  /-- offset still to be slewed at 100 ppm -/
  slew : Int := 0
  deriving DecidableEq, Repr

/-- The value of one variable-data field (R257, R273, R291). -/
structure FieldVal where
  blank : Bool := true
  chars : List Nat := []
  /-- a SYMBOL field: its columns and its modules, row by row, dark true -/
  cols : Nat := 0
  mods : List Bool := []
  deriving DecidableEq, Repr

/-- A memory operation that the running command issued. -/
inductive Store where
  | dram (a : Nat) (bs : List Byte)
  | flash (a : Nat) (bs : List Byte)
  | flashErase (lo hi : Nat)
  | nor (a : Nat) (bs : List Byte)
  | norErase (lo hi : Nat)
  | dramLost
  deriving DecidableEq, Repr

end Sys2Proof.Machine
end

