-- ==== Sys2Proof/Machine/TypesIzx.lean ====
section
/-! DEFINITION. Plain data of the Izrex boxes: slots, running commands and responses due (R512 to R531). -/

namespace Sys2Proof.Machine

/-- What a slot of the result window holds (R521). -/
inductive SlotState where
  | empty | recorded | rerun
  deriving DecidableEq, Repr

/-- One slot of the result window. -/
structure Slot where
  st : SlotState := .empty
  crc : Nat := 0
  opcode : Nat := 0
  status : Nat := 0
  payload : List Byte := []
  deriving DecidableEq, Repr

/-- A response: opcode, STATUS, REPLAY and payload (R510). -/
structure Resp where
  status : Nat
  replay : Bool := false
  payload : List Byte := []
  deriving DecidableEq, Repr

/-- A command executing or answered, whose response has not left (R522). -/
structure Due where
  seq : Nat
  opcode : Nat
  blocks : Nat
  port : Nat
  /-- CRC-32C of the command payload -/
  crc : Nat
  /-- bytes the execution still needs -/
  payload : List Byte := []
  resp : Option Resp := none
  /-- part of a batch was answered from the record (R527) -/
  replay : Bool := false
  /-- track and item ID of each record that it submits (R155) -/
  subs : List (Nat × Nat) := []
  deriving DecidableEq, Repr

/-- One box. HIGH, HOST and the rights stand in its registers. -/
structure Box where
  isOpen : Bool := false
  held : Bool := false
  heldAt : Ps := 0
  port : Nat := 0
  /-- HOST_ID the BOXES section requires; 0 any -/
  hostReq : Nat := 0
  /-- blocks freed since NEW, modulo 2^32 (R516) -/
  freed : Nat := 0
  slots : Tbl Slot := []
  /-- ascending in SEQ -/
  due : List Due := []
  /-- retries held behind the running command of their SEQ (R530) -/
  retries : List Due := []
  events : List EvRec := []
  lost : Bool := false
  /-- closing as soon as the commands in execution complete (R512); the port whose CLOSE awaits its answer -/
  closing : Bool := false
  closeOn : Option Nat := none
  deriving DecidableEq, Repr

/-- One Izrex port beside its registers (R508). -/
structure Port where
  takenDown : Bool := false
  /-- last start of a training -/
  since : Ps := 0
  deriving DecidableEq, Repr

/-- One lane of port D, of the ring or of an Izrex port: its training state as R346 numbers it and its entry (R423, R473,
R507). -/
structure Link where
  state : Nat := 0
  since : Ps := 0
  deriving DecidableEq, Repr

/-- An upload owned by a box from BEGIN to END (R526). -/
structure Transfer where
  box : Nat := 0
  /-- prompt book slot, or 0 for a scene -/
  slot : Nat := 0
  /-- erase complete -/
  ready : Bool := false
  length : Nat := 0
  /-- byte ranges written, as (offset, length) -/
  written : List (Nat × Nat) := []
  /-- SEQ of the BEGIN or END awaiting its outcome -/
  wait : Option Nat := none
  deriving DecidableEq, Repr

end Sys2Proof.Machine
end

