-- ==== Sys2Proof/Machine/TypesTrk.lean ====
section
/-! DEFINITION. Plain data of the tracks (R89 to R143), of the items and the work queue (R38 to R192), of the ledger and
the company (R461 to R505) and of the duplex pair (R417 to R460). -/

namespace Sys2Proof.Machine

/-! ### Tracks -/

/-- The states of the position synthesiser (R101). -/
inductive Synth where
  | acquire | locked | coast | rejoin
  deriving DecidableEq, Repr

/-- A cue transition waiting for DEBOUNCE, with what held at its time stamp (R95, R119). -/
structure CuePending where
  /-- the level that the input has taken -/
  level : Bool
  at_ : Ps
  pos : Pos
  st : Synth
  lockedOnce : Bool
  reverse : Bool
  inhibited : Bool
  inCall : Bool
  deriving DecidableEq, Repr

/-- A happening of a track that waits for the encoder edge of its own 625 ps step, which goes first (R122). -/
inductive Late where
  | cue (k : Nat) (level : Bool) (stamp : Ps)
  | z (stamp : Ps)
  deriving DecidableEq, Repr

/-- A starvation print still firing (R163, R164). -/
structure Starve where
  layout : Nat
  version : Nat
  c : Pos
  offset : Nat
  pitch : Nat
  lines : Nat
  next : Nat := 0
  /-- ranges of skipped lines, ascending -/
  skips : List (Nat × Nat) := []
  announced : Nat := 0
  stamp : Ps := 0
  /-- its fields have been delivered -/
  ready : Bool := false
  readyAt : Ps := 0
  fields : List FieldVal := []
  /-- mark bits that its fields would bring: its events, for it marks nothing (R164, R309) -/
  formedMarks : Nat := 0
  deriving DecidableEq, Repr

/-- One track beside its registers. -/
structure Trk where
  armed : Bool := false
  st : Synth := .acquire
  lockedOnce : Bool := false
  reverse : Bool := false
  overspeed : Bool := false
  /-- direction of the last edge: reverse -/
  back : Bool := false
  lossCause : Nat := 0
  cfgPending : Bool := false
  /-- runs under PERFORMANCE rules (R60) -/
  perf : Bool := false
  pe : Pos := 0
  /-- P_s at `psTime` -/
  ps : Pos := 0
  psTime : Ps := 0
  h : Pos := 0
  /-- the edge rate, in units of 2^-32 edges/s (log entry 44) -/
  v : Nat := 0
  mult : Nat := 0
  lastEdge : Option Ps := none
  /-- the last measured edge period -/
  period : Nat := 0
  /-- the previous period, when the next may be compared with it (R104) -/
  prev : Option Nat := none
  /-- periods of the running acquisition, newest first -/
  acq : List Nat := []
  acqEdges : Nat := 0
  fromCoast : Bool := false
  coastUsed : Nat := 0
  rejoinEdges : Nat := 0
  r : Int := 0
  revLow : Pos := 0
  revRaised : Bool := false
  revItems : List Nat := []
  zCount : Nat := 0
  zValid : Bool := false
  firedZ : List Nat := []
  firedEdge : List Nat := []
  /-- the latest fire instant, on the 625 ps grid (R100), and the item and line it fired (R115) -/
  lastFire : Option Ps := none
  firedTag : Nat × Nat := (0, 0)
  lastBind : Option Pos := none
  /-- motion or a cue seen while not armed in this CALL, before the duplex role is settled (R75) -/
  early : Bool := false
  earlyRaised : Bool := false
  /-- level of the cue inputs as sampled, and as it last stayed for DEBOUNCE, one bit each (R95) -/
  cueLevel : Nat := 0
  cueStable : Nat := 0
  /-- happenings that wait for the edge of their step (R122) -/
  late : List Late := []
  cues : Tbl (Option CuePending) := []
  starves : List Starve := []
  /-- binding stopped by the supply early-warning (R171) -/
  bindStop : Bool := false
  /-- understudy: BIND cues of its own not yet named by the lead (R435), newest first -/
  unbound : List (Ps × Pos) := []
  /-- understudy alignment: running equal offsets of POS samples (R438) -/
  alignRun : Nat := 0
  alignOff : Pos := 0
  aligned : Bool := false
  /-- recent accepted edges, newest first, with P_e after each (R437) -/
  edges : List (Ps × Pos) := []
  deriving DecidableEq, Repr

/-! ### Items -/

/-- Where an item stands between its submission and CLOSED (R38, R39). -/
inductive Phase where
  | serial (since : Ps)
  | writing
  | mirror (commitSeq : Nat)
  | ready
  | accepted
  | head
  | bound
  | printing
  | fired
  deriving DecidableEq, Repr

/-- Who waits for an outcome: the box, the SEQ of its command and the index in a batch. -/
structure Submitter where
  box : Nat := 0
  seq : Nat := 0
  index : Nat := 0
  /-- forwarded by the understudy over port D (R434) -/
  fwd : Bool := false
  deriving DecidableEq, Repr

/-- One item (R144) with everything the device keeps of it. -/
structure Item where
  id : Nat := 0
  flags : Nat := 0
  layout : Nat := 0
  series : Nat := 0
  fieldCount : Nat := 0
  cueOffset : Nat := 0
  hostTag : Nat := 0
  vdata : List Byte := []
  phase : Phase := .writing
  /-- when it was accepted (R175) -/
  acceptedAt : Option Ps := none
  marks : Nat := 0
  sub : Submitter := {}
  /-- the issued serial as a value, none when none was issued (R274, R278) -/
  serial : Option Nat := none
  /-- layout version at the check (R228) -/
  version : Nat := 0
  readInstant : Nat := 0
  readSet : Bool := false
  /-- counters taken: (counter, word value) -/
  counters : List (Nat × Nat) := []
  fields : List FieldVal := []
  /-- fields formed at HEAD and not yet delivered, with the marks they bring (R297) -/
  formed : List FieldVal := []
  formedMarks : Nat := 0
  headAt : Ps := 0
  /-- fields have been delivered to the forge -/
  delivered : Bool := false
  vdataBad : Bool := false
  perf : Bool := false
  c : Pos := 0
  pitch : Nat := 0
  lines : Nat := 0
  next : Nat := 0
  /-- ranges of skipped lines, ascending -/
  skips : List (Nat × Nat) := []
  announced : Nat := 0
  boundAt : Ps := 0
  firedAt : Ps := 0
  /-- lines fired, skipped or late so far that the verdict rules count -/
  verdicts : List (Nat × Bool) := []
  verdict : Nat := 0
  decided : Bool := false
  rejected : Bool := false
  /-- stopped by HOLD or SERVICE (R57) -/
  stopped : Bool := false
  /-- its layout failed DESC_CRC at load: every line is the understudy line (R202) -/
  corrupt : Bool := false
  /-- when the fields the lines draw were last delivered (R387) -/
  deliveredAt : Ps := 0
  /-- the verdict window has closed -/
  closedWin : Bool := false
  /-- gates that have issued their pulse for this item (R403, R405) -/
  pulsed : List Nat := []
  /-- slot number in the queue ring (R160, R274) -/
  slot : Nat := 0
  /-- NZC_DELAY_CLIP and NZC_TAIL_LOST raised already (R316) -/
  clipped : Bool := false
  deriving DecidableEq, Repr

/-- A 16-byte outcome record of the history (R151). -/
structure OutRec where
  id : Nat
  state : Nat
  verdict : Nat := 0
  marks : Nat := 0
  hostTag : Nat := 0
  deriving DecidableEq, Repr

/-- A submission as it arrived: the 64 record bytes and who waits. -/
structure Submission where
  bytes : List Byte
  sub : Submitter
  deriving DecidableEq, Repr

/-- The work queue of one track beside its registers. -/
structure Wq where
  /-- items from COMMITTING to FIRED, in queue order -/
  items : List Item := []
  /-- the history of R151, newest first, at most 65,536 -/
  history : List OutRec := []
  /-- submissions held behind a committing item of their ID (R156) -/
  held : List Submission := []
  /-- since when the retry hold lasts (R158) -/
  holdAt : Option Ps := none
  /-- items that entered FIRED since the latest entry request (R167) -/
  since : Nat := 0
  boundMax : Nat := 0
  /-- FIRED_ID of the latest entry -/
  lastEntryFired : Nat := 0
  /-- greatest CEILING_ID and FIRED_ID journaled by the latest written entry, none before the first (R169, R170) -/
  ceiling : Option Nat := none
  /-- records written to the history ring, and the next slot of the queue ring (R160) -/
  histNext : Nat := 0
  /-- the item next in line waits for a descriptor store slot (R202) -/
  storeWait : Bool := false
  slotNext : Nat := 0
  /-- a flush that waits for a BIND cue of its own cycle (R175) -/
  lateFlush : Option (Nat × List Nat) := none
  /-- how many items the latest flush removed: the count that WQ_FLUSHED carries (R165) -/
  flushed : Nat := 0
  deriving DecidableEq, Repr

/-- The AON retention record of one track (R166). -/
structure AonMark where
  present : Bool := false
  fired : Nat := 0
  bound : Nat := 0
  /-- the complements stored beside the values (R22) -/
  firedNot : Nat := 2 ^ 64 - 1
  boundNot : Nat := 2 ^ 64 - 1
  deriving DecidableEq, Repr

/-! ### Modes and start-up -/

/-- CALL and the modes beside their registers (R55 to R88). -/
structure Sys where
  /-- a reset is held: SYS_RST_N low, or a rail below its trip point (R59) -/
  held : Bool := true
  /-- the reset held is a power-on reset -/
  por : Bool := true
  /-- t0 of R65 -/
  t0 : Ps := 0
  /-- codes of the phases of CALL that have completed (R64) -/
  done : List Nat := []
  /-- CALL stopped in its present phase by a PLL (R645) -/
  clkFail : Bool := false
  /-- training of a controller failed: phase DRAM has stopped (R77) -/
  dramFail : Bool := false
  /-- phase ARM failed, in CALL or in a print-path reset (R64, R347) -/
  armFail : Bool := false
  /-- the start mode of the prompt book: PERFORMANCE (R68) -/
  startPerf : Bool := false
  joinMs : Nat := 100
  promptAt : Ps := 0
  companyDone : Bool := false
  roleDone : Bool := false
  /-- the reset that a write of SYS_RESET_REQ began, and its instant (R87) -/
  reset : Option (Nat × Ps) := none
  /-- the mode a pending R60 transition leads to -/
  toMode : Option Nat := none
  /-- the supply early-warning is asserted (R171, R748) -/
  earlyWarning : Bool := false
  /-- CALL follows a warm reset: the DRAM is verified only (R79) -/
  warm : Bool := false
  /-- the capture of HOLD is kept (R59) -/
  fromHold : Bool := false
  /-- steps of phase ARM still open in a print-path reset -/
  printReset : Bool := false
  armStarted : Bool := false
  deriving DecidableEq, Repr

/-! ### Ledger and company -/

/-- One ledger entry by KIND (R465). -/
inductive Entry where
  | sector (seq dev : Nat)
  | fired (track sub : Nat) (firedId ceil : Nat)
  | accession (series : Nat) (partner : Bool) (quantum offset : Nat)
  | lease (series : Nat) (partner : Bool) (state quantum quanta holder tag : Nat)
  | catalogue (series next epoch tag : Nat)
  | epoch (promised keeper : Nat)
  | reseal (n : Nat)
  deriving DecidableEq, Repr

/-- A lease record (R490). -/
structure Lease where
  series : Nat := 0
  partner : Bool := false
  /-- 1 PREPARED, 2 HELD, 3 EXHAUSTED, 4 ABANDONED (R491) -/
  state : Nat := 0
  holder : Nat := 0
  quantum : Nat := 0
  quanta : Nat := 0
  epoch : Nat := 0
  txn : Nat := 0
  tag : Nat := 0
  /-- next free point P of the lease, in values from its START (R275) -/
  free : Nat := 0
  /-- a lead waits for the understudy before it issues from the lease (R494) -/
  wait : Bool := false
  deriving DecidableEq, Repr

/-- What an entry's effect completes besides itself. -/
inductive Purpose where
  | plain
  | accession (series : Nat)
  /-- the keeper's catalogue entry or own PREPARED entry of the proposal with this TXN and requester -/
  | propose (txn holder : Nat)
  /-- the last entry of a member's PROPOSE: ACCEPT goes to the keeper -/
  | accept (epoch series next txn : Nat)
  /-- the EPOCH entry of a RECALL: the replies go to the candidate -/
  | recall (epoch candidate : Nat)
  /-- the last entry of an election: this device becomes keeper -/
  | elected (epoch : Nat)
  | held (lease : Lease)
  | resealDone
  /-- an entry mirrored for the lead: COMMIT_ACK of this record -/
  | mirror (commit : Nat)
  deriving DecidableEq, Repr

/-- An entry requested and not yet written. -/
structure LdgReq where
  entry : Entry
  purpose : Purpose := .plain
  tries : Nat := 0
  /-- a copy that compaction makes of an entry already in effect (R468) -/
  copy : Bool := false
  deriving DecidableEq, Repr

/-- The ledger beside its registers. -/
structure Ldg where
  queue : List LdgReq := []
  /-- entries in effect, one per key (R466) -/
  live : List Entry := []
  /-- sector holding the head, its next slot and the next SECTOR_SEQ; none before the first entry -/
  head : Option (Nat × Nat) := none
  seq : Nat := 0
  /-- SECTOR_SEQ of each sector in use -/
  sectors : Tbl (Option Nat) := []
  /-- sector being erased -/
  erasing : Option Nat := none
  scanned : Bool := false
  resealing : Bool := false
  /-- the ledger was resealed in this CALL (R472) -/
  resealed : Bool := false
  deriving DecidableEq, Repr

/-- What a device last said of itself in a BEACON (R476). -/
structure BeaconInfo where
  at_ : Ps := 0
  deviceId : Nat := 0
  priority : Nat := 0
  vote : Nat := 0xFFFF
  promised : Nat := 0
  admitted : Bool := false
  deriving DecidableEq, Repr

/-- A proposal at the keeper (R493). -/
structure Proposal where
  lease : Lease
  next : Nat
  /-- own journal entries still to take effect -/
  own : Nat := 0
  /-- PROPOSE has left: the CATALOGUE entry has taken effect (R31, R493) -/
  sent : Bool := false
  accepts : List Nat := []
  at_ : Ps := 0
  deriving DecidableEq, Repr

/-- A request outstanding at this device (R493). -/
structure LeaseWait where
  txn : Nat
  at_ : Ps
  deriving DecidableEq, Repr

/-- House-time marks of one port (R482). -/
structure Marks where
  /-- offsets of the last 64 estimates from this device's house time, in ps, newest first -/
  offs : List Int := []
  hops : Nat := 0
  lastAt : Option Ps := none
  /-- consecutive marks with UNSET 0, and with UNSET 1 -/
  setRun : Nat := 0
  unsetRun : Nat := 0
  /-- the last 64 link delays, in 625 ps steps -/
  delays : List Nat := []
  deriving DecidableEq, Repr

/-- The company beside its registers. -/
structure Cmp where
  /-- the roster: DEVICE_ID and PRIORITY per seat (R499) -/
  roster : List (Nat × Nat) := []
  seats : Nat := 1
  companyId : Nat := 0
  digest : List Byte := []
  leaseMs : Nat := 20
  keeper : Bool := false
  castAt : Option Ps := none
  /-- last qualifying CAST (R479) -/
  quorumAt : Option Ps := none
  beacons : Tbl BeaconInfo := []
  /-- last SEQs seen per sender -/
  seen : Tbl (List Nat) := []
  txSeq : Nat := 0
  txn : Nat := 0
  waits : Tbl (Option LeaseWait) := []
  proposals : List Proposal := []
  /-- the running election: epoch, greatest NEXT reported per series, and the parts received per seat -/
  election : Option Nat := none
  electNext : Tbl Nat := []
  replyParts : Tbl Nat := []
  part : Nat := 0
  port : Tbl Marks := []
  steppedUntil : Ps := 0
  holdoverAt : Option Ps := none
  holdE : Nat := 0
  holdLimitRaised : Bool := false
  /-- consecutive usable marks in holdover (R488) -/
  returnRun : Nat := 0
  intervalFrom : Ps := 0
  joinedAt : Option Ps := none
  deriving DecidableEq, Repr

/-- A series definition of the prompt book (R461), with its range as values (R262). -/
structure SeriesDef where
  defined : Bool := false
  vector : Nat := 0
  k : Nat := 4
  q : Nat := 0
  quanta : Nat := 1
  low : Nat := 0
  start : Nat := 0
  last : Nat := 0
  digest : List Byte := []
  deriving DecidableEq, Repr

/-- The series counter of one series (R274 to R278): values are numbers. -/
structure SeriesRun where
  /-- next value Q and end of the current accession -/
  cur : Option (Nat × Nat) := none
  ahead : Option (Nat × Nat) := none
  /-- an accession requested and not yet usable: its range, and the lease and offset it is journaled with -/
  pend : Option (Nat × Nat) := none
  /-- no further lease, by reason: a refusal for 1 quorum, 2 exhaustion, 5 cast, or 3 not cast and 4 no quorum here
  (R278, R496); 3 and 4 end with their cause -/
  noLease : Nat := 0
  deriving DecidableEq, Repr

/-! ### Duplex -/

/-- A C frame awaiting its acknowledgement (R428 to R432): what it completes. -/
inductive CommitFor where
  | item (track id : Nat)
  | accession (series : Nat)
  | lease (lease : Lease)
  | layout
  | nozzle
  /-- a flush, and the items that were in COMMITTING when its write was accepted (R165) -/
  | flush (track scope : Nat) (spared : List Nat)
  | prompt (box seq : Nat)
  | scene
  /-- an entry of NZC_PATCH_ENTRY at an index (R330) -/
  | patch (index entry : Nat)
  /-- data that a later frame of the operation uses -/
  | data
  deriving DecidableEq, Repr

/-- A commit in progress. -/
structure Commit where
  seq : Nat
  kind : Nat
  track : Nat
  what : CommitFor
  at_ : Ps
  deriving DecidableEq, Repr

/-- A changeover under way: the switch instant, the role to take and the cause (R442). -/
structure Switch where
  at_ : Ps
  primary : Bool
  cause : Nat
  /-- t_c, for the gap of R445 -/
  tc : Ps
  deriving DecidableEq, Repr

/-- A C frame applied by the understudy and waiting for its effect. -/
structure DpxApply where
  commit : Nat
  kind : Nat
  track : Nat
  /-- when it arrived -/
  at_ : Ps := 0
  deriving DecidableEq, Repr

/-- A forwarded submission that a lead executes (R434): box and SEQ on the understudy, opcode and the answer so far. -/
structure Serving where
  box : Nat
  seq : Nat
  opcode : Nat
  payload : List Byte
  deriving DecidableEq, Repr

/-- The duplex block beside its registers. -/
structure Dpx where
  configured : Bool := false
  partnerReq : Nat := 0
  prefer : Nat := 0
  /-- last edge seen on CUE_B, last good frame on port D -/
  cueAt : Option Ps := none
  frameAt : Option Ps := none
  beating : Bool := false
  beatLevel : Bool := false
  txSeq : Nat := 0
  rxSeq : Nat := 0
  /-- frames sent and not acknowledged, oldest first: SEQ, opcode and payload -/
  unacked : List (Nat × Nat × List Byte) := []
  /-- frames that wait while 256 are held: opcode and payload (R426) -/
  waiting : List (Nat × List Byte) := []
  /-- C frames that came before the end record of a resynchronisation: opcode and payload (R452) -/
  heldC : List (Nat × List Byte) := []
  ackAt : Ps := 0
  /-- since when port D retrains at a change of width, which pauses the timer of R432 (R424) -/
  retrain : Option Ps := none
  sentAt : Ps := 0
  nakAt : Option Ps := none
  commitSeq : Nat := 1
  commits : List Commit := []
  /-- consecutive faults on one commit, and on a lead the NAKs that name its frame (log entry 32) -/
  faults : Nat := 0
  nakSeq : Nat := 0
  applied : Nat := 0
  applying : List DpxApply := []
  /-- the partner's HELLO named another device (R448) -/
  wrong : Bool := false
  partnerReady : Bool := false
  partnerHold : Bool := false
  partnerMode : Nat := 0
  partnerRehearse : Nat := 0
  /-- house time in the partner's last STATE frame -/
  partnerHouse : Nat := 0
  digestsOk : Bool := false
  synced : Bool := false
  syncSeq : Nat := 0
  lastCo : Option Ps := none
  switch : Option Switch := none
  taking : Option Ps := none
  helloFrom : Ps := 0
  resolved : Bool := false
  primary : Bool := true
  /-- MISSED counts per head before t_c, and heads still to report (R445) -/
  missed : Tbl Nat := []
  /-- last LINE_KEY reported per head before t_c (R445) -/
  keys : Tbl Nat := []
  /-- forwarded submissions under way on a lead (R434) -/
  serving : List Serving := []
  deriving DecidableEq, Repr

end Sys2Proof.Machine
end

