-- ==== Sys2Proof/Machine/TypesPrint.lean ====
section
/-! DEFINITION. Plain data of the print path: variable data (R257 to R309), layouts and the forge (R193 to R256), nozzle
conditioning (R310 to R342), stage lanes (R343 to R381), deadline accounting and inspection (R382 to R416). -/

namespace Sys2Proof.Machine

/-! ### Variable data -/

/-- One digit position of a radix vector (R260). -/
structure VDigit where
  radix : Nat
  alph : Nat
  carry : Nat := 0
  cal : Nat := 0
  deriving DecidableEq, Repr

/-- One calendar beside its register (R281, R299). -/
structure Calendar where
  defined : Bool := false
  vector : Nat := 0
  shifts : List Nat := []
  deriving DecidableEq, Repr

/-- The tables of the variable-data unit; a counter's vector, step and value stand in its registers. -/
structure Vd where
  /-- entries as (character, glyph code); none listed: no alphabet -/
  alphs : Tbl (List (Nat × Nat)) := []
  /-- digits from digit 0; none listed: no vector -/
  vecs : Tbl (List VDigit) := []
  cals : Tbl Calendar := []
  /-- counters that the RADIX section defines -/
  cnts : List Nat := []
  /-- the running host operation: OP and VECTOR (R266) -/
  op : Option (Nat × Nat) := none
  deriving DecidableEq, Repr

/-! ### Layouts and the forge -/

/-- A stamp descriptor (R204, R206). -/
structure Stamp where
  kind : Nat
  priority : Nat
  flags : Nat
  x : Nat
  y : Nat
  w : Nat
  h : Nat
  ops : Nat
  planeMap : Nat
  ink : Nat
  /-- bytes 0x20 to 0x3F -/
  ext : List Byte
  deriving DecidableEq, Repr

/-- A field table entry (R268) with its extension data. -/
structure FieldDesc where
  kind : Nat
  width : Nat
  glyph : Nat
  inAlph : Nat
  src : Nat
  sel : Nat
  ext : List Byte
  param : List Byte
  deriving DecidableEq, Repr

/-- A version of an installed layout (R199, R228). -/
structure Layout where
  id : Nat := 0
  track : Nat := 0
  version : Nat := 0
  addr : Nat := 0
  len : Nat := 0
  crc : Nat := 0
  planes : Nat := 1
  depth : Nat := 0
  flags : Nat := 0
  width : Nat := 1
  length : Nat := 1
  background : Nat := 0
  stamps : List Stamp := []
  fields : List FieldDesc := []
  /-- the understudy line in the format of R201, per plane; empty: blank -/
  under : List (List Byte) := []
  cmax : Nat := 0
  bmax : Nat := 0
  k : Nat := 0
  /-- understudy store bytes reserved (R389) -/
  reserved : Nat := 0
  /-- its understudy head lines in the store: head `h` on page `p` at 256 × p + h (R323) -/
  forms : Tbl (List Byte) := []
  /-- replaced or removed, and still in use (R228) -/
  retiring : Bool := false
  deriving DecidableEq, Repr

/-- A font bank in DRAM (R236). -/
structure Font where
  cellW : Nat := 0
  cellH : Nat := 0
  advance : List Nat := []
  addr : Nat := 0
  deriving DecidableEq, Repr

/-- A running layout operation (R227). -/
structure LayoutOp where
  op : Nat
  track : Nat
  id : Nat
  addr : Nat
  /-- applied for the lead, under this COMMIT_SEQ (R428) -/
  mirror : Option Nat := none
  /-- checked, and waiting for the understudy under this COMMIT_SEQ -/
  waiting : Option Nat := none
  deriving DecidableEq, Repr

/-- Where a line stands in the forge (R194 to R197). -/
inductive LineSt where
  /-- in the line queue -/
  | queued
  /-- in a pipeline; when a parity error restarted it (R238) -/
  | composing (pipe : Nat) (restarted : Option Ps)
  /-- complete, waiting in the output buffer for an earlier line of its track (R196) -/
  | buffered
  /-- left the forge and conditioned; waiting for the hand-off (R356) -/
  | left (at_ : Ps)
  deriving DecidableEq, Repr

/-- One announced line. -/
structure Line where
  track : Nat
  /-- item ID, 0 for a starvation print -/
  item : Nat
  c : Pos
  index : Nat
  fire : Pos
  layout : Nat
  version : Nat
  st : LineSt := .queued
  announced : Ps
  /-- head lines to hand over: head and bytes, of those not yet handed -/
  heads : List (Nat × List Byte) := []
  /-- head lines handed already -/
  handed : Nat := 0
  /-- composed levels, from composition until the line leaves the forge -/
  planes : List (List Nat) := []
  /-- units of artwork that were fetched from DRAM for it (R218) -/
  fetched : List Nat := []
  deriving DecidableEq, Repr

/-- One deadline fault record (R396). -/
structure FaultRec where
  item : Nat
  index : Nat
  flags : Nat
  cause : Nat
  head : Nat
  deriving DecidableEq, Repr

/-- The forge and deadline accounting beside their registers. -/
structure Frg where
  layouts : List Layout := []
  fonts : Tbl Font := []
  op : Option LayoutOp := none
  /-- versions handed out so far -/
  verCount : Nat := 0
  lines : List Line := []
  /-- rows in the install log (R203) -/
  logged : Nat := 0
  /-- the tile cache: the 64-byte units held in each set, the most recently used first (R215) -/
  cache : Tbl (List Nat) := []
  /-- the units that installed layouts pin (R216) -/
  pins : List Nat := []
  /-- the settings of the line taps in force per track: the taps it passes and those in MODIFY, in bits (R234) -/
  taps : Tbl (Nat × Nat) := []
  /-- the running operation ends with the instant (R239) -/
  opLate : Bool := false
  /-- the layout table is being rebuilt on wake (R242) -/
  rebuilding : Bool := false
  /-- pipelines whose last line was restarted once, in bits (R238) -/
  pipeErr : Nat := 0
  /-- TRK_SCHED_n writes held while a layout operation runs (R239): track and value -/
  heldSched : List (Nat × Nat) := []
  /-- records, oldest unread first (R397) -/
  log : List FaultRec := []
  deriving DecidableEq, Repr

/-- A region of the prompt book's REGIONS section (R182): kind, base and size in bytes. -/
structure Region where
  kind : Nat
  base : Nat
  size : Nat
  deriving DecidableEq, Repr

/-! ### Nozzle conditioning -/

/-- One page of the nozzle map (R314, R315). -/
structure NzPage where
  entries : Tbl Nat := []
  curves : Tbl Nat := []
  wsets : Tbl Nat := []
  badEntries : List Nat := []
  badCurves : List Nat := []
  badWsets : List Nat := []
  deriving DecidableEq, Repr

/-- A composed line in the delay store (R317). -/
structure DelayLine where
  item : Nat
  c : Pos
  index : Nat
  /-- levels per plane and dot, 4 bits each -/
  planes : List (List Nat)
  bad : Bool := false
  /-- heads whose head line of it the understudy line replaced, and that line's levels (R323) -/
  replaced : List Nat := []
  under : List (List Nat) := []
  deriving DecidableEq, Repr

/-- A running operation of R325. -/
structure NzOp where
  op : Nat
  mirror : Option Nat := none
  waiting : Bool := false
  /-- when it started (R332) -/
  at_ : Ps := 0
  deriving DecidableEq, Repr

/-- A swap under way (R328). -/
structure NzSwap where
  curtain : Bool
  /-- tracks that have switched, in bits -/
  switched : Nat
  mirror : Option Nat := none
  /-- the cycle S in which it was accepted (R328, R332) -/
  at_ : Ps := 0
  /-- the fire position of the first line of a track on the new page, which a lead names (R330) -/
  named : List (Nat × Pos) := []
  deriving DecidableEq, Repr

/-- Nozzle conditioning beside its registers. -/
structure Nzc where
  page0 : NzPage := {}
  page1 : NzPage := {}
  op : Option NzOp := none
  swap : Option NzSwap := none
  /-- the delay store per track, newest line first -/
  delay : Tbl (List DelayLine) := []
  /-- the map is being read again on wake (R333) -/
  restoring : Bool := false
  /-- tracks whose first line on the new page has not been seen yet, in bits -/
  firstNew : Nat := 0
  deriving DecidableEq, Repr

/-! ### Stage lanes -/

/-- A frame in a transmit buffer (R350). -/
structure Frame where
  track : Nat
  head : Nat
  plane : Nat
  item : Nat
  c : Pos
  index : Nat
  fire : Pos
  segment : Nat
  first : Bool
  last : Bool
  payload : List Byte
  handed : Ps
  /-- an understudy form, which takes no buffer room (R390) -/
  form : Bool := false
  /-- a FENCE frame of the track (R351); its head and position are not used -/
  fence : Bool := false
  deriving DecidableEq, Repr

/-- A FIRE block sent on a lane (R358). -/
structure Fired where
  track : Nat
  item : Nat
  c : Pos
  index : Nat
  fire : Pos
  at_ : Ps
  role : Nat
  /-- the fire instant t_f that the RESIDUAL named -/
  tf : Ps
  deriving DecidableEq, Repr

/-- One lane beside its registers. -/
structure Lane where
  /-- instant of the last change of state -/
  since : Ps := 0
  /-- no automatic retrain (R346) -/
  takenDown : Bool := false
  expected : Nat := 0
  window : Nat := 0
  sent : Nat := 0
  credit : Nat := 0
  seq : Nat := 0
  buf : List Frame := []
  /-- the frame last started, in transmission until `txEnd` (R359, R368) -/
  tx : Option Frame := none
  txEnd : Ps := 0
  /-- FIRE blocks sent since the lane came UP, newest first -/
  fires : List Fired := []
  lastUp : Ps := 0
  crcRun : Nat := 0
  /-- since when no frame could start while frames waited (R360) -/
  stalled : Option Ps := none
  /-- STG_LANE_OP RETURN since the lane came UP (R370) -/
  mayReturn : Bool := false
  /-- last LINE_KEY sent in a PRIMARY FIRE block per track -/
  lastKey : Tbl Nat := []
  deriving DecidableEq, Repr

/-- One head beside its registers: the lane it runs on, 0xFF none (R368), and its lag state (R364). -/
structure HeadRun where
  lane : Nat := 0xFF
  lagging : Bool := false
  /-- MISSED of its last FENCE_UP -/
  missed : Nat := 0
  deriving DecidableEq, Repr

/-- The stage lanes beside their registers. -/
structure Stg where
  lanes : Tbl Lane := []
  heads : Tbl HeadRun := []
  /-- FENCE ROLE last sent per track -/
  fenceRole : Tbl Nat := []
  deriving DecidableEq, Repr

/-! ### Inspection -/

/-- A pending pulse of a gate: its start position and the item it rejects, 0 for an orphan or a starvation. -/
structure Pulse where
  start : Pos
  item : Nat
  deriving DecidableEq, Repr

/-- One gate beside its registers. -/
structure Gate where
  pend : List Pulse := []
  /-- end of the active pulse: a position in EDGES mode, an instant in TIME mode -/
  endPos : Option Pos := none
  endAt : Option Ps := none
  /-- start of the latest pulse (R446) -/
  startedAt : Ps := 0
  cfgPending : Bool := false
  deriving DecidableEq, Repr

/-- The inspection block beside its registers. -/
structure Ins where
  gates : Tbl Gate := []
  /-- staged track configurations, in bits -/
  pendingTrk : Nat := 0
  deriving DecidableEq, Repr

end Sys2Proof.Machine
end

