-- ==== Sys2Proof/Machine/TypesSys.lean ====
section
/-! DEFINITION. Plain data of the DDR5 controllers (R604 to R635), power (R661 to R679), the configuration planes and flash
(R569 to R603), pins and peripherals (R680 to R704), the life cycle (R705 to R728) and accesses that wait for their target
(R555, R669). -/

namespace Sys2Proof.Machine

/-! ### DDR5 controllers -/

/-- One controller beside its registers. -/
structure Dmc where
  /-- the refresh debt d (R615) -/
  debt : Nat := 0
  /-- start of the present refresh interval; may lie before power-on after R616 -/
  since : Int := 0
  /-- the DRAM is in self-refresh -/
  inSr : Bool := false
  /-- failed sensor reads in succession (R608) -/
  tsFails : Nat := 0
  critOver : Bool := false
  /-- a recovery stall: its start and its end (R617) -/
  stall : Option (Ps × Ps) := none
  /-- the module's rating as a rate code, and the SPD's minima of R633's parameters in ps -/
  rating : Nat := 0
  minPs : List Nat := []
  /-- tRP and tRFC1 in force, in ps -/
  tRp : Nat := 0
  tRfc : Nat := 0
  /-- rates with a stored training set, the most recently used first (R621) -/
  sets : List Nat := []
  frozeAt : Option Ps := none
  /-- captured command history, newest first (R625, R634) -/
  hist : List Nat := []
  /-- entry to and exit from the last self-refresh: a request that came between them is served in arrival order (R619) -/
  srFrom : Ps := 0
  srTo : Ps := 0
  /-- its PLL has lost lock (R653) -/
  pllLost : Option Ps := none
  /-- the row open in each bank, plus 1 (R611) -/
  pages : Tbl Nat := []
  deriving DecidableEq, Repr

/-- Who waits for a DRAM request. -/
inductive DramUser where
  /-- a write that nobody waits for: history, issue records, the install log -/
  | plain
  /-- the queue record of an item (R39) -/
  | record (track id : Nat)
  /-- an item mirrored for the lead, under this COMMIT_SEQ (R429) -/
  | mirror (commit track : Nat)
  /-- a unit of the tile cache (R215) -/
  | fill
  /-- an access of the fabric control port (R554) -/
  | cp (wide : Bool)
  /-- such an access of a scene that has ended: it completes, but nobody hears of it (R587) -/
  | gone
  /-- a DRAM_READ or a bulk DRAM_WRITE of a box (R520) -/
  | read (box seq : Nat)
  | bulk (box seq : Nat)
  deriving DecidableEq, Repr

/-- A DRAM request that waits for its controllers (R35, R36, R611). -/
structure DramReq where
  /-- priority class of R35 -/
  cls : Nat
  addr : Nat
  len : Nat
  /-- the bytes of a write -/
  data : Option (List Byte) := none
  who : DramUser := .plain
  /-- since when it, or its next burst, waits -/
  since : Ps
  /-- bursts of it served ahead of their class (R36) -/
  bursts : Nat := 0
  deriving DecidableEq, Repr

/-- A frequency change from its request (R620). -/
structure FreqOp where
  fgr : Bool
  target : Nat
  at_ : Ps
  started : Option Ps := none
  /-- the self-refresh entry was abandoned, and starts again (R619) -/
  again : Bool := false
  deriving DecidableEq, Repr

/-! ### Register accesses that wait -/

/-- Who waits for a register access. -/
inductive Waiter where
  /-- a single access, answered where it was made -/
  | bare (m : Master)
  /-- the fabric control port -/
  | cp
  /-- the fabric control port of a scene that has ended: the completion is not delivered (R587) -/
  | gone
  /-- a Prompter command: words still to read, and those read -/
  | prompter (left : List Access) (got : List Nat)
  /-- an Izrex register command: accesses still to make, bytes read, and whether one was discarded -/
  | izx (b seq : Nat) (left : List Access) (got : List Byte) (fault : Bool)
  deriving DecidableEq, Repr

/-- A register access that waits for the fabric or for its block. -/
structure RegWait where
  who : Waiter
  acc : Access
  at_ : Ps
  deriving DecidableEq, Repr

/-- How a register access goes on: it ends with its data and a status of R552 (0 OK, 1 DECODE, 2 GUARD, 3 DENIED), waits for
the fabric (R555), or stalls for a sleeping target (R669). -/
inductive AccRes where
  | done (data status : Nat)
  | window
  | stall
  deriving DecidableEq, Repr

/-- A Prompter command (R723). -/
inductive PCmd where
  | id
  | status
  | read (addr count : Nat)
  | read64 (addr : Nat)
  | write (addr value : Nat)
  | write64 (addr value : Nat)
  | mode (m : Nat)
  | reset (kind : Nat)
  | log (n : Nat)
  /-- plane 0 A, 1 B -/
  | select (plane : Nat)
  | lcy (target : Nat)
  | challenge
  | respond (sig : List Byte)
  /-- an unknown command or a malformed argument (R724) -/
  | bad
  deriving DecidableEq, Repr

/-- What stalls for a sleeping target (R669). -/
inductive Stalled where
  | reg (w : Waiter) (a : Access)
  | izx (port b opcode seq : Nat) (payload : List Byte)
  | cpDram (addr : Nat) (wide : Bool) (data : Option Nat)
  | line (c : PCmd)
  deriving DecidableEq, Repr

/-- One stalled access. -/
structure Stall where
  at_ : Ps
  what : Stalled
  long : Bool := false
  deriving DecidableEq, Repr

/-! ### Power -/

/-- The record of one bank of the retention SRAM (R671): what it holds as addresses and values, and beside each value its
complement. The spec does not lay its VALUE out (log entry 100). -/
structure RetBank where
  magic : Nat := 0x5452
  bank : Nat
  seq : Nat
  value : List (Nat × BitVec 64)
  notValue : List (Nat × BitVec 64)
  crc : Nat
  deriving DecidableEq, Repr

/-- The AON controller beside its registers. -/
structure Pwr where
  /-- entry step under way, 1 to 5; 0 none (R664) -/
  step : Nat := 0
  stepAt : Ps := 0
  /-- wake sources that arrived during entry (R665, R666) -/
  due : Nat := 0
  /-- instants of R668 reached in the running wake, plus 1; 0 no wake -/
  wake : Nat := 0
  wakeAt : Ps := 0
  /-- timeouts of the present wake step (R670) -/
  tries : Nat := 0
  /-- REF was stopped in INTERVAL -/
  refOff : Bool := false
  /-- domains that INTERVAL switched off -/
  off : Nat := 0
  stalls : List Stall := []
  deriving DecidableEq, Repr

/-! ### Planes and flash -/

/-- The scene record area of a plane: header, directory and the stored sections by type (R580). -/
structure PlaneRec where
  header : List Byte := []
  dir : List Byte := []
  sections : List (Nat × List Byte) := []
  deriving DecidableEq, Repr

/-- One configuration plane; its configuration bits stand in flash arrays 2 and 3. -/
structure Plane where
  /-- code of R573 -/
  state : Nat := 0
  record : PlaneRec := {}
  erases : Nat := 0
  /-- pulses of its last erase -/
  pulses : Nat := 0
  deriving DecidableEq, Repr

/-- A stage under way (R574, R577). -/
structure Stage where
  /-- 0 plane A, 1 plane B -/
  plane : Nat
  /-- box of a SCENE_DATA stream and the SEQ that awaits an answer; none for a LOAD or an ERASE -/
  box : Option Nat := none
  wait : Option Nat := none
  /-- 1 erasing, 2 loading, 3 checking -/
  step : Nat := 1
  /-- an ERASE only -/
  eraseOnly : Bool := false
  /-- DRAM address and length of a LOAD -/
  src : Nat := 0
  len : Nat := 0
  /-- bytes of the stream as they came -/
  image : Memory := []
  abort : Bool := false
  deriving DecidableEq, Repr

/-- An armed scene change (R582). -/
structure Arm where
  tracks : Nat
  trial : Bool
  at_ : Ps
  /-- waits for the understudy under this COMMIT_SEQ (R589) -/
  waiting : Option Nat := none
  deriving DecidableEq, Repr

/-- The status row of one flash sector (R593, R594). -/
structure Sector where
  /-- 0 good, 1 interrupted, 2 bad, 3 repaired -/
  state : Nat := 0
  pulses : Nat := 0
  cycles : Nat := 0
  /-- the sector stands in the factory's table (R595) -/
  factory : Bool := false
  deriving DecidableEq, Repr

/-- A running FLC command. -/
structure FlcOp where
  op : Nat
  addr : Nat
  data : List Byte
  deriving DecidableEq, Repr

/-- Planes, select record and flash controller beside their registers. -/
structure Cfg where
  planeA : Plane := {}
  planeB : Plane := {}
  /-- the select record as read: value and complement; all ones is NONE (R570) -/
  selVal : Nat := 0xFFFFFFFF
  selNot : Nat := 0xFFFFFFFF
  stage : Option Stage := none
  arm : Option Arm := none
  /-- the swap under way: fire instant and TRIAL -/
  swap : Option (Ps × Bool) := none
  /-- a select write under way to a plane, and one that the early-warning defers (R588) -/
  selecting : Option Nat := none
  selDefer : Bool := false
  /-- a scene change has fired and t5 of R584 is still to come -/
  recordDue : Bool := false
  /-- the reset ended a change that the select record did not name (R588) -/
  reverted : Bool := false
  /-- the reset cut a flash pulse (R593) -/
  cutPulse : Bool := false
  /-- sector status rows by array × 2^16 + sector -/
  sectors : Tbl Sector := []
  /-- entries of the grown bad-sector table (R596) -/
  grown : List Nat := []
  tableFault : Bool := false
  flc : Option FlcOp := none
  deriving DecidableEq, Repr

/-! ### Pins and peripherals -/

structure Uart where
  tx : List Byte := []
  rx : List Byte := []
  /-- the byte in the shifter, and when its frame began -/
  shifting : Option Byte := none
  since : Ps := 0
  /-- bytes were queued since FIFO and shifter were last empty -/
  busy : Bool := false
  /-- CTS_N is high -/
  cts : Bool := false
  deriving DecidableEq, Repr

structure Spi where
  tx : List Byte := []
  rx : List Byte := []
  shifting : Option Byte := none
  deriving DecidableEq, Repr

structure I2c where
  /-- queued commands: OP and DATA -/
  cmds : List (Nat × Nat) := []
  rx : List Byte := []
  deriving DecidableEq, Repr

structure Timer where
  /-- the count at an instant, in ticks -/
  base : Nat := 0
  baseAt : Ps := 0
  /-- PERIOD and COMPARE in force (R696) -/
  period : Nat := 0xFFFFFFFF
  compare : Nat := 0
  deriving DecidableEq, Repr

/-- GPIO and the peripherals beside their registers. -/
structure Per where
  uart : Tbl Uart := []
  spi : Tbl Spi := []
  i2c : Tbl I2c := []
  timer : Tbl Timer := []
  /-- FUNC_B and FUNC_A in effect per pin (R688) -/
  slots : Tbl Nat := []
  /-- a hand-over under way per pin: its start and the new slots; and the slots of one that waits behind it (R698) -/
  handing : Tbl (Option (Ps × Nat)) := []
  again : Tbl (Option Nat) := []
  /-- accepted levels of a pattern unit's window as last reported, with the BASE and DEBOUNCE they were taken by (R691) -/
  accepted : Tbl (Option (Nat × Nat × Nat)) := []
  deriving DecidableEq, Repr

/-! ### Life cycle -/

/-- A running LCY operation. -/
inductive LcyOp where
  /-- target state and fuses to blow -/
  | transition (target : Nat)
  | key (kind slot : Nat) (bytes : List Byte)
  | verify
  deriving DecidableEq, Repr

/-- The life cycle beside its registers: fuses are bits, 1 where a value fuse is blown, and 0 where a complement fuse is. -/
structure Lcy where
  value : Nat := 0
  compl : Nat := 0xFFFFFFFFFFFFFFFF
  tokVal : Nat := 0
  tokNot : Nat := 0xFF
  /-- the factory's trim words, as one word with its complement (R22, R72; log entry 99) -/
  trim : Nat := 0
  trimNot : Nat := 0xFFFFFFFF
  /-- a token spent since the last device reset (R712) -/
  fieldTest : Bool := false
  /-- debug reopened by a verification (R719) -/
  reopened : Bool := false
  /-- AES slots as (slot, use, key): use 1 SCENE, 2 PROMPT -/
  keys : List (Nat × Nat × List Byte) := []
  /-- public key halves by KIND of LCY_KEY_OP, 3 to 6 -/
  pubs : List (Nat × List Byte) := []
  /-- keys whose CRC failed at CALL: slots in bits [15:0], SCENE_PUB and PROMPT_PUB above (R716) -/
  keyBad : Nat := 0
  /-- the wipe record and its complement, erased until a wipe has written it (R714) -/
  wipeVal : Nat := 0xFFFFFFFF
  wipeNot : Nat := 0xFFFFFFFF
  op : Option LcyOp := none
  /-- a Prompter RESPOND awaits the end of the verification (R723) -/
  respond : Bool := false
  /-- the live nonce and its instant -/
  nonce : Option (List Byte × Ps) := none
  failedAt : Option Ps := none
  /-- a transition ended and its cold reset is due at this instant -/
  resetAt : Option Ps := none
  deriving DecidableEq, Repr

end Sys2Proof.Machine
end

