-- ==== Sys2Proof/Machine/State.lean ====
section
/-! DEFINITION. The state of the block: everything the spec gives the device, as plain data, and the queue of waiting
commands. -/

namespace Sys2Proof.Machine

/-- Reasons to stop with a fault. No command of the table stops the device: the spec gives every one an effect. -/
inductive Fault where
  /-- Raised by no meaning; safe. The type must not be empty for the host's interface. -/
  | none
  deriving DecidableEq, Repr

/-- Reasons to refuse a command. -/
inductive Refusal where
  /-- A command that has no meaning yet, by its mnemonic; safe. -/
  | notModelled (mnemonic : String)
  deriving DecidableEq, Repr

/-- What an observer outside the part sees of the last command. -/
inductive Out where
  /-- FAB_EVT_OUT_l changed level (R560) -/
  | fabLine (l : Nat)
  /-- a port D frame: SEQ, ACK, opcode and payload (R425) -/
  | dpx (seq ack op : Nat) (payload : List Byte)
  /-- a cue burst on CUE_A (R421) -/
  | burst
  /-- the level that CUE_A takes (R420) -/
  | cueA (level : Bool)
  /-- a ring frame on port 0, 1 or both (2): opcode, SOURCE, DEST, SEQ, HOPS and payload (R474) -/
  | ring (port op src dest seq hops : Nat) (payload : List Byte)
  /-- a response on a port: box, opcode, SEQ, STATUS, REPLAY, CREDIT_TOTAL and payload (R510) -/
  | response (port box op seq status : Nat) (replay : Bool) (credit : Nat) (payload : List Byte)
  /-- an EVENT frame on a port: box, LOST, EVT_SEQ and records (R524) -/
  | event (port box : Nat) (lost : Bool) (evtSeq : Nat) (records : List EvRec)
  /-- a LINK_RESP -/
  | linkResp (port box op status credit : Nat) (payload : List Byte)
  /-- the position of an AUX cue event (R94) -/
  | aux (track input : Nat) (pos : Pos)
  /-- the result of a record through the fabric item port: SEQ, status, code and record (R557, R558) -/
  | itemPort (seq status code : Nat) (payload : List Byte)
  /-- a single register access ends: master, data read and status of R552 -/
  | reg (m : Master) (data status : Nat)
  /-- a control-port master access ends: data read and status of R552 -/
  | cp (data status : Nat)
  /-- a request in the slave window: address, width and data (R555) -/
  | window (addr : Nat) (wide : Bool) (data : Option Nat)
  /-- a Prompter answer: 0 OK or the code of an error (log entry 21), and its results (R721) -/
  | monitor (err : Nat) (results : List Nat)
  /-- a byte that UART k sends (R693) -/
  | uart (k : Nat) (b : Byte)
  /-- a byte that SPI k shifts out (R694) -/
  | spi (k : Nat) (b : Byte)
  /-- a bus command that I2C k runs: OP and DATA (R695) -/
  | i2c (k op data : Nat)
  /-- a downstream frame: lane, FTYPE, FIRST and LAST, ROLE, HEAD, SEGMENT, PLANE, TRACK, SEQ, header and payload (R350) -/
  | frame (lane ftype : Nat) (first last : Bool) (role head segment plane track seq header : Nat) (payload : List Byte)
  /-- a FIRE block: lane, TRACK, ROLE, RESIDUAL and LINE_KEY (R348) -/
  | fire (lane track role residual key : Nat)
  /-- WQ_FLUSHED of a track with the count removed (R165) -/
  | flushed (track count : Nat)
  /-- the groups that a line tap shows to the fabric for a plane of a line: DFIRST and DOUT of each (R231, R232) -/
  | tap (k : Nat) (groups : List (Bool × Nat))
  /-- the contents of a part of a resynchronisation snapshot (R452; log entry 33) -/
  | sync (x : Sync)
  /-- the pins of R69, R71 and R562 change state -/
  | pins (p : Pins)
  /-- a reject gate's output: active or not, and the level of REJ_g_DP (R402) -/
  | gate (g : Nat) (active dp : Bool)
  deriving DecidableEq, Repr

/-- A happening that its rule puts behind others of its instant: it waits until no further command of the instant is queued. -/
inductive Later where
  /-- a FAIL verdict for an item: track, item, station and grade (R409) -/
  | fail (n id station grade : Nat)
  /-- the verdict window of an item closes (R409) -/
  | close (n id : Nat)
  /-- a gate's pulse position is reached (R409) -/
  | pulse (g : Nat)
  /-- the switch instant of a changeover (R453) -/
  | switch
  /-- a cause of house-time holdover (R498) -/
  | holdover
  /-- a COMMAND beyond the allowance of its box: port, box, opcode, SEQ and payload (R530) -/
  | command (port b op seq : Nat) (payload : List Byte)
  /-- a LEASE_REQ of a seat at the keeper (R498) -/
  | lease (src : Nat) (payload : List Byte)
  /-- a PROPOSE of the keeper's seat at a member (R498) -/
  | propose (src : Nat) (payload : List Byte)
  deriving DecidableEq, Repr

/-- The state of the device. -/
structure State where
  /-- commands waiting, first in first out -/
  pending : List Instr := []
  /-- ps since power-on of the latest command (log entry 1) -/
  now : Ps := 0
  /-- what the last command showed outside, in order -/
  out : List Out := []
  /-- the model's own counter of free values (log entry 2) -/
  freeIx : Nat := 0
  /-- memory writes of the running command; empty between commands -/
  stores : List Store := []
  dram : Memory := []
  flash : Memory := []
  nor : Memory := []
  /-- every register that does not hold its reset value, by its address -/
  regs : Tbl (BitVec 64) := []
  /-- values in force of staged registers (R123, R408) by register address -/
  active : Tbl (BitVec 64) := []
  /-- registers whose clearable fields hardware has changed in the present instant (R19, R20), or that a rule uses as they
  stood before a write of it (R300, R564, R739) -/
  hits : Tbl (Option Hit) := []
  /-- happenings that wait for the end of the instant -/
  later : List Later := []
  /-- the latched high halves of 64-bit registers per master (R131) -/
  latch : Tbl (Option (BitVec 32)) := []
  cue : Cue := {}
  clk : Clk := {}
  house : House := {}
  /-- release of the last power-on reset (R678) -/
  porAt : Ps := 0
  boxes : Tbl Box := []
  /-- Izrex ports 0 and 1 -/
  ports : Tbl Port := []
  /-- the lanes of port D, the ring ports and the Izrex ports (R423, R473, R507), by `LaneId.ix` -/
  links : Tbl Link := []
  /-- uploads from BEGIN to END (R526) -/
  scene : Option Transfer := none
  promptUp : Option Transfer := none
  sys : Sys := {}
  trk : Tbl Trk := []
  wq : Tbl Wq := []
  /-- the AON retention records of R166 -/
  aonMarks : Tbl AonMark := []
  /-- banks 0 to 7 of the retention SRAM (R671) -/
  banks : Tbl (Option RetBank) := []
  ldg : Ldg := {}
  /-- leases held, own and partner (R490) -/
  leases : List Lease := []
  cmp : Cmp := {}
  sdefs : Tbl SeriesDef := []
  series : Tbl SeriesRun := []
  dpx : Dpx := {}
  /-- the DRAM address map of the prompt book (R182) -/
  regions : List Region := []
  vd : Vd := {}
  frg : Frg := {}
  nzc : Nzc := {}
  stg : Stg := {}
  ins : Ins := {}
  dmc : Tbl Dmc := []
  /-- DRAM requests that wait, in the order in which they came (R35, R36, R611) -/
  dreq : List DramReq := []
  freq : Option FreqOp := none
  /-- MAP in force (R610) -/
  dmcMap : Nat := 2
  pwr : Pwr := {}
  /-- accesses in the slave window that the fabric has yet to answer (R555) -/
  window : List RegWait := []
  /-- the level of FAB_RSTIN_N, and the global reset trees that it asserts (R550) -/
  rstIn : Bool := true
  grstPin : Nat := 0
  /-- the logic fabric (R536 to R550) -/
  fab : Fab := {}
  cfg : Cfg := {}
  per : Per := {}
  lcy : Lcy := {}
  deriving DecidableEq, Repr

/-- The device right after reset. -/
def State.reset : State := {}

end Sys2Proof.Machine
end

