-- ==== Sys2Proof/Machine/Ops.lean ====
section
/-! DEFINITION. Operations over the state that every block shares: the wrapper of a meaning, registers, free values,
memory, house time and raising an event. -/

namespace Sys2Proof.Machine

/-! ### Running a command -/

/-- Applies one memory operation of a command to the three memories. -/
def applyStore (s : State) : Store → State
  | .dram a bs => { s with dram := memWrite .dram s.dram a bs }
  | .flash a bs => { s with flash := memWrite .flash s.flash a bs }
  | .flashErase lo hi => { s with flash := memErase s.flash lo hi }
  | .nor a bs => { s with nor := memWrite .flash s.nor a bs }
  | .norErase lo hi => { s with nor := memErase s.nor lo hi }
  | .dramLost => { s with dram := [] }

/-- The state in which a command at instant `t` begins: time never runs back, and nothing has been shown yet. -/
def begin (t : Ps) (s : State) : State :=
  { s with now := max s.now t, out := [], stores := [], hits := if s.now < t then [] else s.hits }

/-- Another command waits that acts in this instant too. -/
def State.more (s : State) : Bool := match s.pending with | c :: _ => decide (c.time ≤ s.now) | [] => false

/-! ### Registers -/

/-- The whole value of the register at an address, whose reset value is `rst`. -/
def State.regAt (s : State) (a rst : Nat) : Nat := (tblGet (BitVec.ofNat 64 rst) s.regs a).toNat

/-- The register with a new whole value. -/
def State.setRegAt (s : State) (a rst v : Nat) : State :=
  { s with regs := tblPut (BitVec.ofNat 64 rst) s.regs a (BitVec.ofNat 64 v) }

/-- The value of a field. -/
def State.get (s : State) (f : Fld) : Nat := bits (s.regAt f.addr f.rst) f.hi f.lo

/-- A one-bit field as a truth value. -/
def State.flag (s : State) (f : Fld) : Bool := s.get f != 0

/-- The state with a field set. -/
def State.put (s : State) (f : Fld) (x : Nat) : State :=
  s.setRegAt f.addr f.rst (setBits (s.regAt f.addr f.rst) f.hi f.lo x)

/-- A truth value as a bit. -/
def bit (b : Bool) : Nat := if b then 1 else 0

/-- The largest value of a field. -/
def Fld.max (f : Fld) : Nat := 2 ^ (f.hi + 1 - f.lo) - 1

/-- Notes that hardware changes clearable fields of a register in this instant, with the flags `m` it sets (R19, R20). -/
def State.note (s : State) (f : Fld) (m : Nat) : State :=
  let h : Hit := (tblGet none s.hits f.addr).getD ⟨0, s.regAt f.addr f.rst⟩
  { s with hits := tblPut none s.hits f.addr (some { h with bits := h.bits ||| m }) }

/-- Hardware sets bits `m` of a field of status flags. -/
def State.setFlags (s : State) (f : Fld) (m : Nat) : State := (s.note f (m * 2 ^ f.lo)).put f (s.get f ||| m)

/-- Adds to a field, saturating at its largest value. -/
def State.addSat (s : State) (f : Fld) (n : Nat) : State := (s.note f 0).put f (min (s.get f + n) f.max)

/-- Keeps a register as it stands before a write of this instant, for a rule that uses it so (R300, R739). -/
def State.keep (s : State) (f : Fld) : State :=
  if (tblGet none s.hits f.addr).isSome then s
  else { s with hits := tblPut none s.hits f.addr (some ⟨0, s.regAt f.addr f.rst⟩) }

/-- A field as it stood before such a write. -/
def State.before (s : State) (f : Fld) : Nat :=
  match tblGet none s.hits f.addr with
  | some h => bits h.old f.hi f.lo
  | none => s.get f

/-- Adds to a field, modulo its width. -/
def State.addWrap (s : State) (f : Fld) (n : Nat) : State := s.put f (s.get f + n)

/-- Raises a field to at least `n`, saturating: the longest or largest value seen. -/
def State.atLeast (s : State) (f : Fld) (n : Nat) : State := (s.note f 0).put f (max (s.get f) (min n f.max))

/-- A staged field's value in force (R123, R408). -/
def State.act (s : State) (f : Fld) : Nat :=
  bits (tblGet (BitVec.ofNat 64 f.rst) s.active f.addr).toNat f.hi f.lo

/-- Puts the register of a staged field in force as it is stored now. -/
def State.apply (s : State) (f : Fld) : State :=
  { s with active := tblPut (BitVec.ofNat 64 f.rst) s.active f.addr (BitVec.ofNat 64 (s.regAt f.addr f.rst)) }

/-- Every register in `[lo, hi)` at its reset value, in force as well. -/
def State.resetRegs (s : State) (lo hi : Nat) : State :=
  { s with
    regs := s.regs.filter (fun c => c.1 < lo ∨ hi ≤ c.1)
    active := s.active.filter (fun c => c.1 < lo ∨ hi ≤ c.1) }

/-- Stores a guarded value: reserved bits of the value read 0 (R15, R18). The complement is formed on reading. -/
def State.putGuarded (s : State) (f : Fld) (mask v : Nat) : State := s.setRegAt f.addr f.rst (v &&& mask)

/-! ### What a command shows, free values, memory -/

/-- Shows something outside the part. -/
def State.emit (s : State) (o : Out) : State := { s with out := s.out ++ [o] }

/-- Takes a free value below `bound` (log entry 2). -/
def State.takeFree (s : State) (bound : Nat) : Nat × State :=
  (Config.free s.freeIx % bound, { s with freeIx := s.freeIx + 1 })

/-- Issues a memory operation. -/
def State.store (s : State) (x : Store) : State := { s with stores := s.stores ++ [x] }

/-- Bytes of DRAM as they stood before the command. -/
def State.dramBytes (s : State) (a n : Nat) : List Byte := memBytes .dram s.dram a n

/-- Bytes of flash as they stood before the command. -/
def State.flashBytes (s : State) (a n : Nat) : List Byte := memBytes .flash s.flash a n

/-- Bytes of the prompt book NOR as they stood before the command. -/
def State.norBytes (s : State) (a n : Nat) : List Byte := memBytes .flash s.nor a n

/-! ### Numbered instances -/

/-- Box `b`. -/
def State.box (s : State) (b : Nat) : Box := tblGet {} s.boxes b

/-- The state with box `b` replaced. -/
def State.setBox (s : State) (b : Nat) (x : Box) : State := { s with boxes := tblPut {} s.boxes b x }

/-! ### House time -/

/-- House time in ps at an instant: base, learned rate, and a slew at 100 ppm until it is spent (R482, R485). -/
def House.at (h : House) (t : Ps) : Nat :=
  let dt : Int := (t : Int) - h.baseAt
  let sl : Int := dt / 10000
  let slewed : Int := if h.slew < 0 then -(min (-h.slew) sl) else min h.slew sl
  ((h.base : Int) + dt + dt * h.rate / 1000000000 + slewed).toNat

/-- The part of a slew still to come at an instant. -/
def House.slewLeft (h : House) (t : Ps) : Int :=
  let sl : Int := ((t : Int) - h.baseAt) / 10000
  if h.slew < 0 then h.slew + min (-h.slew) sl else h.slew - min h.slew sl

/-- House time in ns now. -/
def State.houseNs (s : State) : Nat := s.house.at s.now / 1000

/-- AON_TIMER: whole µs since the release of the last power-on reset (R678). -/
def State.aonTimer (s : State) : Nat := (s.now - s.porAt) / 1000000

/-- The TIME field of an event or log record (R737). -/
def State.recTime (s : State) : Nat :=
  if s.house.set then s.houseNs % 2 ^ 64 else s.aonTimer % 2 ^ 63 + 2 ^ 63

/-! ### Raising an event -/

/-- The flags register of source `src`, and the bits of its route. -/
def srcFlags (src : Nat) : Fld := F.CUE_SRC_FLAGS src

/-- Copies a record to the event queue of box `b` (R524): dropped without count for a closed box, and dropped with
IZX_BOX_b_EVT_LOST and the LOST mark for a full queue. The answer says whether the record was lost. -/
def State.queueEvent (s : State) (b : Nat) (r : EvRec) : State × Bool :=
  let x := s.box b
  if !x.isOpen then (s, false)
  else if x.events.length < 256 then (s.setBox b { x with events := x.events ++ [r] }, false)
  else ((s.setBox b { x with lost := true }).addSat (F.IZX_BOX_EVT_LOST b) 1, true)

/-- Appends a record to the Prompter log, a ring of 4,096 (R737, R743). -/
def State.logRecord (s : State) (r : EvRec) : State :=
  { s with cue := { s.cue with
      log := (r :: s.cue.log).take 4096
      logHead := (s.cue.logHead + 1) % 4096
      logTotal := min (s.cue.logTotal + 1) 0xFFFFFFFF } }

/-- Copies one record to the boxes that the route names, from box `b` down (R734). -/
def State.copyBoxes (s : State) (boxes : Nat) (r : EvRec) : Nat → State × List Nat
  | 0 => (s, [])
  | b + 1 =>
    let (s, lost) := s.copyBoxes boxes r b
    if boxes.testBit b then
      let (s, l) := s.queueEvent b r
      (s, if l then lost ++ [b] else lost)
    else (s, lost)

/-- The copies of one occurrence: boxes, fabric line, pin and log (R732 to R737), under the route that stood before this
instant's writes (R739). The boxes whose queue was full are answered too. -/
def State.copyEvent (s : State) (src : Nat) (r : EvRec) : State × List Nat :=
  let route := s.before (F.CUE_SRC_ROUTE src)
  if !route.testBit 15 then (s, []) else
  let (s, lost) := s.copyBoxes (bits route 30 16) r 15
  let l := bits route 12 8
  let s := if route.testBit 13 then
      ({ s with cue := { s.cue with fabLevel := s.cue.fabLevel ^^^ 2 ^ l } } : State).emit (.fabLine l) else s
  let k := bits route 6 4
  let s := if route.testBit 7 ∧ s.flag (F.CUE_PIN_CFG_MODE k) then
      let e := s.now + 5000 * max 1 (s.get (F.CUE_PIN_CFG_WIDTH k))
      { s with cue := { s.cue with pinEnd := tblPut 0 s.cue.pinEnd k e } } else s
  (if route.testBit 14 then s.logRecord r else s, lost)

/-- One occurrence of an event whose copies raise nothing further. -/
def State.raisePlain (s : State) (src inst : Nat) : State × List Nat :=
  let key := inst * 1024 + src
  let n := (tblGet 0 s.cue.counts key + 1) % 2 ^ 32
  let s := s.setFlags (srcFlags src) (2 ^ inst)
  let s := { s with cue := { s.cue with counts := tblPut 0 s.cue.counts key n } }
  s.copyEvent src ⟨key, n, s.recTime⟩

/-- The cue board is gated in INTERVAL, while the MGMT domain is off or its clocks have not returned (R661, R668, R738). -/
def State.cueGated (s : State) : Bool := !(s.get F.PWR_STATUS_ON).testBit 1 || s.pwr.wake = 2 || s.pwr.wake = 3

/-- Raises event `src`, instance `inst`: the flag, the count and the copies (R732); while the cue board is gated the
occurrence is latched once instead (R663). A copy that finds a box's queue full raises IZX_EVENT_LOST of that box (R524),
whose own copies that find a full queue raise it no further. -/
def State.raise (s : State) (src : Nat) (inst : Nat := 0) : State :=
  if s.cueGated then
    let key := inst * 1024 + src
    if s.cue.latched.contains key then s else { s with cue := { s.cue with latched := s.cue.latched ++ [key] } }
  else
    let (s, lost) := s.raisePlain src inst
    lost.foldl (fun s b => (s.raisePlain Ev.IZX_EVENT_LOST b).1) s

/-! ### EVENT frames, and the wrapper of a meaning -/

/-- The records in the event queue of box `b` leave in frames of up to eight on the box's port (R524); a held box keeps
them (R513). -/
def State.boxEvents (s : State) (b : Nat) : Nat → State
  | 0 => s
  | fuel + 1 =>
    let x := s.box b
    if x.events = [] ∨ !x.isOpen ∨ x.held then s else
    let s := s.addWrap (F.IZX_BOX_EVT_SEQ b) 1
    let s := s.emit (.event x.port b x.lost (s.get (F.IZX_BOX_EVT_SEQ b)) (x.events.take 8))
    (s.setBox b { x with events := x.events.drop 8, lost := false }).boxEvents b fuel

/-- Every box's event records leave (R524), once no further command of the instant could close the box (R530). -/
def State.eventsSend (s : State) : State :=
  if s.more then s else (List.range 15).foldl (fun s b => s.boxEvents b 33) s

/-! ### Pins of the device -/

/-- A pin that the device drives to a level, or that is high-impedance. -/
def driven (on level : Bool) : Option Bool := if on then some level else none

/-- The pins of R69, R71 and R562 as the mode and the phases of CALL have them. -/
def State.pins (s : State) : Pins :=
  let m := s.get F.SYS_MODE_MODE
  let done (p : Nat) : Bool := s.sys.done.contains p
  let plane : Bool := done 5 && m != 0
  let waking : Bool := m == 5
  { ready := driven (!s.sys.held) (m == 3 || m == 4)
    holdN := driven (!s.sys.held) !(m == 6 || (m == 7 && s.sys.fromHold))
    gates := m != 0 && (m != 1 || done 4)
    receivers := (List.range 16).filter (fun n =>
      m != 0 && (m != 1 || done 4) && s.act (F.TRK_CTRL_ENABLE n) == 1 &&
      (!waking || s.act (F.TRK_CTRL_KEEP_IN_INTERVAL n) == 1))
    userIo := plane
    quadrants := if !plane then 0 else if waking then s.get F.PWR_INTERVAL_CFG_FQ_KEEP else 15
    monTx := !s.sys.held && (done 1 || m == 0)
    cue := s.ldg.scanned
    probes := (List.range 16).map (fun k =>
      driven (plane && s.get F.LCY_STATUS_STATE != 6)
        (s.flag (F.PRB_SEL_EN k) && tblGet false s.fab.points (s.get (F.PRB_SEL_POINT k))))
    fabric := if plane then s.fab.outs else [] }

/-- The state in which a command that began in `s` ends, from what its body made of it: the queue and the instant are not
the body's to change, its memory operations take effect in order, and pins that change state are shown (R69). -/
def finish (t : Ps) (s s' : State) : State :=
  let m : State := s'.stores.foldl applyStore { s with out := [] }
  { s' with
    pending := s.pending, now := max s.now t, stores := [], dram := m.dram, flash := m.flash, nor := m.nor
    out := s'.out ++ (if s'.pins = s.pins then [] else [.pins s'.pins]) }

/-- Runs the body of a command at instant `t`; the event records it raised leave within 1 µs, so with it. -/
def run (t : Ps) (s : State) (f : State → State) : Host.Outcome State Fault Refusal :=
  .next (finish t s (f (begin t s)).eventsSend)

/-- A guarded effect: a condition that no row names leaves the state unchanged (R30). -/
def when (c : Bool) (f : State → State) (s : State) : State := if c then f s else s

end Sys2Proof.Machine
end

