-- ==== Sys2Proof/Machine/Clk.lean ====
section
/-! DEFINITION. Clocks: oscillators, PLLs, lock attempts, band memory and the domain policies (R636 to R655). -/

namespace Sys2Proof.Machine

/-- PLL `k` beside its registers. -/
def State.pll (s : State) (k : Nat) : Pll := tblGet {} s.clk.pll k

def State.setPll (s : State) (k : Nat) (x : Pll) : State :=
  { s with clk := { s.clk with pll := tblPut {} s.clk.pll k x } }

/-- REF in 10 kHz units by the REF_SEL straps (R637). -/
def refFreq (sel : Nat) : Nat := [2000, 2400, 2500, 2600, 2700, 3840, 4000, 5000].getD (sel % 8) 0

/-- The policy of domain `d` as CLK_DOM_d.POLICY codes it: 0 HOLD, 1 STOP, 2 SWITCH; none where R646 names none or
"Link" or "AON timer". -/
def domPolicy (d : Nat) : Option Nat :=
  if 1 ≤ d ∧ d ≤ 5 then some 2
  else if (6 ≤ d ∧ d ≤ 25) ∨ d = 42 ∨ d = 43 then some 1
  else if d = 26 ∨ d = 27 then some 0
  else none

/-- The PLL that feeds a domain of the hardened half (R646); 15 none. -/
def domPll (d : Nat) : Nat :=
  if 1 ≤ d ∧ d ≤ 5 then 0 else if d = 6 ∨ d = 7 then 1 else if 8 ≤ d ∧ d ≤ 24 then 2
  else if d = 25 ∨ d = 42 ∨ d = 43 then 3 else if d = 26 then 4 else if d = 27 then 5 else 15

/-- A fabric tree that FRG_TAP_CLK feeds (R549): it follows CD_7 (R651). -/
def State.tapTree (s : State) (d : Nat) : Bool := decide (48 ≤ d) && s.clk.tapTrees.testBit (d - 48)

/-- The PLL that feeds any domain: fixed for CD_0 to CD_47, the scene's for the fabric trees. -/
def State.pllOf (s : State) (d : Nat) : Nat :=
  if d < 48 then domPll d else if s.tapTree d then domPll 7 else s.get (F.CLK_DOM_PLL d)

/-- The policy of any domain (R651). -/
def State.policyOf (s : State) (d : Nat) : Option Nat :=
  if d < 48 then domPolicy d else if s.tapTree d then domPolicy 7 else some (s.get (F.CLK_DOM_POLICY d))

/-- The domain state that a policy leads to: HELD, STOPPED or SWITCHED (R650, R659). -/
def policyState (p : Nat) : Nat := if p = 0 then 2 else if p = 2 then 4 else 3

/-- The event of a domain state. -/
def domEvent (st : Nat) : Nat :=
  if st = 2 then Ev.CLK_DOM_HELD else if st = 4 then Ev.CLK_DOM_SWITCHED else Ev.CLK_DOM_STOPPED

/-- The domains that PLL `k` feeds and whose policy acts. -/
def State.fed (s : State) (k : Nat) : List Nat :=
  (List.range 64).filter (fun d => s.pllOf d = k ∧ (s.policyOf d).isSome)

/-- Every domain that PLL `k` feeds takes its policy state; each of the three events is raised once for the PLL when at
least one running domain takes its state (R650, log entry 12). -/
def State.domainsLose (s : State) (k : Nat) : State :=
  let run := (s.fed k).filter (fun d => s.get (F.CLK_DOM_STATE d) = 1)
  let s := run.foldl (fun s d => s.put (F.CLK_DOM_STATE d) (policyState ((s.policyOf d).getD 1))) s
  [2, 3, 4].foldl (fun s st =>
    if run.any (fun d => policyState ((s.policyOf d).getD 1) = st) then s.raise (domEvent st) k else s) s

/-- A state of a domain after its PLL has relocked: HELD domains and the management domains return; a STOPPED or SWITCHED
tree returns with AUTO_RESTART; the stopped print domains stay STOPPED (R651, R652, R654). -/
def State.domainsReturn (s : State) (k : Nat) : State :=
  (s.fed k).foldl (fun s d =>
    let st := s.get (F.CLK_DOM_STATE d)
    let back := st = 0 ∨ st = 2 ∨ (st = 4 ∧ d < 48) ∨ ((st = 3 ∨ st = 4) ∧ 48 ≤ d ∧ !(s.tapTree d) ∧
      s.flag (F.CLK_DOM_AUTO_RESTART d))
    if back then s.put (F.CLK_DOM_STATE d) 1 else s) s

/-- The key of a divider setting: N_INT in [14:7], N_FRAC[23:17] in [6:0] (R643). -/
def bandKey (nint nfrac : Nat) : Nat := (nint % 256) * 128 + (nfrac / 2 ^ 17) % 128

/-- The divider setting in force of a PLL. -/
def State.pllKey (s : State) (k : Nat) : Nat :=
  let p := s.pll k
  bandKey (bits p.cfg 15 8) p.frac

/-- The valid band entry of a key, if any. -/
def Pll.find (p : Pll) (key : Nat) : Option Nat :=
  (List.range 16).find? (fun i => (tblGet {} p.bands i).valid ∧ (tblGet {} p.bands i).key = key)

/-- The least recently used entry; an entry never used counts as the oldest, the lowest index first. -/
def Pll.lru (p : Pll) : Nat :=
  (List.range 16).foldl (fun b i => if (tblGet {} p.bands i).used < (tblGet {} p.bands b).used then i else b) 0

/-- Starts a lock attempt (R641, R643, R644): from band memory when an entry matches and a full search is not asked. -/
def State.pllAttempt (s : State) (k : Nat) (full : Bool) : State :=
  let p := s.pll k
  let seed := s.get (F.CLK_PLL_DITHER_SEED k)
  let p := { p with since := s.now, lockCfg := s.get (F.CLK_PLL_LOCK k), lfsr := if seed = 0 then 1 else seed }
  let s := s.setPll k p
  let s := s.put F.CLK_STATUS_LOCKED (s.get F.CLK_STATUS_LOCKED &&& (255 - 2 ^ k))
  match (if full then none else p.find (s.pllKey k)) with
  | some e => (s.put (F.CLK_PLL_STATUS_STATE k) 2).put (F.CLK_PLL_STATUS_ENTRY k) e
  | none => s.put (F.CLK_PLL_STATUS_STATE k) 1

/-- Lock declared: the search's band and trim are stored, the register shows the time taken, and the domains return
(R642, R643, R650). -/
def State.pllLock (s : State) (k band trim : Nat) : State :=
  let p := s.pll k
  let key := s.pllKey k
  let searched := s.get (F.CLK_PLL_STATUS_STATE k) = 1
  let e := (p.find key).getD p.lru
  let old : Band := tblGet {} p.bands e
  let b : Band := if searched then { valid := true, band, trim, key, used := p.useCount + 1 }
    else { old with used := p.useCount + 1 }
  let s := s.setPll k { p with bands := tblPut {} p.bands e b, useCount := p.useCount + 1 }
  let s := ((s.put (F.CLK_PLL_STATUS_STATE k) 3).put (F.CLK_PLL_STATUS_ENTRY k) e).put
    (F.CLK_PLL_STATUS_LOCK_US k) (min ((s.now - p.since) / 1000000) 0xFFFF)
  let s := (s.put (F.CLK_PLL_STATUS_OP_RESULT k) 0).put F.CLK_STATUS_LOCKED (s.get F.CLK_STATUS_LOCKED ||| 2 ^ k)
  (s.domainsReturn k).raise Ev.CLK_LOCKED k

/-- A PLL of the device at the settings given: CFG, FRAC and OUT as the device sets them (R640). `vco` in 10 kHz. -/
def State.pllSet (s : State) (k vco outs : Nat) : State :=
  let f := refFreq s.clk.refSel
  let nint := vco / f
  let nfrac := ((vco % f) * 2 ^ 24 * 2 + f) / (2 * f)
  let cfg := 2 ^ 31 + nint * 256
  let s := ((s.put (F.CLK_PLL_CFG k) cfg).put (F.CLK_PLL_FRAC k) nfrac).put (F.CLK_PLL_OUT k) outs
  s.setPll k { s.pll k with cfg, frac := nfrac, outs }

/-- Phase CLOCKS begins: PLL_0 to PLL_3 take their settings from REF_SEL and start their attempts (R640, R645). -/
def State.clocksBegin (s : State) : State :=
  let s := ((s.pllSet 0 160000 0x908884).pllSet 1 320000 0x9084).pllSet 2 320000 0x82 |>.pllSet 3 200000 0x8585
  [0, 1, 2, 3].foldl (fun s k => s.pllAttempt k false) s

/-- The settings of PLL_4 or PLL_5 for a rate code (R628, R640): the data rate is 3,200 + 400 r MT/s, and the controller's clock an
eighth of it. -/
def State.dmcPllSet (s : State) (c r : Nat) : State := s.pllSet (4 + c) (50 * (3200 + 400 * r)) 0x84

/-- A lock attempt of a PLL runs to its end: which band and trim a search finds nothing fixes. -/
def State.pllRun (s : State) (k : Nat) (full : Bool) : State :=
  let s := s.pllAttempt k full
  let (b, s) := s.takeFree 64
  let (t, s) := s.takeFree 1024
  s.pllLock k b t

/-- Phase DRAM sets PLL_4 or PLL_5 (R640, R643): a full search for each rate that the module supports, then the start rate from
band memory. -/
def State.dmcPllStart (s : State) (c rating rate : Nat) : State :=
  let s := (List.range (min rating 8 + 1)).foldl (fun s r => (s.dmcPllSet c r).pllRun (4 + c) true) s
  (s.dmcPllSet c rate).pllRun (4 + c) false

/-- A PLL whose reference is REF (R654). -/
def State.onRef (s : State) (k : Nat) : Bool := let r := bits (s.pll k).cfg 29 26; r = 0 ∨ 8 < r

/-- The greatest frequency of a global clock tree, in kHz (R551). -/
def treeMaxKhz (speed : Nat) : Nat := if speed = 1 then 600000 else 750000

/-- The settings of PLL 6 or 7 lie in range: VCO 1.6 to 3.2 GHz and every enabled output at most the tree frequency
(R658). `refKhz` is the frequency of the reference in kHz. -/
def pllRangeOk (cfg frac outs refKhz maxKhz : Nat) : Bool :=
  let vco := refKhz * ((bits cfg 15 8) * 2 ^ 24 + frac)
  let lo := 1600000 * 2 ^ 24
  let hi := 3200000 * 2 ^ 24
  decide (lo ≤ vco) && decide (vco ≤ hi) && (List.range 4).all (fun j =>
    !(outs.testBit (8 * j + 7)) || decide (vco ≤ maxKhz * 2 ^ 24 * (min 64 (max 1 (bits outs (8 * j + 6) (8 * j))))))

/-- A RELOCK of PLL 6 or 7 (R658): range, then the settings apply and an attempt starts. -/
def State.pllRelock (s : State) (k finKhz : Nat) : State :=
  let cfg := s.get (F.CLK_PLL_CFG k)
  let frac := s.get (F.CLK_PLL_FRAC k)
  let outs := s.get (F.CLK_PLL_OUT k)
  let r := bits cfg 29 26
  let refKhz := if 1 ≤ r ∧ r ≤ 8 then finKhz else 10 * refFreq s.clk.refSel
  if !(cfg.testBit 31) then
    let s := s.setPll k { s.pll k with cfg, frac, outs }
    let s := s.put F.CLK_STATUS_LOCKED (s.get F.CLK_STATUS_LOCKED &&& (255 - 2 ^ k))
    ((s.domainsLose k).put (F.CLK_PLL_STATUS_STATE k) 0).put (F.CLK_PLL_STATUS_OP_RESULT k) 0
  else if !(pllRangeOk cfg frac outs refKhz (treeMaxKhz Config.speedGrade)) then
    s.put (F.CLK_PLL_STATUS_OP_RESULT k) 2
  else
    let s := s.setPll k { s.pll k with cfg, frac, outs }
    ((s.domainsLose k).pllAttempt k false).put (F.CLK_PLL_STATUS_OP_RESULT k) 1

/-- CLK_PLL_k_OP (R658): RELOCK 1, FULL_SEARCH 2, CLEAR_BAND 3. For PLL_0 to PLL_5 only the last two, only in
SERVICE. What a full search does to the domains that the PLL feeds is as at a loss (DESIGN CHOICE, log entry 107). -/
def State.pllOp (s : State) (k op finKhz : Nat) : State :=
  let service := s.get F.SYS_MODE_MODE = 7
  if op = 0 then s
  else if k < 6 ∧ (op = 1 ∨ !service) then
    (s.put (F.CLK_PLL_STATUS_OP_RESULT k) 3).raise Ev.CLK_OP_REFUSED
  else if op = 1 then s.pllRelock k finKhz
  else if op = 2 then ((s.domainsLose k).pllAttempt k true).put (F.CLK_PLL_STATUS_OP_RESULT k) 1
  else (s.setPll k { s.pll k with bands := [] }).put (F.CLK_PLL_STATUS_OP_RESULT k) 0

/-- CLK_DOM_OP RESTORE (R651, R659): a STOPPED or SWITCHED fabric tree returns to its relocked PLL. -/
def State.domRestore (s : State) (d : Nat) : State :=
  let st := s.get (F.CLK_DOM_STATE d)
  let k := s.pllOf d
  if 48 ≤ d ∧ d < 64 ∧ (st = 3 ∨ st = 4) ∧ (k = 6 ∨ k = 7) ∧ (s.get F.CLK_STATUS_LOCKED).testBit k
  then s.put (F.CLK_DOM_STATE d) 1 else s

/-- A write of CLK_DOM_d (R651, R655, R659): the RW fields of a fabric tree; the new policy acts at once on a STOPPED tree of
PLL_6 or PLL_7, where HOLD with the PLL in lock means that the tree runs (DEDUCED, log entry 121). -/
def State.domWrite (s : State) (d v : Nat) : State :=
  if d < 48 then s else
  let s := s.put { F.CLK_DOM d with hi := 6, lo := 0 } (bits v 6 0)
  let st := s.get (F.CLK_DOM_STATE d)
  let k := s.pllOf d
  let st' := policyState (bits v 5 4)
  if st ≠ 3 ∨ st' = 3 ∨ !(k = 6 ∨ k = 7) then s
  else if st' = 2 ∧ (s.get F.CLK_STATUS_LOCKED).testBit k then s.put (F.CLK_DOM_STATE d) 1
  else (s.put (F.CLK_DOM_STATE d) st').raise (domEvent st') k

/-- What CLK_DOM_d shows (R659): of a hardened domain its PLL and the policy of R646, and whether it runs. A domain that R646 gives
no PLL shows RUNNING while its oscillator or its links run; one with none of the three policies shows POLICY as at reset
(DESIGN CHOICE, log entry 108). -/
def State.domShown (s : State) (d : Nat) : Nat :=
  let v := s.get (F.CLK_DOM d)
  if 48 ≤ d then v else
  let mode := s.get F.SYS_MODE_MODE
  let runs : Bool := match d with
    | 0 => true
    | 41 => s.flag F.CLK_STATUS_REF_OK
    | 44 => s.sys.done.contains 1 || s.flag F.CLK_STATUS_MAIN_RC_OK
    | _ => decide (28 ≤ d) && decide (d ≤ 40) && s.sys.done.contains 4 && mode != 5
  let st := if domPll d < 8 then s.get (F.CLK_DOM_STATE d) else if runs then 1 else 0
  setBits (setBits (setBits v 31 28 st) 27 24 (domPll d)) 5 4 ((domPolicy d).getD 1)

/-- What CLK_PLL_k_BAND shows of the entry that BAND_SEL names (R657). -/
def State.bandShown (s : State) (k : Nat) : Nat :=
  let b := tblGet {} (s.pll k).bands (s.get (F.CLK_PLL_BAND_SEL_INDEX k))
  if b.valid then 2 ^ 31 + (b.band % 64) * 2 ^ 25 + (b.trim % 1024) * 2 ^ 15 + b.key % 2 ^ 15 else 0

end Sys2Proof.Machine
end

