-- ==== Sys2Proof/Machine/Fabric.lean ====
section
/-! DEFINITION. The logic fabric: its tiles, logic cells, block RAMs, arithmetic blocks and reset trees (R536 to R550), and what
a clock edge, a scene change and a wake do to them (R585, R673). What the fabric does at the ports of R47 comes as commands. -/

namespace Sys2Proof.Machine

/-! ### The grid (R536, R537) -/

/-- The kinds of tile column. -/
inductive Column where
  | logic
  | ram
  | arith
  deriving DecidableEq, Repr

/-- Columns of the half of column `x` that stand before it. -/
def columnRank (x : Nat) : Nat :=
  ((List.range 276).filter (fun j =>
    let y := x / 276 * 276 + j
    decide (Config.columnKey y < Config.columnKey x) || (Config.columnKey y == Config.columnKey x && decide (y < x)))).length

/-- The kind of a column: each half has 256 of logic blocks, 12 of block RAM and 8 of arithmetic blocks. Which is which the spec
leaves open (log entry 102). -/
def columnKind (x : Nat) : Column := if columnRank x < 256 then .logic else if columnRank x < 268 then .ram else .arith

/-- A tile of the grid. -/
def inGrid (x y : Nat) : Bool := decide (x < 552) && decide (y < 256)

/-- The quadrant of a tile. -/
def quadrantOf (x y : Nat) : Nat := x / 276 + 2 * (y / 128)

/-- The quadrant of a block of a kind with `half` columns of 64 in each half of the grid, numbered by column and then row. -/
def blockQuadrant (half i : Nat) : Nat := i / 64 / half + 2 * (i % 64 / 32)

def ramQuadrant (i : Nat) : Nat := blockQuadrant 12 i
def arithQuadrant (i : Nat) : Nat := blockQuadrant 8 i

/-- The number of a flip-flop, as the CARRIED section writes a location (R579). -/
def ffIx (x y l k : Nat) : Nat := x * 4096 + y * 16 + l * 2 + k

/-- A number is that of a flip-flop of the grid. -/
def isFlipFlop (n : Nat) : Bool := inGrid (n / 4096) (n / 16 % 256) && columnKind (n / 4096) == .logic

/-! ### The design -/

/-- The logic cell that a design has at a place: a place of a logic block. -/
def Design.cell? (d : Design) (x y l : Nat) : Option CellCfg :=
  if inGrid x y ∧ l < 8 ∧ columnKind x = .logic then d.cells.lookup (x, y, l) else none

/-- A flip-flop that a design uses, by its number. -/
def Design.ff? (d : Design) (n : Nat) : Option FfCfg :=
  match d.cell? (n / 4096) (n / 16 % 256) (n / 2 % 8) with
  | none => none
  | some c => if n % 2 = 0 then c.ff0 else c.ff1

def Design.ram? (d : Design) (i : Nat) : Option RamCfg := if i < 1536 then d.rams.lookup i else none

def Design.arith? (d : Design) (i : Nat) : Option ArithCfg := if i < 1024 then d.ariths.lookup i else none

/-- The numbers of all flip-flops that a design uses. -/
def Design.ffs (d : Design) : List Nat :=
  d.cells.flatMap (fun c => let n := ffIx c.1.1 c.1.2.1 c.1.2.2 0; [n, n + 1].filter (fun n => (d.ff? n).isSome))

/-- The bits of block RAM `i` that are 1 at first. -/
def Design.ramInit (d : Design) (i : Nat) : List Nat := ((d.ram? i).map (fun c => c.init.filter (· < 36864))).getD []

/-- No path without a loop is longer. -/
def Design.depth (d : Design) : Nat := d.wires.length + 4 * d.cells.length + 49 * d.ariths.length + 2

/-- The wires with two or more enabled drivers: the first in scan order, its drivers, and how many there are (R542, R543). -/
def Design.contend (d : Design) : Option Contend :=
  let bad := d.wires.filter (fun w => 2 ≤ w.2.length)
  let place (w : (Nat × Nat × Nat × Nat) × List Sig) : Nat :=
    ((w.1.1 * 256 + w.1.2.1) * 8 + w.1.2.2.1) * 1024 + w.1.2.2.2
  (bad.find? (fun w => bad.all (fun v => place w ≤ place v))).map (fun w =>
    { cls := w.1.2.2.1, x := w.1.1, y := w.1.2.1, index := w.1.2.2.2, drivers := w.2.length, count := bad.length })

/-! ### Arithmetic blocks (R547, R548) -/

/-- A number of `w` bits in two's complement. -/
def signedOf (w n : Nat) : Int := if n < 2 ^ (w - 1) then n else (n : Int) - 2 ^ w

/-- An integer modulo 2^w, in two's complement. -/
def wrapTo (w : Nat) (z : Int) : Int := signedOf w (z % 2 ^ w).toNat

/-- The pre-adder: 27 bits, as the product's 45 need (log entry 103). -/
def ArithCfg.preAdd (c : ArithCfg) (a d : Int) : Int :=
  if c.pre = 1 then wrapTo 27 (a + d) else if c.pre = 2 then wrapTo 27 (a - d) else a

/-- P_prev op product, plus C, exactly. -/
def ArithCfg.exact (c : ArithCfg) (p prod cin : Int) : Int :=
  (if c.op = 1 then p + prod else if c.op = 2 then p - prod else prod) + cin

/-- P in 48 bits and OVF (R548). -/
def ArithCfg.narrow (c : ArithCfg) (z : Int) : Int × Bool :=
  if z < -(2 ^ 47) then (if c.saturate then -(2 ^ 47) else wrapTo 48 z, true)
  else if 2 ^ 47 ≤ z then (if c.saturate then 2 ^ 47 - 1 else wrapTo 48 z, true)
  else (z, false)

/-! ### Levels -/

/-- The number that signals spell, lowest bit first. -/
def bitsOf (v : Sig → Bool) : List Sig → Nat
  | [] => 0
  | g :: l => (if v g then 1 else 0) + 2 * bitsOf v l

/-- What feeds the carry stage of LC_l: the stage below it in the block, then the block in the row below (R538). -/
def carryIn (x y l : Nat) : Sig := if 0 < l then .carry x y (l - 1) else if 0 < y then .carry x (y - 1) 7 else .low

/-- What the registers of an arithmetic block take at a clock edge, by the levels `v`. -/
def Fab.arithNext (f : Fab) (v : Sig → Bool) (i : Nat) (c : ArithCfg) : ArithRun :=
  let r := tblGet {} f.arith i
  let a := signedOf 27 (bitsOf v (c.a.take 27))
  let d := signedOf 27 (bitsOf v (c.d.take 27))
  let b := signedOf 18 (bitsOf v (c.b.take 18))
  let k := signedOf 48 (bitsOf v (c.c.take 48))
  let m := if c.inReg then c.preAdd r.a r.d * r.b else c.preAdd a d * b
  let below := signedOf 48 (bitsOf v ((List.range 48).map (fun n => Sig.prod (i - 1) n)))
  let cin := if c.cascade ∧ i % 64 ≠ 0 then below else if c.inReg then r.c else k
  let (p, ovf) := c.narrow (c.exact r.p (if c.mulReg then r.m else m) cin)
  { a, d, b, c := k, m, p, ovf }

/-- The arithmetic block as its outputs show it: the P register, or what it would take. -/
def Fab.arithShown (f : Fab) (v : Sig → Bool) (i : Nat) : ArithRun :=
  match f.design.arith? i with
  | none => {}
  | some c => if c.pReg then tblGet {} f.arith i else f.arithNext v i c

/-- A port of a block RAM as its outputs show it: word and ECC flags. -/
def Fab.ramShown (f : Fab) (i : Nat) (b : Bool) : Nat × Nat :=
  let r := tblGet {} f.ports (2 * i + bit b)
  match f.design.ram? i with
  | none => (0, 0)
  | some c => if (if b then c.b else c.a).outReg then (r.regWord, r.regFlags) else (r.word, r.flags)

/-- The level of a signal, from the levels `inp` of what the fabric does not hold. A wire with no driver reads 0 (R541). A loop of
LUTs has no value of its own and takes one from `inp`. -/
def Fab.level (f : Fab) (inp : Sig → Bool) : Nat → Sig → Bool
  | 0, g => inp g
  | n + 1, g =>
    let v := f.level inp n
    match g with
    | .low => false
    | .high => true
    | .wire x y c k =>
      match f.design.wires.lookup (x, y, c, k) with
      | some (d :: _) => v d
      | _ => false
    | .lut x y l second =>
      match (f.design.cell? x y l).map CellCfg.lut with
      | none => false
      | some (.one t ins) => t.testBit (bitsOf v (ins.take 6))
      | some (.two t u ins) => (if second then u else t).testBit (bitsOf v (ins.take 5))
    | .sum x y l => v (.lut x y l false) != v (carryIn x y l)
    | .carry x y l =>
      match (f.design.cell? x y l).bind CellCfg.gen with
      | none => false
      | some g => if v (.lut x y l false) then v (carryIn x y l) else v g
    | .ff x y l k => tblGet false f.ff (ffIx x y l k)
    | .ram i b n => (f.ramShown i b).1.testBit n
    | .ramFlag i b k => if k = 2 then (tblGet {} f.ports (2 * i + bit b)).collide else (f.ramShown i b).2.testBit k
    | .prod i n => ((f.arithShown v i).p % 2 ^ 48).toNat.testBit n
    | .ovf i => (f.arithShown v i).ovf
    | .evt _ => inp g
    | .outside _ => inp g

/-- The level of every signal of the fabric. -/
def Fab.levels (f : Fab) (inp : Sig → Bool) : Sig → Bool := f.level inp f.design.depth

/-! ### Block RAM (R544 to R546) -/

/-- `w` bits of block RAM `i` from bit `o` on. -/
def Fab.ramBits (f : Fab) (i o : Nat) : Nat → Nat
  | 0 => 0
  | w + 1 => f.ramBits i o w + (if tblGet false f.ram (36864 * i + o + w) then 2 ^ w else 0)

/-- Stores `w` bits of a number. -/
def Fab.ramStore (f : Fab) (i o w v : Nat) : Fab :=
  { f with ram := (List.range w).foldl (fun t n => tblPut false t (36864 * i + o + n) (v.testBit n)) f.ram }

/-- ECC is a port's only in ×72 mode (R545). -/
def RamPort.coded (p : RamPort) : Bool := p.ecc && p.width == 72

/-- The word that a port writes: its data, with check bits under ECC. -/
def RamPort.written (p : RamPort) (v : Nat) : Nat :=
  if p.coded then v % 2 ^ 64 + Config.eccCheck (v % 2 ^ 64) % 256 * 2 ^ 64 else v % 2 ^ p.width

/-- The word that a port receives of a stored one, and its flags: 1 SBITERR with the bit corrected, 2 DBITERR (R545). -/
def RamPort.received (p : RamPort) (w : Nat) : Nat × Nat :=
  let sound (w : Nat) : Bool := Config.eccCheck (w % 2 ^ 64) % 256 = w / 2 ^ 64
  if !p.coded ∨ sound w then (w, 0)
  else match (List.range 72).find? (fun k => sound (w ^^^ 2 ^ k)) with
    | some k => (w ^^^ 2 ^ k, 1)
    | none => (w, 2)

/-- What a port asks for at an edge: the first bit of its word, whether the word is there, write enable and word to store. -/
structure PortAsk where
  off : Nat
  there : Bool
  we : Bool
  word : Nat
  deriving DecidableEq, Repr

def RamPort.ask (p : RamPort) (v : Sig → Bool) : PortAsk :=
  let a := bitsOf v p.addr
  { off := a * p.width, there := decide ((a + 1) * p.width ≤ 36864), we := v p.we, word := p.written (bitsOf v (p.din.take p.width)) }

/-- A port writes. -/
def Fab.portStore (f : Fab) (i : Nat) (p : RamPort) (q : PortAsk) : Fab :=
  if q.we ∧ q.there then f.ramStore i q.off p.width q.word else f

/-- What a port holds after its edge: `src` are the contents that it reads. A word that is not there reads as `inp` says. -/
def Fab.portRead (f src : Fab) (inp : Sig → Bool) (i : Nat) (b : Bool) (p : RamPort) (q : PortAsk) (collide : Bool) : RamOut :=
  let r := tblGet {} f.ports (2 * i + bit b)
  let read : Nat × Nat :=
    if q.there then p.received (src.ramBits i q.off p.width)
    else (bitsOf inp ((List.range p.width).map (fun n => Sig.ram i b n)), 0)
  let got : Nat × Nat :=
    if !q.we then read
    else if p.mode = 0 then (q.word, 0)
    else if p.mode = 1 then read
    else (r.word, r.flags)
  { word := got.1, flags := got.2, regWord := r.word, regFlags := r.flags, collide }

/-- Block RAM `i` at the edges of the clock trees in `mask`, by the levels `v` (R544 to R546). Edges of different trees come
within 400 ps of each other, and `pick` then decides. -/
def Fab.ramEdge (f : Fab) (v inp : Sig → Bool) (mask i : Nat) (pick : Bool) (c : RamCfg) : Fab :=
  let qa := c.a.ask v
  let qb := c.b.ask v
  let ea := mask.testBit c.a.clk
  let eb := mask.testBit c.b.clk
  let meet : Bool := ea && eb && qa.there && qb.there && (qa.we || qb.we) &&
    decide (qa.off < qb.off + c.b.width) && decide (qb.off < qa.off + c.a.width)
  let apart : Bool := meet && c.a.clk != c.b.clk
  let fa := if ea then f.portStore i c.a qa else f
  let fb := if eb then f.portStore i c.b qb else f
  let both := if apart && pick then (if eb then fa.portStore i c.b qb else fa) else (if ea then fb.portStore i c.a qa else fb)
  let ra := f.portRead (if apart && pick && !qa.we then fb else f) inp i false c.a qa apart
  let rb := f.portRead (if apart && pick && !qb.we then fa else f) inp i true c.b qb apart
  let ports := if ea then tblPut {} f.ports (2 * i) ra else f.ports
  { both with ports := if eb then tblPut {} ports (2 * i + 1) rb else ports }

/-! ### Reset trees and clock edges -/

/-- The reset tree of a number asserts. -/
def Fab.asserted (f : Fab) (k : Nat) : Bool := tblGet 0 f.rst k ≠ 0

/-- Reset trees whose sources stand in a mask assert at once, and reset the flip-flops on them (R550). -/
def Fab.assert (f : Fab) (src : Nat) : Fab :=
  let rst := (List.range 4).foldl (fun t k => if src.testBit k then tblPut 0 t k 3 else t) f.rst
  let f := { f with rst }
  { f with ff := f.design.ffs.foldl (fun t n =>
      if ((f.design.ff? n).bind FfCfg.arst).any f.asserted then tblPut false t n false else t) f.ff }

/-- What a flip-flop takes at an edge: its synchronous set or reset, else its data while enabled. -/
def FfCfg.next (c : FfCfg) (v : Sig → Bool) (old : Bool) : Bool :=
  if v c.sr then c.srSet else if v c.ce then v c.d else old

/-- Edges of the clock trees in `mask` in the quadrants of `on`; reset trees whose source has gone move on by one flop. -/
def Fab.edges (f : Fab) (inp pick : Sig → Bool) (mask on src : Nat) : Fab :=
  let v := f.levels inp
  let ff := f.design.ffs.foldl (fun t n =>
    match f.design.ff? n with
    | none => t
    | some c =>
      if !(on.testBit (quadrantOf (n / 4096) (n / 16 % 256))) then t
      else if c.arst.any f.asserted then tblPut false t n false
      else if mask.testBit c.clk then tblPut false t n (c.next v (tblGet false f.ff n))
      else t) f.ff
  let arith := f.design.ariths.foldl (fun t p =>
    match f.design.arith? p.1 with
    | none => t
    | some c => if on.testBit (arithQuadrant p.1) ∧ mask.testBit c.clk then tblPut {} t p.1 (f.arithNext v p.1 c) else t) f.arith
  let rst := (List.range 4).foldl (fun t k =>
    if !(src.testBit k) ∧ mask.testBit ((f.design.grst.lookup k).map GrstCfg.clk |>.getD 16) then
      tblPut 0 t k (tblGet 0 t k - 1) else t) f.rst
  let g := f.design.rams.foldl (fun g p =>
    match f.design.ram? p.1 with
    | none => g
    | some c => if on.testBit (ramQuadrant p.1) then g.ramEdge v inp mask p.1 (pick (.ramFlag p.1 false 2)) c else g) f
  { g with ff, arith, rst }

/-! ### Starting, changing and waking a design -/

/-- Flip-flops and block RAMs of the quadrants in a mask at the initial values of a design. -/
def Fab.initial (f : Fab) (on : Nat) : Fab :=
  let ff := f.design.ffs.foldl (fun t n =>
    if on.testBit (quadrantOf (n / 4096) (n / 16 % 256)) then
      tblPut false t n ((f.design.ff? n).any FfCfg.init) else t) f.ff
  let ram := (f.design.rams.map Prod.fst).foldl (fun t i => (f.design.ramInit i).foldl (fun t k =>
      if on.testBit (ramQuadrant i) then tblPut false t (36864 * i + k) true else t) t)
    (f.ram.filter (fun c => !(on.testBit (ramQuadrant (c.1 / 36864)))))
  { f with ff, ram
           ports := f.ports.filter (fun c => !(on.testBit (ramQuadrant (c.1 / 2))))
           arith := f.arith.filter (fun c => !(on.testBit (arithQuadrant c.1))) }

/-- A design as phase PLANE starts it. -/
def Fab.start (d : Design) : Fab := ({ design := d } : Fab).initial 15

/-- A design as a scene change starts it (R585): `keep` gives the mode of each block RAM, `carried` the locations listed. -/
def Fab.change (f : Fab) (d : Design) (keep : Nat → Bool) (carried : List Nat) : Fab :=
  let g := Fab.start d
  let ff := carried.foldl (fun t n =>
    if (d.ff? n).isSome then tblPut false t n ((f.design.ff? n).isSome && tblGet false f.ff n) else t) g.ff
  let ram := f.ram.foldl (fun t c => if keep (c.1 / 36864) then tblPut false t c.1 c.2 else t)
    (g.ram.filter (fun c => !(keep (c.1 / 36864))))
  { g with ff, ram, pathTill := f.pathTill, outs := f.outs }

/-! ### The device's fabric -/

/-- The fabric runs: phase PLANE has completed (R69). -/
def State.fabRuns (s : State) : Bool := s.sys.done.contains 5 && s.get F.SYS_MODE_MODE != 0 && !s.sys.held

/-- Quadrants whose flip-flops run: those that are on, have been reloaded in a wake, and are not held in reset (R69, R672,
R673). -/
def State.fabOn (s : State) : Nat :=
  let waking : Bool := s.pwr.wake ≠ 0 && decide (s.pwr.wake ≤ 5)
  let on := bits (s.get F.PWR_STATUS_ON) 5 2
  let on := if waking then on &&& (15 - bits s.pwr.off 5 2) else on
  on &&& (15 - s.fab.held)

/-- Clock trees that run: locked, held or switched (R650); none in a swap (R584). -/
def State.fabTrees (s : State) : Nat :=
  if s.cfg.swap.isSome then 0 else
  (List.range 16).foldl (fun m k =>
    let st := s.get (F.CLK_DOM_STATE (48 + k))
    if st = 1 ∨ st = 2 ∨ st = 4 then m + 2 ^ k else m) 0

/-- The levels from outside the fabric, as the device has them or as a free value gives them. -/
def State.fabInputs (s : State) (g : Sig) : Bool :=
  match g with
  | .evt l => s.cue.fabLevel.testBit l
  | g => Config.fabIn s.freeIx g

/-- The reset trees that a source asserts now (R550); source CALL has gone once the fabric runs. -/
def State.fabSources (s : State) : Nat :=
  let path : Bool := s.sys.printReset || decide (s.now < s.fab.pathTill)
  let v := s.fab.levels s.fabInputs
  (List.range 4).foldl (fun m k =>
    let c := s.fab.design.grst.lookup k
    if s.grstPin.testBit k ∨ c.any (fun c => (c.path && path) || (c.net.map v).getD false) then m + 2 ^ k else m) 0

/-- What the design drives at its user pins, and the levels of its probe points. -/
def Fab.shown (f : Fab) (inp : Sig → Bool) : Fab :=
  let v := f.levels inp
  { f with
    outs := f.design.pins.foldl (fun t p =>
      tblPut 0 t p.1 (bit (v p.2.2) + 2 * bit (v p.2.1))) []
    points := ((f.design.probes.take 64).zipIdx).foldl (fun t p => tblPut false t p.2 (v p.1)) [] }

/-- Reset trees assert where a source stands, and the pins follow (R550, R562). -/
def State.fabSettle (s : State) : State :=
  if !s.fabRuns then s else
  let f := (s.fab.assert s.fabSources).shown s.fabInputs
  { s with fab := f, freeIx := s.freeIx + 1 }

/-- One event of the fabric's clocks: edges of free clock trees that run, within 400 ps of each other (log entry 3). -/
def State.fabTick (s : State) : State :=
  let mask := Config.free s.freeIx % 2 ^ 16 &&& s.fabTrees
  let f := s.fab.edges s.fabInputs s.fabInputs mask s.fabOn s.fabSources
  ({ s with fab := f, freeIx := s.freeIx + 1 } : State).fabSettle

/-- The configuration bits of a plane, from its first byte on, whose flash begins at `base`. -/
def State.planeCells (s : State) (base : Nat) : List (Nat × Byte) :=
  (s.flash.filter (fun c => base ≤ c.1 && c.1 < base + 5632 * 8192)).map (fun c => (c.1 - base, c.2))

/-- A section of the scene record of a plane. -/
def State.sectionOfPlane (s : State) (p t : Nat) : List Byte :=
  ((if p = 0 then s.cfg.planeA else s.cfg.planeB).record.sections.lookup t).getD []

/-- The design of a plane, whose flash begins at `base`: erased sectors enable no driver and hold values of 0 (R579), so that a
plane with no other sector configures nothing. -/
def State.designOf (s : State) (p base : Nat) : Design :=
  let cells := s.planeCells base
  if cells = [] then {} else Config.design cells (s.sectionOfPlane p 5)

/-- A section of the active plane, and its design. -/
def State.sceneBody (s : State) (t : Nat) : List Byte := s.sectionOfPlane (s.get F.CFG_STATUS_ACTIVE) t
def State.sceneDesign (s : State) (base : Nat) : Design := s.designOf (s.get F.CFG_STATUS_ACTIVE) base

/-- Phase PLANE releases the flip-flops of the active plane's design; trees of source CALL deassert through their synchronisers
(R539, R550). -/
def State.fabStart (s : State) (base : Nat) : State :=
  let d := s.sceneDesign base
  let f := Fab.start d
  let call := (List.range 4).foldl (fun m k => if ((d.grst.lookup k).map GrstCfg.call).getD false then m + 2 ^ k else m) 0
  ({ s with fab := f.assert call } : State).fabSettle

/-- The locations that a CARRIED section lists. -/
def carriedOf (b : List Byte) : List Nat := (List.range (leAt b 0 4)).map (fun i => leAt b (4 + 4 * i) 4)

/-- A scene change gives the fabric the design of the plane that is now active (R585). -/
def State.fabChange (s : State) (base : Nat) : State :=
  let f := s.fab.change (s.sceneDesign base) (fun i => leAt (s.sceneBody 2) i 1 = 1) (carriedOf (s.sceneBody 3))
  ({ s with fab := f } : State).fabSettle

/-- Quadrants that INTERVAL gates. -/
def State.fabGated (s : State) : Nat := 15 - s.get F.PWR_INTERVAL_CFG_FQ_KEEP

/-- The flip-flops that bank 7 keeps, each with its value: the first 8,064 of the CARRIED list in gated quadrants (R672). -/
def State.retained (s : State) : List (Nat × Bool) :=
  (((carriedOf (s.sceneBody 3)).filter (fun n =>
    s.fabGated.testBit (quadrantOf (n / 4096) (n / 16 % 256)))).take 8064).map (fun n => (n, tblGet false s.fab.ff n))

/-- A print-path reset has ended: its trees assert for 1 µs more (R550). -/
def State.pathEnds (s : State) : State :=
  if s.sys.printReset then
    { s with sys := { s.sys with printReset := false }, fab := { s.fab with pathTill := s.now + 1000000 } }
  else s

/-- At t4 of a wake the gated quadrants take the initial values of their design (R673). -/
def State.fabReload (s : State) : State := { s with fab := s.fab.initial (bits s.pwr.off 5 2) }

/-- Flip-flops take the values that bank 7 kept (R673). -/
def State.fabRestore (s : State) (l : List (Nat × Bool)) : State :=
  { s with fab := { s.fab with ff := l.foldl (fun t c => tblPut false t c.1 c.2) s.fab.ff } }

end Sys2Proof.Machine
end

