-- ==== Sys2Proof/Machine/Base.lean ====
section
/-! DEFINITION. Accessors of the numbered blocks, the mode, marks of items, and the frames that several blocks send. -/

namespace Sys2Proof.Machine

/-! ### Mode and phase -/

/-- The mode, encoded as R55. -/
def State.mode (s : State) : Nat := s.get F.SYS_MODE_MODE

/-- The device runs a print path that accepts items: REHEARSAL, PERFORMANCE or UNDERSTUDY (R149). -/
def State.accepting (s : State) : Bool := s.mode = 2 ∨ s.mode = 3 ∨ s.mode = 4

/-- A phase of CALL has completed (R64). -/
def State.phaseDone (s : State) (p : Nat) : Bool := s.sys.done.contains p

/-- The duplex role: 0 NONE, 1 LEAD, 2 UNDERSTUDY, 3 SOLO (R417). -/
def State.role (s : State) : Nat := s.get F.DPX_STATUS_ROLE

/-- Debug is open: the SERVICE row's condition, set by the life cycle (R59, R718). -/
def State.debugOpen (s : State) : Bool := s.flag F.LCY_STATUS_DEBUG_OPEN

/-! ### Numbered instances -/

def State.track (s : State) (n : Nat) : Trk := tblGet {} s.trk n
def State.setTrack (s : State) (n : Nat) (x : Trk) : State := { s with trk := tblPut {} s.trk n x }
def State.queue (s : State) (n : Nat) : Wq := tblGet {} s.wq n
def State.setQueue (s : State) (n : Nat) (x : Wq) : State := { s with wq := tblPut {} s.wq n x }
def State.sdef (s : State) (i : Nat) : SeriesDef := tblGet {} s.sdefs i
def State.srun (s : State) (i : Nat) : SeriesRun := tblGet {} s.series i
def State.setSrun (s : State) (i : Nat) (x : SeriesRun) : State := { s with series := tblPut {} s.series i x }
def State.aonMark (s : State) (n : Nat) : AonMark := tblGet {} s.aonMarks n
def State.setAonMark (s : State) (n : Nat) (x : AonMark) : State := { s with aonMarks := tblPut {} s.aonMarks n x }

/-- Changes the items of track `n` one by one. -/
def State.mapItems (s : State) (n : Nat) (f : Item → Item) : State :=
  let q := s.queue n
  s.setQueue n { q with items := q.items.map f }

/-- Changes the item `id` of track `n`. -/
def State.modItem (s : State) (n id : Nat) (f : Item → Item) : State :=
  s.mapItems n (fun x => if x.id = id then f x else x)

/-- The item `id` of track `n`, while the queue holds it. -/
def State.item? (s : State) (n id : Nat) : Option Item := (s.queue n).items.find? (fun x => x.id = id)

/-- The item is in BOUND or PRINTING. -/
def Item.running (x : Item) : Bool := x.phase = .bound ∨ x.phase = .printing

/-- The item is in one of the commit steps (R38). -/
def Item.committing (x : Item) : Bool :=
  match x.phase with
  | .serial _ | .writing | .mirror _ | .ready => true
  | _ => false

/-- Track `n` has no item in BOUND or PRINTING: its curtain window (R60, R123). -/
def State.inCurtain (s : State) (n : Nat) : Bool := !((s.queue n).items.any Item.running)

/-- The item in HEAD of track `n`. -/
def State.headItem (s : State) (n : Nat) : Option Item := (s.queue n).items.find? (fun x => x.phase = .head)

/-! ### Writes to DRAM -/

/-- A user asks the controllers for a write; it is served in its turn (R35). -/
def State.dramPut (s : State) (cls a : Nat) (bs : List Byte) (who : DramUser := .plain) : State :=
  { s with dreq := s.dreq ++ [{ cls, addr := a, len := bs.length, data := some bs, who, since := s.now }] }

/-- A happening waits for the end of its instant. -/
def State.defer (s : State) (l : Later) : State := { s with later := s.later ++ [l] }

/-! ### Port D frames -/

/-- Sends a port D frame: the sender keeps it until it is acknowledged, and waits when 256 are held (R425, R426). -/
def State.dpxPut (s : State) (op : Nat) (payload : List Byte) : State :=
  if s.dpx.unacked.length < 256 then
    let q := (s.dpx.txSeq + 1) % 2 ^ 32
    let s := { s with dpx := { s.dpx with
      txSeq := q, sentAt := s.now, ackAt := if s.dpx.unacked = [] then s.now else s.dpx.ackAt
      unacked := s.dpx.unacked ++ [(q, op, payload)] } }
    s.emit (.dpx q s.dpx.rxSeq op payload)
  else { s with dpx := { s.dpx with waiting := s.dpx.waiting ++ [(op, payload)] } }

/-- Sends a port D frame while the link passes frames. -/
def State.dpxSend (s : State) (op : Nat) (payload : List Byte) : State :=
  if s.flag F.DPX_STATUS_LINK_UP then s.dpxPut op payload else s

/-- A commit record: COMMIT_SEQ, KIND and TRACK, with its complement (R431). -/
def commitRecord (seq kind track : Nat) : List Byte :=
  let v := (seq % 2 ^ 32) * 2 ^ 32 + kind * 2 ^ 24 + track * 2 ^ 20
  leBytes 8 v ++ leBytes 8 (2 ^ 64 - 1 - v)

/-- Sends a C frame and notes what its acknowledgement completes (R428). -/
def State.dpxCommit (s : State) (kind track : Nat) (what : CommitFor) (payload : List Byte) : State :=
  let q := s.dpx.commitSeq
  let s := s.dpxSend kind (commitRecord q kind track ++ payload)
  let c : Commit := { seq := q, kind, track, what, at_ := s.now }
  let s := { s with dpx := { s.dpx with commitSeq := (q + 1) % 2 ^ 32, commits := s.dpx.commits ++ [c] } }
  s.put F.DPX_COMMIT_PENDING (min s.dpx.commits.length 255)

/-- CONFIG frames that carry a DRAM range, up to 472 bytes each (R427). -/
def State.dpxDram (s : State) (a n : Nat) : State :=
  (List.range ((n + 471) / 472)).foldl (fun s i => s.dpxCommit 0x07 0 .data
    (leBytes 1 3 ++ leBytes 7 0 ++ leBytes 8 (a + 472 * i) ++ s.dramBytes (a + 472 * i) (min 472 (n - 472 * i)))) s

/-- A twin mirrors its commits while its role is LEAD (R428). -/
def State.mirrors (s : State) : Bool := s.role = 1

/-! ### Marks -/

/-- Marks item `id` of track `n` with mark bit `b` of R154 (R121); a lead sends the mark to the understudy (R436). -/
def State.mark (s : State) (n id b : Nat) : State :=
  match s.item? n id with
  | none => s
  | some x =>
    if x.marks.testBit b then s else
    let s := s.modItem n id (fun x => { x with marks := x.marks ||| 2 ^ b })
    if s.mirrors then
      s.dpxSend 0x0B (leBytes 1 n ++ leBytes 5 0 ++ leBytes 2 (x.marks ||| 2 ^ b) ++ leBytes 8 id)
    else s

/-- Marks several items of a track. -/
def State.markAll (s : State) (n : Nat) (ids : List Nat) (b : Nat) : State :=
  ids.foldl (fun s id => s.mark n id b) s

/-- The items of track `n` in PRINTING. -/
def State.printingIds (s : State) (n : Nat) : List Nat :=
  ((s.queue n).items.filter (fun x => x.phase = .printing)).map Item.id

/-- The bits of `x` that `m` does not name. -/
def clearBits (x m : Nat) : Nat := x - (x &&& m)

/-! ### Flash sectors -/

/-- Bytes that nothing in the spec fixes (log entry 2). -/
def State.freeBytes (s : State) (n : Nat) : List Byte × State :=
  ((List.range n).map (fun i => BitVec.ofNat 8 (Config.free (s.freeIx + i))), { s with freeIx := s.freeIx + n })

/-- Address of the first byte of a plane in the flash address space (R602). -/
def planeBase (p : Nat) : Nat := (2 + p) * 2 ^ 28

/-- Bytes of a plane's configuration and scene record area (R569). -/
def planeBytes : Nat := 5696 * 8192

/-- A sector of an array: 0 user flash, 1 ledger, 2 and 3 the planes (R591). -/
def State.sector (s : State) (array k : Nat) : Sector := tblGet {} s.cfg.sectors (array * 65536 + k)

def State.setSector (s : State) (array k : Nat) (x : Sector) : State :=
  { s with cfg := { s.cfg with sectors := tblPut {} s.cfg.sectors (array * 65536 + k) x } }

/-- Enters a sector in the grown bad-sector table (R596), unless it is known as bad. -/
def State.growBad (s : State) (array k : Nat) : State :=
  if (s.sector array k).state = 2 then s else
  let s := s.setSector array k { s.sector array k with state := 2 }
  if s.cfg.grown.length < 128 then
    let s : State := { s with cfg := { s.cfg with grown := s.cfg.grown ++ [array * 2 ^ 28 + k] } }
    (s.put F.FLC_BAD_GROWN s.cfg.grown.length).raise Ev.FLC_BAD_SECTOR
  else s.raise Ev.FLC_TABLE_FULL

end Sys2Proof.Machine
end

