-- ==== Sys2Proof/Machine/Ledger.lean ====
section
/-! DEFINITION. The ledger journal: entries, slots, writing, compaction and the scan (R464 to R472). -/

namespace Sys2Proof.Machine

/-- Byte address of ledger flash in the flash address space (ARRAY 1 in [31:28], R602). -/
def ledgerBase : Nat := 0x10000000

/-- Address of a slot. -/
def slotAddr (sector slot : Nat) : Nat := ledgerBase + sector * 8192 + slot * 32

/-- The 16-byte value of an entry (R465). -/
def Entry.value : Entry → List Byte
  | .sector q d => leBytes 1 1 ++ leBytes 1 1 ++ leBytes 2 0 ++ leBytes 4 q ++ leBytes 8 d
  | .fired n sub f c => leBytes 1 2 ++ leBytes 1 (sub * 16 + n) ++ leBytes 2 0 ++ leBytes 4 (c - f) ++ leBytes 8 f
  | .accession i p q o => leBytes 1 3 ++ leBytes 1 i ++ leBytes 1 (bit p) ++ leBytes 1 0 ++ leBytes 4 q ++ leBytes 8 o
  | .lease i p st q c h t =>
    leBytes 1 4 ++ leBytes 1 i ++ leBytes 1 (bit p) ++ leBytes 1 st ++ leBytes 4 q ++ leBytes 2 c ++ leBytes 2 h ++ leBytes 4 t
  | .catalogue i n e t => leBytes 1 5 ++ leBytes 1 i ++ leBytes 2 0 ++ leBytes 4 n ++ leBytes 4 e ++ leBytes 4 t
  | .epoch p k => leBytes 1 6 ++ leBytes 3 0 ++ leBytes 4 p ++ leBytes 2 k ++ leBytes 6 0
  | .reseal n => leBytes 1 7 ++ leBytes 3 0 ++ leBytes 4 n ++ leBytes 8 0

/-- The 32 bytes of a slot: value and complement (R22, R464). -/
def Entry.bytes (e : Entry) : List Byte := e.value ++ e.value.map (fun b => ~~~b)

/-- The entry a 16-byte value names, whatever its unnamed bytes hold. -/
def entryOf (v : List Byte) : Option Entry :=
  let f := leAt v
  match f 0 1 with
  | 1 => if f 1 1 = 1 then some (.sector (f 4 4) (f 8 8)) else none
  | 2 =>
    let sub := f 1 1 / 16
    if sub = 1 ∨ sub = 2 then some (.fired (f 1 1 % 16) sub (f 8 8) (f 8 8 + f 4 4)) else none
  | 3 => if f 2 1 < 2 then some (.accession (f 1 1) (f 2 1 = 1) (f 4 4) (f 8 8)) else none
  | 4 =>
    if f 2 1 < 2 ∧ 1 ≤ f 3 1 ∧ f 3 1 ≤ 4 then
      some (.lease (f 1 1) (f 2 1 = 1) (f 3 1) (f 4 4) (f 8 2) (f 10 2) (f 12 4)) else none
  | 5 => some (.catalogue (f 1 1) (f 4 4) (f 8 4) (f 12 4))
  | 6 => some (.epoch (f 4 4) (f 8 2))
  | 7 => some (.reseal (f 4 4))
  | _ => none

/-- How a slot reads (R466). -/
inductive SlotRead where
  | erased | void | invalid
  | entry (e : Entry)
  deriving DecidableEq, Repr

/-- Reads a 32-byte slot: erased, void, valid, or invalid. Every unnamed byte of a valid entry is 0, so its bytes are the
ones the entry would be written with. -/
def readSlot (l : List Byte) : SlotRead :=
  if l.all (· = 0xFF) then .erased
  else if l.all (· = 0) then .void
  else match entryOf (l.take 16) with
    | some e => if e.bytes = l then .entry e else .invalid
    | none => .invalid

/-- Two entries have one key (R466). -/
def Entry.sameKey : Entry → Entry → Bool
  | .fired a _ _ _, .fired b _ _ _ => a = b
  | .accession a p q _, .accession b r t _ => a = b ∧ p = r ∧ q = t
  | .lease a p _ q _ _ _, .lease b r _ t _ _ _ => a = b ∧ p = r ∧ q = t
  | .catalogue a _ _ _, .catalogue b _ _ _ => a = b
  | .epoch _ _, .epoch _ _ => true
  | _, _ => false

/-- The entry can be superseded, so it is kept as the latest of its key. -/
def Entry.keyed : Entry → Bool
  | .sector _ _ => false
  | .reseal _ => false
  | _ => true

/-- A lease or accession that no rule keeps live any longer (R468). -/
def Entry.dead (live : List Entry) : Entry → Bool
  | .lease _ _ st _ _ _ _ => st = 3 ∨ st = 4
  | .accession i p q _ => !(live.any (fun e => match e with
      | .lease j r st t _ _ _ => i = j ∧ p = r ∧ q = t ∧ (st = 1 ∨ st = 2)
      | _ => false))
  | _ => false

/-- Puts an entry in effect among the entries in effect. -/
def putLive (live : List Entry) (e : Entry) : List Entry :=
  if e.keyed then live.filter (fun x => !(x.sameKey e)) ++ [e] else live

/-- The live entries (R468). -/
def Ldg.liveSet (l : Ldg) : List Entry := l.live.filter (fun e => !(e.dead l.live))

/-- The sector after a sector, in the order 0, 16, 1, 17 and so on (R464). -/
def nextSector (x : Nat) : Nat := if x < 16 then x + 16 else (x - 15) % 16

/-- A sector that the journal may open: neither bad nor interrupted (R471, R595). -/
def State.ldgSound (s : State) (x : Nat) : Bool := (s.sector 1 x).state ≠ 1 && (s.sector 1 x).state ≠ 2

/-- The next sector in the order of R464 that is skipped neither as bad nor as interrupted (R471, R595). -/
def State.ldgNext (s : State) (x : Nat) : Nat → Nat
  | 0 => nextSector x
  | k + 1 => if s.ldgSound (nextSector x) then nextSector x else s.ldgNext (nextSector x) k

/-- Sectors in use. -/
def Ldg.inUse (l : Ldg) : List Nat := (List.range 32).filter (fun x => (tblGet none l.sectors x).isSome)

/-- Erased sectors that the journal may open. -/
def State.ldgFree (s : State) : Nat :=
  ((List.range 32).filter (fun x => (tblGet none s.ldg.sectors x).isNone && s.ldgSound x)).length

/-- The sector in use with the least SECTOR_SEQ. -/
def Ldg.oldest (l : Ldg) : Option Nat :=
  l.inUse.foldl (fun b x => match b with
    | none => some x
    | some y => if (tblGet none l.sectors x).getD 0 < (tblGet none l.sectors y).getD 0 then some x else b) none

/-- Shows the ledger's figures in LDG_STATUS, LDG_HEAD_SEQ and LDG_LIVE (R500). -/
def State.ldgShow (s : State) : State :=
  let s := s.put F.LDG_STATUS_FREE s.ldgFree
  let s := s.put F.LDG_STATUS_HEAD ((s.ldg.head.map Prod.fst).getD 0)
  let s := s.put F.LDG_STATUS_COMPACTING (bit s.ldg.erasing.isSome)
  let s := s.put F.LDG_HEAD_SEQ s.ldg.seq
  s.put F.LDG_LIVE_ENTRIES s.ldg.liveSet.length

/-- Requests an entry (R467): entries are written in request order, but before the copies of a compaction (R498); a copy that the
entry supersedes is no longer live, so it is not written (R468). -/
def State.ldgRequest (s : State) (e : Entry) (p : Purpose := .plain) : State :=
  let q := s.ldg.queue
  { s with ldg := { s.ldg with
    queue := q.filter (fun r => !r.copy) ++ [{ entry := e, purpose := p }] ++ q.filter (fun r => r.copy && !(r.entry.sameKey e)) } }

/-- FIRED_MARK entries of track `n` requested and not yet written, copies of written ones apart (R168). -/
def State.marksOut (s : State) (n : Nat) : Nat :=
  (s.ldg.queue.filter (fun r => !r.copy && (match r.entry with | .fired m _ _ _ => decide (m = n) | _ => false))).length

/-- Programs a slot of ledger flash. -/
def State.putSlot (s : State) (sector slot : Nat) (bs : List Byte) : State := s.store (.flash (slotAddr sector slot) bs)

/-- Makes room for an entry: opens the next sector with its SECTOR entry when the head is full (R464, R467). The answer is
the slot to write. -/
def State.ldgRoom (s : State) : State × Nat × Nat :=
  let openAt (x : Nat) : State × Nat × Nat :=
    let q := s.ldg.seq + 1
    let l := { s.ldg with seq := q, sectors := tblPut none s.ldg.sectors x (some q), head := some (x, 1) }
    (({ s with ldg := l } : State).putSlot x 0 (Entry.sector q Config.deviceId).bytes, x, 1)
  match s.ldg.head with
  | none => openAt (s.ldgNext 31 32)
  | some (x, k) => if k < 256 then (s, x, k) else openAt (s.ldgNext x 32)

/-- The compaction of a sector: every live entry in it is requested again at the head, and the sector is erased once they are
written (R468). -/
def State.ldgCompactAt (s : State) (x : Nat) : State :=
  let slots := (List.range 255).map (fun k => readSlot (s.flashBytes (slotAddr x (k + 1)) 32))
  let live := s.ldg.liveSet
  let keep := slots.filterMap (fun r => match r with | .entry e => if live.contains e then some e else none | _ => none)
  let s : State := { s with ldg := { s.ldg with
    queue := s.ldg.queue ++ keep.map (fun e => { entry := e, copy := true }) } }
  ({ s with ldg := { s.ldg with erasing := some x } } : State).put F.LDG_STATUS_COMPACTING 1

/-- Compaction begins: of an interrupted sector before anything else (R471), else of the oldest sector when two erased sectors
remain (R468). -/
def State.ldgCompact (s : State) : State :=
  if s.ldg.erasing.isSome then s else
  match (List.range 32).find? (fun x => (s.sector 1 x).state = 1) with
  | some x => s.ldgCompactAt x
  | none =>
    if 2 < s.ldgFree then s else
    match s.ldg.oldest with
    | none => s
    | some x => s.ldgCompactAt x

/-- Verifies that failed enter the head's sector in the grown bad-sector table (R594, R596); the slots left in it are still used,
as R467 says, and the journal's next visit skips it (R595). -/
def State.ldgFailed (s : State) (fails : Nat) : State :=
  match s.ldg.head with
  | some (x, _) => if fails = 0 then s else s.growBad 1 x
  | none => s

/-- Writes the entry at the front of the queue after `fails` failed verifies (R467): failed slots are made void and the
entry goes into the next slot. The answer is the request when it has taken effect. -/
def State.ldgWrite (s : State) (fails : Nat) : State × Option LdgReq :=
  match s.ldg.queue with
  | [] => (s, none)
  | r :: q =>
    let step (s : State) (bs : List Byte) : State :=
      let (s, x, k) := s.ldgRoom
      let s := s.putSlot x k bs
      { s with ldg := { s.ldg with head := some (x, k + 1) } }
    let s := (List.range fails).foldl (fun s _ => step s (List.replicate 32 0)) s
    let s := step s r.entry.bytes
    let s := { s with ldg := { s.ldg with queue := q, live := putLive s.ldg.live r.entry } }
    let s := s.addSat F.LDG_WRITES 1
    (((s.ldgFailed fails).ldgCompact).ldgShow, some r)

/-- Gives up the entry at the front (R467): three failed slots, the last left as written when it could not be made
void. -/
def State.ldgGiveUp (s : State) (fails : Nat) (voidOk : Bool) : State × Option LdgReq :=
  match s.ldg.queue with
  | [] => (s, none)
  | r :: q =>
    let step (s : State) (bs : List Byte) : State :=
      let (s, x, k) := s.ldgRoom
      let s := s.putSlot x k bs
      { s with ldg := { s.ldg with head := some (x, k + 1) } }
    let s := (List.range (fails - 1)).foldl (fun s _ => step s (List.replicate 32 0)) s
    let s := if voidOk then step s (List.replicate 32 0)
      else step s ((r.entry.bytes.take 31) ++ [~~~(r.entry.bytes.getD 31 0)])
    ((({ s with ldg := { s.ldg with queue := q } } : State).ldgFailed fails).ldgShow, some r)

/-- A compaction's erase completes once its copies are written (R468); how many pulses it took, 1 to 64, nothing fixes, and more
than the threshold raise FLC_WEAR (R594). -/
def State.ldgErased (s : State) : State :=
  match s.ldg.erasing with
  | none => s
  | some x =>
    let s := s.store (.flashErase (slotAddr x 0) (slotAddr (x + 1) 0))
    let (k, s) := s.takeFree 64
    let y := s.sector 1 x
    let s := s.setSector 1 x { y with state := if y.state = 2 then 2 else 0, pulses := k + 1, cycles := y.cycles + 1 }
    let s := if s.get F.FLC_WEAR_THRESH_LEDGER < k + 1 then s.raise Ev.FLC_WEAR else s
    (({ s with ldg := { s.ldg with erasing := none, sectors := tblPut none s.ldg.sectors x none } } : State).ldgCompact).ldgShow

/-- The supply early-warning cuts the erase of a ledger sector short: the sector is interrupted (R471, R593). -/
def State.ldgEraseCut (s : State) : State :=
  match s.ldg.erasing with
  | none => s
  | some x =>
    if s.ldg.queue.any LdgReq.copy then s else
    let (bs, s) := s.freeBytes 8192
    let s := (s.store (.flash (slotAddr x 0) bs)).setSector 1 x { s.sector 1 x with state := 1 }
    ({ s with ldg := { s.ldg with erasing := none } } : State).raise Ev.FLC_INTERRUPTED

/-! ### The scan -/

/-- All slots of the sectors in use, in order of SECTOR_SEQ then slot (R466). -/
def State.ldgSlots (s : State) : List (Nat × Nat × SlotRead) :=
  let secs := (List.range 32).filterMap (fun x =>
    match readSlot (s.flashBytes (slotAddr x 0) 32) with
    | .entry (.sector q _) => some (q, x)
    | _ => if (s.flashBytes (slotAddr x 0) 8192).all (· = 0xFF) then none else some (2 ^ 32, x))
  let secs := secs.mergeSort (fun a b => a.1 ≤ b.1)
  secs.flatMap (fun p => (List.range 256).map (fun k => (p.2, k, readSlot (s.flashBytes (slotAddr p.2 k) 32))))

/-- A sector that holds bytes but no SECTOR entry in its slot 0, the trace of an opening cut short, counts as interrupted: it is
erased before the journal writes in it (DESIGN CHOICE; log entry 123). -/
def State.ldgHeadless (s : State) (slots : List (Nat × Nat × SlotRead)) : State :=
  slots.foldl (fun s x => match x.2.1, x.2.2 with
    | 0, .entry (.sector _ _) => s
    | 0, _ => if (s.sector 1 x.1).state = 0 then s.setSector 1 x.1 { s.sector 1 x.1 with state := 1 } else s
    | _, _ => s) s

/-- The scan of phase JOIN (R469 to R472): the entries in effect, the head, torn and invalid slots. -/
def State.ldgScan (s : State) : State :=
  let slots := s.ldgSlots
  let live := slots.foldl (fun l x => match x.2.2 with | .entry e => putLive l e | _ => l) []
  let used := slots.filter (fun x => x.2.2 ≠ .erased)
  let bad := slots.filter (fun x => x.2.2 = .invalid)
  let last := (used.filter (fun x => s.ldgSound x.1 || (s.sector 1 x.1).state = 2)).getLast?
  let torn : Bool := match bad.getLast?, last with
    | some b, some l => decide (b.1 = l.1 ∧ b.2.1 = l.2.1)
    | _, _ => false
  let faults := if torn then bad.dropLast else bad
  let s := s.ldgHeadless slots
  let head := (used.filter (fun x => s.ldgSound x.1 || (s.sector 1 x.1).state = 2)).getLast?
  let sectors := slots.foldl (fun t x => match x.2.2 with
    | .entry (.sector q _) => tblPut none t x.1 (some q)
    | _ => if (s.sector 1 x.1).state = 1 ∧ (tblGet none t x.1).isNone then tblPut none t x.1 (some 0) else t) ([] : Tbl (Option Nat))
  let seq := slots.foldl (fun m x => match x.2.2 with | .entry (.sector q _) => max m q | _ => m) 0
  let s := { s with ldg := { s.ldg with live, sectors, seq, head := head.map (fun (l : Nat × Nat × SlotRead) => (l.1, l.2.1 + 1)), scanned := true } }
  let s := if torn then (s.setFlags F.LDG_STATUS_TORN 1).raise Ev.LDG_TORN else s
  let s := match faults.head? with
    | none => s
    | some b => (((s.put F.LDG_STATUS_LOG_FAULT 1).put F.LDG_FAULT_POS_SECTOR b.1).put F.LDG_FAULT_POS_SLOT b.2.1).raise
        Ev.LDG_LOG_FAULT
  (if (List.range 32).any (fun x => (s.sector 1 x).state = 1) then s.ldgCompact else s).ldgShow

/-- The NEXT of a series in the catalogue as journaled: the lowest quantum never proposed (R463). -/
def State.catNext (s : State) (i : Nat) : Nat :=
  (s.ldg.live.findSome? (fun e => match e with | .catalogue j n _ _ => if i = j then some n else none | _ => none)).getD 0

/-- The NEXT of a series with the entries still to be written counted: `next(s)` of R493. -/
def State.catTop (s : State) (i : Nat) : Nat :=
  s.ldg.queue.foldl (fun n r => match r.entry with | .catalogue j m _ _ => if i = j then max n m else n | _ => n) (s.catNext i)

/-- The latest FIRED_MARK entry of a track: sub-kind, FIRED_ID and CEILING_ID. -/
def State.firedEntry (s : State) (n : Nat) : Option (Nat × Nat × Nat) :=
  s.ldg.live.findSome? (fun e => match e with | .fired m sub f c => if m = n then some (sub, f, c) else none | _ => none)

/-- The latest ACCESSION offset of a lease. -/
def State.accOffset (s : State) (i q : Nat) (partner : Bool) : Option Nat :=
  s.ldg.live.findSome? (fun e => match e with
    | .accession j p t o => if i = j ∧ p = partner ∧ t = q then some o else none
    | _ => none)

end Sys2Proof.Machine
end

