-- ==== Sys2Proof/Machine/Company.lean ====
section
/-! DEFINITION. The company ring: frames, the cast list, quorum, elections, house time and leases (R461 to R463, R473 to
R498). -/

namespace Sys2Proof.Machine

/-! ### Sending and receiving -/

/-- Own seat (R477). -/
def State.seat (s : State) : Nat := s.get F.CMP_STATUS_SEAT

/-- A company of one: it sends nothing on the ring (R477). -/
def State.sole (s : State) : Bool := s.flag F.CMP_STATUS_SOLE

/-- Promised epoch. -/
def State.promised (s : State) : Nat := s.get F.CMP_EPOCH

/-- Quorum size (R479). -/
def State.quorumSize (s : State) : Nat := s.cmp.seats / 2 + 1

/-- SOURCE of this device's frames: its seat, 0x3FF before admission (R474). -/
def State.source (s : State) : Nat := if s.flag F.CMP_STATUS_JOINED then s.seat else 0x3FF

/-- Ring port `p` is trained (R502). -/
def State.portTrained (s : State) (p : Nat) : Bool := s.flag (if p = 0 then F.CMP_STATUS_PORT0_UP else F.CMP_STATUS_PORT1_UP)

/-- A frame leaves a ring port that is trained. -/
def State.ringOut (s : State) (p op src dest seq hops : Nat) (payload : List Byte) : State :=
  if s.portTrained p then s.emit (.ring p op src dest seq hops payload) else s

/-- Sends a ring frame on a port, or on both (2) (R474, R475). -/
def State.ringPort (s : State) (p op dest : Nat) (payload : List Byte) : State :=
  if s.sole then s else
  let q := (s.cmp.txSeq + 1) % 2 ^ 32
  let s : State := { s with cmp := { s.cmp with txSeq := q } }
  if p = 2 then (s.ringOut 0 op s.source dest q 0 payload).ringOut 1 op s.source dest q 0 payload
  else s.ringOut p op s.source dest q 0 payload

/-- Sends a ring frame on both ports (R475). -/
def State.ringSend (s : State) (op dest : Nat) (payload : List Byte) : State := s.ringPort 2 op dest payload

/-- Roster index of a DEVICE_ID (R477). -/
def State.rosterSeat (s : State) (dev : Nat) : Option Nat := s.cmp.roster.findIdx? (fun r => r.1 = dev)

/-- The marks of a ring port. -/
def State.marks (s : State) (p : Nat) : Marks := tblGet {} s.cmp.port p
def State.setMarks (s : State) (p : Nat) (x : Marks) : State :=
  { s with cmp := { s.cmp with port := tblPut {} s.cmp.port p x } }

/-- Who sent a frame: the seat that SOURCE names; before admission a BEACON names its device by DEVICE_ID (log entry 35). -/
def State.ringSender (s : State) (op src : Nat) (payload : List Byte) : Nat :=
  if src = 0x3FF ∧ op = 1 then ((s.rosterSeat (leAt payload 0 8)).map (fun k => k)).getD 0x3FF else src

/-- Receives a frame on port `p` (R475): own frames, repeats and spent frames are discarded; a frame for this seat or for
all is acted on; a frame not for this seat alone goes on with HOPS one greater, its payload as `next`. -/
def State.ringRx (s : State) (p op src dest seq hops : Nat) (payload next : List Byte) (act : State → State) : State :=
  if !(s.portTrained p) then s else
  let who := s.ringSender op src payload
  let seen := tblGet [] s.cmp.seen who
  if s.sole ∨ who = s.seat ∨ seen.contains seq ∨ s.cmp.seats ≤ hops then s else
  let s := { s with cmp := { s.cmp with seen := tblPut [] s.cmp.seen who ((seq :: seen).take 64) } }
  let s := if dest = s.seat ∨ dest = 0xFFFF then act s else s
  if dest = s.seat then s else s.ringOut (1 - p) op src dest seq (hops + 1) next

/-- The device is joined (R478). -/
def State.joined (s : State) : State :=
  if s.flag F.CMP_STATUS_JOINED then s else
  let s : State := { s with cmp := { s.cmp with joinedAt := some s.now } }
  (s.put F.CMP_STATUS_JOINED 1).raise Ev.CMP_JOINED

/-! ### House time -/

/-- The mean of a port's estimates against this device's own picoseconds. -/
def Marks.mean (m : Marks) : Int :=
  if m.offs.isEmpty then 0 else (m.offs.foldl (· + ·) 0) / (m.offs.length : Int)

/-- A port delivers marks: the last arrived within 10 ms. -/
def State.delivers (s : State) (p : Nat) : Bool :=
  match (s.marks p).lastAt with | none => false | some a => decide (s.now < a + 10000000000)

/-- The port whose marks are used: fewer HOPS, C_0 on a tie (R482). -/
def State.bestPort (s : State) : Nat :=
  if s.delivers 1 ∧ (!(s.delivers 0) ∨ (s.marks 1).hops < (s.marks 0).hops) then 1 else 0

/-- e_sync in ns for the HOPS of the marks in use (R484), rounded up; the keeper's own bound is 0. -/
def State.eSync (s : State) : Nat :=
  if s.cmp.keeper then 0 else 25 + (7 * (s.marks s.bestPort).hops + 1) / 2

/-- e_sync or the holdover bound e, in ns; all ones while house time is unset (R487, R503). -/
def State.timeBound (s : State) : Nat :=
  if !s.house.set then 0xFFFFFFFF else
  match s.cmp.holdoverAt with
  | some a =>
    let lost := match s.clk.refLostAt with | some b => (s.now - b) / 100000 | none => 0
    min 0xFFFFFFFF (s.cmp.holdE + lost + s.get F.CMP_TIME_CFG_HOLD_PPB * (s.now - a) / 10 ^ 12)
  | none => min 0xFFFFFFFF (s.eSync + (s.house.slewLeft s.now).natAbs / 1000)

/-- TOL in ns; below 100 acts as 100. -/
def State.tol (s : State) : Nat := max 100 (s.get F.CMP_TIME_CFG_TOL)

/-- Rebases the house clock at now, with a new slew. -/
def State.houseSlew (s : State) (off : Int) : State :=
  { s with house := { s.house with base := s.house.at s.now, baseAt := s.now, slew := off } }

/-- Steps the house clock to a value in ps. -/
def State.houseStep (s : State) (v : Nat) : State :=
  let s := { s with house := { s.house with base := v, baseAt := s.now, slew := 0, set := true } }
  s.put F.CMP_STATUS_TIME_SET 1

/-- From now on house time runs at its own rate, off by a value that the spec does not state but that the bound of R487 or R639
holds: at most `ppb` (log entry 124). -/
def State.houseDrift (s : State) (ppb : Nat) : State :=
  let (k, s) := s.takeFree (2 * ppb + 1)
  { s with house := { s.house with
    base := s.house.at s.now, baseAt := s.now, slew := s.house.slewLeft s.now, rate := (k : Int) - ppb } }

/-- Entry to holdover (R486, R487): once, with its cause and the bound at entry. -/
def State.enterHoldover (s : State) (cause : Nat) : State :=
  if s.cmp.holdoverAt.isSome then s else
  let e := if s.house.set then s.eSync else 0
  let s := { s with cmp := { s.cmp with holdoverAt := some s.now, holdE := e, returnRun := 0, holdLimitRaised := false } }
  let s := (s.put F.CMP_STATUS_HOLDOVER 1).put F.CMP_STATUS_HOLD_CAUSE cause
  (s.houseDrift (s.get F.CMP_TIME_CFG_HOLD_PPB)).raise Ev.CMP_HOLDOVER

/-- Holdover ends: slew by a remaining offset of at most 1 ms, step by a larger one (R488); house time not yet set takes the
marks' (R484). -/
def State.endHoldover (s : State) (off : Int) : State :=
  let s := { s with cmp := { s.cmp with holdoverAt := none, holdE := 0, returnRun := 0 } }
  let s := (s.put F.CMP_STATUS_HOLDOVER 0).put F.CMP_STATUS_HOLD_CAUSE 0
  let s : State := { s with house := { s.house with base := s.house.at s.now, baseAt := s.now, rate := 0 } }
  let s := if !s.house.set then s.houseStep (((s.house.at s.now : Int) + off).toNat)
    else if off.natAbs ≤ 1000000000 then (s.houseSlew off).put F.CMP_STATUS_SLEWING 1
    else (s.houseStep (((s.house.at s.now : Int) + off).toNat)).raise Ev.CMP_TIME_STEP
  s.raise Ev.CMP_HOLDOVER_END

/-- House time is usable (R484): 64 consecutive marks with UNSET 0, and no holdover; the keeper's is usable when set. -/
def State.timeUsable (s : State) : Bool :=
  s.house.set ∧ s.cmp.holdoverAt.isNone ∧ (s.cmp.keeper ∨ 64 ≤ (s.marks 0).setRun ∨ 64 ≤ (s.marks 1).setRun)

/-- House time is settled for phase JOIN (R478). -/
def State.timeSettled (s : State) : Bool :=
  s.timeUsable ∨ s.cmp.keeper ∨ 64 ≤ (s.marks 0).unsetRun ∨ 64 ≤ (s.marks 1).unsetRun

/-- One TIME mark acted on (R482 to R488): the estimate of a mark with UNSET 0 enters the port's last 64; STEPPED steps at once; 64 usable
agreeing marks set house time or end holdover; otherwise house time is steered to the mean. -/
def State.timeMark (s : State) (p hops origin corr : Nat) (unset stepped : Bool) : State :=
  if s.cmp.keeper then s else
  let m := s.marks p
  let delay := m.delays.foldl (· + ·) 0 / max 1 m.delays.length
  let est : Int := (origin * 1000 + corr * 1000 / 65536 + delay * 625 : Nat)
  let m := if unset then m else { m with offs := ((est - s.now) :: m.offs).take 64, lastAt := some s.now }
  let m := { m with
    hops
    setRun := if unset then 0 else min 64 (m.setRun + 1), unsetRun := if unset then min 64 (m.unsetRun + 1) else 0 }
  let s := s.setMarks p m
  let s := s.put (if p = 0 then F.CMP_HOPS_HOPS_0 else F.CMP_HOPS_HOPS_1) hops
  if unset then { s with cmp := { s.cmp with returnRun := 0 } }
  else if stepped then
    if s.house.set ∧ s.cmp.steppedUntil > s.now then s
    else
      let s := { s with cmp := { s.cmp with steppedUntil := s.now + 10 ^ 12 } }
      (s.houseStep est.toNat).raise Ev.CMP_TIME_STEP
  else
    let b := s.bestPort
    let off : Int := (s.marks b).mean + s.now - s.house.at s.now
    let both := s.delivers 0 ∧ s.delivers 1
    let agree := !both ∨ ((s.marks 0).mean - (s.marks 1).mean).natAbs ≤ s.tol * 1000
    if s.cmp.holdoverAt.isSome then
      let run := if agree then s.cmp.returnRun + 1 else 0
      let s := { s with cmp := { s.cmp with returnRun := run } }
      if 64 ≤ run ∧ s.clk.refLostAt.isNone then s.endHoldover off else s
    else if !s.house.set then
      if m.setRun = 64 then s.houseStep (((s.marks b).mean + s.now).toNat) else s
    else
      let slews : Bool := s.flag F.CMP_STATUS_SLEWING && s.house.slewLeft s.now ≠ 0
      (s.houseSlew off).put F.CMP_STATUS_SLEWING (bit slews)

/-- The cause on which a device enters holdover now, if any (R486, causes 1 to 3). -/
def State.holdoverCause (s : State) : Option Nat :=
  if s.cmp.keeper ∨ !s.house.set then none
  else if !(s.delivers 0) ∧ !(s.delivers 1) then some 1
  else if s.delivers 0 ∧ s.delivers 1 ∧ ((s.marks 0).mean - (s.marks 1).mean).natAbs > s.tol * 1000 then some 2
  else if ((s.marks s.bestPort).mean + s.now - s.house.at s.now).natAbs > s.tol * 1000 ∧ s.cmp.steppedUntil ≤ s.now
  then some 3 else none

/-! ### Leases -/

/-- The largest count up to `c` of quanta from `n` that fits the series (R462, R493). -/
def SeriesDef.fits (d : SeriesDef) (n c : Nat) : Nat :=
  let first := d.start + n * d.q
  if d.q = 0 ∨ d.last < first then 0 else min c ((d.last + 1 - first) / d.q)

/-- DIGEST_TAG of a series (R463). -/
def SeriesDef.tag (d : SeriesDef) : Nat := leAt d.digest 0 4

/-- START of a lease as a value (R462). -/
def State.leaseStart (s : State) (l : Lease) : Nat := (s.sdef l.series).start + l.quantum * (s.sdef l.series).q

/-- The lease's length in values. -/
def State.leaseLen (s : State) (l : Lease) : Nat := l.quanta * (s.sdef l.series).q

/-- The 64 bytes of a lease record (R490). -/
def State.leaseBytes (s : State) (l : Lease) : List Byte :=
  let v := leBytes 1 l.series ++ leBytes 1 l.state ++ leBytes 2 l.holder ++ leBytes 4 l.quantum ++ leBytes 2 l.quanta ++
    leBytes 2 0 ++ leBytes 4 l.epoch ++ leBytes 4 l.txn ++ leBytes 4 l.tag ++ leBytes 8 (s.leaseStart l)
  v ++ v.map (fun b => ~~~b)

/-- The journal entry of a lease. -/
def Lease.entry (l : Lease) : Entry := .lease l.series l.partner l.state l.quantum l.quanta l.holder l.tag

/-- Two lease records name one lease. -/
def Lease.same (a b : Lease) : Bool := a.series = b.series ∧ a.quantum = b.quantum ∧ a.partner = b.partner

/-- Own HELD leases of a series, the current one first. -/
def State.heldLeases (s : State) (i : Nat) : List Lease :=
  s.leases.filter (fun l => l.series = i ∧ !l.partner ∧ l.state = 2)

/-- A request of this device is outstanding for a series. -/
def State.leaseWait (s : State) (i : Nat) : Option LeaseWait := tblGet none s.cmp.waits i

/-- Shows the lease registers of a series (R500); an exchange is outstanding from the request to its end. -/
def State.leaseShow (s : State) (i : Nat) : State :=
  let held := s.heldLeases i
  let cur := held.head?
  let s := s.put (F.LDG_SERIES_LEASE i) ((cur.map Lease.quantum).getD 0)
  let s := s.put (F.LDG_SERIES_INFO_CURRENT i) (bit cur.isSome)
  let s := s.put (F.LDG_SERIES_INFO_NEXT i) (bit (1 < held.length))
  let s := s.put (F.LDG_SERIES_INFO_PARTNER i) (bit (s.leases.any (fun l => l.series = i ∧ l.partner ∧ l.state = 2)))
  let prep := s.leases.any (fun l => l.series = i ∧ !l.partner ∧ l.state = 1)
  let s := s.put (F.LDG_SERIES_INFO_PREPARED i) (bit (prep || (s.leaseWait i).isSome))
  s.put (F.LDG_SERIES_INFO_QUANTA i) ((cur.map Lease.quanta).getD 0)

/-- Puts a lease among those held, in place of an earlier record of it. -/
def State.putLease (s : State) (l : Lease) : State :=
  let s : State := if s.leases.any (fun x => x.same l) then
      { s with leases := s.leases.map (fun x => if x.same l then { l with free := max x.free l.free } else x) }
    else { s with leases := s.leases ++ [l] }
  s.leaseShow l.series

/-- Not cast for a series (R497). -/
def State.notCast (s : State) (i : Nat) : Bool := (s.get (F.CMP_NOT_CAST (i / 32))).testBit (i % 32)

/-- Joined and cast for a series. -/
def State.castFor (s : State) (i : Nat) : Bool := s.flag F.CMP_STATUS_JOINED ∧ !(s.notCast i)

/-- Values left in the own HELD leases of a series, above the accessions taken. -/
def State.leaseLeft (s : State) (i : Nat) : Nat :=
  match s.heldLeases i with
  | l :: _ => s.leaseLen l - l.free
  | [] => 0

def State.setLeaseWait (s : State) (i : Nat) (w : Option LeaseWait) : State :=
  ({ s with cmp := { s.cmp with waits := tblPut none s.cmp.waits i w } } : State).leaseShow i

/-- The keeper's answer to a request (R493): a proposal, whose CATALOGUE entry is journaled first, or REFUSE. For its own request `r` is its own seat, and a REFUSE
acts at once (`refused`). -/
def State.keeperPropose (s : State) (i c txn r : Nat) (refused : State → Nat → State) : State :=
  let refuse (s : State) (why : Nat) : State :=
    if r = s.seat then refused s why
    else s.ringSend 0x0B r (leBytes 4 txn ++ leBytes 1 i ++ leBytes 1 why ++ leBytes 2 0)
  if !(s.flag F.CMP_STATUS_QUORUM) then refuse s 1 else
  let n := s.catTop i
  let d := s.sdef i
  let c := d.fits n c
  if c = 0 then refuse s 2 else
  let l : Lease := { series := i, state := 1, holder := r, quantum := n, quanta := c, epoch := s.promised, txn, tag := d.tag }
  let own := if r = s.seat then 2 else 1
  let p : Proposal := { lease := l, next := n + c, own, at_ := s.now }
  let s := s.ldgRequest (.catalogue i (n + c) s.promised d.tag) (.propose txn r)
  { s with cmp := { s.cmp with proposals := s.cmp.proposals ++ [p] } }

/-- A REFUSE of this device's own request, or its timer (R493, R496): a PREPARED lease is abandoned; the reason stands for
the items that find no serial. Reason 4 and a timer leave the request to be retried. -/
def State.leaseRefused (s : State) (i why : Nat) : State :=
  let s := s.setLeaseWait i none
  let prep := s.leases.filter (fun l => l.series = i ∧ !l.partner ∧ l.state = 1)
  let s := prep.foldl (fun s l =>
    ((s.putLease { l with state := 4 }).ldgRequest { l with state := 4 }.entry).raise Ev.LDG_LEASE_ABANDONED) s
  let no := if why = 1 ∨ why = 2 then why else if why = 3 then 5 else 0
  let s := if no ≠ 0 ∧ (s.heldLeases i).length ≤ 1 then s.setSrun i { s.srun i with noLease := no } else s
  let s := if why = 2 then s.raise Ev.CMP_SERIES_EXHAUSTED else s
  s.raise Ev.CMP_LEASE_REFUSED

/-- Sends a request for a series, or runs the exchange inside the device when it is the keeper (R477, R493). -/
def State.leaseAsk (s : State) (i : Nat) : State :=
  let txn := (s.cmp.txn + 1) % 2 ^ 32
  let s := { s with cmp := { s.cmp with txn } }
  let s := s.setLeaseWait i (some ⟨txn, s.now⟩)
  let c := (s.sdef i).quanta
  if s.cmp.keeper then s.keeperPropose i c txn s.seat (fun s why => s.leaseRefused i why)
  else s.ringSend 0x07 (s.get F.CMP_KEEPER_KEEPER) (leBytes 1 i ++ leBytes 1 0 ++ leBytes 2 c ++ leBytes 4 txn)

/-- Requests a lease of a series when the conditions of R492 hold. `drawn`: an installed layout draws serials. A series
refused as exhausted is not asked for again (DEDUCED; log 38). -/
def State.leaseCheck (s : State) (i : Nat) (drawn : Bool) : State :=
  let held := s.heldLeases i
  let prep := s.leases.any (fun l => l.series = i ∧ !l.partner ∧ l.state = 1)
  let low := held.isEmpty ∨ (held.length = 1 ∧ s.leaseLeft i < (s.sdef i).low)
  if drawn ∧ (s.sdef i).defined ∧ s.castFor i ∧ (s.srun i).noLease ≠ 2 ∧ s.flag F.CMP_STATUS_QUORUM ∧ !prep ∧ low ∧ (s.leaseWait i).isNone ∧
      !(s.flag F.DPX_STATUS_ISOLATED ∧ s.role = 1)
  then s.leaseAsk i else s

/-- GRANT: the keeper sends it, or takes it itself as the requester (R493). -/
def State.grant (s : State) (l : Lease) : State :=
  let h := { l with state := 2 }
  if l.holder = s.seat then (s.setLeaseWait l.series none).ldgRequest h.entry (.held h)
  else s.ringSend 0x0A l.holder (s.leaseBytes h)

/-- A proposal is granted when accepts from quorum seats, the keeper's own among them, have come within LT (R493). -/
def State.proposalCheck (s : State) (txn holder : Nat) : State :=
  match s.cmp.proposals.find? (fun p => p.lease.txn = txn ∧ p.lease.holder = holder) with
  | none => s
  | some p =>
    if p.own = 0 ∧ s.quorumSize ≤ p.accepts.length + 1 then
      let s := { s with cmp := { s.cmp with
        proposals := s.cmp.proposals.filter (fun q => !(q.lease.txn = txn ∧ q.lease.holder = holder)) } }
      if s.flag F.CMP_STATUS_QUORUM then s.grant p.lease
      else if holder = s.seat then s.leaseRefused p.lease.series 1
      else s.ringSend 0x0B holder (leBytes 4 txn ++ leBytes 1 p.lease.series ++ leBytes 1 1 ++ leBytes 2 0)
    else s

/-- An ACCEPT of seat `src`, or an own entry of the keeper's own part taking effect. -/
def State.proposalCount (s : State) (txn holder : Nat) (src : Option Nat) : State :=
  let s := { s with cmp := { s.cmp with proposals := s.cmp.proposals.map (fun (p : Proposal) =>
    if p.lease.txn = txn ∧ p.lease.holder = holder then
      match src with
      | some x => if p.accepts.contains x then p else { p with accepts := p.accepts ++ [x] }
      | none => { p with own := p.own - 1 }
    else p) } }
  s.proposalCheck txn holder

/-- An own journal entry of a proposal has taken effect (R31, R493): after CATALOGUE, PROPOSE leaves and the keeper's own lease is
journaled PREPARED; each counts for the keeper's own ACCEPT. -/
def State.proposed (s : State) (txn holder : Nat) : State :=
  match s.cmp.proposals.find? (fun p => p.lease.txn = txn ∧ p.lease.holder = holder ∧ !p.sent) with
  | none => s.proposalCount txn holder none
  | some p =>
    let s : State := { s with cmp := { s.cmp with proposals := s.cmp.proposals.map (fun (q : Proposal) =>
      if q = p then { q with sent := true, at_ := s.now } else q) } }
    let l := p.lease
    let s := s.ringSend 0x08 0xFFFF (leBytes 4 l.epoch ++ leBytes 1 l.series ++ leBytes 3 0 ++ leBytes 4 p.next ++
      leBytes 4 0 ++ s.leaseBytes l)
    let s := if holder = s.seat then (s.putLease l).ldgRequest l.entry (.propose txn holder) else s
    s.proposalCount txn holder none

/-- A member's part of PROPOSE (R493): stale epochs are ignored; the entries are journaled, and ACCEPT follows the last. -/
def State.memberPropose (s : State) (src e i nx : Nat) (l : Lease) : State :=
  if e < s.promised then s else
  let s := if s.promised < e then (s.put F.CMP_EPOCH e).ldgRequest (.epoch e src) else s
  let acc : Purpose := .accept e i nx l.txn
  let cat : Entry := .catalogue i (max nx (s.catTop i)) e (s.sdef i).tag
  if l.holder = s.seat then
    let l := { l with state := 1, partner := false }
    ((s.ldgRequest cat).putLease l).ldgRequest l.entry acc
  else s.ldgRequest cat acc

/-! ### Cast list and elections -/

/-- The seats whose BEACON arrived within the last 5 ms. -/
def State.heard (s : State) : List Nat :=
  s.cmp.beacons.filterMap (fun b => if s.now < b.2.at_ + 5000000000 then some b.1 else none)

/-- The keeper is lost: no CAST for 10 ms (R480). -/
def State.keeperLost (s : State) : Bool :=
  !s.cmp.keeper && (match s.cmp.castAt with | none => true | some a => decide (a + 10000000000 ≤ s.now))

/-- The priority of a seat in the roster. -/
def State.priority (s : State) (x : Nat) : Nat := (s.cmp.roster.getD x (0, 0)).2

/-- The best candidate: highest PRIORITY of at least 1, the lowest seat on a tie (R480). -/
def State.candidate (s : State) : Option Nat :=
  let c := (s.seat :: s.heard).filter (fun x => 1 ≤ s.priority x ∧ x < s.cmp.seats)
  c.foldl (fun b x => match b with
    | none => some x
    | some y => if s.priority y < s.priority x ∨ (s.priority y = s.priority x ∧ x < y) then some x else b) none

/-- The vote this device shows in its BEACON (R480). -/
def State.vote (s : State) : Nat :=
  if s.keeperLost then s.candidate.getD 0xFFFF
  else if s.cmp.keeper then s.seat else s.get F.CMP_KEEPER_KEEPER

/-- The greatest NEXT this device can answer for a series: its CATALOGUE NEXT and the end of every journaled lease
(R480). -/
def State.reportNext (s : State) (i : Nat) : Nat :=
  s.ldg.live.foldl (fun m e => match e with
    | .lease j _ _ q c _ _ => if j = i then max m (q + c) else m
    | _ => m) (s.catNext i)

/-- A journaled lease ends above the catalogue's NEXT (R497). -/
def State.nextConflict (s : State) : Bool := (List.range 256).any (fun i => s.catNext i < s.reportNext i)

/-- The candidate has the votes of quorum seats: it sends RECALL with a new epoch and counts itself (R480). -/
def State.electionCheck (s : State) : State :=
  if !s.keeperLost ∨ s.cmp.election.isSome ∨ s.candidate ≠ some s.seat then s else
  let votes := (s.heard.filter (fun x => x ≠ s.seat ∧ (tblGet {} s.cmp.beacons x).vote = s.seat)).length + 1
  if votes < s.quorumSize then s else
  let top := s.cmp.beacons.foldl (fun m b => max m b.2.promised) s.promised
  let e := top + 1
  let nexts := (List.range 256).foldl (fun t i => tblPut 0 t i (s.reportNext i)) ([] : Tbl Nat)
  let s := if s.nextConflict then s.raise Ev.CMP_STATE_CONFLICT else s
  let s := { s with cmp := { s.cmp with election := some e, electNext := nexts, replyParts := [] } }
  s.ringSend 0x0C 0xFFFF (leBytes 4 e ++ leBytes 4 0)

/-- Replies from quorum seats are in, itself included: the candidate journals its epoch and catalogue (R480). -/
def State.electionCount (s : State) : State :=
  match s.cmp.election with
  | none => s
  | some e =>
    let full := (s.cmp.replyParts.filter (fun x => x.2 = 15)).length + 1
    if full < s.quorumSize then s else
    let s := { s with cmp := { s.cmp with election := none } }
    let defs := (List.range 256).filter (fun i => (s.sdef i).defined)
    let s := defs.foldl (fun s i => s.ldgRequest (.catalogue i (tblGet 0 s.cmp.electNext i) e (s.sdef i).tag)) s
    s.ldgRequest (.epoch e s.seat) (.elected e)

/-- One part of a RECALL_REPLY (R480): 64 series from 64 × PART. -/
def State.electionReply (s : State) (src e part : Nat) (nexts : List Nat) : State :=
  if s.cmp.election ≠ some e then s else
  let t := (List.range nexts.length).foldl (fun t j =>
    tblPut 0 t (64 * part + j) (max (tblGet 0 t (64 * part + j)) (nexts.getD j 0))) s.cmp.electNext
  let m := tblGet 0 s.cmp.replyParts src ||| 2 ^ part
  let s := { s with cmp := { s.cmp with electNext := t, replyParts := tblPut 0 s.cmp.replyParts src m } }
  s.electionCount

/-- The replies to a RECALL: four parts of 64 series (R476, R480). -/
def State.recallReply (s : State) (e candidate : Nat) : State :=
  let s := if s.nextConflict then s.raise Ev.CMP_STATE_CONFLICT else s
  [0, 1, 2, 3].foldl (fun s p =>
    s.ringSend 0x0D candidate (leBytes 4 e ++ leBytes 1 p ++ leBytes 3 0 ++
      (List.range 64).flatMap (fun j => leBytes 4 (s.reportNext (64 * p + j))))) s

/-- The present seats as the keeper knows them: itself and the admitted seats it hears. -/
def State.presentSeats (s : State) : List Nat :=
  s.seat :: (s.heard.filter (fun x => x ≠ s.seat ∧ (tblGet {} s.cmp.beacons x).admitted))

/-- A bitmap of seats as a number. -/
def seatMap (l : List Nat) : Nat := l.foldl (fun m x => m ||| 2 ^ x) 0

/-- The keeper's CAST (R476), and its own cast list. -/
def State.castSend (s : State) : State :=
  let p := s.presentSeats
  let s := (List.range 16).foldl (fun s w => s.put (F.CMP_CAST w) (seatMap p / 2 ^ (32 * w) % 2 ^ 32)) s
  let s := (s.put F.CMP_KEEPER_PRESENT p.length).joined
  s.ringSend 0x02 0xFFFF (leBytes 4 s.promised ++ leBytes 2 s.seat ++ leBytes 2 s.cmp.seats ++ leBytes 64 (seatMap p))

/-- This device becomes keeper (R480): its epoch is journaled; it sends CAST. -/
def State.becomeKeeper (s : State) (e : Nat) : State :=
  let s := { s with cmp := { s.cmp with keeper := true, election := none, castAt := some s.now } }
  let s := ((s.put F.CMP_EPOCH e).put F.CMP_STATUS_KEEPER 1).put F.CMP_KEEPER_KEEPER s.seat
  (s.castSend).raise Ev.CMP_KEEPER_CHANGED

/-- Every proposal that the keeper has out ends with REFUSE reason 1 (R498). -/
def State.proposalsRefuse (s : State) : State :=
  let l := s.cmp.proposals
  let s : State := { s with cmp := { s.cmp with proposals := [] } }
  l.foldl (fun s p =>
    if p.lease.holder = s.seat then s.leaseRefused p.lease.series 1
    else s.ringSend 0x0B p.lease.holder (leBytes 4 p.lease.txn ++ leBytes 1 p.lease.series ++ leBytes 1 1 ++ leBytes 2 0)) s

/-- Quorum lost or regained (R497); a keeper that loses it grants nothing of what it has proposed (R498). -/
def State.setQuorum (s : State) (q : Bool) : State :=
  if s.flag F.CMP_STATUS_QUORUM = q then s else
  let s := (s.put F.CMP_STATUS_QUORUM (bit q)).raise (if q then Ev.CMP_QUORUM_REGAINED else Ev.CMP_QUORUM_LOST)
  if q then s else s.proposalsRefuse

/-- The keeper counts the seats it hears within 5 ms; another device counts its last qualifying CAST (R479). -/
def State.hasQuorum (s : State) : Bool :=
  if s.sole then true
  else if s.cmp.keeper then s.quorumSize ≤ (s.heard.filter (· ≠ s.seat)).length + 1
  else match s.cmp.quorumAt with | none => false | some a => decide (s.now < a + 5000000000)

end Sys2Proof.Machine
end

