-- ==== Sys2Proof/Machine/VarData.lean ====
section
/-! DEFINITION. Variable data: radix-vector arithmetic, calendars, check characters, GS1 strings, symbols and the fields of
an item (R257 to R309). -/

namespace Sys2Proof.Machine

/-! ### Words and vectors -/

/-- The product of the radices of some digits. -/
def capacity (v : List VDigit) : Nat := v.foldl (fun m d => m * d.radix) 1

/-- A number in the radices of a vector, digit 0 first (R262). -/
def toDigits : List VDigit → Nat → List Nat
  | [], _ => []
  | d :: v, n => n % max 1 d.radix :: toDigits v (n / max 1 d.radix)

/-- The value of a row of digits (R262). -/
def digitsVal : List VDigit → List Nat → Nat
  | d :: v, x :: xs => x + d.radix * digitsVal v xs
  | _, _ => 0

/-- A radix-vector word: digit i in bits [6i+5:6i] (R261). -/
def wordOf (ds : List Nat) : Nat := ds.foldr (fun d w => d % 64 + 64 * w) 0

/-- The 24 digits of a word. -/
def wordDigits (w : Nat) : List Nat := (List.range 24).map (fun i => bits w (6 * i + 5) (6 * i))

/-- A word is valid for a vector (R261). -/
def wordOk (v : List VDigit) (w : Nat) : Bool :=
  (List.range 24).all (fun i => match v[i]? with
    | some d => bits w (6 * i + 5) (6 * i) < d.radix
    | none => bits w (6 * i + 5) (6 * i) = 0)

/-- The statuses that arose in one addition (R263). -/
structure AddStatus where
  overflow : Bool := false
  saturated : Bool := false
  wrapped : Bool := false
  deriving DecidableEq, Repr

/-- Addition digit by digit with the carry rules (R263): the digits below are given lowest last, so that SATURATE can set
them. -/
def addDigits : List VDigit → List Nat → List Nat → Nat → AddStatus → List Nat → List VDigit → List Nat × AddStatus
  | [], _, _, c, st, below, _ => (below.reverse, { st with overflow := st.overflow || decide (c ≠ 0) })
  | d :: v, xs, bs, c, st, below, vb =>
    let t := xs.headD 0 + bs.headD 0 + c
    if d.carry = 1 ∧ d.radix ≤ t then
      ((vb.map (fun e => e.radix - 1)).reverse ++ (d.radix - 1) :: xs.tail, { st with saturated := true })
    else
      let r := max 1 d.radix
      let c' := if d.carry = 0 then t / r else 0
      let w : Bool := d.carry = 2 ∧ d.radix ≤ t
      addDigits v xs.tail bs.tail c' { st with wrapped := st.wrapped || w } (t % r :: below) (d :: vb)

/-- A word plus an integer (R263): an addend of at least the capacity does not run and overflows. -/
def vecAdd (v : List VDigit) (xs : List Nat) (b : Nat) : List Nat × AddStatus :=
  if capacity v ≤ b then (xs, { overflow := true })
  else addDigits v (xs.take v.length) (toDigits v b) 0 {} [] []

/-- The order of two words, from the highest digit downward (R264). -/
def cmpDigits (xs ys : List Nat) : Nat :=
  match (xs.zip ys).reverse.find? (fun p => p.1 ≠ p.2) with
  | none => 0
  | some p => if p.1 < p.2 then 1 else 2

def State.vec (s : State) (i : Nat) : List VDigit := tblGet [] s.vd.vecs i
def State.alph (s : State) (i : Nat) : List (Nat × Nat) := tblGet [] s.vd.alphs i

/-- A word prints its digits from the highest (R262). -/
def State.printDigits (s : State) (v : List VDigit) (ds : List Nat) : List Nat :=
  ((v.zip ds).map (fun p => ((s.alph p.1.alph).getD p.2 (0, 0)).1)).reverse

/-! ### The calendar -/

/-- Days from 0000-03-01 to 2000-01-01. -/
def epochDays : Nat := 730425

/-- Year, month and day of a day counted from 0000-03-01 in the Gregorian calendar. -/
def civil (z : Nat) : Nat × Nat × Nat :=
  let doe := z % 146097
  let yoe := (doe - doe / 1460 + doe / 36524 - doe / 146096) / 365
  let doy := doe - (365 * yoe + yoe / 4 - yoe / 100)
  let mp := (5 * doy + 2) / 153
  let m := if mp < 10 then mp + 3 else mp - 9
  (yoe + z / 146097 * 400 + (if m ≤ 2 then 1 else 0), m, doy - (153 * mp + 2) / 5 + 1)

/-- The day, counted from 0000-03-01, of 1 January of a year from 1 on. -/
def newYear (y : Nat) : Nat :=
  let p := y - 1
  p / 400 * 146097 + (365 * (p % 400) + p % 400 / 4 - p % 400 / 100) + 306

/-- ISO weekday of a day: 1 Monday to 7. -/
def isoWeekday (z : Nat) : Nat := (z + 2) % 7 + 1

/-- ISO week-based year and week of a day. -/
def isoWeek (z : Nat) : Nat × Nat :=
  let thursday := z + 4 - isoWeekday z
  let y := (civil thursday).1
  (y, (thursday - newYear y) / 7 + 1)

/-- The value of a calendar element (R282) for a date, a local minute of the day and a shift index. -/
def calElement (code date minute shift : Nat) : Nat :=
  match code with
  | 1 => (civil date).1
  | 2 => (civil date).2.1
  | 3 => (civil date).2.2
  | 4 => date - newYear (civil date).1 + 1
  | 5 => minute / 60
  | 6 => minute % 60
  | 7 => (isoWeek date).1
  | 8 => (isoWeek date).2
  | 9 => isoWeekday date
  | 10 => shift
  | _ => 0

/-- Writes each maximal run of digits of one element with the element's value (R282). -/
def calDigits (f : Nat → Nat) : Nat → Nat → List VDigit → List Nat
  | _, _, [] => []
  | prev, rem, d :: v =>
    let x := if d.cal = prev then rem else f d.cal
    x % max 1 d.radix :: calDigits f d.cal (x / max 1 d.radix) v

/-- OFFSET of a calendar in minutes, limited to ±1,440 (R308). -/
def calOffset (raw : Nat) : Int :=
  let o : Int := if raw < 2048 then raw else (raw : Int) - 4096
  max (-1440) (min 1440 o)

/-- The digits of a calendar at house time `ns` (R281). -/
def calendarDigits (v : List VDigit) (shifts : List Nat) (offset : Int) (prodDay : Bool) (ns : Nat) : List Nat :=
  let mins : Int := (ns / 60000000000 : Nat) + offset
  let day := (mins / 1440 + epochDays).toNat
  let minute := (mins % 1440).toNat
  let n := (shifts.filter (· ≤ minute)).length
  let shift := if n = 0 then shifts.length - 1 else n - 1
  let begun := if n = 0 ∧ shifts ≠ [] then day - 1 else day
  calDigits (fun c => calElement c (if prodDay ∧ 1 ≤ c ∧ c ≠ 5 ∧ c ≠ 6 ∧ c ≠ 10 then begun else day) minute shift) 0 0 v

/-- The characters of calendar `c` at house time `ns`, the calendar as it was before a write of this instant (R300). -/
def State.dateChars (s : State) (c ns : Nat) : List Nat :=
  let k : Calendar := tblGet {} s.vd.cals c
  let v := s.vec k.vector
  s.printDigits v (calendarDigits v k.shifts (calOffset (s.before (F.FRG_VD_CAL_OFFSET c)))
    (s.before (F.FRG_VD_CAL_PRODUCTION_DAY c) != 0) ns)

/-! ### Check characters -/

/-- A decimal digit character. -/
def isDigit (c : Nat) : Bool := decide (0x30 ≤ c) && decide (c ≤ 0x39)

/-- GS1 mod 10: the check digit of a digit string (R286). -/
def mod10 (l : List Nat) : Nat :=
  let sum := (l.reverse.zipIdx.map (fun p => (p.1 - 0x30) * (if p.2 % 2 = 0 then 3 else 1))).foldl (· + ·) 0
  (10 - sum % 10) % 10

/-- ISO/IEC 7064 MOD 11-2 over digits; 10 is X. -/
def mod112 (l : List Nat) : Nat := (12 - l.foldl (fun p c => (p + (c - 0x30)) * 2 % 11) 0) % 11

/-- The value of 0 to 9, A to Z. -/
def val36 (c : Nat) : Option Nat :=
  if isDigit c then some (c - 0x30) else if 0x41 ≤ c ∧ c ≤ 0x5A then some (c - 0x37) else none

/-- The character of a value 0 to 35. -/
def chr36 (v : Nat) : Nat := if v < 10 then 0x30 + v else 0x37 + v

/-- ISO/IEC 7064 MOD 37-36. -/
def mod3736 (l : List Nat) : Nat :=
  let p := l.foldl (fun p a => let q := (p + a) % 36; (if q = 0 then 36 else q) * 2 % 37) 36
  (37 - p) % 36

/-- The check character over a source, none when a character lies outside the method's set (R286, R287). -/
def State.checkChar (s : State) (d : FieldDesc) (src : List Nat) : Option Nat :=
  let p (i : Nat) : Nat := (d.param.getD i 0).toNat
  match p 0 with
  | 1 => if src.all isDigit then some (0x30 + mod10 src) else none
  | 2 => if src.all isDigit then some (if mod112 src = 10 then 0x58 else 0x30 + mod112 src) else none
  | 3 => if src.all (fun c => (val36 c).isSome) then some (chr36 (mod3736 (src.filterMap val36))) else none
  | _ =>
    let a := s.alph (p 1)
    let idx (c : Nat) : Option Nat := a.findIdx? (fun e => e.1 = c)
    if src.all (fun c => (idx c).isSome) ∧ d.ext ≠ [] then
      let m := max 1 (p 2)
      let sum := ((src.reverse.filterMap idx).zipIdx.map
        (fun e => (d.ext.getD (e.2 % d.ext.length) 0).toNat * e.1)).foldl (· + ·) 0
      let c := if (p 3).testBit 0 then (m - sum % m) % m else sum % m
      some (a.getD c (0, 0)).1
    else none

/-! ### GS1 element strings -/

/-- The value of one element with its check digit, none when it breaks its declaration (R288, R289). -/
def gs1Value (e : List Byte) (v : List Nat) : Option (List Nat) :=
  let fl := leAt e 6 1
  let len := leAt e 5 1
  let app := fl.testBit 2
  if (app ∨ fl.testBit 1) ∧ !(v.all isDigit) then none else
  let w := if app then v ++ [0x30 + mod10 v] else v
  if fl.testBit 0 then (if w.length = len then some w else none)
  else if v = [] ∨ len < w.length then none else some w

/-- The application identifier of an element. -/
def gs1Ai (e : List Byte) : List Nat := ((e.take 4).map BitVec.toNat).filter (· ≠ 0)

/-- Joins elements, the last without a separator (R288). -/
def gs1Join (hri : Bool) : List (List Nat × List Nat × Bool) → List Nat
  | [] => []
  | [(a, v, _)] => if hri then 0x28 :: a ++ 0x29 :: v else a ++ v
  | (a, v, fixed) :: r =>
    (if hri then 0x28 :: a ++ 0x29 :: v else a ++ v ++ (if fixed then [] else [0x1D])) ++ gs1Join hri r

/-- The element records of a GS1 field. -/
def gs1Records (ext : List Byte) : List (List Byte) :=
  (List.range (ext.length / 8)).map (fun i => (ext.drop (8 * i)).take 8)

/-- A GS1 field from its source values, none when an element breaks its declaration. -/
def gs1Field (d : FieldDesc) (src : Nat → List Nat) : Option (List Nat) :=
  let es := gs1Records d.ext
  let vs := es.map (fun e => (gs1Value e (src (leAt e 4 1))).map (fun v => (gs1Ai e, v, (leAt e 6 1).testBit 0)))
  if vs.all Option.isSome then some (gs1Join (d.sel.testBit 0) (vs.filterMap id)) else none

/-! ### Symbols -/

/-- How many characters from the front are digits. -/
def digitRun : List Nat → Nat
  | [] => 0
  | c :: l => if isDigit c then digitRun l + 1 else 0

/-- Code 128 symbol character values after the start, in set C or B (R294). -/
def code128Values : Nat → Bool → List Nat → List Nat
  | 0, _, _ => []
  | _, _, [] => []
  | n + 1, true, c :: l =>
    match l with
    | d :: r =>
      if isDigit c ∧ isDigit d then (10 * (c - 0x30) + (d - 0x30)) :: code128Values n true r
      else 100 :: code128Values n false (c :: l)
    | [] => 100 :: code128Values n false [c]
  | n + 1, false, c :: l =>
    let k := digitRun (c :: l)
    let enter := 6 ≤ k ∨ (4 ≤ k ∧ k = (c :: l).length)
    if enter ∧ k % 2 = 0 then 99 :: code128Values n true (c :: l)
    else (if c = 0x1D then 102 else c - 0x20) :: code128Values n false l

/-- The Code 128 symbol characters of a string, start and check included (R294). -/
def code128Chars (gs1 : Bool) (l : List Nat) : List Nat :=
  let k := digitRun l
  let c : Bool := 4 ≤ k ∨ (k = 2 ∧ l.length = 2)
  let vs := (if gs1 then [102] else []) ++ code128Values (2 * l.length + 2) c l
  let start := if c then 105 else 104
  let sum := start + (vs.zipIdx.map (fun p => p.1 * (p.2 + 1))).foldl (· + ·) 0
  start :: vs ++ [sum % 103]

/-- The modules of a Code 128 symbol: 11 per character and 13 for the stop. -/
def code128Bars (gs1 : Bool) (l : List Nat) : List Bool :=
  (code128Chars gs1 l).flatMap (fun v => (List.range 11).map (Config.code128 v)) ++ (List.range 13).map (Config.code128 106)

/-- The digits of an EAN-13 (12) or UPC-A (11) symbol with a correct check digit, none when the data does not fit (R295). -/
def eanDigits (n : Nat) (l : List Nat) : Option (List Nat) :=
  if !(l.all isDigit) then none
  else if l.length = n then some (l ++ [0x30 + mod10 l])
  else if l.length = n + 1 ∧ l.getLast? = some (0x30 + mod10 (l.take n)) then some l
  else none

/-- The least of a list by a measure, the first among equals. -/
def leastBy {α : Type} (f : α → Nat) : List α → Option α
  | [] => none
  | a :: l =>
    match leastBy f l with
    | none => some a
    | some b => some (if f a ≤ f b then a else b)

/-- Rows and columns of the Data Matrix sizes, from SIZE 2 on: 24 squares, then six rectangles (R292). -/
def dmSizes : List (Nat × Nat) :=
  ([10, 12, 14, 16, 18, 20, 22, 24, 26, 32, 36, 40, 44, 48, 52, 64, 72, 80, 88, 96, 104, 120, 132, 144].map (fun n => (n, n))) ++
    [(8, 18), (8, 32), (12, 26), (12, 36), (16, 36), (16, 48)]

/-- ASCII encodation: digit pairs, FNC1 as codeword 232, other characters one above their code (R292). -/
def dmCodewords (gs1 : Bool) : Nat → List Nat → List Nat
  | 0, _ => []
  | _, [] => []
  | n + 1, c :: l =>
    match l with
    | d :: r =>
      if isDigit c ∧ isDigit d then (130 + 10 * (c - 0x30) + (d - 0x30)) :: dmCodewords gs1 n r
      else (if gs1 ∧ c = 0x1D then 232 else c + 1) :: dmCodewords gs1 n l
    | [] => [if gs1 ∧ c = 0x1D then 232 else c + 1]

/-- The Data Matrix size that a SIZE parameter gives for a number of codewords (R290, R292). -/
def dmSize (size need : Nat) : Option Nat :=
  let fits (k : Nat) : Bool := decide (need ≤ Config.dmHolds k)
  let area (k : Nat) : Nat := let d := dmSizes.getD (k - 2) (0, 0); d.1 * d.2
  if size = 0 then ((List.range 24).map (· + 2)).find? fits
  else if size = 1 then leastBy area (((List.range 30).map (· + 2)).filter fits)
  else if size < 32 ∧ fits size then some size else none

/-- A Data Matrix symbol: columns and modules row by row (R292). -/
def dataMatrix (size : Nat) (gs1 : Bool) (l : List Nat) : Option (Nat × List Bool) :=
  let cw := (if gs1 then [232] else []) ++ dmCodewords gs1 l.length l
  (dmSize size cw.length).map (fun k =>
    let d := dmSizes.getD (k - 2) (0, 0)
    (d.2, (List.range (d.1 * d.2)).map (Config.dmModule k cw)))

/-- The first of the QR modes that holds every character: 0 numeric, 1 alphanumeric, 2 byte (R293). -/
def qrMode (l : List Nat) : Nat :=
  let alnum (c : Nat) : Bool := (val36 c).isSome || [0x20, 0x24, 0x25, 0x2A, 0x2B, 0x2D, 0x2E, 0x2F, 0x3A].contains c
  if l.all isDigit then 0 else if l.all alnum then 1 else 2

/-- A QR symbol, with 17 + 4 × version modules a side: the version and mask that SIZE and MASK give (R290, R293). -/
def qrSymbol (size level mask : Nat) (gs1 : Bool) (l : List Nat) : Option (Nat × List Bool) :=
  let mode := qrMode l
  let fits (v : Nat) : Bool := Config.qrHolds v level mode l.length gs1
  let version := if size = 0 then ((List.range 40).map (· + 1)).find? fits
    else if size ≤ 40 ∧ fits size then some size else none
  version.map (fun v =>
    let m := if mask < 8 then mask else (leastBy (fun m => Config.qrPenalty v level m mode gs1 l) (List.range 8)).getD 0
    (17 + 4 * v, (List.range ((17 + 4 * v) * (17 + 4 * v))).map (Config.qrModule v level m mode gs1 l)))

/-- A symbol: its columns and modules row by row, none where the encoding fails (R290 to R295). -/
def symbolOf (d : FieldDesc) (l : List Nat) : Option (Nat × List Bool) :=
  let p (i : Nat) : Nat := (d.param.getD i 0).toNat
  match p 0 with
  | 3 => if l = [] then none else let b := code128Bars ((p 4).testBit 0) l; some (b.length, b)
  | 4 => (eanDigits 12 l).map (fun ds => (95, (List.range 95).map (Config.eanBar ds)))
  | 5 => (eanDigits 11 l).map (fun ds => (95, (List.range 95).map (Config.eanBar ds)))
  | 1 => dataMatrix (p 1) ((p 4).testBit 0) l
  | 2 => qrSymbol (p 1) (p 2) (p 3) ((p 4).testBit 0) l
  | _ => none

/-! ### The fields of an item -/

/-- What the fields of one item or starvation print are formed from (R268 to R285). -/
structure FieldCtx where
  /-- the item's characters per field index -/
  vdata : List (List Nat) := []
  vdataBad : Bool := false
  /-- vector and value of the serial -/
  serial : Option (List VDigit × Nat) := none
  /-- read instant in ns -/
  instant : Nat := 0
  /-- house time is unset -/
  unset : Bool := false
  /-- holdover bound in ns, none outside holdover -/
  bound : Option Nat := none
  /-- words taken from counters -/
  counters : List (Nat × Nat) := []
  deriving DecidableEq, Repr

/-- Fields formed so far and the mark bits they bring: bit [15] field fault, [8] symbol fault, [12] date. -/
abbrev Formed := List FieldVal × Nat

/-- A character that a field value can hold (R257). -/
def fieldChar (c : Nat) : Bool := (decide (0x20 ≤ c) && decide (c ≤ 0x7E)) || decide (c = 0x1D)

/-- A field value of characters. -/
def charsVal (l : List Nat) : FieldVal :=
  { blank := false, chars := if l.length ≤ 1024 then l else ((Config.overlong l).filter fieldChar).take 1024 }

/-- The stamps of a layout that name field `i` with kind `k`. -/
def Layout.stampsOf (ly : Layout) (k i : Nat) : List Stamp :=
  ly.stamps.filter (fun x => x.kind = k ∧ leAt x.ext 0 1 = i)

/-- Forms one field from those before it (R269). -/
def State.formField (s : State) (ly : Layout) (cx : FieldCtx) (acc : Formed) (d : FieldDesc) : Formed :=
  let i := acc.1.length
  let src (j : Nat) : FieldVal := acc.1.getD j {}
  let add (v : FieldVal) (m : Nat) : Formed := (acc.1 ++ [v], acc.2 ||| m)
  match d.kind with
  | 1 => if cx.vdataBad then add {} 0 else add (charsVal (cx.vdata.getD i [])) 0
  | 2 => match cx.serial with
    | none => add {} 0
    | some (v, q) => add (charsVal (s.printDigits v (toDigits v q))) 0
  | 3 =>
    if cx.unset then add {} (2 ^ 12) else
    let c := s.dateChars d.sel cx.instant
    let unsure : Bool := match cx.bound with
      | none => false
      | some e => s.dateChars d.sel (cx.instant - e) ≠ s.dateChars d.sel (cx.instant + e)
    add (charsVal c) (if unsure then 2 ^ 12 else 0)
  | 4 =>
    let v := s.vec (s.get (F.FRG_VD_CNT_CFG_VECTOR d.sel))
    let w := ((cx.counters.find? (fun p => p.1 = d.sel)).map Prod.snd).getD 0
    add (charsVal (s.printDigits v (wordDigits w))) 0
  | 5 => add (charsVal (d.ext.map BitVec.toNat)) 0
  | 6 =>
    if (src d.src).blank then add {} 0 else
    match s.checkChar d (src d.src).chars with
    | some c => add (charsVal [c]) 0
    | none => add {} (2 ^ 15)
  | 7 =>
    let vs := d.ext.map (fun b => src b.toNat)
    if vs.any FieldVal.blank then add {} 0 else add (charsVal (vs.flatMap FieldVal.chars)) 0
  | 8 =>
    if (gs1Records d.ext).any (fun e => (src (leAt e 4 1)).blank) then add {} 0 else
    match gs1Field d (fun j => (src j).chars) with
    | some c => add (charsVal c) 0
    | none => add {} (2 ^ 15)
  | _ =>
    if (src d.src).blank then add {} 0 else
    match symbolOf d (src d.src).chars with
    | none => add {} (2 ^ 8)
    | some (c, m) =>
      let big := (ly.stampsOf 3 i).any (fun x => leAt x.ext 4 2 < c ∨ leAt x.ext 6 2 < m.length / max 1 c)
      add { blank := false, cols := c, mods := m } (if big then 2 ^ 8 else 0)

/-- The glyph codes of a field in its glyph alphabet (R259); 0x3F for a character it does not hold. -/
def State.glyphs (s : State) (d : FieldDesc) (v : FieldVal) : List Nat :=
  v.chars.map (fun c => (((s.alph d.glyph).find? (fun e => e.1 = c)).map Prod.snd).getD 0x3F)

/-- A glyph run of the layout breaks R259 on the field values given. -/
def State.glyphFault (s : State) (ly : Layout) (vs : List FieldVal) : Bool :=
  ly.stamps.any (fun x => x.kind = 2 ∧
    (let i := leAt x.ext 0 1
     let v := vs.getD i {}
     let a := s.alph ((ly.fields.getD i ⟨0, 0, 0, 0, 0, 0, [], []⟩).glyph)
     leAt x.ext 2 1 < v.chars.length ∨ v.chars.any (fun c => !(a.any (fun e => e.1 = c)))))

/-- All fields of an item in index order with the mark bits they bring (R259, R271). -/
def State.formFields (s : State) (ly : Layout) (cx : FieldCtx) : Formed :=
  let f := ly.fields.foldl (s.formField ly cx) ([], 0)
  (f.1, if s.glyphFault ly f.1 then f.2 ||| 2 ^ 15 else f.2)

/-- Field characters from VDATA bytes: `n` fields of a length byte and characters; none when they break R146. The rest is
answered too. -/
def splitFields : Nat → List Byte → Option (List (List Nat) × List Byte)
  | 0, l => some ([], l)
  | _ + 1, [] => none
  | n + 1, b :: l =>
    let k := b.toNat
    let cs := (l.take k).map BitVec.toNat
    if k ≤ 39 ∧ cs.length = k ∧ cs.all (fun c => decide (0x20 ≤ c) && decide (c ≤ 0x7E)) then
      (splitFields n (l.drop k)).map (fun r => (cs :: r.1, r.2))
    else none

/-! ### Counters -/

/-- The word of counter `k` that a step takes, made before a write of this instant (R300). -/
def State.cntWord (s : State) (k : Nat) : Nat :=
  s.before (F.FRG_VD_CNT_VAL_DIGITS k 0) + 2 ^ 48 * s.before (F.FRG_VD_CNT_VAL_DIGITS k 1) +
    2 ^ 96 * s.before (F.FRG_VD_CNT_VAL_DIGITS k 2)

/-- Stores a counter's word. -/
def State.setCntWord (s : State) (k w : Nat) : State :=
  ((s.put (F.FRG_VD_CNT_VAL_DIGITS k 0) w).put (F.FRG_VD_CNT_VAL_DIGITS k 1) (w / 2 ^ 48)).put
    (F.FRG_VD_CNT_VAL_DIGITS k 2) (w / 2 ^ 96)

/-- A counter's word after a step: what a write of this instant has set stands (R300). -/
def State.cntStepped (s : State) (k w : Nat) : State :=
  (List.range 3).foldl (fun s j =>
    let f := F.FRG_VD_CNT_VAL_DIGITS k j
    let x := w / 2 ^ (48 * j) % 2 ^ 48
    match tblGet none s.hits f.addr with
    | some h => { s with hits := tblPut none s.hits f.addr (some { h with old := x }) }
    | none => s.put f x) s

/-- A counter steps by STEP (R279). -/
def State.cntStep (s : State) (k : Nat) : State :=
  let v := s.vec (s.get (F.FRG_VD_CNT_CFG_VECTOR k))
  let (ds, st) := vecAdd v (wordDigits (s.cntWord k)) (s.get (F.FRG_VD_CNT_CFG_STEP k))
  let s := s.cntStepped k (wordOf ds)
  let s := if st.overflow ∨ st.wrapped then s.raise Ev.FRG_VD_WRAP else s
  if st.saturated then s.raise Ev.FRG_VD_SATURATE else s

/-- The counters that the COUNTER fields of a layout name, each once. -/
def Layout.counters (ly : Layout) : List Nat :=
  ((ly.fields.filter (fun d => d.kind = 4)).map FieldDesc.sel).eraseDups

/-! ### Host operations -/

/-- The words A and B of R305, and the binary operand. -/
def State.wordA (s : State) : Nat :=
  s.get (F.FRG_VD_WORDA_DIGITS 0) + 2 ^ 48 * s.get (F.FRG_VD_WORDA_DIGITS 1) + 2 ^ 96 * s.get (F.FRG_VD_WORDA_DIGITS 2)
def State.wordB (s : State) : Nat :=
  s.get (F.FRG_VD_WORDB_DIGITS 0) + 2 ^ 48 * s.get (F.FRG_VD_WORDB_DIGITS 1) + 2 ^ 96 * s.get (F.FRG_VD_WORDB_DIGITS 2)
def State.vdBin (s : State) : Nat := s.get (F.FRG_VD_BIN 0) + 2 ^ 64 * s.get (F.FRG_VD_BIN 1)

def State.setWordA (s : State) (w : Nat) : State :=
  ((s.put (F.FRG_VD_WORDA_DIGITS 0) w).put (F.FRG_VD_WORDA_DIGITS 1) (w / 2 ^ 48)).put (F.FRG_VD_WORDA_DIGITS 2) (w / 2 ^ 96)

/-- A write of FRG_VD_OP starts an operation, or finds one running (R267). -/
def State.vdStart (s : State) (op vector : Nat) : State :=
  if op = 0 ∨ 4 < op then s
  else if s.flag F.FRG_VD_RESULT_BUSY then s.put F.FRG_VD_RESULT_CODE 1
  else ({ s with vd := { s.vd with op := some (op, vector) } } : State).put F.FRG_VD_RESULT_BUSY 1

/-- The running operation completes with its result and code (R266, R304). -/
def State.vdDone (s : State) : State :=
  match s.vd.op with
  | none => s
  | some (op, k) =>
    let s := ({ s with vd := { s.vd with op := none } } : State).put F.FRG_VD_RESULT_BUSY 0
    let v := s.vec k
    let code (s : State) (c : Nat) : State := s.put F.FRG_VD_RESULT_CODE c
    if v = [] then code s 7
    else if op = 1 then
      if capacity v ≤ s.vdBin then code s 2 else code (s.setWordA (wordOf (toDigits v s.vdBin))) 0
    else if !(wordOk v s.wordA) ∨ (op = 4 ∧ !(wordOk v s.wordB)) then code s 3
    else if op = 2 then
      let n := digitsVal v (wordDigits s.wordA)
      code ((s.put (F.FRG_VD_BIN 0) n).put (F.FRG_VD_BIN 1) (n / 2 ^ 64)) 0
    else if op = 3 then
      let (ds, st) := vecAdd v (wordDigits s.wordA) s.vdBin
      code (s.setWordA (wordOf ds)) (if st.overflow then 4 else if st.saturated then 5 else if st.wrapped then 6 else 0)
    else code (s.put F.FRG_VD_RESULT_CMP (cmpDigits (wordDigits s.wordA) (wordDigits s.wordB))) 0

/-- A counter word write (R306): stored unless a digit would be out of range. -/
def State.cntWrite (s : State) (k w v : Nat) : State :=
  let f := F.FRG_VD_CNT_VAL_DIGITS k
  let s' := (s.keep (f w)).put (f w) v
  let word := s'.get (f 0) + 2 ^ 48 * s'.get (f 1) + 2 ^ 96 * s'.get (f 2)
  if wordOk (s.vec (s.get (F.FRG_VD_CNT_CFG_VECTOR k))) word then s' else s.raise Ev.FRG_VD_FIELD_FAULT

end Sys2Proof.Machine
end

