-- ==== Sys2Proof/Machine/Layout.lean ====
section
/-! DEFINITION. Layouts: reading a descriptor list, its checks, the cost of its lines, admission and composition (R199 to
R229). -/

namespace Sys2Proof.Machine

/-! ### Regions and heads -/

/-- The regions of a kind in the order of the section. -/
def State.regionsOf (s : State) (k : Nat) : List Region := s.regions.filter (fun r => r.kind = k)

/-- The address range `[a, a + n)` lies wholly inside a region of the kind. -/
def State.inRegion (s : State) (k a n : Nat) : Bool :=
  (s.regionsOf k).any (fun r => decide (r.base ≤ a) && decide (a + n ≤ r.base + r.size))

/-- The queue region of track `n` (R182). -/
def State.queueRegion (s : State) (n : Nat) : Region := (s.regionsOf 1).getD n ⟨1, 0, 0⟩

/-- The described heads of a track. -/
def State.headsOf (s : State) (n : Nat) : List Nat :=
  (List.range 256).filter (fun h => s.flag (F.NZC_HEAD_A_VALID h) ∧ s.get (F.NZC_HEAD_A_TRACK h) = n)

/-- T_lead of a track in µs: the greatest head lead time (R115). -/
def State.tLead (s : State) (n : Nat) : Nat :=
  (s.headsOf n).foldl (fun m h => max m (s.get (F.STG_HEAD_CFG_LEAD_TIME h))) 0

/-! ### Reading the list -/

/-- A stamp descriptor from its 64 bytes. -/
def stampOf (l : List Byte) : Stamp :=
  { kind := leAt l 0 1, priority := leAt l 1 1, flags := leAt l 2 1, x := leAt l 4 4, y := leAt l 8 4, w := leAt l 12 4
    h := leAt l 16 4, ops := leAt l 20 4, planeMap := leAt l 24 4, ink := leAt l 28 4, ext := (l.drop 32).take 32 }

/-- A field table entry from its 32 bytes and the whole list. -/
def fieldOf (list e : List Byte) : FieldDesc :=
  { kind := leAt e 0 1, width := leAt e 1 1, glyph := leAt e 2 1, inAlph := leAt e 3 1, src := leAt e 4 2
    sel := leAt e 6 2, ext := (list.drop (leAt e 8 4)).take (leAt e 12 2), param := (e.drop 16).take 16 }

/-- The layout that a descriptor list describes (R199). -/
def layoutOf (l : List Byte) : Layout :=
  { id := leAt l 0 2, planes := leAt l 4 1, depth := leAt l 5 1, flags := leAt l 7 1, width := leAt l 8 4
    length := leAt l 12 4, background := leAt l 16 4, len := leAt l 28 4, crc := leAt l 32 4
    stamps := (List.range (leAt l 2 2)).map (fun i => stampOf ((l.drop (64 + 64 * i)).take 64))
    fields := (List.range (leAt l 6 1)).map (fun i => fieldOf l ((l.drop (leAt l 20 4 + 32 * i)).take 32)) }

/-- DESC_CRC computed over the list with its own field taken as 0. -/
def descCrc (l : List Byte) : Nat := crc32c (l.take 32 ++ [0, 0, 0, 0] ++ l.drop 36)

/-- The bytes `[lo, hi)` of a list are 0. -/
def zeros (l : List Byte) (lo hi : Nat) : Bool := ((l.drop lo).take (hi - lo)).all (· = 0)

/-- Bits per dot of a depth code. -/
def depthBits (d : Nat) : Nat := 2 ^ d

/-- Level `p` of a nibble list. -/
def nib (v p : Nat) : Nat := bits v (4 * p + 3) (4 * p)

/-- Every level named for a plane of the layout is below 2^D. -/
def levelsOk (v planes depth : Nat) : Bool := (List.range (min planes 8)).all (fun p => nib v p < 2 ^ depthBits depth)

/-! ### Drawing stamps with their operators -/

/-- A drawing stamp with the operators before it (R207, R210, R211). -/
structure Draw where
  st : Stamp
  index : Nat
  angle : Nat := 0
  axes : Nat := 0
  nx : Nat := 1
  ny : Nat := 1
  dx : Nat := 0
  dy : Nat := 0
  deriving DecidableEq, Repr

/-- The drawing stamps of a layout in list order. -/
def Layout.draws (ly : Layout) : List Draw :=
  let z : Stamp := stampOf []
  let r := ly.stamps.zipIdx.foldl (fun (acc : List Draw × Draw) (p : Stamp × Nat) =>
    let x := p.1
    let e := leAt x.ext
    match x.kind with
    | 6 => (acc.1, { acc.2 with angle := e 0 1 })
    | 7 => (acc.1, { acc.2 with axes := e 0 1 })
    | 8 => (acc.1, { acc.2 with nx := e 0 2, ny := e 2 2, dx := e 4 4, dy := e 8 4 })
    | _ => (acc.1 ++ [{ acc.2 with st := x, index := p.2 }], ⟨z, 0, 0, 0, 1, 1, 0, 0⟩)) ([], ⟨z, 0, 0, 0, 1, 1, 0, 0⟩)
  r.1

/-- The operators before one drawing stamp, by kind, break R207. -/
def opsBad (ops : List Nat) (x : Stamp) (angle : Nat) : Bool :=
  ops ≠ ops.eraseDups ∨ ((ops.contains 6 ∨ ops.contains 7) ∧ 3 < x.kind) ∨ (ops.contains 8 ∧ x.kind = 5) ∨
    (x.kind = 1 ∧ (angle = 1 ∨ angle = 3) ∧ !(x.flags.testBit 2))

/-- The index of the first stamp that breaks a rule on the order of stamps (R207). -/
def orderFault : List (Stamp × Nat) → List Nat → Nat → Bool → Option Nat
  | [], ops, _, _ => if ops = [] then none else some 0xFF
  | (x, i) :: r, ops, angle, masked =>
    if 6 ≤ x.kind then orderFault r (ops ++ [x.kind]) (if x.kind = 6 then leAt x.ext 0 1 else angle) masked
    else if opsBad ops x angle ∨ (x.kind = 5 ∧ masked) then some i
    else orderFault r [] 0 (masked || x.kind = 5)

/-- The lines `[lo, hi)` and dots `[lo, hi)` of one instance after clipping (R211). -/
def Draw.linesOf (d : Draw) (ly : Layout) (b : Nat) : Nat × Nat :=
  (d.st.y + b * d.dy, min ly.length (d.st.y + b * d.dy + d.st.h))
def Draw.dotsOf (d : Draw) (ly : Layout) (a : Nat) : Nat × Nat :=
  (d.st.x + a * d.dx, min ly.width (d.st.x + a * d.dx + d.st.w))

/-- The instances of a stamp that cover line `y`, as (a, b) in drawing order. -/
def Draw.onLine (d : Draw) (ly : Layout) (y : Nat) : List (Nat × Nat) :=
  (List.range d.nx).flatMap (fun a =>
    let x := d.dotsOf ly a
    if x.1 < x.2 then
      ((List.range d.ny).filter (fun b => (d.linesOf ly b).1 ≤ y ∧ y < (d.linesOf ly b).2)).map (fun b => (a, b))
    else [])

/-! ### Form checks (R199 to R214, R272) -/

/-- Bytes of a stamp's extension that its kind does not name are 0 (R206). -/
def extZero (k : Nat) (e : List Byte) : Bool :=
  match k with
  | 1 => zeros e 14 16 && zeros e 24 32
  | 2 => zeros e 4 32
  | 3 => zeros e 8 32
  | 4 => zeros e 0 32
  | 5 => zeros e 12 32
  | 8 => zeros e 12 32
  | _ => zeros e 1 32

/-- A SYMBOL field is linear (R206, R290). -/
def FieldDesc.linear (d : FieldDesc) : Bool := 3 ≤ (d.param.getD 0 0).toNat

/-- The extension of a stamp lies in the ranges of R206: a linear symbol ignores MODULE_H and has one row. -/
def extRange (fields : List FieldDesc) (x : Stamp) : Bool :=
  let e := leAt x.ext
  let fieldCount := fields.length
  let lin : Bool := match fields[e 0 1]? with | some f => f.linear | none => false
  match x.kind with
  | 1 => e 0 8 % 64 = 0 ∧ e 8 4 % 64 = 0 ∧ e 12 1 ≤ 2 ∧ 1 ≤ e 13 1 ∧ e 13 1 ≤ 8 ∧ e 16 8 % 64 = 0
  | 2 => e 0 1 < fieldCount ∧ e 1 1 ≤ 15 ∧ 1 ≤ e 2 1 ∧ e 2 1 ≤ 39 ∧ e 3 1 ≤ 2
  | 3 => e 0 1 < fieldCount ∧ 1 ≤ e 1 1 ∧ e 1 1 ≤ 16 ∧ e 3 1 ≤ 16 ∧
    (if lin then e 6 2 = 1 else 1 ≤ e 2 1 ∧ e 2 1 ≤ 16)
  | 5 => e 0 8 % 64 = 0 ∧ e 8 4 % 64 = 0
  | 6 => e 0 1 ≤ 3
  | 7 => e 0 1 ≤ 3
  | 8 => 1 ≤ e 0 2 ∧ e 0 2 ≤ 4096 ∧ 1 ≤ e 2 2 ∧ e 2 2 ≤ 4096 ∧ e 0 2 * e 2 2 ≤ 4096
  | _ => true

/-- One stamp keeps the rules of R204 to R206 and R213, R214 that concern it alone; `raw` is its 64 bytes. -/
def stampOk (ly : Layout) (raw : List Byte) (x : Stamp) : Bool :=
  let n (p : Nat) : Nat := nib x.planeMap p
  1 ≤ x.kind ∧ x.kind ≤ 8 ∧ x.flags < 8 ∧ zeros raw 3 4 ∧ extZero x.kind x.ext ∧ extRange ly.fields x ∧
  (if 6 ≤ x.kind then zeros raw 4 32 = true else
    x.x < ly.width ∧ x.y < ly.length ∧ 1 ≤ x.w ∧ 1 ≤ x.h ∧ x.ops < 2 ^ 24 ∧
    (List.range 8).all (fun p => bits x.ops (3 * p + 2) (3 * p) < 6) ∧
    (if x.kind = 1 then (List.range 8).all (fun p => n p < 8 ∨ n p = 15) = true else x.planeMap = 0) ∧
    (if x.kind = 2 ∨ x.kind = 3 ∨ x.kind = 4 then levelsOk x.ink ly.planes ly.depth = true else x.ink = 0) ∧
    (x.kind ≠ 5 ∨ x.ops = 0))

/-- The footprint of a SYMBOL stamp before rotation (R208). -/
def symbolSize (ly : Layout) (d : Draw) : Bool :=
  let e := leAt d.st.ext
  let w := if d.angle % 2 = 1 then d.st.h else d.st.w
  let h := if d.angle % 2 = 1 then d.st.w else d.st.h
  let lin : Bool := match ly.fields[e 0 1]? with | some f => f.linear | none => false
  w = (e 4 2 + 2 * e 3 1) * e 1 1 ∧ (lin ∨ h = (e 6 2 + 2 * e 3 1) * e 2 1)

/-- Bands of lines: every line at which an instance begins or ends, and line 0 (R220). -/
def Layout.bands (ly : Layout) : List Nat :=
  (0 :: ly.draws.flatMap (fun d => (List.range d.ny).flatMap (fun b =>
    [(d.linesOf ly b).1, (d.linesOf ly b).2]))).eraseDups.filter (· < ly.length)

/-- An application identifier of R288: 2 to 4 digits, padded with 0. -/
def gs1AiOk (e : List Byte) : Bool :=
  let n := ((e.take 4).takeWhile (· ≠ 0)).length
  decide (2 ≤ n) && (e.take n).all (fun b => decide (48 ≤ b.toNat) && decide (b.toNat ≤ 57)) && zeros e n 4

/-- One field table entry keeps R268 to R272; `i` is its index and `raw` its 32 bytes. -/
def fieldOk (list raw : List Byte) (i : Nat) (d : FieldDesc) : Bool :=
  let par (n : Nat) : Bool := zeros d.param n 16
  let inList : Bool := leAt raw 8 4 + leAt raw 12 2 ≤ list.length
  let lower (j : Nat) : Bool := decide (j < i)
  let byte (n : Nat) : Nat := (d.param.getD n 0).toNat
  let hasExt : Bool := d.kind = 5 || d.kind = 7 || d.kind = 8 || (d.kind = 6 && byte 0 = 4)
  let own : Bool := match d.kind with
    | 1 => 1 ≤ d.width ∧ d.width ≤ 39 ∧ par 0 = true
    | 2 => par 0 = true
    | 3 => par 0 = true
    | 4 => par 0 = true
    | 5 => par 0 = true ∧ 1 ≤ d.ext.length ∧ d.ext.length ≤ 255 ∧ d.ext.all (fun b => fieldChar b.toNat) = true
    | 6 => lower d.src ∧ 1 ≤ byte 0 ∧ byte 0 ≤ 4 ∧
      (if byte 0 = 4 then par 4 = true ∧ 1 ≤ d.ext.length ∧ d.ext.length ≤ 24 ∧ 2 ≤ byte 2 ∧ byte 2 ≤ 64 else par 1 = true)
    | 7 => 1 ≤ d.ext.length ∧ d.ext.length ≤ 8 ∧ d.ext.all (fun b => lower b.toNat) ∧ par 0 = true
    | 8 => d.sel < 2 ∧ d.ext.length % 8 = 0 ∧ 1 ≤ d.ext.length / 8 ∧ d.ext.length / 8 ≤ 8 ∧ par 0 = true ∧
      (gs1Records d.ext).all (fun e => gs1AiOk e ∧ lower (leAt e 4 1) ∧ leAt e 6 1 < 8 ∧ 1 ≤ leAt e 5 1 ∧ leAt e 5 1 ≤ 90 ∧ zeros e 7 8)
    | 9 => lower d.src ∧ par 5 = true ∧ 1 ≤ byte 0 ∧ byte 0 ≤ 5 ∧ (byte 0 ≤ 2 ∨ byte 1 = 0) ∧
      (byte 0 = 2 ∨ (byte 2 = 0 ∧ byte 3 = 0))
    | _ => false
  zeros raw 14 16 ∧ inList ∧ (hasExt ∨ zeros raw 8 14 = true) ∧ (d.glyph < 64 ∨ d.glyph = 0xFF) ∧
  (d.kind = 1 ∨ (d.width = 0 ∧ d.inAlph = 0)) ∧ (d.kind = 6 ∨ d.kind = 9 ∨ d.src = 0) ∧ own

/-- The first FORMAT ground of a list, as its failing stamp index (0xFF none), apart from its address (R199 to R214,
R272). -/
def formatFault (l : List Byte) : Option Nat :=
  let ly := layoutOf l
  let n := leAt l 2 2
  let fc := leAt l 6 1
  let ft := leAt l 20 4
  let un := leAt l 24 4
  let kind (i : Nat) : Nat := (ly.fields.getD i ⟨0, 0, 0, 0, 0, 0, [], []⟩).kind
  if !(1 ≤ n ∧ n ≤ 256 ∧ 1 ≤ ly.planes ∧ ly.planes ≤ 8 ∧ ly.depth ≤ 2 ∧ fc ≤ 20 ∧ ly.flags < 4 ∧ 1 ≤ ly.width ∧
      ly.width ≤ 1048576 ∧ 1 ≤ ly.length ∧ ly.length ≤ 16777216 ∧ levelsOk ly.background ly.planes ly.depth ∧
      64 + 64 * n ≤ ly.len ∧ ly.len ≤ 65536 ∧ zeros l 36 64 ∧ (if fc = 0 then ft = 0 else ft + 32 * fc ≤ ly.len) ∧
      (un = 0 ∨ un + 80 ≤ ly.len)) then some 0xFF
  else match (ly.stamps.zipIdx.find? (fun p => !(stampOk ly ((l.drop (64 + 64 * p.2)).take 64) p.1))) with
  | some p => some p.2
  | none =>
    match orderFault ly.stamps.zipIdx [] 0 false with
    | some i => some i
    | none =>
      match ly.draws.find? (fun d => d.st.kind = 3 ∧ !(symbolSize ly d)) with
      | some d => some d.index
      | none =>
        if ly.bands.any (fun y => 1024 < (ly.draws.map (fun d => (d.onLine ly y).length)).foldl (· + ·) 0) then some 0xFF
        else if !((ly.fields.zipIdx).all (fun p => fieldOk l ((l.drop (ft + 32 * p.2)).take 32) p.2 p.1)) then some 0xFF
        else if ly.flags.testBit 0 ≠ ly.fields.any (fun d => d.kind = 2) then some 0xFF
        else if ly.flags.testBit 1 ≠ ly.fields.any (fun d => d.kind = 3) then some 0xFF
        else match ly.stamps.zipIdx.find? (fun p =>
            (p.1.kind = 2 ∧ kind (leAt p.1.ext 0 1) = 9) ∨ (p.1.kind = 3 ∧ kind (leAt p.1.ext 0 1) ≠ 9)) with
          | some p => some p.2
          | none =>
            if un = 0 then none else
            let u := (l.drop un).take 80
            let addr (p : Nat) : Nat := leAt u (8 + 8 * p) 8
            if leAt u 0 1 ≤ 1 ∧ zeros u 1 8 ∧ zeros u 76 80 ∧
                (List.range 8).all (fun p => addr p % 64 = 0 ∧
                  ((leAt u 0 1 = 1 ∧ p < ly.planes) ∨ addr p = 0)) then none else some 0xFF

/-! ### References and understudy lines -/

/-- Bytes of one plane of a composed line (R201). -/
def Layout.lineBytes (ly : Layout) : Nat := (ly.width * depthBits ly.depth + 63) / 64 * 8

/-- The understudy line addresses of the list, none for blank lines (R388). -/
def underAddrs (l : List Byte) : List Nat :=
  let un := leAt l 24 4
  if un = 0 ∨ leAt (l.drop un) 0 1 = 0 then [] else (List.range (leAt l 4 1)).map (fun p => leAt (l.drop un) (8 + 8 * p) 8)

/-- The understudy line of a list per plane, as it stands in DRAM; a blank plane has no bytes. -/
def State.underLines (s : State) (l : List Byte) : List (List Byte) :=
  (underAddrs l).map (fun a => if a = 0 then [] else s.dramBytes a (layoutOf l).lineBytes)

def State.font (s : State) (b : Nat) : Option Font := (s.frg.fonts.find? (fun p => p.1 = b)).map Prod.snd

/-- Bytes of a head line (R353). -/
def State.headBytes (s : State) (h : Nat) : Nat :=
  (s.get (F.NZC_HEAD_A_COUNT h) * depthBits (s.get (F.NZC_HEAD_A_OUT_DEPTH h)) + 7) / 8

/-- Understudy store bytes a layout reserves: both pages of every head line of its track and of planes that are not blank
(R388, R389). -/
def State.underReserve (s : State) (ly : Layout) : Nat :=
  ((s.headsOf ly.track).map (fun h =>
    let u := ly.under.getD (s.get (F.NZC_HEAD_A_PLANE h)) []
    if u = [] then 0 else 2 * s.headBytes h)).foldl (· + ·) 0

/-- Understudy store bytes reserved in all. -/
def State.underUsed (s : State) : Nat := (s.frg.layouts.map Layout.reserved).foldl (· + ·) 0

/-- A glyph run whose footprint is not the one that its bank and MAX_CHARS give: FORMAT, with its stamp index (R208, R227). -/
def State.footprintFault (s : State) (ly : Layout) : Option Nat :=
  (ly.draws.find? (fun d =>
    let e := leAt d.st.ext
    let w := if d.angle % 2 = 1 then d.st.h else d.st.w
    let h := if d.angle % 2 = 1 then d.st.w else d.st.h
    match s.font (e 1 1) with
    | none => false
    | some f => d.st.kind = 2 ∧ !(w = e 2 1 * f.cellW ∧ h = f.cellH))).map Draw.index

/-- The REFERENCE ground of a list, as its failing stamp index (R227, R272, R274, R388). -/
def State.referenceFault (s : State) (l : List Byte) (ly : Layout) : Option Nat :=
  let glyphBad (d : Draw) : Bool :=
    let e := leAt d.st.ext
    (s.font (e 1 1)).isNone ∨ (ly.fields.getD (e 0 1) ⟨0, 0, 0xFF, 0, 0, 0, [], []⟩).glyph = 0xFF
  match ly.draws.find? (fun d => d.st.kind = 2 ∧ glyphBad d) with
  | some d => some d.index
  | none =>
    let fieldBad (d : FieldDesc) : Bool :=
      (d.glyph ≠ 0xFF ∧ s.alph d.glyph = []) ∨ (d.kind = 1 ∧ s.alph d.inAlph = []) ∨
      (d.kind = 2 ∧ (s.queueRegion ly.track).size < 7 * 2 ^ 20) ∨
      (d.kind = 3 ∧ !(tblGet {} s.vd.cals d.sel : Calendar).defined) ∨ (d.kind = 4 ∧ !(s.vd.cnts.contains d.sel)) ∨
      (d.kind = 6 ∧ (d.param.getD 0 0).toNat = 4 ∧ (s.alph (d.param.getD 1 0).toNat).length < (d.param.getD 2 0).toNat)
    let as := underAddrs l
    let n := ly.lineBytes
    let crc := leAt (l.drop (leAt l 24 4)) 0x48 4
    if ly.fields.any fieldBad then some 0xFF
    else if as.any (fun a => a ≠ 0 ∧ !(s.inRegion 2 a n) ∧ !(s.inRegion 3 a n)) then some 0xFF
    else if as ≠ [] ∧ crc32c ((as.filter (· ≠ 0)).flatMap (fun a => s.dramBytes a n)) ≠ crc then some 0xFF
    else none

/-! ### The cost of a line (R219 to R221) -/

/-- The operator of a stamp for plane `p` (R204, R213). -/
def Stamp.opFor (x : Stamp) (p : Nat) : Nat :=
  let o := bits x.ops (3 * p + 2) (3 * p)
  if x.kind = 1 ∧ (nib x.planeMap p = 15 ∨ leAt x.ext 13 1 ≤ nib x.planeMap p) then 0 else o

/-- Setup cycles of one instance on a line. -/
def Draw.setup (d : Draw) : Nat :=
  match d.st.kind with
  | 1 => if d.angle % 2 = 1 then 10 else 6
  | 2 => 6 + leAt d.st.ext 2 1
  | 3 => 4
  | 4 => 2
  | _ => 4

/-- C(y) of R219, from footprints alone (R220). -/
def Layout.cost (ly : Layout) (y : Nat) : Nat :=
  let b := depthBits ly.depth
  let words := (ly.width * b + 63) / 64
  let inst := ly.draws.flatMap (fun d => (d.onLine ly y).map (fun i => (d, i.1)))
  let plane (p : Nat) : Nat := ((List.range words).map (fun w =>
    let n := (inst.filter (fun i =>
      let x := i.1.dotsOf ly i.2
      (i.1.st.kind = 5 ∨ i.1.st.opFor p ≠ 0) ∧ x.1 * b / 64 ≤ w ∧ w ≤ (x.2 * b - 1) / 64)).length
    max 1 ((n + 3) / 4))).foldl (· + ·) 0
  8 + ((List.range ly.planes).map plane).foldl (· + ·) 0 + (inst.map (fun i => i.1.setup)).foldl (· + ·) 0

/-- Planes of its source that a TILE or MASK stamp reads. -/
def Draw.planesRead (d : Draw) (ly : Layout) : List Nat :=
  if d.st.kind = 5 then [0] else
    ((List.range ly.planes).filter (fun p => d.st.opFor p ≠ 0)).map (fun p => nib d.st.planeMap p) |>.eraseDups

/-- The source dots that one instance covers on a line: rows `[r0, r0 + rn)` and dots `[c0, c0 + cn)` of the source, after
clipping (R210, R211). -/
def Draw.sourceSpan (d : Draw) (ly : Layout) (y a b : Nat) : Nat × Nat × Nat × Nat :=
  let yy := y - (d.linesOf ly b).1
  let v := if d.axes.testBit 1 then d.st.h - 1 - yy else yy
  let n := (d.dotsOf ly a).2 - (d.dotsOf ly a).1
  let mir : Bool := d.axes.testBit 0
  let far (back : Bool) : Nat := if back then d.st.w - n else 0
  match d.angle with
  | 0 => (v, 1, far mir, n)
  | 1 => (far !mir, n, v, 1)
  | 2 => (d.st.h - 1 - v, 1, far !mir, n)
  | _ => (far mir, n, d.st.h - 1 - v, 1)

/-- The 64-byte units that one TILE or MASK instance reads on a line (R208, R221). -/
def Draw.units (d : Draw) (ly : Layout) (y a b : Nat) : List Nat :=
  let e := leAt d.st.ext
  let per := if d.st.kind = 5 then 1 else depthBits (e 12 1)
  let (r0, rn, c0, cn) := d.sourceSpan ly y a b
  (d.planesRead ly).flatMap (fun q => (List.range rn).flatMap (fun r =>
    let base := e 0 8 + q * (if d.st.kind = 5 then 0 else e 16 8) + (r0 + r) * e 8 4
    (List.range (((c0 + cn) * per - 1) / 512 + 1 - c0 * per / 512)).map (fun u => base / 64 + c0 * per / 512 + u)))

/-- Bits that line `y` reads from DRAM: 512 for each distinct unit (R221). -/
def Layout.load (ly : Layout) (y : Nat) : Nat :=
  512 * (ly.draws.flatMap (fun d =>
    if (d.st.kind = 1 ∨ d.st.kind = 5) ∧ !(d.st.flags.testBit 2) then
      (d.onLine ly y).flatMap (fun i => d.units ly y i.1 i.2) else [])).eraseDups.length

/-- The greatest of a function over the bands. -/
def Layout.worst (ly : Layout) (f : Nat → Nat) : Nat := ly.bands.foldl (fun m y => max m (f y)) 0

/-- The units pinned for a layout (R216): its PIN stamps' sources, then the font banks it names. -/
def State.pinnedOf (s : State) (ly : Layout) : List Nat :=
  ly.draws.flatMap (fun d =>
    let e := leAt d.st.ext
    let run (a n : Nat) : List Nat := (List.range (if n = 0 then 0 else (a % 64 + n - 1) / 64 + 1)).map (fun u => a / 64 + u)
    if (d.st.kind = 1 ∨ d.st.kind = 5) ∧ d.st.flags.testBit 2 then
      let w := if d.angle % 2 = 1 then d.st.h else d.st.w
      let h := if d.angle % 2 = 1 then d.st.w else d.st.h
      let per := if d.st.kind = 5 then 1 else depthBits (e 12 1)
      (List.range (if d.st.kind = 5 then 1 else e 13 1)).flatMap (fun q => (List.range h).flatMap (fun r =>
        run (e 0 8 + q * (if d.st.kind = 5 then 0 else e 16 8) + r * e 8 4) ((w * per + 7) / 8)))
    else if d.st.kind = 2 then
      match s.font (e 1 1) with
      | some f => run f.addr (128 + 4096 * f.cellH)
      | none => []
    else [])

/-- All pinned units. -/
def State.pinned (s : State) : List Nat := (s.frg.layouts.flatMap s.pinnedOf).eraseDups

/-- C_max, B_max, K and the understudy reservation of a layout. -/
def State.measure (s : State) (ly : Layout) : Layout :=
  let words := (ly.width * depthBits ly.depth + 63) / 64
  let ly := { ly with cmax := ly.worst ly.cost, bmax := ly.worst ly.load, k := ly.planes * (4 * ((words + 2 + 3) / 4)) }
  { ly with reserved := s.underReserve ly }

/-! ### Admission (R222 to R226) -/

/-- The layouts held for a track, retiring versions among them. -/
def State.layoutsOf (s : State) (n : Nat) : List Layout := s.frg.layouts.filter (fun l => l.track = n)

/-- The installed version of an ID for a track (R200). -/
def State.layout? (s : State) (n id : Nat) : Option Layout :=
  s.frg.layouts.find? (fun l => l.track = n ∧ l.id = id ∧ !l.retiring)

/-- A version held, by ID and version. -/
def State.version? (s : State) (n id ver : Nat) : Option Layout :=
  s.frg.layouts.find? (fun l => l.track = n ∧ l.id = id ∧ l.version = ver)

/-- Quantities of R223. -/
def State.cT (s : State) (n : Nat) : Nat := (s.layoutsOf n).foldl (fun m l => max m l.cmax) 0
def State.bT (s : State) (n : Nat) : Nat := (s.layoutsOf n).foldl (fun m l => max m l.bmax) 0
def State.kT (s : State) (n : Nat) : Nat := (s.layoutsOf n).foldl (fun m l => max m l.k) 0
def State.spacing (s : State) (n : Nat) : Nat :=
  max 200 (min (s.get (F.TRK_SCHED_MIN_SPACING n)) (s.act (F.TRK_SCHED_MIN_SPACING n)))
def State.aT (s : State) (n : Nat) : Nat := max 8 (s.get (F.TRK_SCHED_COMPOSE_AHEAD n))
def State.tapOn (s : State) (k n : Nat) : Bool :=
  (s.flag (F.FRG_TAP_CTRL_EN k) ∧ (s.get (F.FRG_TAP_CTRL_TRACKS k)).testBit n) ∨ (tblGet (0, 0) s.frg.taps n).1.testBit k
def State.nT (s : State) (n : Nat) : Nat := ((List.range 8).filter (fun k => s.tapOn k n)).length
def State.cBig (s : State) : Nat := (List.range 16).foldl (fun m n => max m (s.cT n)) 0
def popCount (v n : Nat) : Nat := ((List.range n).filter (fun i => v.testBit i)).length
def State.pipes (s : State) : Nat := popCount (s.get F.FRG_CTRL_PIPE_EN) 8
def State.util (s : State) : Nat := max 64 (min 250 (s.get F.FRG_BUDGET_UTIL))
def State.dramShare (s : State) : Nat := max 1 (s.get F.FRG_BUDGET_DRAM_SHARE)

/-- D_peak in bit/s: 64 Mbit/s per MT/s of each working controller; 0 after a freeze (R223). -/
def State.dPeak (s : State) : Nat :=
  let st (c : Nat) : Nat := s.get (F.DMC_STATUS_STATE c)
  if st 0 = 5 ∨ st 1 = 5 then 0 else
  [0, 1].foldl (fun m c => if st c = 2 ∨ st c = 3 ∨ st c = 4 then
    m + 64000000 * (3200 + 400 * s.get (F.DMC_STATUS_RATE c)) else m) 0

/-- A sum of fractions with 10^8 / spacing as the factor of each track: (numerator, denominator). -/
def State.rateSum (s : State) (q : Nat → Nat) (ts : List Nat) : Nat × Nat :=
  ts.foldl (fun a n => (a.1 * s.spacing n + q n * 10 ^ 8 * a.2, a.2 * s.spacing n)) (0, 1)

/-- A fraction is at most another number over a denominator. -/
def fracLe (a : Nat × Nat) (n d : Nat) : Bool := decide (a.1 * d ≤ n * a.2)

/-- The left side of LATENCY in quarter nanoseconds (R224). -/
def State.latencyQ (s : State) (n : Nat) : Nat :=
  (s.cBig + s.cT n) * 5 + s.nT n * 320 + s.get F.FRG_BUDGET_DOWNSTREAM * 4000

/-- The left side of QUEUE (R224). -/
def State.queueNeed (s : State) (ts : List Nat) : Nat :=
  (ts.map (fun n => ((s.tLead n + s.aT n) * 100 + s.spacing n - 1) / s.spacing n)).foldl (· + ·) 0

/-- The greatest number of pinned units in one set, and PIN_WAYS (R216, R251). -/
def pinsWorst (pins : List Nat) : Nat :=
  pins.foldl (fun m u => max m (pins.filter (fun v => v % 8192 = u % 8192)).length) 0
def State.pinWays (s : State) : Nat := min 12 (s.get F.FRG_CACHE_CFG_PIN_WAYS)

/-- The tracks that have a layout. -/
def State.printing (s : State) : List Nat := (List.range 16).filter (fun n => s.layoutsOf n ≠ [])

/-- The first condition of R224 that fails: code, track for LATENCY, tap. -/
def State.admitFault (s : State) : Option (Nat × Nat × Nat) :=
  let all := List.range 16
  let cyc := s.rateSum s.cT all
  let dr := s.rateSum s.bT all
  if !(fracLe cyc (s.pipes * 800000000 * s.util) 256) then some (0x10, 0, 0)
  else if !(fracLe dr (s.dPeak * 8 * s.dramShare) 640) then some (0x11, 0, 0)
  else match s.printing.find? (fun n => s.aT n * 4000 < s.latencyQ n) with
  | some n => some (0x12, n, 0)
  | none =>
    match (List.range 8).find? (fun k =>
        !(fracLe (s.rateSum s.kT (all.filter (s.tapOn k))) (800000000 * s.util) 256)) with
    | some k => some (0x13, 0, k)
    | none =>
      if 4096 < s.queueNeed s.printing then some (0x14, 0, 0)
      else if s.pinWays < pinsWorst s.pinned then some (0x15, 0, 0) else none

/-- Each condition of R224 as its left side, a fraction, and its limit in the same measure. -/
def State.loads (s : State) : List ((Nat × Nat) × Nat) :=
  let all := List.range 16
  [(s.rateSum s.cT all, s.pipes * s.util), (s.rateSum s.bT all, s.dPeak * s.dramShare)] ++
  all.map (fun n => ((if s.layoutsOf n = [] then 0 else s.latencyQ n, 1), s.aT n * 4000)) ++
  (List.range 8).map (fun k => (s.rateSum s.kT (all.filter (s.tapOn k)), s.util)) ++
  [((s.queueNeed s.printing, 1), 4096), ((pinsWorst s.pinned, 1), s.pinWays)]

/-- The change from `s` to `t` makes some load smaller, or a limit larger, and none worse (R225). -/
def State.lighter (s t : State) : Bool :=
  let ps := s.loads.zip t.loads
  ps.all (fun p => decide (p.2.1.1 * p.1.1.2 ≤ p.1.1.1 * p.2.1.2) && decide (p.1.2 ≤ p.2.2)) &&
  ps.any (fun p => decide (p.2.1.1 * p.1.1.2 < p.1.1.1 * p.2.1.2) || decide (p.1.2 < p.2.2))

/-- Why a change from `s` to `t` is refused: the first condition that fails after it; one that makes the load smaller never is
(R224, R225). -/
def State.admitCheck (s t : State) : Option (Nat × Nat × Nat) :=
  match t.admitFault with
  | none => none
  | some f => if s.lighter t then none else some f

/-- The quantities shown in the FRG registers, as they stand (R246, R250, R252, R255). -/
def State.frgShow (s : State) : State :=
  let up (a : Nat × Nat) : Nat := (a.1 + a.2 - 1) / max 1 a.2
  let all := List.range 16
  let s := ((s.put F.FRG_ADMIT_CYCLES (up (s.rateSum s.cT all))).put F.FRG_ADMIT_DRAM (up (s.rateSum s.bT all))).put
    F.FRG_CAP_CYCLES (up (s.pipes * 800000000 * s.util, 256))
  let s := s.put F.FRG_CAP_DRAM (up (s.dPeak * 8 * s.dramShare, 640))
  let live := (s.frg.layouts.filter (fun l => !l.retiring)).length
  let s := (s.put F.FRG_LAYOUT_COUNT_INSTALLED live).put F.FRG_LAYOUT_COUNT_RETIRING (s.frg.layouts.length - live)
  let s := (s.put F.FRG_CACHE_PINNED_UNITS s.frg.pins.length).put F.FRG_DL_STORE_USED_BYTES s.underUsed
  all.foldl (fun s n =>
    let s := (s.put (F.FRG_TRK_CMAX n) (s.cT n)).put (F.FRG_TRK_DRAM n) (s.bT n)
    let s := s.put (F.FRG_TRK_RATE n) ((2 * 10 ^ 8 + s.spacing n) / (2 * s.spacing n))
    s.put (F.FRG_TRK_LATENCY n) ((s.latencyQ n + 3) / 4)) s

/-- Records a refusal (R225, R253). -/
def State.admitRefuse (s : State) (f : Nat × Nat × Nat) (track source : Nat) : State :=
  let s := s.put F.FRG_REFUSE (f.1 * 2 ^ 24 + (if f.1 = 0x12 then f.2.1 else track) * 2 ^ 20 + f.2.2 * 2 ^ 16 + source)
  s.raise Ev.FRG_ADMIT_REFUSED

/-- A change checked under R224: it takes effect when every condition holds after it, or when it makes the load smaller, and
otherwise leaves everything as it was (R225). -/
def State.admitChange (s : State) (change : State → State) (track source : Nat) : State :=
  let s' := change s
  match s.admitCheck s' with
  | none => s'.frgShow
  | some f => s.admitRefuse f track source

/-! ### Composition (R208 to R214) -/

/-- `n` bits at bit `b` above byte address `a` of DRAM, little-endian. -/
def State.dramBits (s : State) (a b n : Nat) : Nat :=
  bits (leNat (s.dramBytes (a + b / 8) 2)) (b % 8 + n - 1) (b % 8)

/-- A value of depth `d` bits as a value of depth `e` bits (R209). -/
def convert (d e v : Nat) : Nat := if d < e then v * ((2 ^ e - 1) / (2 ^ d - 1)) else v / 2 ^ (d - e)

/-- The source dot and row of a dot of the footprint (R210). -/
def Draw.source (d : Draw) (x y : Nat) : Nat × Nat :=
  let x := if d.axes.testBit 0 then d.st.w - 1 - x else x
  let y := if d.axes.testBit 1 then d.st.h - 1 - y else y
  match d.angle with
  | 0 => (x, y)
  | 1 => (y, d.st.w - 1 - x)
  | 2 => (d.st.w - 1 - x, d.st.h - 1 - y)
  | _ => (d.st.h - 1 - y, x)

/-- A pixel of a run of glyph codes at dot `c`, row `r`, with the run beginning at dot `o`: any cell that covers it. -/
def State.runPixel (s : State) (f : Font) : List Nat → Nat → Nat → Nat → Bool
  | [], _, _, _ => false
  | g :: gs, o, c, r =>
    let adv := f.advance.getD g 0
    (decide (o ≤ c) && decide (c < o + f.cellW) &&
      s.dramBits (f.addr + 0x80 + (g * f.cellH + r) * 64) (c - o) 1 = 1) ||
    s.runPixel f gs (o + if adv = 0 then f.cellW else adv) c r

/-- The cells of a run of glyph codes: code and first dot, from dot `o` on. -/
def Font.cells (f : Font) : List Nat → Nat → List (Nat × Nat)
  | [], _ => []
  | g :: gs, o => (g, o) :: f.cells gs (o + let a := f.advance.getD g 0; if a = 0 then f.cellW else a)

/-- Total advance of a run. -/
def Font.total (f : Font) (gs : List Nat) : Nat :=
  (gs.map (fun g => let a := f.advance.getD g 0; if a = 0 then f.cellW else a)).foldl (· + ·) 0

/-- The glyph codes that a run draws and its first dot within the footprint (R208). -/
def State.runOf (s : State) (ly : Layout) (fields : List FieldVal) (d : Draw) (f : Font) : List Nat × Nat :=
  let e := leAt d.st.ext
  let gs := (s.glyphs (ly.fields.getD (e 0 1) ⟨0, 0, 0, 0, 0, 0, [], []⟩) (fields.getD (e 0 1) {})).take (e 2 1)
  let w := if d.angle % 2 = 1 then d.st.h else d.st.w
  (gs, if e 3 1 = 1 then w - f.total gs else if e 3 1 = 2 then (w - f.total gs) / 2 else 0)

/-- The units of font that one glyph run reads on a line: the bitmap rows of the cells it covers there (R208, R215). -/
def State.fontUnits (s : State) (ly : Layout) (fields : List FieldVal) (d : Draw) (y a b : Nat) : List Nat :=
  let e := leAt d.st.ext
  match s.font (e 1 1) with
  | none => []
  | some f =>
    if (fields.getD (e 0 1) {}).blank then [] else
    let (gs, o) := s.runOf ly fields d f
    let (r0, rn, c0, cn) := d.sourceSpan ly y a b
    ((f.cells gs o).filter (fun g => g.2 < c0 + cn ∧ c0 < g.2 + f.cellW)).flatMap (fun g =>
      (List.range rn).flatMap (fun r =>
        let q := f.addr + 0x80 + (g.1 * f.cellH + r0 + r) * 64
        if q % 64 = 0 then [q / 64] else [q / 64, q / 64 + 1]))

/-- The units of artwork, mask and font that a line reads, each once (R215, R218). -/
def State.unitsRead (s : State) (ly : Layout) (fields : List FieldVal) (y : Nat) : List Nat :=
  (ly.draws.flatMap (fun d =>
    if d.st.kind = 1 ∨ d.st.kind = 5 then (d.onLine ly y).flatMap (fun i => d.units ly y i.1 i.2)
    else if d.st.kind = 2 then (d.onLine ly y).flatMap (fun i => s.fontUnits ly fields d y i.1 i.2) else [])).eraseDups

/-- The source value of a drawing stamp for plane `p` at a dot of its footprint; none where it does not cover (R208,
R212, R214). -/
def State.sourceAt (s : State) (ly : Layout) (fields : List FieldVal) (d : Draw) (p x y : Nat) : Option Nat :=
  let e := leAt d.st.ext
  let (c, r) := d.source x y
  let ink := nib d.st.ink p
  match d.st.kind with
  | 1 =>
    let b := depthBits (e 12 1)
    some (convert b (depthBits ly.depth) (s.dramBits (e 0 8 + nib d.st.planeMap p * e 16 8 + r * e 8 4) (c * b) b))
  | 2 =>
    let v := fields.getD (e 0 1) {}
    match s.font (e 1 1) with
    | none => none
    | some f =>
      if v.blank then none else
      let (gs, o) := s.runOf ly fields d f
      some (if s.runPixel f gs o c r then ink else 0)
  | 3 =>
    let v := fields.getD (e 0 1) {}
    let q := e 3 1
    let rows := v.mods.length / max 1 v.cols
    let lin : Bool := (ly.fields.getD (e 0 1) ⟨0, 0, 0, 0, 0, 0, [], []⟩).linear
    let mc := c / max 1 (e 1 1)
    let mr := if lin then q else r / max 1 (e 2 1)
    if v.blank ∨ v.cols = 0 ∨ e 4 2 < v.cols ∨ e 6 2 < rows then none
    else if v.cols + 2 * q ≤ mc ∨ (!lin ∧ rows + 2 * q ≤ mr) then none
    else if q ≤ mc ∧ mc < q + v.cols ∧ q ≤ mr ∧ mr < q + rows ∧ v.mods.getD ((mr - q) * v.cols + (mc - q)) false
      then some ink else some 0
  | 4 => some ink
  | _ => none

/-- The MASK bit at a dot of the line (R212). -/
def State.maskAt (s : State) (ds : List Draw) (x y : Nat) : Bool :=
  match ds.find? (fun d => d.st.kind = 5) with
  | none => false
  | some d =>
    let e := leAt d.st.ext
    decide (d.st.x ≤ x) && decide (x < d.st.x + d.st.w) && decide (d.st.y ≤ y) && decide (y < d.st.y + d.st.h) &&
      s.dramBits (e 0 8 + (y - d.st.y) * e 8 4) (x - d.st.x) 1 = 1

/-- The combine operators (R213). -/
def combine (op a v : Nat) : Nat :=
  match op with
  | 1 => v
  | 2 => a ||| v
  | 3 => a &&& v
  | 4 => a ^^^ v
  | 5 => 0
  | _ => a

/-- The level of one dot of a composed line (R213). -/
def State.dotAt (s : State) (ly : Layout) (fields : List FieldVal) (p y x : Nat) : Nat :=
  let ds := ly.draws
  let sorted := (ds.filter (fun d => d.st.kind ≠ 5)).mergeSort (fun a b => a.st.priority ≤ b.st.priority)
  sorted.foldl (fun acc d => (d.onLine ly y).foldl (fun acc i =>
    let xs := d.dotsOf ly i.1
    let op := d.st.opFor p
    if op ≠ 0 ∧ xs.1 ≤ x ∧ x < xs.2 ∧ (!(d.st.flags.testBit 1) ∨ s.maskAt ds x y) then
      match s.sourceAt ly fields d p (x - xs.1) (y - (d.linesOf ly i.2).1) with
      | some v => if d.st.flags.testBit 0 ∧ v = 0 then acc else combine op acc v
      | none => acc
    else acc) acc) (nib ly.background p)

/-- The composed line `y`: levels per plane and dot. -/
def State.compose (s : State) (ly : Layout) (fields : List FieldVal) (y : Nat) : List (List Nat) :=
  (List.range ly.planes).map (fun p => (List.range ly.width).map (fun x => s.dotAt ly fields p y x))

/-- A line of one plane as the data words of R201, dot 0 in the lowest bits of word 0. -/
def planeWords (width depth : Nat) (dots : List Nat) : List Nat :=
  let d := depthBits depth
  (List.range ((width * d + 63) / 64)).map (fun j =>
    (List.range (64 / d)).foldl (fun w i => w + (dots.getD (64 / d * j + i) 0 % 2 ^ d) * 2 ^ (d * i)) 0)

/-- The dots of one plane from its data words. -/
def wordDots (width depth : Nat) (ws : List Nat) : List Nat :=
  let d := depthBits depth
  (List.range width).map (fun x => ws.getD (x * d / 64) 0 / 2 ^ (x * d % 64) % 2 ^ d)

/-- What one plane of a line puts across a tap, in groups of four words (R231, R232): the header, the item ID, the data words,
and zero words to a multiple of 4. -/
def tapGroups (track index plane item : Nat) (last : Bool) (ws : List Nat) : List (List Nat) :=
  let head := index % 2 ^ 32 * 2 ^ 32 + track % 16 * 2 ^ 28 + plane % 8 * 2 ^ 25 + (if last then 2 ^ 24 else 0) + ws.length % 2 ^ 24
  let all := head :: item :: ws
  (List.range ((all.length + 3) / 4)).map (fun g => (List.range 4).map (fun j => all.getD (4 * g + j) 0))

/-- The understudy line of a layout: levels per plane and dot (R201, R388). -/
def Layout.underLevels (ly : Layout) : List (List Nat) :=
  let b := depthBits ly.depth
  (List.range ly.planes).map (fun p =>
    let u := ly.under.getD p []
    if u = [] then List.replicate ly.width 0
    else (List.range ly.width).map (fun x => bits (u.getD (x * b / 8) 0).toNat (x * b % 8 + b - 1) (x * b % 8)))

end Sys2Proof.Machine
end

