-- ==== Sys2Proof/Machine/Track.lean ====
section
/-! DEFINITION. Position synthesis: P_e, P_s and H, the synthesiser states, marks and skipped lines (R89 to R126). -/

namespace Sys2Proof.Machine

/-! ### Positions -/

/-- An edge rate of 1 edge/s: rates are held in units of 2^-32 edges/s (log entry 44). -/
def hertz : Nat := 2 ^ 32

/-- Subpitch travelled at rate `v` in `dt` ps. -/
def travel (v dt : Nat) : Nat := 4096 * v * dt / (hertz * 10 ^ 12)

/-- The first instant on the 625 ps grid of the track front end that is not before `t` (R100). -/
def onGrid (t : Ps) : Ps := (t + 624) / 625 * 625

/-- The signed difference of two positions (R97). -/
def posDiff (a b : Pos) : Int := (a - b).toInt

/-- The later of two positions. -/
def posMax (a b : Pos) : Pos := if posDiff b a > 0 then b else a

/-- A position moved by a signed number of subpitch. -/
def posAdd (a : Pos) (d : Int) : Pos := a + BitVec.ofInt 60 d

/-- The ps after which v under deceleration reaches 1 kHz, when DECEL is not 0 (R101, R105). -/
def decelEnd (v decel : Nat) : Option Nat :=
  if decel = 0 then none else some ((v - 1000 * hertz) * 10 ^ 12 / (16 * decel * hertz))

/-- Subpitch travelled in COAST in `dt` ps under deceleration, and no further than the budget left (R105). -/
def coastTravel (v decel dt left : Nat) : Nat :=
  let dt := match decelEnd v decel with | none => dt | some e => min dt e
  min left ((4096 * v * dt * 10 ^ 12 - 4096 * 8 * decel * hertz * dt * dt) / (hertz * 10 ^ 24))

/-- The coast budget left, in subpitch (R101). -/
def State.coastLeft (s : State) (n : Nat) : Nat :=
  s.act (F.TRK_COAST_DISTANCE n) * 4096 - (s.track n).coastUsed

/-- v at instant `t`: in COAST it falls by DECEL × 16 edges/s² from entry on (R105). -/
def State.rateAt (s : State) (n : Nat) (t : Ps) : Nat :=
  let x := s.track n
  match x.st with
  | .coast => x.v - 16 * s.act (F.TRK_DECEL n) * (t - x.psTime) * hertz / 10 ^ 12
  | _ => x.v

/-- How far P_s has moved from its base at instant `t` (R102, R105, R107, R109, R110). -/
def State.psMove (s : State) (n : Nat) (t : Ps) : Nat :=
  let x := s.track n
  let dt := t - x.psTime
  if !x.armed then 0 else
  match x.st with
  | .acquire => 0
  | .locked => if x.back then 0 else min (travel x.v dt) 4095
  | .coast => coastTravel x.v (s.act (F.TRK_DECEL n)) dt (s.coastLeft n)
  | .rejoin => if x.back then 0 else travel x.v dt

/-- P_s at instant `t`. -/
def State.psAt (s : State) (n : Nat) (t : Ps) : Pos := (s.track n).ps + BitVec.ofNat 60 (s.psMove n t)

/-- Brings H up to P_s at instant `t`; REVERSE ends when P_s passes H moving forward, as it does in COAST whatever the last
edge was (R98, R105, R110; log entry 81). -/
def State.settle (s : State) (n : Nat) (t : Ps) : State :=
  let x := s.track n
  let p := s.psAt n t
  if posDiff p x.h > 0 then s.setTrack n { x with h := p, reverse := x.reverse && x.back && x.st ≠ .coast } else s

/-! ### Lines -/

/-- Fire position F(i) = C + O + i × P (R113). -/
def firePos (c : Pos) (o p i : Nat) : Pos := c + BitVec.ofNat 60 (o * 4096 + i * p)

/-- The fire position of line `i` of an item. -/
def Item.fireAt (x : Item) (i : Nat) : Pos := firePos x.c x.cueOffset x.pitch i

/-- The fire position of line `i` of a starvation print. -/
def Starve.fireAt (x : Starve) (i : Nat) : Pos := firePos x.c x.offset x.pitch i

/-- How many of the lines have a fire position at or below `p`. -/
def linesUpTo (f0 : Pos) (pitch lines : Nat) (p : Pos) : Nat :=
  let d := posDiff p f0
  if d < 0 then 0 else min lines (d.toNat / max pitch 1 + 1)

def Item.upTo (x : Item) (p : Pos) : Nat := linesUpTo (x.fireAt 0) x.pitch x.lines p
def Starve.upTo (x : Starve) (p : Pos) : Nat := linesUpTo (x.fireAt 0) x.pitch x.lines p

/-- Passes over skipped ranges. -/
def passSkips (k : Nat) (skips : List (Nat × Nat)) : Nat :=
  skips.foldl (fun k r => if r.1 ≤ k ∧ k < r.2 then r.2 else k) k

/-- The pitch in force of a track: below 256 acts as 256 (R114). -/
def State.pitch (s : State) (n : Nat) : Nat := max 256 (s.act (F.TRK_PITCH n))

/-- The skipped ranges and the next line of a print once its lines from `i` to `j` are skipped too. -/
def skipOver (next : Nat) (skips : List (Nat × Nat)) (i j : Nat) : Nat × List (Nat × Nat) :=
  let l := skips ++ [(max next i, j)]
  (passSkips next l, l)

/-- Skips the lines whose fire positions lie above `a` and at or below `b`: the items are marked with the bits given and
answered as touched (R108, R109), and lines of starvation prints are skipped with them. An item whose first line is skipped
is PRINTING from then on (log entry 13). -/
def State.skipSpan (s : State) (n : Nat) (a b : Pos) (bits : List Nat) : State × Bool :=
  let q := s.queue n
  let hits (x : Item) : Bool := x.running ∧ !x.stopped ∧ x.upTo a < x.upTo b ∧ x.next < x.upTo b
  let hitsS (x : Starve) : Bool := x.upTo a < x.upTo b ∧ x.next < x.upTo b
  let t := s.track n
  let hit := q.items.filter hits
  let any : Bool := !hit.isEmpty || t.starves.any hitsS
  let s := s.setQueue n { q with items := q.items.map (fun x =>
    if hits x then
      let k := skipOver x.next x.skips (x.upTo a) (x.upTo b)
      { x with next := k.1, skips := k.2, phase := .printing }
    else x) }
  let s := s.setTrack n { t with starves := t.starves.map (fun x =>
    if hitsS x then
      let k := skipOver x.next x.skips (x.upTo a) (x.upTo b)
      { x with next := k.1, skips := k.2 }
    else x) }
  (bits.foldl (fun s m => s.markAll n (hit.map Item.id) m) s, any)

/-! ### Rates -/

/-- The rate of one edge period. -/
def rateOf (period : Nat) : Nat := if period = 0 then 0 else hertz * 10 ^ 12 / period

/-- A period inside 1 kHz to 25 MHz. -/
def periodInRange (p : Nat) : Bool := decide (40000 ≤ p) && decide (p ≤ 1000000000)

/-- The largest m with v × 2^m at most 400 MHz (R99). -/
def multOf (v : Nat) : Nat :=
  (List.range 20).foldl (fun b m => if v * 2 ^ m ≤ 400000000 * hertz then m else b) 0

/-- m at an edge, from the v of the edge before: one step towards the chosen m of that v (R99). -/
def multStep (m v : Nat) : Nat :=
  let c := multOf v
  if c < m then m - 1 else if m < c then m + 1 else m

/-- The TIMEOUT of R101 in ps. -/
def State.timeoutPs (s : State) (n : Nat) : Nat :=
  max 24 (s.act (F.TRK_COAST_TIMEOUT n)) * (s.track n).period / 16

/-- Smoothing of R103: the new v from the difference in subpitch between where P_s would be, unclamped, and the edge. -/
def smooth (v period window dt : Nat) : Nat :=
  let m : Int := travel v dt
  let d := (m - 4096).natAbs
  if d ≤ max window 1 then ((v : Int) + ((rateOf period : Int) - v) / 8).toNat else rateOf period

/-- The acquisition condition over the last periods, newest first (R101): ACQ_EDGES − 1 of them, each in range and within
±tol % of the first measured. The answer is their sum and count. -/
def acquired (periods : List Nat) (k tol : Nat) : Option (Nat × Nat) :=
  let w := periods.take k
  let f := w.getLastD 0
  if w.length = k ∧ w.all (fun p => periodInRange p ∧ 100 * (p - f) ≤ tol * f ∧ 100 * (f - p) ≤ tol * f)
  then some (w.foldl (· + ·) 0, k) else none

/-! ### State changes of the synthesiser -/

/-- LOCKED, COAST or REJOIN is left for ACQUIRE with P_s where it stands at `t`, and no absorb left. -/
def State.toAcquire (s : State) (n : Nat) (t : Ps) (cause : Nat) : State :=
  let p := s.psAt n t
  let x := s.track n
  let s := s.setTrack n { x with st := .acquire, ps := p, psTime := t, lossCause := cause, acq := [], acqEdges := 0, r := 0,
                                 v := 0, mult := 0, fromCoast := x.st = .coast }
  s.raise Ev.TRK_LOST n

/-- Entry to LOCKED at rate `v`. -/
def State.toLocked (s : State) (n v mult : Nat) : State :=
  let x := s.track n
  (s.setTrack n { x with st := .locked, v, mult, lockedOnce := true, coastUsed := 0, r := 0, fromCoast := false }).raise
    Ev.TRK_LOCKED n

/-- A jump measured: J is stored, then absorbed or snapped (R106 to R108). `p` is P_s before the edge; P_e stands at the
edge already. `always` snaps whatever ABSORB holds, as after ACQUIRE from COAST. -/
def State.jump (s : State) (n : Nat) (t : Ps) (p : Pos) (always : Bool) : State :=
  let x := s.track n
  let j := posDiff x.pe p
  let sat := max (-(2 ^ 31)) (min (2 ^ 31 - 1) j)
  let s := s.put (F.TRK_JUMP n) (BitVec.ofInt 32 sat).toNat
  let x := s.track n
  if j = 0 ∨ (!always ∧ j.natAbs ≤ s.act (F.TRK_REJOIN_ABSORB n)) then
    (s.setTrack n { x with ps := posAdd x.pe (-j), psTime := t, r := j }).raise Ev.TRK_ABSORB n
  else
    let s := s.setTrack n { x with ps := x.pe, psTime := t, r := 0 }
    let s :=
      if j > 0 then
        let (s, hit) := s.skipSpan n x.h x.pe [1, 2]
        let y := s.track n
        let s := s.setTrack n { y with h := posMax y.h y.pe }
        if hit then s.raise Ev.TRK_SKIP n else s
      else
        let q := s.queue n
        let ids := (q.items.filter (fun y => (y.running ∨ y.phase = .fired) ∧ y.upTo x.pe < y.upTo p)).map Item.id
        s.markAll n ids 1
    s.raise Ev.TRK_JUMP n

/-- An edge moved P_s to P_e in ACQUIRE or by a range loss: the lines H passes are skipped (R109). -/
def State.acquireMove (s : State) (n : Nat) (t : Ps) : State :=
  let x := s.track n
  let h := x.h
  let s := s.setTrack n { x with ps := x.pe, psTime := t }
  if posDiff x.pe h > 0 then
    let (s, hit) := s.skipSpan n h x.pe [2]
    let y := s.track n
    let s := s.setTrack n { y with h := x.pe, reverse := y.reverse && y.back }
    if hit then s.raise Ev.TRK_SKIP n else s
  else s

/-- The rate left 1 kHz to 25 MHz (R101 RANGE). -/
def State.rangeLoss (s : State) (n : Nat) (t : Ps) : State :=
  let s := (s.toAcquire n t 2).raise Ev.TRK_RATE_RANGE n
  let x := s.track n
  (s.setTrack n { x with fromCoast := false }).acquireMove n t

/-- The step test of R104 on one period: against the period before it, unless R92 or R111 excludes that one. -/
def State.stepTest (s : State) (n period : Nat) : State :=
  let x := s.track n
  match x.prev with
  | none => s
  | some p =>
    let d := if period < p then p - period else period - p
    if 100 * d > 5 * max 1 (s.act (F.TRK_LOCK_STEP_MAX n)) * p then
      let s := s.raise Ev.TRK_RATE_STEP n
      if s.act (F.TRK_CTRL_MARK_ON_STEP n) = 1 then s.markAll n x.firedEdge 4 else s
    else s

/-- One forward edge in LOCKED or REJOIN, P_e counted already: rate, range, P_s (R99, R102 to R107). `first`: the first
forward edge after a reversal, whose period is not judged (R111). -/
def State.forwardEdge (s : State) (n : Nat) (t : Ps) (period : Option Nat) (first : Bool) : State :=
  match period with
  | none =>
    let x := s.track n
    s.setTrack n { x with ps := posAdd x.pe (-x.r), psTime := t }
  | some p =>
    let x := s.track n
    let dt := t - x.psTime
    let again := x.st = .rejoin ∧ x.rejoinEdges = 2
    let v := if first ∨ again then rateOf p else smooth x.v p (s.act (F.TRK_LOCK_WINDOW n)) dt
    if !first ∧ !(periodInRange p) then s.rangeLoss n t
    else s.setTrack n { x with v, mult := multStep x.mult x.v, ps := posAdd x.pe (-x.r), psTime := t }

/-- One edge in ACQUIRE (R101, R109). -/
def State.acquireEdge (s : State) (n : Nat) (t : Ps) (back : Bool) (period : Option Nat) : State :=
  let x := s.track n
  if x.fromCoast then
    let p := x.ps
    let s := s.setTrack n { x with fromCoast := false, acq := [], acqEdges := if back then 0 else 1 }
    let s := s.jump n t p true
    s.setTrack n { s.track n with r := 0, ps := x.pe }
  else
    let s := s.acquireMove n t
    let x := s.track n
    if back then s.setTrack n { x with acq := [], acqEdges := 0 } else
    let k := max 4 (s.act (F.TRK_LOCK_ACQ_EDGES n)) - 1
    let acq := match period with
      | some p => if x.acqEdges = 0 then [] else (p :: x.acq).take k
      | none => []
    let s := s.setTrack n { x with acq, acqEdges := x.acqEdges + 1 }
    match acquired acq k (max 1 (s.act (F.TRK_LOCK_ACQ_TOL n))) with
    | none => s
    | some (sum, c) =>
      let v := hertz * 10 ^ 12 * c / sum
      s.toLocked n v (multOf v)

/-- The work of the reversal on a reverse edge (R110 to R112): the lowest P_s, and the items in PRINTING since it began. -/
def State.reverseEdge (s : State) (n : Nat) (t : Ps) : State :=
  let x := s.track n
  let p := posAdd x.pe (-x.r)
  let ids := s.printingIds n
  let s := s.setTrack n { x with
    reverse := true, ps := p, psTime := t, zValid := false
    revLow := if x.reverse then (if posDiff p x.revLow < 0 then p else x.revLow) else p
    revRaised := x.reverse && x.revRaised
    revItems := if x.reverse then (x.revItems ++ ids).eraseDups else ids }
  let x := s.track n
  let depth := posDiff x.h x.revLow
  if !x.revRaised ∧ depth > s.act (F.TRK_REV_TOLERANCE n) * 4096 then
    let s := s.setTrack n { x with revRaised := true }
    (s.markAll n x.revItems 5).raise Ev.TRK_REVERSE n
  else s

/-- REJOIN ends when its second edge has arrived and no absorb remains (R101). -/
def State.rejoinDone (s : State) (n : Nat) : State :=
  let x := s.track n
  if x.st = .rejoin ∧ 2 ≤ x.rejoinEdges ∧ x.r = 0 then s.toLocked n x.v x.mult else s

/-- An edge, an illegal transition or a product cue on a track that is not armed yet in CALL: early motion, once per CALL; an
understudy has its position from its lead, so while the duplex role is open the event waits for it (R75, R124). -/
def State.earlyMotion (s : State) (n : Nat) : State :=
  let x := s.track n
  if s.mode ≠ 1 ∨ x.earlyRaised ∨ s.act (F.TRK_CTRL_ENABLE n) = 0 ∨ s.role = 2 then s
  else if s.dpx.configured ∧ !s.sys.roleDone then s.setTrack n { x with early := true }
  else (s.setTrack n { x with earlyRaised := true }).raise Ev.TRK_EARLY_MOTION n

/-- The duplex role is settled: early motion that waited for it is raised, but on an understudy (R75). -/
def State.earlySettle (s : State) : State :=
  (List.range 16).foldl (fun s n =>
    if (s.track n).early then (s.setTrack n { s.track n with early := false }).earlyMotion n else s) s

/-- The time stamp of a level change accepted now: the instant of its first sample (R90; log entry 82). -/
def State.stamp (s : State) (n : Nat) : Ps := s.now - 625 * (s.act (F.TRK_INPUT_FILTER n) - 1)

/-- The level change has persisted for FILTER samples (R90). -/
def State.persisted (s : State) (c : Sampled) : Bool := decide (s.act (F.TRK_INPUT_FILTER c.track.val) ≤ c.samples)

/-- An edge of an armed track accepted now with time stamp `t`, counted by `d` edges, with or without a period (R90 to R92,
R101): P_e and P_s become what they would be had it been applied at `t`. Every interval between two accepted edges is a
measured period for TIMEOUT, the one across COAST too (log entry 86). -/
def State.edge (s : State) (n : Nat) (t : Ps) (back : Bool) (d : Nat) (measured : Bool) : State :=
  let s := s.settle n s.now
  let p := s.psAt n t
  let vc := s.rateAt n t
  let used := (s.track n).coastUsed + s.psMove n t
  let x := s.track n
  let period := if measured then x.lastEdge.map (fun e => t - e) else none
  let first := !back && x.back
  let judged := if back ∨ first then none else period
  let s := match judged with | some q => s.stepTest n q | none => s
  let x := s.track n
  let pe := if back then x.pe - BitVec.ofNat 60 (4096 * d) else x.pe + BitVec.ofNat 60 (4096 * d)
  let x := { x with
    pe, back, lastEdge := some t, period := period.getD x.period, prev := judged
    zCount := if back then x.zCount else x.zCount + d
    edges := ((t, pe) :: x.edges).take 64 }
  let s := s.setTrack n x
  let s := match x.st with
    | .acquire =>
      let s := s.acquireEdge n t back judged
      if back then s.reverseEdge n t else s
    | .coast =>
      let s := s.setTrack n { x with st := .rejoin, rejoinEdges := 1, coastUsed := used, ps := p, psTime := t, v := vc }
      let s := s.jump n t p false
      if back then s.reverseEdge n t else s.rejoinDone n
    | .locked => if back then s.reverseEdge n t else s.forwardEdge n t period first
    | .rejoin =>
      let s := s.setTrack n { x with rejoinEdges := x.rejoinEdges + 1 }
      if back then s.reverseEdge n t else (s.forwardEdge n t period first).rejoinDone n
  let s := s.settle n s.now
  let x := s.track n
  s.setTrack n { x with firedEdge := [] }

/-- The commands waiting hold an edge of track `n` that is accepted in this 625 ps step; `p` judges its direction and its
illegality (R122). -/
def State.edgeWaits (s : State) (n : Nat) (p : Option Bool → Bool) : Bool :=
  s.pending.any (fun c => match c with
    | .encoderEdge e a t => e.track.val = n ∧ t / 625 = s.now / 625 ∧ s.persisted e ∧ p (some a)
    | .illegalQuadTransition e t => e.track.val = n ∧ t / 625 = s.now / 625 ∧ s.persisted e ∧ p none
    | _ => false)

/-- An edge of this step is still to come on an armed track: it goes before what meets it (R122). -/
def State.edgeComes (s : State) (n : Nat) : Bool := (s.track n).armed ∧ s.edgeWaits n (fun _ => true)

/-- A reverse edge of this step is still to come: it wins over a line reached (R122). -/
def State.reverseComes (s : State) (n : Nat) : Bool :=
  (s.track n).armed ∧ s.edgeWaits n (fun a => match a with
    | some a => a = (s.act (F.TRK_INPUT_DIR_INVERT n) = 1)
    | none => (s.track n).back)

/-- LOCKED or REJOIN with no edge within TIMEOUT (R101); an edge of the same step wins (R122). -/
def State.synthTimeout (s : State) (n : Nat) : State :=
  let x := s.track n
  let due : Bool := match x.lastEdge with | none => false | some e => decide (e + s.timeoutPs n ≤ s.now)
  if !x.armed ∨ !due ∨ !(x.st = .locked ∨ x.st = .rejoin) ∨ s.edgeComes n then s else
  let s := s.settle n s.now
  if x.st = .rejoin ∨ 0 < s.act (F.TRK_COAST_DISTANCE n) then
    let p := s.psAt n s.now
    let x := s.track n
    (s.setTrack n { x with
      st := .coast, ps := p, psTime := s.now, lossCause := 1
      coastUsed := if x.st = .locked then 0 else x.coastUsed }).raise Ev.TRK_LOST n
  else s.toAcquire n s.now 1

/-- The coast budget is spent, or v has fallen to 1 kHz (R101); an edge of the same step wins (R122). -/
def State.coastEnd (s : State) (n : Nat) : State :=
  let x := s.track n
  let dt := s.now - x.psTime
  let slow : Bool := match decelEnd x.v (s.act (F.TRK_DECEL n)) with | none => false | some e => decide (e ≤ dt)
  if x.armed ∧ x.st = .coast ∧ !(s.edgeComes n) ∧ (slow ∨ s.coastLeft n ≤ s.psMove n s.now) then
    ((s.settle n s.now).toAcquire n s.now 3).raise Ev.TRK_COAST_END n
  else s

/-- A rising Z edge moving forward closes a revolution (R93). A spell of Z_MODE IGNORE leaves the count running (log entry
83). -/
def State.zEdge (s : State) (n : Nat) : State :=
  let x := s.track n
  if !x.armed ∨ s.act (F.TRK_INPUT_Z_MODE n) ≠ 1 ∨ x.back then s else
  let want := s.act (F.TRK_Z n)
  let s := if x.zValid ∧ want ≠ 0 ∧ x.zCount ≠ want then (s.markAll n x.firedZ 9).raise Ev.TRK_Z_MISMATCH n else s
  s.setTrack n { s.track n with zCount := 0, zValid := true, firedZ := [] }

/-- Arms track `n` (R125, R190): a track with ENABLE 0 stays unarmed (R124). -/
def State.trkArm (s : State) (n : Nat) : State :=
  if s.act (F.TRK_CTRL_ENABLE n) = 0 then s else
  let x := s.track n
  (s.put (F.WQ_STARVED n) 0).setTrack n { x with
    armed := true, st := .acquire, lockedOnce := false, reverse := false, overspeed := false, pe := 0, ps := 0
    psTime := s.now, h := 0, v := 0, mult := 0, lastEdge := none, prev := none, acq := [], acqEdges := 0
    fromCoast := false, r := 0, zValid := false, lastFire := none, lastBind := none, early := false
    cues := [], cueStable := x.cueLevel, late := [], starves := [], unbound := [], aligned := false, alignRun := 0, edges := []
    firedEdge := [], firedZ := [], back := false, coastUsed := 0, perf := false, bindStop := false }

/-- Disarms track `n` (R101, R125). -/
def State.trkDisarm (s : State) (n : Nat) : State :=
  let x := s.track n
  s.setTrack n { early := x.early, earlyRaised := x.earlyRaised, cueLevel := x.cueLevel, cueStable := x.cueStable
                 cfgPending := x.cfgPending }

/-! ### Cue inputs -/

/-- Cue input `k` of a track: EN, EDGE and ROLE (R141). -/
def State.cueEn (s : State) (n k : Nat) : Bool := (s.act (F.TRK_CUE_CFG n)).testBit (4 * k + 3)
def State.cueEdge (s : State) (n k : Nat) : Bool := (s.act (F.TRK_CUE_CFG n)).testBit (4 * k + 2)
def State.cueInhibits (s : State) (n k : Nat) : Bool :=
  bits (s.act (F.TRK_CUE_CFG n)) (4 * k + 1) (4 * k) = 1 ∧ s.act (F.TRK_CUE_BIND_SEL n) ≠ k

/-- An INHIBIT input of the track is at its active level (R94). -/
def State.inhibited (s : State) (n : Nat) : Bool :=
  (List.range 8).any (fun k => s.cueEn n k ∧ s.cueInhibits n k ∧
    ((s.track n).cueLevel.testBit k = !s.cueEdge n k))

/-- Applies the staged set of a track in its curtain window (R123, R188, R768): a cue input that it
switches off drops its transition (R141), and a track that it takes out of use leaves the synthesiser table (R124; log entry
84). -/
def State.trkApply (s : State) (n : Nat) : State :=
  let s := [F.TRK_CTRL n, F.TRK_INPUT n, F.TRK_PITCH n, F.TRK_LOCK n, F.TRK_COAST n, F.TRK_DECEL n, F.TRK_REJOIN n,
    F.TRK_REV n, F.TRK_SCHED n, F.TRK_CUE n, F.TRK_CUE_CFG n, F.TRK_Z n, F.WQ_CFG n, F.WQ_STARVE_OFFSET n].foldl
      State.apply s
  let s := s.setTrack n { s.track n with cfgPending := false, cues := (s.track n).cues.filter (fun c => s.cueEn n c.1) }
  if (s.track n).armed ∧ s.act (F.TRK_CTRL_ENABLE n) = 0 then s.trkDisarm n else s

end Sys2Proof.Machine
end

