-- ==== Sys2Proof/Machine/Nozzle.lean ====
section
/-! DEFINITION. Nozzle conditioning: the map pages, forming head lines and the delay store (R310 to R333). -/

namespace Sys2Proof.Machine

/-! ### Pages -/

/-- The identity curve (R315). -/
def identityCurve : Nat := 0xFEDCBA9876543210

def NzPage.entry (p : NzPage) (i : Nat) : Nat := tblGet 0 p.entries i
def NzPage.curve (p : NzPage) (i : Nat) : Nat := tblGet identityCurve p.curves i
def NzPage.wset (p : NzPage) (i : Nat) : Nat := tblGet 0 p.wsets i

/-- Page 0 or 1. -/
def State.nzPage (s : State) (k : Nat) : NzPage := if k = 0 then s.nzc.page0 else s.nzc.page1
def State.setNzPage (s : State) (k : Nat) (p : NzPage) : State :=
  { s with nzc := if k = 0 then { s.nzc with page0 := p } else { s.nzc with page1 := p } }

def State.activePage (s : State) : Nat := s.get F.NZC_STATUS_ACTIVE_PAGE
def State.shadowPage (s : State) : Nat := 1 - s.activePage

/-- The page that a line of track `n` uses now (R328). -/
def State.linePage (s : State) (n : Nat) : Nat :=
  match s.nzc.swap with
  | some w => if w.switched.testBit n then s.shadowPage else s.activePage
  | none => s.activePage

/-- An entry as conditioning uses it: an uncorrectable entry acts as MISSING with weight set 0; a nozzle whose curve or
weight set is uncorrectable acts as GOOD with the identity curve (R331). -/
structure Nozzle where
  offset : Nat
  curve : Nat
  wset : Nat
  /-- 0 GOOD, 1 WEAK, 2 MISSING -/
  state : Nat
  deriving DecidableEq, Repr

def NzPage.nozzle (p : NzPage) (i : Nat) : Nozzle :=
  let e := p.entry i
  let o := bits e 31 12
  if p.badEntries.contains i then ⟨o, identityCurve, p.wset 0, 2⟩
  else if p.badCurves.contains (bits e 11 8) ∨ p.badWsets.contains (bits e 7 4) then ⟨o, identityCurve, 0, 0⟩
  else ⟨o, p.curve (bits e 11 8), p.wset (bits e 7 4), bits e 1 0⟩

/-- Output level of a curve for a 4-bit level (R315). -/
def curveAt (c v : Nat) : Nat := bits c (4 * v + 3) (4 * v)

/-- The weight of the neighbour `j` places above or below (R315). -/
def weight (w : Nat) (j : Int) : Nat :=
  if j = -2 then bits w 24 20 else if j = -1 then bits w 19 15 else if j = 0 then bits w 14 10
  else if j = 1 then bits w 9 5 else bits w 4 0

/-- share(x, w) of R318. -/
def share (x w : Nat) : Nat := (x * w + 8) / 16

/-- q before clipping (R316). -/
def delayOf (o pitch : Nat) : Nat := (o + pitch / 2) / max 1 pitch

/-! ### Head lines -/

/-- Sum of the shares that nozzle `m` receives from its neighbours (R318). -/
def received (nz : Nat → Nozzle) (own : Nat → Nat) (count m : Nat) : Nat :=
  if (nz m).state = 2 then 0 else
  ([2, 1, -1, -2] : List Int).foldl (fun g (d : Int) =>
    let k : Int := m + d
    if 0 ≤ k ∧ k < count ∧ (nz k.toNat).state ≠ 0 then g + share (own k.toNat) (weight (nz k.toNat).wset (-d)) else g) 0

/-- The 4-bit sums of a head line (R318): `lv k` is the expanded composed level of nozzle k's dot. -/
def headLevels (nz : Nat → Nozzle) (lv : Nat → Nat) (count : Nat) : List Nat :=
  let own (k : Nat) : Nat := curveAt (nz k).curve (lv k)
  (List.range count).map (fun k =>
    let kept := match (nz k).state with
      | 0 => own k
      | 2 => 0
      | _ => share (own k) (weight (nz k).wset 0)
    min 15 (kept + received nz own count k))

/-- Packs levels of `b` bits, the first in the lowest bits, into whole bytes (R353). -/
def packLevels (b : Nat) (l : List Nat) : List Byte :=
  let v := l.foldr (fun x v => x % 2 ^ b + 2 ^ b * v) 0
  leBytes ((l.length * b + 7) / 8) v

/-- The dot that nozzle `k` of head `h` serves (R312). -/
def State.nozzleDot (s : State) (h k : Nat) : Nat :=
  let f := s.get (F.NZC_HEAD_C_FIRST_DOT h)
  if s.flag (F.NZC_HEAD_A_REVERSED h) then f + s.get (F.NZC_HEAD_A_COUNT h) - 1 - k else f + k

/-- The nozzles of a head on a page. -/
def State.headNozzle (s : State) (page h : Nat) (k : Nat) : Nozzle :=
  (s.nzPage page).nozzle (s.get (F.NZC_HEAD_B_FIRST_NOZZLE h) + k)

/-- q of nozzle `k` (R316). -/
def State.nozzleQ (s : State) (page h pitch k : Nat) : Nat :=
  min (delayOf (s.headNozzle page h k).offset pitch) (s.get (F.NZC_HEAD_C_DELAY_LINES h))

/-- A level of a plane of composed levels; a dot or plane not composed gives 0 (R312). -/
def levelAt (planes : List (List Nat)) (p x : Nat) : Nat := (planes.getD p []).getD x 0

/-- The head line of head `h` for one line: `src q` answers the composed planes of the line `q` lines before (R318). -/
def State.headLine (s : State) (page h pitch : Nat) (depth : Nat) (src : Nat → List (List Nat)) : List Byte :=
  let n := s.get (F.NZC_HEAD_A_COUNT h)
  let p := s.get (F.NZC_HEAD_A_PLANE h)
  let lv (k : Nat) : Nat := convert (depthBits depth) 4 (levelAt (src (s.nozzleQ page h pitch k)) p (s.nozzleDot h k))
  let b := depthBits (s.get (F.NZC_HEAD_A_OUT_DEPTH h))
  packLevels b ((headLevels (s.headNozzle page h) lv n).map (convert 4 b))

/-- The understudy head line of a layout for a head and a page, with q 0 for every nozzle (R323). -/
def State.underHead (s : State) (page h : Nat) (ly : Layout) : List Byte :=
  let n := s.get (F.NZC_HEAD_A_COUNT h)
  let p := s.get (F.NZC_HEAD_A_PLANE h)
  let u := ly.underLevels
  let lv (k : Nat) : Nat := convert (depthBits ly.depth) 4 (levelAt u p (s.nozzleDot h k))
  let b := depthBits (s.get (F.NZC_HEAD_A_OUT_DEPTH h))
  packLevels b ((headLevels (s.headNozzle page h) lv n).map (convert 4 b))

/-- The layout with its understudy head lines of a page made (R323). -/
def State.formsFor (s : State) (page : Nat) (ly : Layout) : Layout :=
  { ly with forms := (s.headsOf ly.track).foldl (fun t h => tblPut [] t (256 * page + h) (s.underHead page h ly)) ly.forms }

/-- The layout with the understudy head lines that an install makes: for the active page, and for a shadow that PREPARE has
checked (R323, R332). -/
def State.formsMade (s : State) (ly : Layout) : Layout :=
  let ly := s.formsFor s.activePage ly
  if 2 ≤ s.get F.NZC_STATUS_SHADOW then s.formsFor s.shadowPage ly else ly

/-- Lines that the delay store keeps for a track. -/
def State.delayDepth (s : State) (n : Nat) : Nat :=
  (s.headsOf n).foldl (fun m h => max m (s.get (F.NZC_HEAD_C_DELAY_LINES h))) 0

/-- Records a line in the delay store of its track (R317, R323). -/
def State.delayRecord (s : State) (n : Nat) (d : DelayLine) : State :=
  let l := (d :: tblGet [] s.nzc.delay n).take (s.delayDepth n)
  { s with nzc := { s.nzc with delay := tblPut [] s.nzc.delay n l } }

/-- The composed planes `q` lines before line `i` of an item, for head `h`: the line itself, or one in the delay store; a line
not there or with a parity error gives 0 (R312, R316, R323, R331). -/
def State.delayed (s : State) (n item : Nat) (c : Pos) (i : Nat) (planes : List (List Nat)) (h q : Nat) : List (List Nat) :=
  if q = 0 then planes else if i < q then [] else
  match (tblGet [] s.nzc.delay n).find? (fun d => d.item = item ∧ d.c = c ∧ d.index = i - q) with
  | some d => if d.bad then [] else if d.replaced.contains h then d.under else d.planes
  | none => []

/-- Some nozzle of the track's heads has an unclipped q above its Q_h (R316). -/
def State.clips (s : State) (page n pitch : Nat) : Bool :=
  (s.headsOf n).any (fun h => (List.range (s.get (F.NZC_HEAD_A_COUNT h))).any (fun k =>
    s.get (F.NZC_HEAD_C_DELAY_LINES h) < delayOf (s.headNozzle page h k).offset pitch))

/-- Dots of line `i` that fall beyond the item's last line (R319). -/
def State.tailDots (s : State) (page n pitch i lines : Nat) (planes : List (List Nat)) : Nat :=
  ((s.headsOf n).map (fun h => ((List.range (s.get (F.NZC_HEAD_A_COUNT h))).filter (fun k =>
    let q := s.nozzleQ page h pitch k
    0 < q ∧ lines ≤ i + q ∧ levelAt planes (s.get (F.NZC_HEAD_A_PLANE h)) (s.nozzleDot h k) ≠ 0)).length)).foldl (· + ·) 0

/-- The swap changes q of some nozzle of the track's heads (R329). -/
def State.swapMovesQ (s : State) (n pitch : Nat) : Bool :=
  (s.headsOf n).any (fun h => (List.range (s.get (F.NZC_HEAD_A_COUNT h))).any (fun k =>
    s.nozzleQ 0 h pitch k ≠ s.nozzleQ 1 h pitch k))

/-- Track `n` switches to the shadow page (R328, R329). -/
def State.nzSwitch (s : State) (n : Nat) : State :=
  match s.nzc.swap with
  | none => s
  | some w =>
    if w.switched.testBit n then s else
    let s : State := { s with nzc := { s.nzc with swap := some { w with switched := w.switched ||| 2 ^ n } } }
    let cut : List Item := (s.queue n).items.filter (fun x => x.phase = .printing ∧ s.swapMovesQ n x.pitch)
    if s.flag F.NZC_CTRL_MARK_DELAY_STEP ∧ !cut.isEmpty then (s.markAll n (cut.map Item.id) 15).raise Ev.NZC_DELAY_STEP n
    else s

/-- A line of track `n` that leaves the forge is on the new page of a line swap: it leaves after the cycle S (R332), and not
before the line that a lead named (R330). -/
def NzSwap.reaches (w : NzSwap) (now : Ps) (n : Nat) (fire : Pos) : Bool :=
  now ≠ w.at_ && (w.named.filter (fun x => x.1 = n)).all (fun x => decide (posDiff fire x.2 ≥ 0))

/-- Every armed track has switched (R328). -/
def State.swapDone (s : State) (w : NzSwap) : Bool :=
  (List.range 16).all (fun n => w.switched.testBit n ∨ !(s.track n).armed ∨ !w.curtain)

/-- The pages exchange roles (R328). -/
def State.nzExchange (s : State) : State :=
  let s := { s with nzc := { s.nzc with swap := none } }
  let s := s.put F.NZC_STATUS_ACTIVE_PAGE s.shadowPage
  let clean (p : NzPage) : NzPage := { p with badEntries := [], badCurves := [], badWsets := [] }
  let s := { s with nzc := { s.nzc with page0 := clean s.nzc.page0, page1 := clean s.nzc.page1 } }
  ((s.put F.NZC_STATUS_SHADOW 0).raise Ev.NZC_SWAPPED)

/-- A 32-bit entry that R326 and R327 refuse. -/
def entryBad (e : Nat) : Bool := bits e 1 0 = 3 ∨ bits e 3 2 ≠ 0

/-- A weight set that R327 refuses. -/
def wsetBad (w : Nat) : Bool := 2 ^ 25 ≤ w ∨ (List.range 5).any (fun i => 16 < bits w (5 * i + 4) (5 * i))

/-- The first failure of a page under R327: code and index. -/
def NzPage.fault (p : NzPage) : Option (Nat × Nat) :=
  match p.entries.find? (fun e => entryBad e.2) with
  | some e => some (6, e.1)
  | none => (p.wsets.find? (fun w => wsetBad w.2)).map (fun w => (7, w.1))

/-- Delay store bits allocated (R317, R340). -/
def State.delayBits (s : State) : Nat :=
  ((List.range 256).map (fun h => if s.flag (F.NZC_HEAD_A_VALID h) then
    s.get (F.NZC_HEAD_A_COUNT h) * 4 * s.get (F.NZC_HEAD_C_DELAY_LINES h) else 0)).foldl (· + ·) 0

/-! ### Operations (R325 to R330) -/

/-- The mode and role let an operation run: `mirrored` for one that the lead sent (R330). -/
def State.nzReady (s : State) (mirrored : Bool) : Bool :=
  s.mode = 2 ∨ s.mode = 3 ∨ s.mode = 7 ∨ (s.mode = 4 ∧ mirrored)

/-- An operation ends with its code and index (R325). -/
def State.nzEnd (s : State) (code index : Nat) : State :=
  let s := ({ s with nzc := { s.nzc with op := none } } : State).put F.NZC_STATUS_BUSY 0
  ((s.put F.NZC_RESULT_CODE code).put F.NZC_RESULT_INDEX index).raise Ev.NZC_OP_DONE

/-- An operation that does not run ends at once with its code. -/
def State.nzRefuse (s : State) (code : Nat) : State :=
  ((s.put F.NZC_RESULT_CODE code).put F.NZC_RESULT_INDEX 0xFFFFF).raise Ev.NZC_OP_DONE

/-- Starts COPY, LOAD or PREPARE (R325 to R327). -/
def State.nzStart (s : State) (op : Nat) (mirror : Option Nat) : State :=
  let sh := s.get F.NZC_STATUS_SHADOW
  if s.nzc.op.isSome then s.nzRefuse 1
  else if !(s.nzReady mirror.isSome) then s.nzRefuse 8
  else if sh = 1 ∨ sh = 3 then s.nzRefuse 2
  else
    let s := ({ s with nzc := { s.nzc with op := some { op, mirror, at_ := s.now } } } : State).put F.NZC_STATUS_BUSY 1
    s.put F.NZC_STATUS_SHADOW (if op = 3 then 1 else 0)

/-- COPY completes (R325). -/
def State.nzCopied (s : State) : State :=
  let p := s.nzPage s.activePage
  let p := { p with badEntries := [], badCurves := [], badWsets := [] }
  ((s.setNzPage s.shadowPage p).put F.NZC_STATUS_SHADOW 0).nzEnd 0 0xFFFFF

/-- Installed DRAM in bytes. -/
def State.dramSize (s : State) : Nat := (s.get (F.DMC_MODULE_CAPACITY 0) + s.get (F.DMC_MODULE_CAPACITY 1)) * 2 ^ 30

/-- A LOAD names a range that is there (R326). -/
def State.nzLoadRange (s : State) : Bool :=
  let kind := s.get F.NZC_LOAD_CFG_KIND
  let n := s.get F.NZC_LOAD_COUNT_COUNT
  let a := s.get F.NZC_LOAD_ADDR_ADDR
  let top := if kind = 0 then 1048576 else 16
  decide (kind ≠ 3 ∧ n ≠ 0 ∧ s.get F.NZC_LOAD_CFG_FIRST + n ≤ top ∧ a % 64 = 0 ∧
    a + n * (if kind = 1 then 8 else 4) ≤ s.dramSize)

/-- LOAD completes (R326) once the controllers serve its read: on RANGE or CRC no part of it takes effect. -/
def State.nzLoaded (s : State) : State :=
  let kind := s.get F.NZC_LOAD_CFG_KIND
  let first := s.get F.NZC_LOAD_CFG_FIRST
  let n := s.get F.NZC_LOAD_COUNT_COUNT
  let a := s.get F.NZC_LOAD_ADDR_ADDR
  let size := if kind = 1 then 8 else 4
  if !s.nzLoadRange then s.nzEnd 5 0xFFFFF
  else
    let l := s.dramBytes a (n * size)
    if crc32c l ≠ s.get F.NZC_LOAD_CRC then s.nzEnd 4 0xFFFFF
    else
      let p := s.nzPage s.shadowPage
      let p := (List.range n).foldl (fun (p : NzPage) i =>
        let v := leAt l (i * size) size
        if kind = 0 then { p with entries := tblPut 0 p.entries (first + i) v }
        else if kind = 1 then { p with curves := tblPut identityCurve p.curves (first + i) v }
        else { p with wsets := tblPut 0 p.wsets (first + i) v }) p
      ((s.setNzPage s.shadowPage p).put F.NZC_STATUS_SHADOW 0).nzEnd 0 0xFFFFF

/-- PREPARE completes (R327, R331): `ecc` an uncorrectable error met at an index. -/
def State.nzPrepared (s : State) (ecc : Option Nat) : State :=
  match ecc, (s.nzPage s.shadowPage).fault with
  | some i, _ => ((s.put F.NZC_STATUS_SHADOW 0).raise Ev.NZC_MAP_UNCORRECTABLE).nzEnd 6 i
  | none, some (c, i) => (s.put F.NZC_STATUS_SHADOW 0).nzEnd c i
  | none, none =>
    let s : State := { s with frg := { s.frg with layouts := s.frg.layouts.map (s.formsFor s.shadowPage) } }
    (s.put F.NZC_STATUS_SHADOW 2).nzEnd 0 0xFFFFF

/-- SWAP_LINE or SWAP_CURTAIN is accepted at S (R328): idle tracks switch at once. -/
def State.nzSwap (s : State) (curtain : Bool) (mirror : Option Nat) : State :=
  let sh := s.get F.NZC_STATUS_SHADOW
  if s.nzc.op.isSome then s.nzRefuse 1
  else if !(s.nzReady mirror.isSome) then s.nzRefuse 8
  else if sh = 1 ∨ sh = 3 then s.nzRefuse 2
  else if sh ≠ 2 then s.nzRefuse 3
  else
    let op := if curtain then 5 else 4
    let s := { s with nzc := { s.nzc with
      op := some { op, mirror, at_ := s.now }, swap := some { curtain, switched := 0, mirror, at_ := s.now }
      firstNew := 0xFFFF } }
    let s := (s.put F.NZC_STATUS_BUSY 1).put F.NZC_STATUS_SHADOW 3
    (List.range 16).foldl (fun s n => if s.inCurtain n then s.nzSwitch n else s) s

/-- A HOLD cause or a device reset while BUSY (R332): the operation ends ABORTED and the shadow is OPEN. -/
def State.nzAbort (s : State) : State :=
  if s.nzc.op.isNone then s else
  (({ s with nzc := { s.nzc with swap := none, firstNew := 0 } } : State).put F.NZC_STATUS_SHADOW 0).nzEnd 9 0xFFFFF

/-- PREPARE started in the present cycle: a PATCH of that cycle is ordered before it (R332). -/
def State.prepareNow (s : State) : Bool := s.nzc.op.any (fun o => o.op = 3 ∧ o.at_ = s.now)

/-- The code that a PATCH ends with, 0 where it is stored: `mirrored` for one that the lead sent (R326, R330, R332). -/
def State.patchCode (s : State) (v : Nat) (mirrored : Bool) : Nat :=
  let sh := s.get F.NZC_STATUS_SHADOW
  if !(s.nzReady mirrored) then 8
  else if (sh = 1 ∧ !s.prepareNow) ∨ sh = 3 then 2
  else if entryBad v then 6
  else 0

/-- A write of NZC_PATCH_ENTRY (R326, R338). -/
def State.nzPatch (s : State) (v : Nat) (mirrored : Bool) : State :=
  let i := s.get F.NZC_PATCH_INDEX_INDEX
  let c := s.patchCode v mirrored
  let s := (s.put F.NZC_RESULT_CODE c).put F.NZC_RESULT_INDEX (if c = 6 then i else 0xFFFFF)
  if c ≠ 0 then s else
  let p := s.nzPage s.shadowPage
  let s := s.setNzPage s.shadowPage { p with entries := tblPut 0 p.entries i v }
  if s.prepareNow then s else s.put F.NZC_STATUS_SHADOW 0

end Sys2Proof.Machine
end

