-- ==== Sys2Proof/Machine/Stage.lean ====
section
/-! DEFINITION. Stage lanes: lane states, transmit buffers, FIRE blocks, spares and return (R343 to R381). -/

namespace Sys2Proof.Machine

def State.lane (s : State) (k : Nat) : Lane := tblGet {} s.stg.lanes k
def State.setLane (s : State) (k : Nat) (x : Lane) : State :=
  { s with stg := { s.stg with lanes := tblPut {} s.stg.lanes k x } }
def State.headRun (s : State) (h : Nat) : HeadRun := tblGet {} s.stg.heads h
def State.setHeadRun (s : State) (h : Nat) (x : HeadRun) : State :=
  { s with stg := { s.stg with heads := tblPut {} s.stg.heads h x } }

/-- Lane state codes of R379: 0 OFF, 1 DETECT, 2 ALIGN, 3 READY, 4 UP, 5 DOWN, 6 FAILED. -/
def State.laneState (s : State) (k : Nat) : Nat := s.get (F.STG_LANE_STATUS_STATE k)
def State.laneUp (s : State) (k : Nat) : Bool := k < 32 ∧ s.laneState k = 4

/-- The HEADS section names the lane. -/
def State.laneNamed (s : State) (k : Nat) : Bool := k < 32 ∧ s.get (F.STG_LANE_STATUS_PARTNER k) ≠ 0

/-- Puts a lane in a state with its cause. -/
def State.setLaneState (s : State) (k st cause : Nat) : State :=
  let s := (s.put (F.STG_LANE_STATUS_STATE k) st).put (F.STG_LANE_STATUS_CAUSE k) cause
  let s := s.setLane k { s.lane k with since := s.now }
  let up := s.get F.STG_STATUS
  s.put F.STG_STATUS (if st = 4 then up ||| 2 ^ k else up &&& (2 ^ 32 - 1 - 2 ^ k))

/-! ### Roles, keys and credit -/

/-- ROLE of R349 in effect for a track (R355): 0 PRIMARY, 1 STANDBY, 2 DRY, 3 MUTED. -/
def State.laneRole (s : State) (n : Nat) : Nat :=
  if s.mode = 4 then 1 else if s.mode = 2 ∨ s.mode = 3 then (if (s.track n).perf then 0 else 2) else 3

/-- LINE_KEY of a fire position (R349): bits [47:8]. -/
def lineKey (f : Pos) : Nat := bits f.toNat 47 8

/-- Key K is after key L (R349). -/
def keyAfter (k l : Nat) : Bool :=
  let d := (k + 2 ^ 40 - l) % 2 ^ 40
  decide (1 ≤ d) && decide (d < 2 ^ 39)

/-- Bytes of a head line in a transmit buffer; understudy forms take none (R390). -/
def Lane.fill (x : Lane) : Nat := (x.buf.map (fun f => if f.form then 0 else f.payload.length)).foldl (· + ·) 0

/-- Blocks of a frame from SOF to EOF (R350, R360). -/
def Frame.blocks (f : Frame) : Nat := 3 + (f.payload.length + 7) / 8

/-- A frame may start (R360). -/
def Lane.mayStart (x : Lane) (f : Frame) : Bool := decide ((x.sent + f.blocks + 2 ^ 32 - x.credit) % 2 ^ 32 ≤ x.window)

/-- The frame of a lane's buffer that leaves next (R357): no LINE or DRY frame of a muted track does (R355). -/
def State.laneFront (s : State) (k : Nat) : Option Frame := (s.lane k).buf.find? (fun f => f.fence || decide (s.laneRole f.track ≠ 3))

/-- A block slot of lane `k` in ps, 66 bits at the quad's rate (R344). -/
def State.slotPs (s : State) (k : Nat) : Nat :=
  [52800, 26400, 21120, 13200, 10560, 8250, 6600, 6400, 5280, 4125].getD (s.get (F.STG_QUAD_RATE (k / 4))) 52800

/-- Shows FILL and CREDIT of a lane (R379), and notes since when its first frame has waited for credit (R360). -/
def State.laneShow (s : State) (k : Nat) : State :=
  let x := s.lane k
  let used := (x.sent + 2 ^ 32 - x.credit) % 2 ^ 32
  let waits : Bool := match s.laneFront k with | none => false | some f => !(x.mayStart f)
  let s := s.setLane k { x with stalled := if waits then some (x.stalled.getD s.now) else none }
  let s := if waits then s else s.put (F.STG_LANE_STATUS_CREDIT_STALL k) 0
  (s.put (F.STG_LANE_FILL_BYTES k) x.fill).put (F.STG_LANE_CREDIT_BLOCKS k) (min 0xFFFF (x.window - used))

/-! ### Heads on lanes -/

def State.primaryLane (s : State) (h : Nat) : Nat := s.get (F.STG_HEAD_CFG_LANE h)
def State.spareLane (s : State) (h : Nat) : Nat := s.get (F.STG_HEAD_CFG_SPARE h)
def State.headValid (s : State) (h : Nat) : Bool := s.flag (F.STG_HEAD_CFG_VALID h)

/-- Heads running on lane `k`. -/
def State.headsOn (s : State) (k : Nat) : List Nat :=
  (List.range 256).filter (fun h => s.headValid h ∧ (s.headRun h).lane = k)

/-- FAILED_OVER and CARRYING_SPARE of every lane, from where the heads run (R368, R379). -/
def State.laneFlags (s : State) : State :=
  (List.range 32).foldl (fun s k =>
    let hs := (List.range 256).filter (fun h => s.headValid h)
    let past := hs.any (fun h => s.primaryLane h = k ∧ s.spareLane h ≠ 0xFF ∧ (s.headRun h).lane = s.spareLane h)
    let carry := hs.any (fun h => s.spareLane h = k ∧ (s.headRun h).lane = k)
    (s.put (F.STG_LANE_STATUS_FAILED_OVER k) (bit past)).put (F.STG_LANE_STATUS_CARRYING_SPARE k) (bit carry)) s

/-- Moves head `h` to a lane with its buffered frames whose FIRE blocks have not been sent, ahead of new frames; one that was in
transmission on a lost lane is sent again whole (R368). -/
def State.moveHead (s : State) (h to_ : Nat) : State :=
  let old := (s.headRun h).lane
  let from_ := if old = 0xFF then (if s.primaryLane h = to_ then s.spareLane h else s.primaryLane h) else old
  let x := s.lane from_
  let live (f : Frame) : Bool := !(x.fires.any (fun g => g.track = f.track ∧ g.fire = f.fire))
  let cut := if !s.laneUp from_ ∧ x.since < x.txEnd then x.tx.toList else []
  let mine := (cut ++ x.buf).filter (fun f => f.head = h ∧ !f.fence ∧ live f)
  let s := if from_ < 32 then s.setLane from_ { x with buf := x.buf.filter (fun f => f.fence ∨ f.head ≠ h) } else s
  let s := if to_ < 32 then s.setLane to_ { s.lane to_ with buf := mine ++ (s.lane to_).buf } else s
  let s := s.setHeadRun h { s.headRun h with lane := to_ }
  ((if from_ < 32 then s.laneShow from_ else s).laneShow (min to_ 31))

/-- The heads of a lane that has gone DOWN move to their other lane when it is UP; a head with none UP has no working path
(R368). -/
def State.failover (s : State) (k : Nat) : State :=
  let hs := s.headsOn k
  let s := hs.foldl (fun s h =>
    let other := if s.primaryLane h = k then s.spareLane h else s.primaryLane h
    if s.laneUp other then s.moveHead h other else s.setHeadRun h { s.headRun h with lane := 0xFF }) s
  let s := s.laneFlags
  if hs.any (fun h => (s.headRun h).lane ≠ 0xFF) then s.raise Ev.STG_FAILOVER k else s

/-- An UP lane goes DOWN (R367 to R369). -/
def State.laneDown (s : State) (k cause : Nat) : State :=
  let x := s.lane k
  let lost := x.fires.filter (fun g => g.role = 0 ∧ x.lastUp < g.at_)
  let s := (s.setLaneState k 5 cause).raise Ev.STG_LANE_DOWN k
  let s := s.failover k
  if lost = [] then s else
  (lost.foldl (fun s g => s.mark g.track g.item 15) s).raise Ev.STG_LANE_LOST k

/-- Heads of track `n` return to their primary lane at its curtain window: by themselves with AUTO_RETURN 1, else after RETURN
(R370). -/
def State.lanesReturn (s : State) (n : Nat) : State :=
  let hs := (s.headsOf n).filter (fun h => (s.headRun h).lane = s.spareLane h ∧ s.spareLane h ≠ 0xFF ∧
    s.laneUp (s.primaryLane h) ∧ (s.flag F.STG_CTRL_AUTO_RETURN ∨ (s.lane (s.primaryLane h)).mayReturn))
  if hs = [] then s else (hs.foldl (fun s h => s.moveHead h (s.primaryLane h)) s).laneFlags

/-- The same for every track that is in its curtain window. -/
def State.lanesReturnNow (s : State) : State :=
  (List.range 16).foldl (fun s n => if s.inCurtain n then s.lanesReturn n else s) s

/-- A lane comes UP (R346, R368, R370): heads with no working path move to it at once. -/
def State.laneComesUp (s : State) (k : Nat) : State :=
  let s := s.setLaneState k 4 0
  let x := s.lane k
  let s := s.setLane k { x with sent := 0, credit := 0, seq := 0, lastUp := s.now, crcRun := 0, stalled := none
                                mayReturn := false, fires := [], lastKey := [], tx := none, txEnd := 0
                                buf := x.buf.filter (fun f => !f.fence) }
  let s := (s.laneShow k).raise Ev.STG_LANE_UP k
  if s.mode = 1 ∨ s.sys.printReset then s else
  let hs := (List.range 256).filter (fun h => s.headValid h ∧ (s.headRun h).lane = 0xFF ∧
    (s.primaryLane h = k ∨ s.spareLane h = k))
  let s := hs.foldl (fun s h => s.moveHead h k) s
  let s := s.laneFlags
  (if hs = [] then s else s.raise Ev.STG_FAILOVER k).lanesReturnNow

/-- At the end of training in phase ARM each head takes its primary lane when UP, else its spare (R347); the answer is
whether every head has a lane. -/
def State.headsPlace (s : State) : State × Bool :=
  let hs := (List.range 256).filter s.headValid
  let pick (h : Nat) : Nat :=
    if s.laneUp (s.primaryLane h) then s.primaryLane h else if s.laneUp (s.spareLane h) then s.spareLane h else 0xFF
  let s' := (hs.foldl (fun s h => s.setHeadRun h { s.headRun h with lane := pick h }) s).laneFlags
  (s', hs.all (fun h => pick h ≠ 0xFF))

/-- Training of a lane starts (R346). -/
def State.laneTrain (s : State) (k : Nat) : State :=
  let s := s.setLane k { s.lane k with takenDown := false }
  s.setLaneState k 1 0

/-- Training of a lane fails with a cause (R346). -/
def State.laneFail (s : State) (k cause : Nat) : State :=
  let s := s.setLaneState k 6 cause
  let s := if cause = 3 then s.raise Ev.STG_BOARD_MISMATCH k else s
  s.raise Ev.STG_LANE_FAILED k

/-- Every lane that HEADS names starts training (R346). -/
def State.lanesTrain (s : State) : State :=
  (List.range 32).foldl (fun s k => if s.laneNamed k then s.laneTrain k else s) s

/-- A device or print-path reset: buffers, totals and counters cleared, heads with no lane until training ends (R375). -/
def State.lanesReset (s : State) : State :=
  let s := { s with stg := { s.stg with
    lanes := s.stg.lanes.map (fun (p : Nat × Lane) => (p.1, ({ expected := p.2.expected, since := s.now } : Lane)))
    heads := [], fenceRole := [] } }
  (List.range 32).foldl (fun s k =>
    let s := (s.put (F.STG_LANE_DRAIN_MAX k) 0).put (F.STG_LANE_RX_ERR k) 0
    let s := (s.put (F.STG_LANE_STATUS k) (s.get (F.STG_LANE_STATUS_PARTNER k) * 256)).put (F.STG_LANE_FILL k) 0
    s.put (F.STG_LANE_CREDIT k) 0) (s.put F.STG_STATUS 0)

/-! ### Lines into lanes -/

/-- The frames of one head line (R353). -/
def framesOf (track head plane item index : Nat) (c fire : Pos) (at_ : Ps) (form : Bool) (bs : List Byte) : List Frame :=
  let n := max 1 ((bs.length + 511) / 512)
  (List.range n).map (fun k =>
    { track, head, plane, item, c, index, fire, segment := k, first := k = 0, last := k + 1 = n,
      payload := (bs.drop (512 * k)).take 512, handed := at_, form })

/-- A head line is written into the lane of its head when that lane has room; the answer is whether it was (R356). -/
def State.handHead (s : State) (l : Line) (h : Nat) (bs : List Byte) : State × Bool :=
  let k := (s.headRun h).lane
  if k = 0xFF then (s, false) else
  let x := s.lane k
  if 262144 < x.fill + bs.length then (s, false) else
  let fs := framesOf l.track h (s.get (F.NZC_HEAD_A_PLANE h)) l.item l.index l.c l.fire s.now false bs
  ((s.setLane k { x with buf := x.buf ++ fs }).laneShow k, true)

/-- The lanes that carry a head of track `n`. -/
def State.trackLanes (s : State) (n : Nat) : List Nat :=
  ((s.headsOf n).map (fun h => (s.headRun h).lane)).eraseDups.filter (· ≠ 0xFF)

/-! ### Fire instants -/

/-- The predicted fire instant of a position: its distance from P_s at the present v (R115). -/
def State.predict (s : State) (n : Nat) (f : Pos) : Option Ps :=
  let x := s.track n
  let d := posDiff f (s.psAt n s.now)
  let v := s.rateAt n s.now
  if !x.armed ∨ x.st = .acquire ∨ v = 0 then none
  else if d ≤ 0 then some s.now
  else some (s.now + (d.toNat * hertz * 10 ^ 12 + 4096 * v - 1) / (4096 * v))

/-- The spacing of R116 in force, in ps. -/
def State.spacingPs (s : State) (n : Nat) : Nat := max 200 (s.act (F.TRK_SCHED_MIN_SPACING n)) * 10000

/-- The deadline D of a line (R382): the predicted instant less T_lead, on the 625 ps grid. -/
def State.deadline (s : State) (n : Nat) (f : Pos) : Option Ps :=
  (s.predict n f).map (fun t => (t - s.tLead n * 1000000) / 625 * 625)

/-- A line that has yet to fire: its item (0 a starvation print), cue position, index and fire position. -/
structure NextLine where
  item : Nat
  c : Pos
  index : Nat
  fire : Pos
  deriving DecidableEq, Repr

/-- The lines of track `n` from each print's next line on, one per print, in print order. -/
def State.nextLines (s : State) (n : Nat) : List NextLine :=
  ((s.queue n).items.filter (fun x => x.running ∧ !x.stopped ∧ x.next < x.lines)).map (fun x =>
      (⟨x.id, x.c, x.next, x.fireAt x.next⟩ : NextLine)) ++
    ((s.track n).starves.filter (fun x => x.next < x.lines)).map (fun x => ⟨0, x.c, x.next, x.fireAt x.next⟩)

/-- The line of track `n` that fires next: of the prints under way, the one with the lowest fire position (R113, R118). -/
def State.nextFire (s : State) (n : Nat) : Option NextLine :=
  (s.nextLines n).foldl (fun b x => match b with
    | none => some x
    | some y => if posDiff x.fire y.fire < 0 then some x else some y) none

/-- The next line of track `n` whose FIRE block lane `k` has not sent (R358): the first line after the last sent, of the
print of that line or of a later one. -/
def State.nextFireOn (s : State) (k n : Nat) : Option NextLine :=
  let last := ((s.lane k).fires.find? (fun g => g.track = n)).map Fired.fire
  let after (f : Pos) : Bool := match last with | none => true | some g => decide (posDiff f g > 0)
  let step (c : Pos) (item pitch lines next : Nat) (f0 : Pos) (skips : List (Nat × Nat)) : Option NextLine :=
    let i := match last with
      | none => next
      | some g => max next (linesUpTo f0 pitch lines g)
    let i := passSkips i skips
    let f := f0 + BitVec.ofNat 60 (i * pitch)
    if i < lines ∧ after f then some ⟨item, c, i, f⟩ else none
  let items := ((s.queue n).items.filter (fun x => x.running ∧ !x.stopped)).filterMap (fun x =>
    step x.c x.id x.pitch x.lines x.next (x.fireAt 0) x.skips)
  let starves := (s.track n).starves.filterMap (fun x => step x.c 0 x.pitch x.lines x.next (x.fireAt 0) x.skips)
  (items ++ starves).foldl (fun b x => match b with
    | none => some x
    | some y => if posDiff x.fire y.fire < 0 then some x else some y) none

/-- A track whose lanes carry FENCE frames alone: one of an understudy that is not aligned (R438). -/
def State.fencesOnly (s : State) (n : Nat) : Bool := s.mode = 4 ∧ !(s.track n).aligned

/-- Sends the FIRE block of the next line of a track on a lane that carries a head of it (R358, R359): the residual is the time
left to t_f − ADVANCE. The slot is the latest that starts by then, or an earlier one that lower tracks of the lane leave
(R372). Frames of the line still in the buffer are removed, and its item is marked. -/
def State.fireBlock (s : State) (k n : Nat) : State :=
  match s.nextFireOn k n with
  | none => s
  | some l =>
    match s.predict n l.fire with
    | none => s
    | some tf =>
      let tf := match (s.track n).lastFire with | none => tf | some a => max tf (a + s.spacingPs n)
      let due := tf - s.get (F.STG_LANE_CFG_ADVANCE k) * 1000
      let res := (2 * (due - s.now) + 625) / 1250
      let below := ((List.range n).filter (fun m => (s.trackLanes m).contains k)).length
      let early : Bool := decide (s.now + s.slotPs k * (1 + below) ≤ due)
      if s.laneRole n = 3 ∨ s.fencesOnly n ∨ early ∨ 1023 < res ∨ !(s.laneUp k) ∨ !((s.trackLanes n).contains k) then s else
      let x := s.lane k
      let role := s.laneRole n
      let g : Fired := ⟨n, l.item, l.c, l.index, l.fire, s.now, role, tf⟩
      let late := x.buf.any (fun f => !f.fence ∧ f.track = n ∧ f.fire = l.fire)
      let x := { x with
        fires := g :: x.fires
        buf := x.buf.filter (fun f => f.fence ∨ !(f.track = n ∧ f.fire = l.fire))
        lastKey := if role = 0 then tblPut 0 x.lastKey n (lineKey l.fire) else x.lastKey }
      let s := ((s.setLane k x).laneShow k).emit (.fire k n role res (lineKey l.fire))
      if late then
        ((s.mark n l.item 15).atLeast (F.STG_LANE_DRAIN_MAX k) 0xFFFFFFFF).raise Ev.STG_DRAIN_LATE k
      else s

/-- A FENCE frame of track `n` starts on lane `k` (R351, R361), with the LINE_KEY of the last FIRE block that the lane sent for
the track (DEDUCED, log entry 110). -/
def State.fenceOut (s : State) (k n : Nat) : State :=
  let x := s.lane k
  let key := match x.fires.find? (fun g => g.track = n) with | some g => lineKey g.fire | none => 0
  let s := s.setLane k { x with seq := (x.seq + 1) % 256, sent := (x.sent + 3) % 2 ^ 32 }
  (s.emit (.frame k 3 true true (s.laneRole n) 0xFF 0 0 n x.seq key [])).laneShow k

/-- A LINE or DRY frame starts on lane `k` (R350, R353); with the last frame of a line's heads on the lane, DRAIN_MAX follows. -/
def State.frameOut (s : State) (k : Nat) (f : Frame) : State :=
  let x := s.lane k
  let role := s.laneRole f.track
  let eof := s.now + f.blocks * s.slotPs k
  let x' := { x with sent := (x.sent + f.blocks) % 2 ^ 32, seq := (x.seq + 1) % 256, stalled := none
                     tx := some f, txEnd := eof }
  let pad := (8 - f.payload.length % 8) % 8
  let s := s.setLane k x'
  let s := s.emit (.frame k (if role = 2 then 2 else 1) f.first f.last role f.head f.segment f.plane f.track x.seq
    (f.index % 2 ^ 24 * 2 ^ 40 + lineKey f.fire) (f.payload ++ List.replicate pad 0))
  let s := (s.laneShow k).put (F.STG_LANE_STATUS_CREDIT_STALL k) 0
  if x.buf.any (fun g => !g.fence ∧ g.track = f.track ∧ g.fire = f.fire) then s
  else s.atLeast (F.STG_LANE_DRAIN_MAX k) ((eof - f.handed) / 1000)

/-- Starts the frame at the front of a lane's buffer, when the credit window holds it and no frame is in transmission (R357,
R360); the slots of a FENCE frame are not counted as transmission. -/
def State.frameSend (s : State) (k : Nat) : State :=
  let x := s.lane k
  match s.laneFront k with
  | none => s
  | some f =>
    if !(s.laneUp k) ∨ !(x.mayStart f) ∨ (s.now < x.txEnd ∧ !f.fence) then s else
    let s := s.setLane k { x with buf := x.buf.erase f }
    if f.fence then s.fenceOut k f.track else s.frameOut k f

/-- One FENCE frame per track of a lane enters its buffer (R361): the tracks of its heads, or VISION_TRACKS. Those at the front
leave at once when the credit window holds them (R357, R360). -/
def State.fenceSend (s : State) (k : Nat) : State :=
  if !(s.laneUp k) then s else
  let ts := if s.get (F.STG_LANE_STATUS_PARTNER k) = 2 then
      (List.range 16).filter (fun n => (s.get (F.STG_LANE_CFG_VISION_TRACKS k)).testBit n)
    else (List.range 16).filter (fun n => (s.headsOn k).any (fun h => s.get (F.NZC_HEAD_A_TRACK h) = n))
  let fence (n : Nat) : Frame :=
    { track := n, head := 0xFF, plane := 0, item := 0, c := 0, index := 0, fire := 0, segment := 0, first := true, last := true
      payload := [], handed := s.now, form := true, fence := true }
  let x := s.lane k
  let s := s.setLane k { x with buf := x.buf ++ (ts.filter (fun n => !x.buf.contains (fence n))).map fence }
  ts.foldl (fun s _ => if ((s.laneFront k).map Frame.fence).getD false then s.frameSend k else s) (s.laneShow k)

/-- FENCE frames on every lane at a change of the FENCE ROLE of some track (R361). -/
def State.fenceRoles (s : State) : State :=
  let now := (List.range 16).map (fun n => s.laneRole n)
  let old := (List.range 16).map (fun n => tblGet 3 s.stg.fenceRole n)
  if now = old then s else
  let s := { s with stg := { s.stg with
    fenceRole := (List.range 16).foldl (fun t n => tblPut 3 t n (now.getD n 3)) s.stg.fenceRole } }
  (List.range 32).foldl (fun s k => s.fenceSend k) s

end Sys2Proof.Machine
end

