-- ==== Sys2Proof/Machine/Inspect.lean ====
section
/-! DEFINITION. Inspection: verdicts, the reject decision and the reject gates (R398 to R408). -/

namespace Sys2Proof.Machine

def State.gate (s : State) (g : Nat) : Gate := tblGet {} s.ins.gates g
def State.setGate (s : State) (g : Nat) (x : Gate) : State :=
  { s with ins := { s.ins with gates := tblPut {} s.ins.gates g x } }

/-- The enabled gates that serve track `n` by the settings in force (R402). -/
def State.gatesOf (s : State) (n : Nat) : List Nat :=
  (List.range 32).filter (fun g => s.act (F.INS_GATE_CFG_EN g) = 1 ∧ s.act (F.INS_GATE_CFG_TRACK g) = n)

/-- Gate position of a cue position: C + OFFSET edges (R403). -/
def State.gatePos (s : State) (g : Nat) (c : Pos) : Pos := c + BitVec.ofNat 60 (s.act (F.INS_GATE_OFFSET g) * 4096)

/-- Track `n` runs under PERFORMANCE rules, or shadows a lead that may (R407, R436). -/
def State.perfNow (s : State) (n : Nat) : Bool := (s.track n).perf ∧ (s.mode = 2 ∨ s.mode = 3)

/-- A pulse waits on every enabled gate of track `n` but those in `done` (R403). -/
def State.rejectAt (s : State) (n : Nat) (c : Pos) (item : Nat) (done : List Nat) : State :=
  ((s.gatesOf n).filter (fun g => !(done.contains g))).foldl (fun s g =>
    s.setGate g { s.gate g with pend := (s.gate g).pend ++ [⟨s.gatePos g c, item⟩] }) s

/-- The product of a cue that binds nothing goes to its gates, when its track ran under PERFORMANCE rules (R120, R163). -/
def State.rejectProduct (s : State) (n : Nat) (c : Pos) : State :=
  if (s.track n).perf then s.rejectAt n c 0 [] else s

/-! ### Verdicts -/

/-- STATIONS in force of a track. -/
def State.stations (s : State) (n : Nat) : Nat := s.act (F.INS_TRK_CFG_STATIONS n)

/-- An item awaits a verdict (R400): NO_VERDICT clear and STATIONS not 0. -/
def State.awaits (s : State) (n : Nat) (x : Item) : Bool := !(x.flags.testBit 1) && s.stations n != 0

/-- A FAIL has been given. -/
def Item.failed (x : Item) : Bool := x.verdicts.any (fun v => !v.2)

/-- Every named station has given PASS. -/
def Item.passedAll (x : Item) (stations : Nat) : Bool :=
  (List.range 8).all (fun k => !(stations.testBit k) || x.verdicts.any (fun v => v.1 = k ∧ v.2))

/-- The item has a mark or a FAIL: it is decided as soon as it is FIRED (R401). -/
def Item.condemned (x : Item) : Bool := x.marks ≠ 0 ∨ x.failed ∨ x.rejected

/-! ### The history and CLOSED -/

/-- The 16-byte outcome record (R151). -/
def OutRec.bytes (r : OutRec) : List Byte :=
  leBytes 8 r.id ++ leBytes 1 r.state ++ leBytes 1 r.verdict ++ leBytes 2 r.marks ++ leBytes 4 r.hostTag

/-- Enters an outcome record in the history of a track, in place of an earlier record of the ID, and writes it to the history
ring in DRAM (R151, R160). -/
def State.histPut (s : State) (n : Nat) (r : OutRec) : State :=
  let q := s.queue n
  let k := q.histNext
  let s := s.setQueue n { q with
    history := ((r :: q.history.filter (fun x => x.id ≠ r.id)).take 65536), histNext := (k + 1) % 65536 }
  let g := s.queueRegion n
  if g.size = 0 then s else s.dramPut 3 (g.base + 4194304 + 16 * k) r.bytes

/-- Shows OCCUPIED, COMMITTING and HEAD of a work queue (R185, R186). -/
def State.wqShow (s : State) (n : Nat) : State :=
  let q := s.queue n
  let s := s.put (F.WQ_STATUS_OCCUPIED n) q.items.length
  let s := s.put (F.WQ_STATUS_COMMITTING n) ((q.items.filter Item.committing).length)
  let s := s.put (F.WQ_STATUS_HEAD_VALID n) (bit (s.headItem n).isSome)
  let s := s.put (F.WQ_HEAD_ID n) (((s.headItem n).map Item.id).getD 0)
  s.put (F.WQ_STATUS_JOURNAL_BUSY n) (bit (s.marksOut n ≠ 0))

/-- The reject decision: the item enters CLOSED (R401). `missing`: its window closed with a station silent. -/
def State.closeItem (s : State) (n : Nat) (x : Item) (missing : Bool) : State :=
  let reject : Bool := x.condemned ∨ missing
  let verdict := if x.failed then 2 else if s.awaits n x ∧ x.passedAll (s.stations n) then 1 else if missing then 3 else 0
  let state := if !x.perf then 7 else if reject then 6 else 5
  let q := s.queue n
  let s := s.setQueue n { q with items := q.items.filter (fun y => y.id ≠ x.id) }
  let s := s.histPut n { id := x.id, state, verdict, marks := x.marks, hostTag := x.hostTag }
  let s := s.addSat (if reject then F.INS_TRK_REJECT n else F.INS_TRK_PASS n) 1
  let s := if missing then s.addSat (F.INS_TRK_MISSING n) 1 else s
  let s := if reject ∧ x.perf then s.rejectAt n x.c x.id x.pulsed else s
  s.wqShow n

/-- Every item of track `n` in FIRED with a mark or a FAIL is decided (R401). -/
def State.decideTrack (s : State) (n : Nat) : State :=
  ((s.queue n).items.filter (fun x => x.phase = .fired ∧ x.condemned)).foldl (fun s x => s.closeItem n x false) s

def State.decideAll (s : State) : State := (List.range 16).foldl (fun s n => s.decideTrack n) s

/-- 4 µs have passed since the item entered FIRED. -/
def State.firedLong (s : State) (x : Item) : Bool := decide (x.firedAt + 4000000 ≤ s.now)

/-- The decision of an item with nothing against it, 4 µs after FIRED or later (R401). -/
def State.decideClear (s : State) (n : Nat) (x : Item) : State :=
  if x.phase = .fired ∧ s.firedLong x ∧ (!(s.awaits n x) ∨ x.passedAll (s.stations n)) then s.closeItem n x false else s

/-- A VERDICT counts as PASS: one whose GRADE is below MIN_GRADE does not (R399). -/
def State.passes (s : State) (n : Nat) (fail : Bool) (grade : Nat) : Bool :=
  let min := s.act (F.INS_TRK_CFG_MIN_GRADE n)
  !fail ∧ (grade = 0xFF ∨ min = 0 ∨ min ≤ grade)

/-- A verdict of a station for an item in PRINTING or FIRED is counted (R399, R401). -/
def State.verdict (s : State) (n : Nat) (x : Item) (station : Nat) (fail : Bool) (grade : Nat) : State :=
  let pass := s.passes n fail grade
  if pass ∧ x.verdicts.any (fun v => v.1 = station ∧ v.2) then s else
  let s := s.modItem n x.id (fun y => { y with verdicts := y.verdicts ++ [(station, pass)] })
  match s.item? n x.id with
  | none => s
  | some y => if y.phase = .fired ∧ y.condemned then s.closeItem n y false else s.decideClear n y

/-- A VERDICT frame that passed its format checks (R398); a decision of the same instant goes before a FAIL (R409). -/
def State.verdictNow (s : State) (n id station : Nat) (fail : Bool) (grade : Nat) : State :=
  let drop (s : State) (ev : Nat) : State := (s.addSat (F.INS_TRK_UNMATCHED n) 1).raise ev n
  if 7 < station then drop s Ev.INS_VERDICT_UNMATCHED else
  let s := match s.item? n id with
    | some x => if s.passes n fail grade then s else s.decideClear n x
    | none => s
  match s.item? n id with
  | some x =>
    if x.phase = .printing ∨ x.phase = .fired then s.verdict n x station fail grade else drop s Ev.INS_VERDICT_EARLY
  | none =>
    if (s.queue n).history.any (fun r => r.id = id) then drop s Ev.INS_VERDICT_LATE
    else drop s Ev.INS_VERDICT_UNMATCHED

/-- A VERDICT frame arrives: a FAIL is judged after the PASS verdicts of its instant (R409). -/
def State.verdictFor (s : State) (n id station : Nat) (fail : Bool) (grade : Nat) : State :=
  if s.more ∧ !(s.passes n fail grade) then s.defer (.fail n id station grade) else s.verdictNow n id station fail grade

/-- The verdict window of an item closes (R400). -/
def State.windowShut (s : State) (n id : Nat) : State :=
  let s := s.settle n s.now
  match s.item? n id with
  | none => s
  | some x =>
    let w := x.c + BitVec.ofNat 60 (s.act (F.INS_TRK_WINDOW n) * 4096)
    if x.phase = .fired ∧ s.awaits n x ∧ s.firedLong x ∧ posDiff (s.track n).h w ≥ 0 ∧ !(x.passedAll (s.stations n)) then
      (s.closeItem n x true).raise Ev.INS_VERDICT_MISSING n
    else s

/-- The window of an item closes after the verdicts of its instant (R409). -/
def State.windowClose (s : State) (n id : Nat) : State := if s.more then s.defer (.close n id) else s.windowShut n id

/-! ### Gates -/

/-- Shows a gate's output: the active level is REJ_g_DP high, or low where INVERT is 1 (R402). -/
def State.gateShow (s : State) (g : Nat) (on : Bool) : State :=
  s.emit (.gate g on (on != (s.act (F.INS_GATE_CFG_INVERT g) == 1)))

/-- A gate's output becomes active or inactive. -/
def State.gateOut (s : State) (g : Nat) (on : Bool) : State :=
  if s.flag (F.INS_GATE_CFG_ACTIVE g) = on then s
  else (s.put (F.INS_GATE_CFG_ACTIVE g) (bit on)).gateShow g on

/-- An enabled gate of track `n` would have OFFSET less than WINDOW + 16 edges, by the staged settings. -/
def State.insBad (s : State) (n : Nat) : Bool :=
  (List.range 32).any (fun g => s.flag (F.INS_GATE_CFG_EN g) ∧ s.get (F.INS_GATE_CFG_TRACK g) = n ∧
    s.get (F.INS_GATE_OFFSET g) < s.get (F.INS_TRK_WINDOW n) + 16)

/-- A gate's staged settings are applied when its track, and its new track where TRACK changes, are in a curtain window; a
change of TRACK also waits for its pulses. -/
def State.gateApply (s : State) (g : Nat) : State :=
  let x := s.gate g
  let old := s.act (F.INS_GATE_CFG_TRACK g)
  let new := s.get (F.INS_GATE_CFG_TRACK g)
  let idle := x.pend = [] ∧ x.endPos.isNone ∧ x.endAt.isNone
  if x.cfgPending ∧ s.inCurtain old ∧ (old = new ∨ (s.inCurtain new ∧ idle)) then
    let was := s.act (F.INS_GATE_CFG_INVERT g)
    let s := ((s.apply (F.INS_GATE_CFG g)).apply (F.INS_GATE_OFFSET g)).setGate g { x with cfgPending := false }
    if s.act (F.INS_GATE_CFG_INVERT g) = was then s else s.gateShow g (s.flag (F.INS_GATE_CFG_ACTIVE g))
  else s

/-- A pulse of gate `g` starts (R403, R406): its width is counted from H or from now; a pulse while another is active
extends it. On an understudy the output stays inactive (R436). -/
def State.gatePulse (s : State) (g n : Nat) (shadow : Bool) : State :=
  let x := s.gate g
  let w := max 1 (s.act (F.INS_GATE_CFG_WIDTH g))
  let busy := x.endPos.isSome ∨ x.endAt.isSome
  let x := if s.act (F.INS_GATE_CFG_MODE g) = 0 then
      let e := (s.track n).h + BitVec.ofNat 60 (w * 4096)
      { x with endPos := some (match x.endPos with | some p => posMax p e | none => e) }
    else { x with endAt := some (max (x.endAt.getD 0) (s.now + w * 1000000)) }
  let s := s.setGate g { x with startedAt := s.now }
  if shadow then s else
  let s := (s.addSat (F.INS_GATE_PULSES g) 1).gateOut g true
  if busy then s.raise Ev.INS_GATE_MERGED g else s

/-- The items of a track whose pulse position on gate `g` H has reached with no decision (R405). -/
def State.undecidedAt (s : State) (g n : Nat) : List Item :=
  (s.queue n).items.filter (fun x => (x.running ∨ x.phase = .fired) ∧ x.perf ∧ !(x.pulsed.contains g) ∧
    posDiff (s.track n).h (s.gatePos g x.c) ≥ 0)

/-- H reaches the position of the next pulse of gate `g` (R403 to R407). -/
def State.gateReach (s : State) (g : Nat) : State :=
  let n := s.act (F.INS_GATE_CFG_TRACK g)
  let s := s.settle n s.now
  let h := (s.track n).h
  if s.act (F.INS_GATE_CFG_EN g) = 0 then s else
  let und := (s.undecidedAt g n).head?
  let due := (s.gate g).pend.find? (fun p => posDiff h p.start ≥ 0)
  let first : Option (Pos × Option Item) := match und, due with
    | none, none => none
    | some x, none => some (s.gatePos g x.c, some x)
    | none, some p => some (p.start, none)
    | some x, some p => if posDiff (s.gatePos g x.c) p.start < 0 then some (s.gatePos g x.c, some x) else some (p.start, none)
  match first with
  | none => s
  | some (_, some x) =>
    let s := s.modItem n x.id (fun y => { y with rejected := true, pulsed := y.pulsed ++ [g] })
    let s := s.raise Ev.INS_GATE_UNDECIDED g
    let s := if s.perfNow n ∨ s.mode = 4 then s.gatePulse g n (s.mode = 4) else s.addSat (F.INS_GATE_CANCELLED g) 1
    match s.item? n x.id with
    | some y => if y.phase = .fired then s.closeItem n y false else s
    | none => s
  | some (p, none) =>
    let x := s.gate g
    let s := s.setGate g { x with pend := (x.pend.filter (fun q => q.start ≠ p)) ++ ((x.pend.filter (fun q => q.start = p)).drop 1) }
    if s.perfNow n ∨ s.mode = 4 then s.gatePulse g n (s.mode = 4) else s.addSat (F.INS_GATE_CANCELLED g) 1

/-- A pulse position is reached after the decisions of its instant (R409). -/
def State.gateStart (s : State) (g : Nat) : State := if s.more then s.defer (.pulse g) else s.gateReach g

/-- The pulse of gate `g` ends (R403). -/
def State.gateEnd (s : State) (g : Nat) : State :=
  let n := s.act (F.INS_GATE_CFG_TRACK g)
  let s := s.settle n s.now
  let x := s.gate g
  let posDone : Bool := match x.endPos with | none => true | some p => decide (posDiff (s.track n).h p ≥ 0)
  let timeDone : Bool := match x.endAt with | none => true | some a => decide (a ≤ s.now)
  if (x.endPos.isSome ∨ x.endAt.isSome) ∧ posDone ∧ timeDone then
    ((s.setGate g { x with endPos := none, endAt := none }).gateOut g false).gateApply g
  else s

/-- Track `n` stops running under PERFORMANCE rules, or the print path resets (R407). -/
def State.gatesCancel (s : State) (n : Nat) : State :=
  (List.range 32).foldl (fun s g =>
    if s.act (F.INS_GATE_CFG_TRACK g) ≠ n then s else
    let x := s.gate g
    let k := x.pend.length + (if x.endPos.isSome ∨ x.endAt.isSome then 1 else 0)
    let s := (s.setGate g { x with pend := [], endPos := none, endAt := none }).gateOut g false
    (s.addSat (F.INS_GATE_CANCELLED g) k).gateApply g) s

/-! ### Configuration (R408) -/

/-- Applies the staged inspection settings in the curtain window of track `n`. -/
def State.insApply (s : State) (n : Nat) : State :=
  let s := if s.ins.pendingTrk.testBit n then
      let s := (s.apply (F.INS_TRK_CFG n)).apply (F.INS_TRK_WINDOW n)
      { s with ins := { s.ins with pendingTrk := s.ins.pendingTrk &&& (65535 - 2 ^ n) } }
    else s
  (List.range 32).foldl (fun s g =>
    if s.act (F.INS_GATE_CFG_TRACK g) = n ∨ s.get (F.INS_GATE_CFG_TRACK g) = n then s.gateApply g else s) s

/-- A write of an inspection register is staged, or refused (R408). -/
def State.insWrite (s : State) (write : State → State) (n : Nat) (gate : Option Nat) : State :=
  let s' := write s
  if s'.insBad n then s.raise Ev.INS_CFG_REFUSED else
  match gate with
  | some g => (s'.setGate g { s'.gate g with cfgPending := true }).gateApply g
  | none =>
    let s' := { s' with ins := { s'.ins with pendingTrk := s'.ins.pendingTrk ||| 2 ^ n } }
    if s'.inCurtain n then s'.insApply n else s'

end Sys2Proof.Machine
end

