-- ==== Sys2Proof/Machine/Boxes.lean ====
section
/-! DEFINITION. Izrex boxes: the result window, responses in order, credits and the outcomes of submissions (R510 to R527,
R434). -/

namespace Sys2Proof.Machine

/-- A code that the result window enters (R150). -/
def codeEntered (c : Nat) : Bool := c ≤ 1 ∨ (0x20 ≤ c ∧ c ≤ 0x25)

/-- What R521 enters for a status: none where it is never entered (R527). -/
def slotOf (opcode status : Nat) (payload : List Byte) : Option SlotState :=
  if status = 0 then
    if opcode = 0x11 ∨ opcode = 0x22 ∨ opcode = 0x23 ∨ opcode = 0x50 then some .rerun
    else if opcode = 0x20 then some (if codeEntered (leAt payload 0 1) then .recorded else .empty)
    else some .recorded
  else if 5 ≤ status ∧ status ≤ 7 then some .empty
  else if (8 ≤ status ∧ status ≤ 0xC) then none
  else some .recorded

/-- Distance of a SEQ from HIGH modulo 2^32 (R521). -/
def State.seqDist (s : State) (b seq : Nat) : Nat := (seq + 2 ^ 32 - s.get (F.IZX_BOX_HIGH b)) % 2 ^ 32

/-- SEQ `a` comes before SEQ `b`. -/
def seqBefore (a b : Nat) : Bool := 1 ≤ (b + 2 ^ 32 - a) % 2 ^ 32 ∧ (b + 2 ^ 32 - a) % 2 ^ 32 < 2 ^ 31

/-- Puts a command among those of its box, ascending in SEQ, behind those of the same SEQ. -/
def putDue (d : Due) : List Due → List Due
  | [] => [d]
  | x :: l => if seqBefore d.seq x.seq then d :: x :: l else x :: putDue d l

/-- Blocks that commands of the box occupy (R516). -/
def Box.outstanding (x : Box) : Nat := ((x.due ++ x.retries).map Due.blocks).foldl (· + ·) 0

/-- Shows the status register of box `b` (R534). -/
def State.boxShow (s : State) (b : Nat) : State :=
  let x := s.box b
  let s := s.put (F.IZX_BOX_STATUS_OPEN b) (bit x.isOpen)
  let s := s.put (F.IZX_BOX_STATUS_PORT b) x.port
  let s := s.put (F.IZX_BOX_STATUS_HELD b) (bit x.held)
  let s := s.put (F.IZX_BOX_STATUS_RUNNING b) (min 127 ((x.due.filter (fun d => d.resp.isNone)).length + x.retries.length))
  s.put (F.IZX_BOX_STATUS_OUTSTANDING b) (min (2 ^ 17 - 1) x.outstanding)

/-- Box `b` closes and its slots, commands and events go (R512). -/
def State.boxClose (s : State) (b : Nat) : State :=
  let x := s.box b
  let s := s.setBox b { hostReq := x.hostReq }
  let s := match x.closeOn with
    | some p => s.emit (.linkResp p b 0x71 0 x.freed [])
    | none => s
  let own (o : Option Transfer) : Option Transfer := match o with | some t => if t.box = b then none else o | none => none
  let s : State := { s with scene := own s.scene, promptUp := own s.promptUp }
  ((s.put (F.IZX_BOX_HOST b) 0).boxShow b).raise Ev.IZX_BOX_CLOSED b

/-- The ACCEPTs that the answer of a command holds, as track and item ID (R155); an answer from the record holds none. -/
def Due.accepts (d : Due) : List (Nat × Nat) :=
  let p := match d.resp with
    | some r => if r.replay ∨ r.status ≠ 0 then [] else r.payload
    | none => if d.opcode = 0x21 then d.payload else []
  if p = [] then [] else
  d.subs.zipIdx.filterMap (fun x => if leAt p (if d.opcode = 0x21 then 8 + 24 * x.2 else 0) 1 = 0 then some x.1 else none)

/-- The other boxes that hold an ACCEPT which leaves before those of `d`: one of the same track with a lower ID than all of
them (R155). -/
def State.acceptBars (s : State) (b : Nat) (d : Due) : List Nat :=
  let own := d.accepts
  if own = [] then [] else
  (List.range 16).filter (fun c =>
    let x := s.box c
    c ≠ b ∧ x.isOpen ∧ !x.held ∧ x.due.any (fun e => e.port = x.port ∧ e.accepts.any (fun q =>
      own.any (fun p => p.1 = q.1) ∧ own.all (fun p => p.1 ≠ q.1 ∨ q.2 < p.2))))

/-- The command whose answer box `b` sends next, once the answer is there. -/
def State.boxFront (s : State) (b : Nat) : Option Due :=
  match (s.box b).due with
  | d :: _ => if d.resp.isSome then some d else none
  | [] => none

/-- The boxes whose next answer is not there yet, or waits behind an ACCEPT of such a box (R155). -/
def State.boxesWait (s : State) : Nat → List Nat
  | 0 => (List.range 16).filter (fun b => (s.boxFront b).isNone)
  | fuel + 1 =>
    let w := s.boxesWait fuel
    (List.range 16).filter (fun b => w.contains b ∨
      ((s.boxFront b).any (fun d => (s.acceptBars b d).any (fun c => w.contains c))))

/-- Answers that wait for each other in a ring, as SEQ order and ID order can ask at once: the lowest box goes on (log entry
91). -/
def State.boxKnot (s : State) : Option Nat :=
  let w := s.boxesWait 16
  (List.range 16).find? (fun b => !(w.contains b))

/-- Sends the responses at the front that are ready: each leaves in SEQ order and frees its blocks; one due on a port the
box has left, or while the box is held, is not sent (R513, R516, R522, R530). One that holds an ACCEPT waits for the lower
IDs of its track (R155), unless `knot`. A box that is closing closes once no command of it runs. -/
def State.boxPump (s : State) (b : Nat) (knot : Bool) : Nat → State
  | 0 => s.boxShow b
  | fuel + 1 =>
    let x := s.box b
    match x.due with
    | [] => if x.closing ∧ x.retries = [] then s.boxClose b else s.boxShow b
    | d :: rest =>
      match d.resp with
      | none => s.boxShow b
      | some r =>
        if b = 15 ∧ s.cfg.swap.isSome then s.boxShow b else
        if !knot ∧ s.acceptBars b d ≠ [] then s.boxShow b else
        let freed := (x.freed + d.blocks) % 2 ^ 32
        let s := s.setBox b { x with due := rest, freed }
        let s := if x.isOpen ∧ !x.held ∧ d.port = x.port then
            let s := s.emit (if b = 15 then .itemPort d.seq r.status (leAt r.payload 0 1) (r.payload.drop 8)
              else .response d.port b d.opcode d.seq r.status r.replay freed r.payload)
            if r.replay then s.addSat (F.IZX_BOX_REPLAYS b) 1 else s
          else s
        s.boxPump b false fuel

/-- Boxes whose next answer has been let go by another box send it; a ring of waiting answers is broken (R155). -/
def State.boxesFree (s : State) : Nat → State
  | 0 => s
  | fuel + 1 =>
    match (List.range 16).find? (fun b => (s.boxFront b).any (fun d => s.acceptBars b d = [])) with
    | some b => (s.boxPump b false ((s.box b).due.length + 1)).boxesFree fuel
    | none =>
      match s.boxKnot with
      | some b => (s.boxPump b true ((s.box b).due.length + 1)).boxesFree fuel
      | none => s

/-- Box `b` sends what it can, and other boxes what that lets go. -/
def State.boxSend (s : State) (b : Nat) : State := (s.boxPump b false ((s.box b).due.length + 1)).boxesFree 64

/-- The command of SEQ `seq` that box `b` executes ends with a response: its slot is entered and the response leaves in its
turn. -/
def State.boxDone (s : State) (b seq : Nat) (r : Resp) : State :=
  let x := s.box b
  match x.due.find? (fun d => d.seq = seq ∧ d.resp.isNone) with
  | none => s
  | some d =>
    let r := { r with replay := r.replay || d.replay }
    let slot : Option Slot := (slotOf d.opcode r.status r.payload).map (fun st =>
      ({ st, crc := d.crc, opcode := d.opcode, status := r.status, payload := r.payload } : Slot))
    let slots := match slot with
      | some y => tblPut {} x.slots (seq % 256) y
      | none => x.slots
    let due := x.due.map (fun e => if e.seq = seq ∧ e.resp.isNone then { e with resp := some r, payload := [] } else e)
    let s := s.setBox b { x with slots, due }
    let s := if r.status = 1 then s.addSat (F.IZX_BOX_DENIED b) 1 else s
    s.boxSend b

/-- One item's outcome in an answer: CODE, 7 bytes 0 and the record (R518). -/
def outcomeBytes (code : Nat) (r : OutRec) : List Byte := leBytes 1 code ++ leBytes 7 0 ++ r.bytes

/-- Puts the outcome of item `k` into a batch answer under construction. -/
def batchPut (l : List Byte) (k : Nat) (o : List Byte) : List Byte := l.take (8 + 24 * k) ++ o ++ l.drop (32 + 24 * k)

/-- Every item of a batch answer has its outcome: no CODE stands at 0xFF. -/
def batchFull (l : List Byte) : Bool := (List.range (leAt l 0 1)).all (fun k => leAt l (8 + 24 * k) 1 ≠ 0xFF)

/-- The frame of an answer, as OUTCOME_FWD carries it (R434, R510): SOF, header and payload. -/
def answerFrame (box opcode seq : Nat) (payload : List Byte) : List Byte :=
  leBytes 1 0 ++ leBytes 1 (0x20 + box) ++ leBytes 1 opcode ++ leBytes 1 0 ++ leBytes 4 seq ++
  leBytes 8 ((payload.length + 7) / 8 * 2 ^ 48) ++ payload

/-- The outcome of a submission goes to whoever waits for it (R150, R434, R518, R558). -/
def State.outcome (s : State) (sub : Submitter) (code : Nat) (r : OutRec) : State :=
  let o := outcomeBytes code r
  if sub.fwd then
    match s.dpx.serving.find? (fun v => v.box = sub.box ∧ v.seq = sub.seq) with
    | none => s
    | some v =>
      let p := if v.opcode = 0x21 then batchPut v.payload sub.index o else o
      let rest := s.dpx.serving.filter (fun w => !(w.box = sub.box ∧ w.seq = sub.seq))
      if v.opcode = 0x21 ∧ !(batchFull p) then
        { s with dpx := { s.dpx with serving := rest ++ [{ v with payload := p }] } }
      else
        ({ s with dpx := { s.dpx with serving := rest } } : State).dpxSend 0x11
          (leBytes 1 sub.box ++ leBytes 7 0 ++ answerFrame sub.box v.opcode sub.seq p)
  else
    let x := s.box sub.box
    match x.due.find? (fun d => d.seq = sub.seq ∧ d.resp.isNone) with
    | none => s
    | some d =>
      if d.opcode = 0x21 then
        let p := batchPut d.payload sub.index o
        let s := s.setBox sub.box { x with due := x.due.map (fun e =>
          if e.seq = sub.seq ∧ e.resp.isNone then { e with payload := p } else e) }
        if batchFull p then s.boxDone sub.box sub.seq { status := 0, payload := p } else s
      else s.boxDone sub.box sub.seq { status := 0, payload := o }

end Sys2Proof.Machine
end

