-- ==== Sys2Proof/Machine/Dup.lean ====
section
/-! DEFINITION. The duplex pair: readiness, triggers and the decision of a changeover (R417 to R453). -/

namespace Sys2Proof.Machine

/-- Every head has its lane or spare UP (R347, R439). -/
def State.headsUp (s : State) : Bool :=
  (List.range 256).all (fun h => !(s.headValid h) || s.laneUp (s.primaryLane h) || s.laneUp (s.spareLane h))

/-- The conditions of R439 on an understudy; the acknowledgements outstanding are those that it owes (DEDUCED,
log entry 109). -/
def State.dpxReadyNow (s : State) : Bool :=
  s.mode = 4 ∧ s.flag F.DPX_STATUS_LINK_UP ∧ !(s.flag F.DPX_STATUS_ISOLATED) ∧ s.dpx.digestsOk ∧ s.dpx.synced ∧
  (List.range 16).all (fun n => !(s.track n).armed || (s.track n).aligned) ∧ s.headsUp ∧
  s.dpx.applying.all (fun a => s.now ≤ a.at_ + max 10 (s.get F.DPX_CFG_ACK_TIMEOUT) * 500000)

/-- The ALIGNED bits of DPX_STATUS (R438, R457). -/
def State.alignedMask (s : State) : Nat := (List.range 16).foldl (fun m n => m + bit (s.track n).aligned * 2 ^ n) 0

/-- READY follows its conditions (R439); on a lead it is the partner's. ALIGNED is shown with it. -/
def State.dpxReadyCheck (s : State) : State :=
  if !s.dpx.configured then s else
  let s := if s.get F.DPX_STATUS_ALIGNED = s.alignedMask then s else s.put F.DPX_STATUS_ALIGNED s.alignedMask
  let r := if s.mode = 4 then s.dpxReadyNow else s.role = 1 ∧ s.dpx.partnerReady
  if s.flag F.DPX_STATUS_READY = r then s else
  (s.put F.DPX_STATUS_READY (bit r)).raise (if r then Ev.DPX_READY else Ev.DPX_NOT_READY)

/-- Sets the duplex role; SYS_CALL_STATUS.ROLE has no code for SOLO and shows none (R84). -/
def State.setRole (s : State) (r : Nat) : State :=
  (s.put F.DPX_STATUS_ROLE r).put F.SYS_CALL_STATUS_ROLE (if r = 3 then 0 else r)

/-- A track shows REHEARSING: armed and under REHEARSAL rules in REHEARSAL or PERFORMANCE (R60). -/
def State.rehearsing (s : State) (n : Nat) : Bool := (s.mode = 2 ∨ s.mode = 3) ∧ (s.track n).armed ∧ !(s.track n).perf

/-- A STATE frame (R427): mode, READY and HOLD cause, REHEARSING mask and house time. -/
def State.dpxState (s : State) : State :=
  let mask := (List.range 16).foldl (fun m n => m + bit (s.rehearsing n) * 2 ^ n) 0
  s.dpxSend 0x02 (leBytes 1 s.mode ++ leBytes 1 (s.get F.DPX_STATUS_READY + 2 * bit (s.mode = 6)) ++ leBytes 2 mask ++
    leBytes 4 0 ++ leBytes 8 s.houseNs)

/-- An understudy acknowledges the C frame of a COMMIT_SEQ with the record it came with (R429). -/
def State.dpxAck (s : State) (seq kind track : Nat) : State :=
  let a := (s.dpx.applying.find? (fun a => a.commit = seq)).getD ⟨seq, kind, track, s.now⟩
  let s : State := { s with dpx := { s.dpx with applied := seq, applying := s.dpx.applying.filter (fun a => a.commit ≠ seq) } }
  s.dpxSend 0x04 (commitRecord seq a.kind a.track)

/-- A trigger is refused (R442). -/
def State.coRefuse (s : State) (cause result : Nat) : State :=
  ((s.put F.DPX_CO_LAST_CAUSE cause).put F.DPX_CO_LAST_RESULT result).raise Ev.DPX_CO_REFUSED

/-- The instant t_c is kept as house time (R459). -/
def State.coTime (s : State) : State := s.put F.DPX_CO_TIME s.houseNs

/-- A changeover completes: counted and reported (R459, R460). -/
def State.coDone (s : State) (cause result : Nat) : State :=
  let s := (s.put F.DPX_CO_LAST_CAUSE cause).put F.DPX_CO_LAST_RESULT result
  let s := { s with dpx := { s.dpx with lastCo := some s.now } }
  (s.addSat F.DPX_CO_COUNT 1).raise Ev.DPX_CHANGEOVER

/-- The last changeover lies less than HOLDOFF ms back. -/
def State.coHeldOff (s : State) : Bool :=
  match s.dpx.lastCo with
  | none => false
  | some a => decide (s.now < a + max 1 (s.get F.DPX_CFG_HOLDOFF) * 1000000000)

/-- A policy of DPX_CO_POLICY lets a trigger act (R440). -/
def State.coEnabled (s : State) (cause : Nat) : Bool :=
  match cause with
  | 2 => s.flag F.DPX_CO_POLICY_DEADLINE
  | 4 => s.flag F.DPX_CO_POLICY_FENCE_LAG
  | 5 => s.flag F.DPX_CO_POLICY_COMMAND
  | _ => true

/-- A trigger on the lead (R441, R442): refused, or a burst and HANDING leave and the switch instant is set; a lead in HOLD
has muted its lanes already and goes SOLO. Only a lead in PERFORMANCE can hand over (R59; log entry 97); the transition is in
progress until its switch instant (R58). -/
def State.coTrigger (s : State) (cause : Nat) : State :=
  if s.role ≠ 1 ∨ !(s.coEnabled cause) ∨ s.dpx.switch.isSome then s
  else if (cause = 2 ∨ cause = 4) ∧ s.coHeldOff then s.coRefuse cause 4
  else if !(s.flag F.DPX_STATUS_READY) ∨ (cause ≠ 1 ∧ s.mode ≠ 3) then s.coRefuse cause 3
  else
    let s := (s.emit .burst).dpxSend 0x0D (leBytes 1 cause ++ leBytes 1 1 ++ leBytes 6 0)
    let s := s.coTime
    if cause = 1 then (s.setRole 3).coDone 1 2
    else ({ s with dpx := { s.dpx with switch := some ⟨s.now + 2000000, false, cause, s.now⟩ } } : State).put F.SYS_MODE_BUSY 1

/-- The understudy takes the lead on a burst, HANDING or a lost lead (R442); a changeover under way keeps the cause of the
CO frame (R453). -/
def State.coTake (s : State) (cause : Nat) (named : Bool) : State :=
  match s.dpx.switch with
  | some w => if named ∧ w.primary then { s with dpx := { s.dpx with switch := some { w with cause } } } else s
  | none =>
    if s.role ≠ 2 then s
    else if !(s.flag F.DPX_STATUS_READY) then s.coRefuse cause 3
    else
      let s := { s with dpx := { s.dpx with switch := some ⟨s.now + 1000000, true, cause, s.now⟩, taking := none } }
      (s.put F.SYS_MODE_BUSY 1).coTime.dpxSend 0x0E (leBytes 1 cause ++ leBytes 1 1 ++ leBytes 6 0)

end Sys2Proof.Machine
end

