-- ==== Sys2Proof/Machine/DramQ.lean ====
section
/-! DEFINITION. The DRAM address map, and the requests of all users in the order in which the controllers serve them (R35 to R37,
R609, R611, R613). Which class a user that R35 does not name has: log entry 92. -/

namespace Sys2Proof.Machine

def State.ctl (s : State) (c : Nat) : Dmc := tblGet {} s.dmc c
def State.setCtl (s : State) (c : Nat) (x : Dmc) : State := { s with dmc := tblPut {} s.dmc c x }

/-- STATE of R628: 0 OFF, 1 TRAINING, 2 READY, 3 SELF_REFRESH, 4 FREQ_CHANGE, 5 FROZEN, 6 HALTED, 7 FAILED. -/
def State.ctlState (s : State) (c : Nat) : Nat := s.get (F.DMC_STATUS_STATE c)

/-- A controller serves requests: it is READY and no recovery stall runs (R612, R616). -/
def State.ctlServes (s : State) (c : Nat) : Bool := s.ctlState c = 2 && (s.ctl c).stall.isNone

/-- Both controllers serve requests. -/
def State.dramReady (s : State) : Bool := s.ctlServes 0 && s.ctlServes 1

/-! ### Address map (R609) -/

/-- Where a device address lies. -/
structure DramPlace where
  ctl : Nat
  subch : Nat
  rank : Nat
  bankGroup : Nat
  bank : Nat
  row : Nat
  burst : Nat
  deriving DecidableEq, Repr

/-- The place of a device address, for column, row and rank bits of the modules and a MAP. -/
def dramPlace (map wc wr wk a : Nat) : DramPlace :=
  let c := bits a 8 8 ^^^ bits a 13 13 ^^^ bits a 21 21
  let l := bits a 7 0 + 256 * bits a 37 9
  let f := l / 128
  let col := f % 2 ^ wc
  let r := f / 2 ^ wc
  if map = 1 then
    let row := r % 2 ^ wr
    let r := r / 2 ^ wr
    ⟨c, bits l 6 6, r / 32 % 2 ^ wk, r % 8, r / 8 % 4, row, col⟩
  else
    let row := r / 32 % 2 ^ wr
    let bg := r % 8
    let ba := r / 8 % 4
    let rank := r / 32 / 2 ^ wr % 2 ^ wk
    if map = 0 then ⟨c, bits l 6 6, rank, bg, ba, row, col⟩
    else ⟨c, bits l 6 6, rank, bg ^^^ row % 8, ba ^^^ row / 8 % 4, row, col⟩

/-- The place of an address of this device. -/
def State.placeOf (s : State) (a : Nat) : DramPlace :=
  dramPlace s.dmcMap (s.get (F.DMC_MODULE_COL_BITS 0)) (s.get (F.DMC_MODULE_ROW_BITS 0))
    (if s.get (F.DMC_MODULE_RANKS 0) = 2 then 1 else 0) a

/-! ### Units and banks -/

/-- The 64-byte units that a range touches. -/
def unitsOf (a n : Nat) : List Nat := (List.range ((a % 64 + n + 63) / 64)).map (fun i => a / 64 + i)

/-- The bank of a place, as one number within its controller. -/
def DramPlace.bankIx (p : DramPlace) : Nat := ((p.subch * 2 + p.rank) * 8 + p.bankGroup) * 4 + p.bank

/-- Controller and bank of the units of a request, each once. -/
def State.banksOf (s : State) (us : List Nat) : List (Nat × Nat) :=
  (us.map (fun u => let p := s.placeOf (64 * u); (p.ctl, p.bankIx))).eraseDups

/-- The pages that a request leaves open (R611). -/
def State.openPages (s : State) (us : List Nat) : State :=
  us.foldl (fun s u =>
    let p := s.placeOf (64 * u)
    s.setCtl p.ctl { s.ctl p.ctl with pages := tblPut 0 (s.ctl p.ctl).pages p.bankIx (p.row + 1) }) s

/-- A refresh, a self-refresh entry or a frequency change closes every bank of a controller (R611). -/
def State.closePages (s : State) (c : Nat) : State := s.setCtl c { s.ctl c with pages := [] }

/-! ### The order of service -/

/-- Where a request stands by its class; one of class 6 that has waited 10 µs goes ahead of classes 4 and 5 (R36). One that came
in self-refresh follows, in arrival order, those that were waiting, and goes ahead of later ones (R619). -/
def State.dramRank (s : State) (r : DramReq) : Nat :=
  let k := if r.cls = 6 ∧ r.since + 10000000 ≤ s.now then 7 else 2 * r.cls
  let x := s.ctl (s.placeOf r.addr).ctl
  if r.since < x.srFrom then k else if r.since < x.srTo then 100 else 200 + k

/-- Two requests concern the same bytes, and one of them writes (R613). -/
def DramReq.meets (a b : DramReq) : Bool :=
  decide (a.addr < b.addr + b.len) && decide (b.addr < a.addr + a.len) && (a.data.isSome || b.data.isSome)

/-- Each request with the rank that it is served at: at least as early as a later request that must wait for it (R613). -/
def State.dramRanks (s : State) (l : List DramReq) : List (DramReq × Nat) :=
  l.foldr (fun r t => (r, (t.filter (fun q => r.meets q.1)).foldl (fun m q => min m q.2) (s.dramRank r)) :: t) []

/-- Some request goes before the one at place `i` of a list, in a bank that both need (R36, R611). -/
def State.dramBarred (s : State) (l : List DramReq) (i : Nat) : Bool :=
  let rs := s.dramRanks l
  match rs[i]? with
  | none => false
  | some (r, k) =>
    let own := s.banksOf (unitsOf r.addr r.len)
    rs.zipIdx.any (fun q => (decide (q.1.2 < k) || (q.1.2 == k && decide (q.2 < i))) &&
      (s.banksOf (unitsOf q.1.1.addr q.1.1.len)).any (fun b => own.contains b))

/-- The controllers of a request serve. -/
def State.dramServing (s : State) (r : DramReq) : Bool :=
  (s.banksOf (unitsOf r.addr r.len)).all (fun b => s.ctlServes b.1)

/-- The request at place `i` may be served now. -/
def State.dramFree (s : State) (i : Nat) : Bool :=
  match s.dreq[i]? with
  | none => false
  | some r => s.dramServing r && !(s.dramBarred s.dreq i)

/-- A read of a range may be served now, behind the requests that wait. -/
def State.dramMay (s : State) (cls a n : Nat) : Bool :=
  let r : DramReq := { cls, addr := a, len := n, since := s.now }
  s.dramServing r && !(s.dramBarred (s.dreq ++ [r]) s.dreq.length)

/-! ### Service -/

/-- Bytes of DRAM as the writes served so far leave them. -/
def State.dramNow (s : State) (a n : Nat) : List Byte := memBytes .dram (s.stores.foldl applyStore s).dram a n

/-- The set of the tile cache that a unit belongs to (R215). -/
def cacheSet (u : Nat) : Nat := u % 8192

/-- The units that a set holds, the most recently used first. -/
def State.cacheLine (s : State) (k : Nat) : List Nat := tblGet [] s.frg.cache k

/-- A unit stands in the tile cache. -/
def State.cached (s : State) (u : Nat) : Bool := (s.cacheLine (cacheSet u)).contains u

/-- A unit takes the front of its set: of 16 ways the least recently used unpinned one goes (R215, R216). -/
def State.cacheUse (s : State) (u : Nat) : State :=
  let l := (s.cacheLine (cacheSet u)).filter (· ≠ u)
  let l := if l.length < 16 then l else
    match l.reverse.find? (fun v => !(s.frg.pins.contains v)) with
    | some v => l.filter (· ≠ v)
    | none => l
  { s with frg := { s.frg with cache := tblPut [] s.frg.cache (cacheSet u) (u :: l) } }

/-- A write: an unpinned unit of it leaves the tile cache, a pinned one is updated in place (R217). -/
def State.cacheWritten (s : State) (us : List Nat) : State :=
  us.foldl (fun s u =>
    if s.frg.pins.contains u ∨ !s.cached u then s else
    { s with frg := { s.frg with
      cache := tblPut [] s.frg.cache (cacheSet u) ((s.cacheLine (cacheSet u)).filter (· ≠ u)) } }) s

/-- The controllers serve a request: its pages stay open, a write takes effect, and its user goes on. A request that a command
of its own completes (R39, R520) goes on there. -/
def State.dramServe (s : State) (r : DramReq) : State :=
  let us := unitsOf r.addr r.len
  let s := s.openPages us
  let s := match r.data with
    | some bs => (s.cacheWritten us).store (.dram r.addr bs)
    | none => s
  match r.who with
  | .plain => s
  | .record _ _ => s
  | .mirror q n => if s.dreq.any (fun x => x.who = .mirror q n) then s else s.dpxAck q 0x03 n
  | .fill => (s.cacheUse (r.addr / 64)).addSat F.FRG_CACHE_MISSES 1
  | .gone => s
  | .cp _ => s.emit (.cp (if r.data.isSome then 0 else leNat (s.dramNow r.addr r.len)) 0)
  | .read b q =>
    let d := s.dramNow r.addr r.len
    s.boxDone b q { status := 0, payload := leBytes 4 (crc32c d) ++ leBytes 4 0 ++ d }
  | .bulk b q => s.boxDone b q { status := 0 }

/-- Takes the request at place `i` off the queue and serves it. -/
def State.dramTake (s : State) (i : Nat) : State :=
  match s.dreq[i]? with
  | none => s
  | some r => ({ s with dreq := s.dreq.eraseIdx i } : State).dramServe r

/-- A command of the table completes the request: a queue record, or a bulk write. -/
def DramReq.commanded (r : DramReq) : Bool :=
  match r.who with
  | .record _ _ => true
  | .bulk _ _ => true
  | _ => false

/-- Requests that no command completes are served as soon as nothing goes before them. -/
def State.dramRun (s : State) : Nat → State
  | 0 => s
  | fuel + 1 =>
    match (List.range s.dreq.length).find? (fun i => (s.dreq[i]?).any (fun r => !r.commanded) && s.dramFree i) with
    | none => s
    | some i => (s.dramTake i).dramRun fuel

def State.dramSettle (s : State) : State := s.dramRun s.dreq.length

/-- The place of the first request of a user. -/
def State.dramOf (s : State) (who : DramUser) : Option Nat := s.dreq.findIdx? (fun r => r.who = who)

/-- Withdraws the requests of a user. -/
def State.dramDrop (s : State) (who : DramUser) : State := { s with dreq := s.dreq.filter (fun r => r.who ≠ who) }

/-- One burst of a class 6 request goes ahead of classes 4 and 5, and its wait begins again; with its last burst it is served
(R36). -/
def State.dramBurst (s : State) (i : Nat) (r : DramReq) : State :=
  if (unitsOf r.addr r.len).length ≤ r.bursts + 1 then s.dramTake i
  else { s with dreq := s.dreq.set i { r with bursts := r.bursts + 1, since := s.now } }

/-- The bulk write of a SEQ completes as far as requests before it let it (R36, R520). -/
def State.dramBulk (s : State) (b seq : Nat) : State :=
  match s.dramOf (.bulk b seq) with
  | none => s
  | some i =>
    match s.dreq[i]? with
    | none => s
    | some r =>
      if !(s.dramFree i) then s
      else if !(s.dramBarred (s.dreq.set i { r with since := s.now }) i) then s.dramTake i
      else s.dramBurst i r

end Sys2Proof.Machine
end

