-- ==== Sys2Proof/Machine/Series.lean ====
section
/-! DEFINITION. Series counters: accessions, issuing serials and the leases they come from (R274 to R278, R470,
R490 to R496). -/

namespace Sys2Proof.Machine

/-- The layout has a SERIAL field (R269). -/
def Layout.serial (ly : Layout) : Bool := ly.fields.any (fun d => d.kind = 2)

/-- The item waits in commit step 2 (R276). -/
def Item.wantsSerial (x : Item) : Bool :=
  match x.phase with
  | .serial _ => true
  | _ => false

/-- An installed layout draws serials, so the device wants leases (R492). -/
def State.drawn (s : State) : Bool := s.frg.layouts.any (fun l => l.serial && !l.retiring)

/-- The accession size 2^K of a series (R275). -/
def State.accSize (s : State) (i : Nat) : Nat := 2 ^ (s.sdef i).k

/-- The HELD leases that the device may issue from: own, and with the tag of its own series (R491, R497). -/
def State.usableLeases (s : State) (i : Nat) : List Lease :=
  (s.heldLeases i).filter (fun l => l.tag = (s.sdef i).tag)

/-- Shows the series registers (R307) and the lease registers (R500). -/
def State.seriesShow (s : State) (i : Nat) : State :=
  let r := s.srun i
  let v := s.vec (s.sdef i).vector
  let (q, e) := r.cur.getD (0, 0)
  let put3 (s : State) (f : Nat → Fld) (w : Nat) : State := [0, 1, 2].foldl (fun s j => s.put (f j) (w / 2 ^ (48 * j) % 2 ^ 48)) s
  let s := put3 s (F.FRG_VD_SERIES_NEXT_DIGITS i) (wordOf (toDigits v q))
  let s := put3 s (F.FRG_VD_SERIES_END_DIGITS i) (wordOf (toDigits v e))
  let s := s.put (F.FRG_VD_SERIES_STATUS_PREFETCHED i) (bit r.ahead.isSome)
  let s := s.put (F.FRG_VD_SERIES_STATUS_REMAINING i) (e - q)
  let s := s.put (F.FRG_VD_SERIES_STATUS_NO_LEASE i) (bit (r.noLease ≠ 0))
  let waits : Bool := (List.range 16).any (fun n => (s.queue n).items.any (fun x => x.series = i && x.wantsSerial))
  let s := s.put (F.FRG_VD_SERIES_STATUS_WAITING i) (bit waits)
  s.leaseShow i

/-- A lease in a new state, journaled (R491). -/
def State.leaseState (s : State) (l : Lease) (st : Nat) : State :=
  let m := { l with state := st }
  (({ s with leases := s.leases.map (fun x => if x.same l then m else x) } : State).leaseShow l.series).ldgRequest m.entry

/-- Requests the next accession of a series (R275): from the current lease, which becomes EXHAUSTED when it cannot hold it,
and then from the next. An isolated
lead takes none (R433), nor does an understudy, which issues no serial (R430). -/
def State.accessionTake (s : State) (i : Nat) : Nat → State
  | 0 => s
  | fuel + 1 =>
    let r := s.srun i
    if r.pend.isSome ∨ r.ahead.isSome ∨ s.mode = 4 ∨ (s.flag F.DPX_STATUS_ISOLATED ∧ s.role = 1) then s else
    match s.usableLeases i with
    | [] => s.leaseCheck i s.drawn
    | l :: _ =>
      if l.wait then s else
      let sz := s.accSize i
      let a := s.leaseStart l + l.free
      if capacity (s.vec (s.sdef i).vector) ≤ a + sz ∨ s.leaseLen l < l.free + sz then
        (s.leaseState l 3).accessionTake i fuel
      else
        let s := s.setSrun i { r with pend := some (a, a + sz) }
        let s := s.ldgRequest (.accession i false l.quantum l.free) (.accession i)
        { s with leases := s.leases.map (fun x => if x.same l then { x with free := l.free + sz } else x) }

/-- Requests the next accession when the current one has run low (R276), and the next lease when it is due (R492). -/
def State.seriesTop (s : State) (i : Nat) : State :=
  let r := s.srun i
  let left := match r.cur with | some (q, e) => e - q | none => 0
  let s := if r.ahead.isNone ∧ left ≤ s.get (F.FRG_VD_SERIES_LOW_WATER_VALUES i) then s.accessionTake i 3 else s
  (s.leaseCheck i s.drawn).seriesShow i

/-- An accession may be used: it becomes the current one, or stands ahead of it (R276). -/
def State.accessionUse (s : State) (i : Nat) : State :=
  let r := s.srun i
  match r.pend with
  | none => s
  | some p =>
    let dry : Bool := match r.cur with | none => true | some (q, e) => decide (e ≤ q)
    let r := { r with pend := none }
    (s.setSrun i (if dry then { r with cur := some p } else { r with ahead := some p })).seriesShow i

/-- What commit step 2 finds for a series (R276, R278). -/
inductive Issue where
  | value (v : Nat)
  /-- no further lease: the item is marked with the bit of R154 -/
  | none (mark : Nat)
  | wait
  deriving DecidableEq, Repr

/-- Why no lease can be had, as the mark bit of R496; none while one may still come. -/
def State.noLeaseMark (s : State) (i : Nat) : Option Nat :=
  if (s.usableLeases i) ≠ [] ∨ (s.srun i).pend.isSome then none
  else if !(s.flag F.CMP_STATUS_QUORUM) then some 13
  else if !(s.castFor i) then some 15
  else if (s.srun i).noLease = 1 then some 13
  else if (s.srun i).noLease = 2 ∨ (s.srun i).noLease = 5 then some 15
  else none

/-- Takes the next value of a series when an accession holds one (R274, R276). -/
def State.seriesNext (s : State) (i : Nat) : State × Option Nat :=
  let r := s.srun i
  match r.cur with
  | none => (s, none)
  | some (q, e) =>
    if q < e then (s.setSrun i { r with cur := some (q + 1, e) }, some q) else
    match r.ahead with
    | some (q, e) => if q < e then (s.setSrun i { r with cur := some (q + 1, e), ahead := none }, some q) else (s, none)
    | none => (s, none)

/-- Commit step 2 for one item of a series: a value, none with its mark, or a wait (R274 to R278). -/
def State.seriesIssue (s : State) (i : Nat) : State × Issue :=
  match s.seriesNext i with
  | (s, some v) => (s.seriesTop i, .value v)
  | (s, none) =>
    let s := s.seriesTop i
    match s.noLeaseMark i with
    | some m =>
      let r := s.srun i
      let s := s.setSrun i { r with noLease := if r.noLease = 0 then (if m = 13 then 4 else 3) else r.noLease }
      ((s.raise Ev.FRG_VD_NO_SERIAL).seriesShow i, .none m)
    | none => (s, .wait)

/-- A lease becomes HELD (R493): usable at once, on a lead when the understudy has acknowledged it (R494). -/
def State.leaseHeld (s : State) (l : Lease) : State :=
  let l := { l with state := 2, partner := false, wait := s.mirrors }
  let s : State := { s with leases := s.leases.filter (fun x => !(x.same l)) ++ [l] }
  let s := s.setSrun l.series { s.srun l.series with noLease := 0 }
  let s := s.raise Ev.CMP_LEASE_GRANTED
  let s := if s.mirrors then s.dpxCommit 0x06 0 (.lease l) (s.leaseBytes l) else s
  s.seriesTop l.series

/-- The leases and issue points after a scan (R470): own HELD leases resume above their latest accession; PREPARED ones and
those of another digest are abandoned. -/
def State.leasesResume (s : State) : State :=
  let recs := s.ldg.live.filterMap (fun e => match e with
    | .lease i p st q c h t =>
      if st = 1 ∨ st = 2 then
        let free := match s.accOffset i q p with | some o => o + s.accSize i | none => 0
        some ({ series := i, partner := p, state := st, holder := h, quantum := q, quanta := c, tag := t, free } : Lease)
      else none
    | _ => none)
  let s : State := { s with leases := recs, series := [] }
  let s := recs.foldl (fun s l => s.leaseShow l.series) s
  recs.foldl (fun s l =>
    if !l.partner ∧ (l.state = 1 ∨ l.tag ≠ (s.sdef l.series).tag) then (s.leaseState l 4).raise Ev.LDG_LEASE_ABANDONED
    else s) s

end Sys2Proof.Machine
end

