-- ==== Sys2Proof/Machine/Items.lean ====
section
/-! DEFINITION. The work queue: checks, the commit pipeline, the retry hold, HEAD and pre-compose, the fired mark and
recovery (R144 to R192, R435). -/

namespace Sys2Proof.Machine

/-! ### The retention SRAM (R671, R672) -/

/-- The addresses of the registers that a bank holds (R672); bank 2 holds the values of R166 beyond them. -/
def bankRegs (b : Nat) : List (Nat × Nat) :=
  let one (f : Fld) : Nat × Nat := (f.addr, f.addr + 4)
  match b with
  | 0 => [(0x30280, 0x30300), (0x308C0, 0x30900), (0x70000, 0x80000), (0x140000, 0x150000)]
  | 1 => (List.range 16).map (fun n => ((F.TRK_CTRL n).addr, (F.TRK_Z n).addr + 4))
  | 2 => (List.range 16).flatMap (fun n => [one (F.WQ_CFG n), one (F.WQ_STARVE_OFFSET n)])
  | 3 => [one F.FRG_CTRL, one F.FRG_BUDGET, one F.FRG_CACHE_CFG, one F.FRG_DL_CTRL, one F.FRG_VD_CTRL, one F.NZC_CTRL,
      (0x102400, 0x102800), (0x107000, 0x107400)] ++ (List.range 8).map (fun k => one (F.FRG_TAP_CTRL k))
  | 4 => [(0x102800, 0x102C00)]
  | 6 => [one F.STG_CTRL, one F.DPX_CFG, one F.DPX_CO_POLICY, one F.CMP_TIME_CFG, one F.CMP_HOLD_LIMIT] ++
      (List.range 16).flatMap (fun n => [one (F.INS_TRK_CFG n), one (F.INS_TRK_WINDOW n)]) ++
      (List.range 32).flatMap (fun g => [one (F.INS_GATE_CFG g), one (F.INS_GATE_OFFSET g)])
  | _ => []

/-- An address lies in a bank. -/
def inBank (b a : Nat) : Bool := (bankRegs b).any (fun r => r.1 ≤ a && a < r.2)

/-- What a bank keeps now: its registers that do not stand at reset, the applied set for the tracks, the marks of
R166, and the flip-flops of bank 7. -/
def State.bankValue (s : State) (b : Nat) : List (Nat × BitVec 64) :=
  ((if b = 1 then s.active else s.regs).filter (fun c => inBank b c.1)) ++
  (if b = 2 then s.aonMarks.flatMap (fun m =>
    [(2 ^ 32 + m.1, BitVec.ofNat 64 m.2.fired), (2 ^ 32 + 16 + m.1, BitVec.ofNat 64 m.2.bound)]) else []) ++
  (if b = 7 then s.retained.map (fun c => (2 ^ 33 + c.1, BitVec.ofNat 64 (bit c.2))) else [])

/-- The CRC of a bank's record. -/
def bankCrc (b seq : Nat) (v n : List (Nat × BitVec 64)) : Nat :=
  crc32c (leBytes 2 0x5452 ++ leBytes 1 b ++ leBytes 4 seq ++
    (v ++ n).flatMap (fun c => leBytes 8 c.1 ++ leBytes 8 c.2.toNat))

/-- Writes a bank (R671). -/
def State.bankWrite (s : State) (b : Nat) : State :=
  let v := s.bankValue b
  let n := v.map (fun c => (c.1, ~~~c.2))
  let seq := s.get F.AON_RET_SEQ
  { s with banks := tblPut none s.banks b (some { bank := b, seq, value := v, notValue := n, crc := bankCrc b seq v n }) }

/-- A bank is valid (R674). -/
def State.bankOk (s : State) (b : Nat) : Bool :=
  match tblGet none s.banks b with
  | none => false
  | some x => decide (x.magic = 0x5452) && decide (x.bank = b) && decide (x.seq = s.get F.AON_RET_SEQ) &&
    decide (x.crc = bankCrc b x.seq x.value x.notValue) && decide (x.notValue = x.value.map (fun c => (c.1, ~~~c.2)))

/-- The banks in a mask have lost a bit. -/
def State.banksDamage (s : State) (bad : Nat) : State :=
  { s with banks := s.banks.map (fun (c : Nat × Option RetBank) =>
      if bad.testBit c.1 then (c.1, c.2.map (fun x => { x with crc := x.crc ^^^ 1 })) else c) }

/-! ### The fired mark -/

/-- A retention record of two values, with their complements (R22, R166). -/
def AonMark.of (fired bound : Nat) : AonMark :=
  { present := true, fired, bound, firedNot := 2 ^ 64 - 1 - fired % 2 ^ 64, boundNot := 2 ^ 64 - 1 - bound % 2 ^ 64 }

/-- Both values agree with their complements. -/
def AonMark.sound (a : AonMark) : Bool :=
  decide (a.fired + a.firedNot = 2 ^ 64 - 1) && decide (a.bound + a.boundNot = 2 ^ 64 - 1)

/-- Keeps the AON retention record of a track, in bank 2 (R166, R671). -/
def State.aonKeep (s : State) (n : Nat) : State :=
  (s.setAonMark n (AonMark.of (s.get (F.WQ_FIRED_HWM n)) (s.queue n).boundMax)).bankWrite 2

/-- The AON records of the tracks in a mask have lost a bit. -/
def State.aonDamage (s : State) (bad : Nat) : State :=
  (List.range 16).foldl (fun s n =>
    if bad.testBit n then s.setAonMark n { s.aonMark n with firedNot := (s.aonMark n).firedNot ^^^ 1 } else s) s

/-- CEILING_ID of a CHECKPOINT above `f` (R167): the 512th accepted item after it, or the accepted mark. -/
def State.checkCeil (s : State) (n f : Nat) : Nat :=
  let ids := ((s.queue n).items.filter (fun x => !x.committing ∧ f < x.id)).map Item.id
  ids.getD 511 (max f (s.get (F.WQ_ACC_HWM n)))

/-- The FIRED_MARK entry that would be requested now: sub-kind 1 CHECKPOINT, 2 FINAL (R167, R170). -/
def State.firedMark (s : State) (n sub : Nat) : Nat × Nat :=
  let f := max (s.get (F.WQ_FIRED_HWM n)) (s.queue n).lastEntryFired
  let f := match sub, s.headItem n with
    | 1, some x => if f + 2 ^ 32 ≤ x.id ∧ s.inCurtain n then x.id - 1 else f
    | _, _ => f
  let c := if sub = 1 then s.checkCeil n f else max (s.queue n).boundMax f
  (f, min c (f + 2 ^ 32 - 1))

/-- Requests a FIRED_MARK entry (R167, R168). -/
def State.markRequest (s : State) (n sub : Nat) : State :=
  let (f, c) := s.firedMark n sub
  let q := s.queue n
  let s := s.setQueue n { q with since := 0, lastEntryFired := f }
  (s.ldgRequest (.fired n sub f c)).wqShow n

/-- The item is covered by the latest written entry (R169). -/
def State.covered (s : State) (n id : Nat) : Bool :=
  match (s.queue n).ceiling with | none => false | some c => decide (id ≤ c)

/-- Shows CEILING_WAIT (R169, R185). An item in HEAD that lies 2^32 or more above FIRED_ID has its CHECKPOINT written once no
item of the track is in BOUND or PRINTING (R170; log entry 39). -/
def State.ceilCheck (s : State) (n : Nat) : State :=
  match s.headItem n with
  | none => when (s.flag (F.WQ_STATUS_CEILING_WAIT n)) (fun s => s.put (F.WQ_STATUS_CEILING_WAIT n) 0) s
  | some x =>
    if s.covered n x.id then s.put (F.WQ_STATUS_CEILING_WAIT n) 0 else
    let s := s.put (F.WQ_STATUS_CEILING_WAIT n) 1
    let f := max (s.get (F.WQ_FIRED_HWM n)) (s.queue n).lastEntryFired
    if s.marksOut n = 0 ∧ f + 2 ^ 32 ≤ x.id ∧ s.inCurtain n then s.markRequest n 1 else s

/-! ### Outcome records -/

/-- STATE of an item in the queue (R152). -/
def Item.stateCode (x : Item) : Nat :=
  match x.phase with
  | .bound => 2
  | .printing => 3
  | .fired => 4
  | _ => 1

def Item.outRec (x : Item) : OutRec :=
  { id := x.id, state := x.stateCode, verdict := x.verdict, marks := x.marks, hostTag := x.hostTag }

/-- The outcome record of an ID (R153, R173). -/
def State.recordOf (s : State) (n id : Nat) : OutRec :=
  let q := s.queue n
  match q.items.find? (fun x => x.id = id ∧ !x.committing) with
  | some x => x.outRec
  | none =>
    match q.history.find? (fun r => r.id = id) with
    | some r => r
    | none =>
      if s.get (F.WQ_REC_FIRED n) < id ∧ id ≤ s.get (F.WQ_REC_CEIL n) then
        { id, state := if s.flag (F.WQ_REC_STATUS_EXACT n) then 9 else 10 }
      else { id, state := 0 }

/-! ### Ends of submissions and the retry hold -/

/-- The retry hold of a track ends (R158). -/
def State.holdEnd (s : State) (n : Nat) : State :=
  let s := s.setQueue n { s.queue n with holdAt := none }
  (s.put (F.WQ_HOLD_ID n) 0).put (F.WQ_STATUS_RETRY_HOLD n) 0

/-- The retry hold lasts. -/
def State.holding (s : State) (n : Nat) : Bool := (s.queue n).holdAt.isSome

/-- A submission for track `n` ends (R150, R158). -/
def State.submitEnd (s : State) (n id : Nat) (sub : Submitter) (code : Nat) (r : OutRec) : State :=
  let s := if s.holding n ∧ id ≤ s.get (F.WQ_HOLD_ID n) ∧ code ≠ 0x12 then s.holdEnd n else s
  s.outcome sub code r

/-- One item leaves COMMITTING with COMMIT_FAIL: its record, its event and the retry hold (R157, R158). -/
def State.commitFailOne (s : State) (n : Nat) (x : Item) : State :=
  let r : OutRec := { id := x.id, state := 11, hostTag := x.hostTag }
  let q := s.queue n
  let s := (s.setQueue n { q with items := q.items.filter (fun y => y.id ≠ x.id) }).dramDrop (.record n x.id)
  let s := (s.histPut n r).raise Ev.WQ_COMMIT_FAIL n
  let s := if s.act (F.WQ_CFG_RETRY_HOLD n) = 0 then s else
    let low := if s.holding n then min x.id (s.get (F.WQ_HOLD_ID n)) else x.id
    let s := s.setQueue n { s.queue n with holdAt := some s.now }
    (s.put (F.WQ_HOLD_ID n) low).put (F.WQ_STATUS_RETRY_HOLD n) 1
  s.outcome x.sub 0x12 r

/-- An item of track `n` fails to commit, and every later item in COMMITTING with it (R157). -/
def State.commitFail (s : State) (n id : Nat) : State :=
  let q := s.queue n
  let out : List Item := (q.items.dropWhile (fun x => x.id ≠ id)).filter Item.committing
  (out.foldl (fun s x => s.commitFailOne n x) s).wqShow n

/-- Every submission in COMMITTING or held ends with COMMIT_FAIL at a print-path reset (R40, R192). -/
def State.commitsEnd (s : State) (n : Nat) : State :=
  let q := s.queue n
  let s := (q.items.filter Item.committing).foldl (fun s x =>
    ((s.dramDrop (.record n x.id)).raise Ev.WQ_COMMIT_FAIL n).outcome x.sub 0x12 { id := x.id, state := 11, hostTag := x.hostTag }) s
  q.held.foldl (fun s h =>
    (s.raise Ev.WQ_COMMIT_FAIL n).outcome h.sub 0x12
      { id := leAt h.bytes 0 8, state := 11, hostTag := leAt h.bytes 20 4 }) s

/-- Track that a record names. -/
def trackOf (l : List Byte) : Nat := leAt l 8 2 % 16

/-- The outcome record of a submission that ends with COMMIT_FAIL (R150). -/
def notAccepted (l : List Byte) : OutRec := { id := leAt l 0 8, state := 11, hostTag := leAt l 20 4 }

/-- The records of a batch. -/
def batchItems (l : List Byte) : List (Nat × List Byte) :=
  (List.range (leAt l 0 1)).map (fun k => (k, (l.drop (8 + 64 * k)).take 64))

/-- The answer of a batch under construction: every CODE at `code`. -/
def batchAll (code : Nat) (l : List Byte) : List Byte :=
  leBytes 1 (leAt l 0 1) ++ leBytes 7 0 ++
    (batchItems l).flatMap (fun p => leBytes 1 code ++ leBytes 7 0 ++ (notAccepted p.2).bytes)

/-- Track and item ID of each record that a command submits. -/
def submitted (op : Nat) (l : List Byte) : List (Nat × Nat) :=
  let one (r : List Byte) : Nat × Nat := (trackOf r, leAt r 0 8)
  if op = 0x20 then [one l] else if op = 0x21 then (batchItems l).map (fun p => one p.2) else []

/-- Repeated submissions that wait behind the running ones of their SEQ end with COMMIT_FAIL at a print-path reset (R40,
R530); other repeats go on waiting. -/
def State.retriesFail (s : State) (b : Nat) : State :=
  let x := s.box b
  let sub (d : Due) : Bool := d.opcode = 0x20 ∨ d.opcode = 0x21
  let end_ (d : Due) : Due := { d with
    payload := [], resp := some { status := 0, payload :=
      if d.opcode = 0x20 then outcomeBytes 0x12 (notAccepted d.payload) else batchAll 0x12 d.payload } }
  (s.setBox b { x with
    due := (x.retries.filter sub).foldl (fun l d => putDue (end_ d) l) x.due
    retries := x.retries.filter (fun d => !(sub d)) }).boxSend b

/-! ### Commit steps -/

/-- The layout version that an item from HEAD on uses (R228). -/
def State.itemLayout (s : State) (n : Nat) (x : Item) : Option Layout := s.version? n x.layout x.version

/-- The serial issue record of an item (R274). -/
def State.issueBytes (s : State) (x : Item) : List Byte :=
  let v := s.vec (s.sdef x.series).vector
  let w := match x.serial with | some q => wordOf (toDigits v q) | none => 0
  leBytes 8 x.id ++ leBytes 6 (w % 2 ^ 48) ++ leBytes 6 (w / 2 ^ 48 % 2 ^ 48) ++ leBytes 6 (w / 2 ^ 96 % 2 ^ 48) ++
    leBytes 1 x.series ++ leBytes 1 (if x.serial.isSome then 1 else 2) ++ leBytes 4 0

/-- The 64 bytes of an item record (R144). -/
def Item.bytes (n : Nat) (x : Item) : List Byte :=
  leBytes 8 x.id ++ leBytes 2 (16 * x.flags + n) ++ leBytes 2 x.layout ++ leBytes 1 x.series ++ leBytes 1 x.fieldCount ++
    leBytes 2 0 ++ leBytes 4 x.cueOffset ++ leBytes 4 x.hostTag ++ x.vdata

/-- Commit step 3 begins: the record is written to its slot of the queue ring, which stands at the base of the track's region,
below the history ring (R39, R160; log entry 93). -/
def State.recordAsk (s : State) (n : Nat) (x : Item) : State :=
  s.dramPut 3 ((s.queueRegion n).base + 64 * x.slot) (x.bytes n) (.record n x.id)

/-- Commit step 2 of one item (R39, R274 to R278). -/
def State.step2 (s : State) (n : Nat) (x : Item) : State :=
  match s.seriesIssue x.series with
  | (s, .wait) => s
  | (s, r) =>
    let (v, m) := match r with | .value v => (some v, 0) | .none m => (none, 2 ^ m) | .wait => (none, 0)
    let y := { x with serial := v, marks := x.marks ||| m, phase := .writing }
    let s := s.modItem n x.id (fun _ => y)
    let g := s.queueRegion n
    let s := (s.dramPut 3 (g.base + 5242880 + 32 * x.slot) (s.issueBytes y)).recordAsk n y
    s.seriesShow x.series

/-- All items waiting in step 2, the earliest first and the lower track first among equals (R274); those of this instant once
no further command of it could bring one of a lower track (R300). -/
def State.serialsTry (s : State) : State :=
  let w : List (Ps × Nat × Item) := (List.range 16).flatMap (fun n => (s.queue n).items.filterMap (fun x =>
    match x.phase with | .serial a => if s.more ∧ a = s.now then none else some (a, n, x) | _ => none))
  let w := w.mergeSort (fun a b => a.1 ≤ b.1)
  w.foldl (fun s p => s.step2 p.2.1 p.2.2) s

/-- Items waiting in step 2 go on when the command before has made a serial or its refusal available (R276, R278). -/
def State.serialsResume (s : State) : State :=
  if (List.range 16).any (fun n => (s.queue n).items.any Item.wantsSerial) then s.serialsTry else s

/-- The oldest item in COMMITTING. -/
def State.firstCommit (s : State) (n : Nat) : Option Item := (s.queue n).items.find? Item.committing

/-- Commit step 5 (R39, R155): the oldest committing items whose steps are complete are accepted in order. -/
def State.accepts (s : State) (n : Nat) : Nat → State
  | 0 => s
  | fuel + 1 =>
    match s.firstCommit n with
    | none => s
    | some x =>
      if x.phase ≠ .ready then s else
      let s := s.modItem n x.id (fun y => { y with phase := .accepted, acceptedAt := some s.now })
      let q := s.queue n
      let s := s.setQueue n { q with history := q.history.filter (fun r => r.id ≠ x.id) }
      let s := s.put (F.WQ_ACC_HWM n) x.id
      let s := s.submitEnd n x.id x.sub 0 { x.outRec with state := 1, verdict := 0 }
      let s := if s.mirrors ∧ x.marks ≠ 0 then
          s.dpxSend 0x0B (leBytes 1 n ++ leBytes 5 0 ++ leBytes 2 x.marks ++ leBytes 8 x.id) else s
      s.accepts n fuel

def State.acceptReady (s : State) (n : Nat) : State := (s.accepts n 65).wqShow n

/-- Commit step 3 completes for the first item being written, once its request goes before all others of its bank (R35): its
record stands in the queue ring, and step 4 or 5 follows (R39, R428). -/
def State.recordWritten (s : State) (n : Nat) : State :=
  match (s.queue n).items.find? (fun x => x.phase = .writing) with
  | none => s
  | some x =>
  match s.dramOf (.record n x.id) with
  | none => s
  | some i =>
    if !(s.dramFree i) then s else
    let s := s.dramTake i
    if s.mirrors then
      let q := s.dpx.commitSeq
      let s := s.modItem n x.id (fun y => { y with phase := .mirror q })
      s.dpxCommit 0x03 n (.item n x.id) (x.bytes n ++ s.issueBytes x)
    else (s.modItem n x.id (fun y => { y with phase := .ready })).acceptReady n

/-! ### Checks (R149) -/

/-- The item that a record describes. -/
def itemOf (l : List Byte) (sub : Submitter) : Item :=
  let f := leAt l
  { id := f 0 8, flags := f 8 2 / 16, layout := f 10 2, series := f 12 1, fieldCount := f 13 1, cueOffset := f 16 4
    hostTag := f 20 4, vdata := (l.drop 24).take 40, sub
    marks := if (f 8 2 / 16).testBit 2 then 2 ^ 11 else 0 }

/-- The record holds a pointer (R147). -/
def Item.ptr (x : Item) : Bool := x.flags.testBit 3

/-- Reserved flag bits and bytes are 0 (check 3). -/
def formatOk (l : List Byte) : Bool :=
  let fl := leAt l 8 2 / 16
  decide (fl / 16 = 0) && !fl.testBit 0 && decide (leAt l 14 2 = 0) && (!(fl.testBit 3) || zeros l 0x28 0x40)

/-- Inline or pointed characters fit the fields of a layout (check 7, R270). -/
def State.fieldsFit (s : State) (ly : Layout) (fs : List (List Nat)) : Bool :=
  (List.range ly.fields.length).all (fun i =>
    match ly.fields[i]? with
    | none => true
    | some d =>
      let c := fs.getD i []
      if d.kind = 1 then decide (c.length ≤ d.width) && c.all (fun ch => (s.alph d.inAlph).any (fun e => e.1 = ch))
      else c.isEmpty)

/-- Check 7. -/
def State.fieldsOk (s : State) (ly : Layout) (x : Item) : Bool :=
  if x.fieldCount ≠ ly.fields.length then false
  else if x.ptr then true
  else match splitFields x.fieldCount x.vdata with
    | none => false
    | some (fs, rest) => rest.all (· = 0) && s.fieldsFit ly fs

/-- Address, length and CRC of a pointer (R147). -/
def Item.pointer (x : Item) : Nat × Nat × Nat := (leAt x.vdata 0 8, leAt x.vdata 8 4, leAt x.vdata 12 4)

/-- The box may submit to the track. -/
def State.mayTrack (s : State) (b n : Nat) : Bool := (s.get (F.IZX_BOX_RIGHTS_TRACKS b)).testBit n

/-- The provisional mark (R156). -/
def State.provisional (s : State) (n : Nat) : Nat :=
  ((s.queue n).items.filter Item.committing).foldl (fun m x => max m x.id) (s.get (F.WQ_ACC_HWM n))

/-- PROMPT is complete. -/
def State.promptDone (s : State) : Bool := s.flag F.CFG_PROMPT_STATUS_IMPORTED

/-- A retention bank is in its safe state (R672, R674). -/
def State.bankHeld (s : State) (b : Nat) : Bool := (s.get F.PWR_RET_STATUS_HELD).testBit b

/-- Check 1 of R149: the mode accepts items, PROMPT is complete, no entry to INTERVAL is under way (R664) and bank 2 is not
held (R672). -/
def State.ready (s : State) : Bool := s.accepting ∧ s.promptDone ∧ s.pwr.step = 0 ∧ !(s.bankHeld 2)

/-- The first free slot of the queue ring from slot `i` on: at most as many are taken as `used` names (R160). -/
def freeSlot (used : List Nat) (i : Nat) : Nat → Nat
  | 0 => i % 65536
  | fuel + 1 => if used.contains (i % 65536) then freeSlot used (i + 1) fuel else i % 65536

/-- A submission arrives at the work queue, or is checked afresh (R149, R155, R156). One whose ID is in COMMITTING is held
without a check; so is a 65th, while 64 are in COMMITTING (log entry 88). -/
def State.submit (s : State) (b : Submission) : State :=
  let l := b.bytes
  let n := trackOf l
  let x := itemOf l b.sub
  let bad (s : State) (code : Nat) : State := s.submitEnd n x.id b.sub code { id := x.id, state := 0, hostTag := x.hostTag }
  let q := s.queue n
  let com := q.items.filter Item.committing
  if com.any (fun y => y.id = x.id) ∨ 64 ≤ com.length then s.setQueue n { q with held := q.held ++ [b] }
  else if !s.ready then bad s 0x10
  else if s.act (F.TRK_CTRL_ENABLE n) = 0 ∨ !(s.mayTrack b.sub.box n) then bad s 0x20
  else if !(formatOk l) then bad s 0x21
  else
    if x.id ≤ s.provisional n then s.submitEnd n x.id b.sub 1 (s.recordOf n x.id)
    else if s.holding n ∧ s.get (F.WQ_HOLD_ID n) < x.id then
      let r : OutRec := { id := x.id, state := 11, hostTag := x.hostTag }
      ((s.histPut n r).raise Ev.WQ_COMMIT_FAIL n).outcome b.sub 0x12 r
    else match s.layout? n x.layout with
      | none => bad s 0x22
      | some ly =>
        if ly.serial ∧ !(s.sdef x.series).defined then bad s 0x23
        else if !(s.fieldsOk ly x) then bad s 0x24
        else if x.ptr ∧ (x.pointer.2.1 = 0 ∨ 4096 < x.pointer.2.1 ∨ !(s.inRegion 5 x.pointer.1 x.pointer.2.1)) then bad s 0x25
        else if 65536 ≤ q.items.length then (bad s 0x11).raise Ev.WQ_QUEUE_FULL n
        else
          let slot := freeSlot (q.items.map Item.slot) q.slotNext q.items.length
          let y := { x with slot, phase := if ly.serial then .serial s.now else .writing }
          let s := s.setQueue n { q with items := q.items ++ [y], slotNext := (slot + 1) % 65536 }
          if s.role = 1 ∧ s.flag F.DPX_STATUS_ISOLATED then s.commitFail n x.id
          else ((if ly.serial then s.serialsTry else s.recordAsk n y)).wqShow n

/-- Submissions held behind a committing item are checked afresh (R156). -/
def State.heldTry (s : State) (n : Nat) : State :=
  let q := s.queue n
  if q.held = [] then s else
  q.held.foldl (fun s b => s.submit b) (s.setQueue n { q with held := [] })

/-! ### HEAD and pre-compose -/

/-- The prints that hold a descriptor store slot: layout ID and version (R202). -/
def State.storeUse (s : State) (n : Nat) : List (Nat × Nat × Nat) :=
  ((s.queue n).items.filter (fun x => x.phase = .head ∨ x.running)).map (fun x => (n, x.layout, x.version)) ++
    ((s.track n).starves).map (fun x => (n, x.layout, x.version))

/-- The bound of R285 while holdover lasts. -/
def State.holdBound (s : State) : Option Nat := if s.cmp.holdoverAt.isSome then some s.timeBound else none

/-- What the fields of an item are formed from. -/
def State.itemCtx (s : State) (x : Item) (vdata : List (List Nat)) (bad : Bool) (instant : Nat) : FieldCtx :=
  { vdata, vdataBad := bad, serial := x.serial.map (fun q => (s.vec (s.sdef x.series).vector, q)), instant
    unset := !s.house.set, bound := s.holdBound, counters := x.counters }

/-- The characters of an item's fields, read at HEAD; none when the pointed bytes fail their checks (R148). Bytes left after
the last field fail the format of R147, which names none (log entry 94). -/
def State.itemChars (s : State) (ly : Layout) (x : Item) : Option (List (List Nat)) :=
  if !x.ptr then (splitFields x.fieldCount x.vdata).map Prod.fst else
  let (a, n, c) := x.pointer
  let l := s.dramBytes a n
  if crc32c l ≠ c then none else
  match splitFields x.fieldCount l with
  | some (fs, rest) => if rest = [] ∧ s.fieldsFit ly fs then some fs else none
  | none => none

/-- Counter words that the COUNTER fields of a layout take, each once (R279). -/
def State.takeCounters (s : State) (ly : Layout) : List (Nat × Nat) := ly.counters.map (fun k => (k, s.cntWord k))

/-- Shows how many engines work (R297, R303): one per item in pre-compose, the lowest engines first (log entry 20). -/
def State.enginesShow (s : State) : State :=
  let k := ((List.range 16).map (fun n =>
    ((s.queue n).items.filter (fun x => (x.phase = .head ∨ x.running) ∧ !x.delivered)).length +
      ((s.track n).starves.filter (fun x => !x.ready)).length)).foldl (· + ·) 0
  s.put F.FRG_VD_STATUS_ENGINE_BUSY (2 ^ min 4 k - 1)

/-- An item enters HEAD of track `n` (R42, R161, R202, R283): its layout is loaded, pointed bytes are read, its counters are
taken and its fields are formed. `instant` is the read instant, `counters` the words taken; `x`
names the layout version already. -/
def State.enterHead (s : State) (n : Nat) (x : Item) (instant : Nat) (counters : List (Nat × Nat)) : State :=
  match s.version? n x.layout x.version with
  | none => s
  | some ly =>
    let corrupt : Bool := descCrc (s.dramBytes ly.addr ly.len) ≠ ly.crc
    let chars := s.itemChars ly x
    let bad := chars.isNone
    let x := { x with counters, readInstant := instant, readSet := true, vdataBad := bad, corrupt }
    let f := s.formFields ly (s.itemCtx x (chars.getD []) bad instant)
    let s := s.modItem n x.id (fun _ => { x with
      phase := .head, headAt := s.now, formed := f.1, formedMarks := f.2, delivered := false })
    let s := if corrupt then (s.mark n x.id 15).raise Ev.FRG_LAYOUT_CORRUPT n else s
    let s := if bad then (s.mark n x.id 10).raise Ev.WQ_VDATA_BAD n else s
    let past : Bool := s.cmp.holdoverAt.isSome && decide (s.get F.CMP_HOLD_LIMIT * 1000000 < s.timeBound)
    let s := if ly.flags.testBit 1 && past then s.mark n x.id 12 else s
    let s := (s.enginesShow).wqShow n
    (if s.covered n x.id then s else s.markRequest n 1).ceilCheck n

/-- The counter values of a HEAD frame: 24 bytes for each COUNTER field (R427). -/
def headCounters (ly : Layout) (cs : List (Nat × Nat)) : List Byte :=
  (ly.fields.filter (fun d => d.kind = 4)).flatMap (fun d =>
    let w := ((cs.find? (fun p => p.1 = d.sel)).map Prod.snd).getD 0
    leBytes 8 (w % 2 ^ 48) ++ leBytes 8 (w / 2 ^ 48 % 2 ^ 48) ++ leBytes 8 (w / 2 ^ 96 % 2 ^ 48))

/-- The controllers serve the reads of an item that enters HEAD: its pointed data, and the list of its layout (R35, R148,
R202). -/
def State.headReads (s : State) (ly : Layout) (x : Item) : Bool :=
  s.dramMay 4 ly.addr ly.len && (!x.ptr || s.dramMay 3 x.pointer.1 x.pointer.2.1)

/-- HEAD of track `n` is filled with its oldest accepted item (R161, R202, R242, R333); an understudy's items enter HEAD by
its lead's frames (R435). -/
def State.fillHead (s : State) (n : Nat) : State :=
  if !(s.mode = 2 ∨ s.mode = 3) ∨ (s.headItem n).isSome ∨ s.frg.rebuilding ∨ s.nzc.restoring ∨ s.bankHeld 2 ∨
      s.bankHeld 3 ∨ s.bankHeld 4 then s else
  match (s.queue n).items.find? (fun x => x.phase = .accepted) with
  | none => s
  | some x =>
    match s.layout? n x.layout with
    | none => s
    | some ly =>
      let used := (s.storeUse n).eraseDups
      if 4 ≤ used.length ∧ !(used.contains (n, x.layout, ly.version)) then
        if (s.queue n).storeWait then s
        else (s.setQueue n { s.queue n with storeWait := true }).raise Ev.FRG_STORE_WAIT n
      else if !(s.headReads ly x) then s
      else
        let s := s.setQueue n { s.queue n with storeWait := false }
        let x := { x with version := ly.version }
        let cs := s.takeCounters ly
        let t := s.houseNs
        let s := s.enterHead n x t cs
        let s := ly.counters.foldl (fun s k => s.cntStep k) s
        if s.mirrors then
          s.dpxSend 0x09 (leBytes 1 n ++ leBytes 7 0 ++ leBytes 8 x.id ++ leBytes 8 t ++ headCounters ly cs)
        else s

/-- HEAD of every track, the lower track first (R279). -/
def State.fillHeads (s : State) : State := (List.range 16).foldl (fun s n => s.fillHead n) s.dramSettle

/-- Events of the mark bits that formed fields bring (R309). -/
def State.fieldEvents (s : State) (m : Nat) : State :=
  let s := if m.testBit 15 then s.raise Ev.FRG_VD_FIELD_FAULT else s
  let s := if m.testBit 8 then s.raise Ev.FRG_VD_SYMBOL_FAULT else s
  if m.testBit 12 then s.raise Ev.FRG_VD_DATE_UNSURE else s

/-- An engine delivers the fields of an item (R297). -/
def State.deliver (s : State) (n : Nat) (x : Item) : State :=
  let s := s.modItem n x.id (fun y => { y with fields := x.formed, delivered := true, deliveredAt := s.now })
  let s := [15, 8, 12].foldl (fun s b => if x.formedMarks.testBit b then s.mark n x.id b else s) s
  let s := s.fieldEvents x.formedMarks
  (s.atLeast F.FRG_VD_STATUS_PRECOMP_MAX ((s.now - x.headAt) / 1000000)).enginesShow

/-- PRE_COMPOSE_DONE: for an item of the track, or with ID 0 for its oldest starvation print in pre-compose (R164, R297). -/
def State.preComposed (s : State) (n id : Nat) : State :=
  if id = 0 then
    match (s.track n).starves.find? (fun x => !x.ready) with
    | none => s
    | some v =>
      let k := s.track n
      let s := s.setTrack n { k with starves := k.starves.map (fun x => if x = v then { x with ready := true, readyAt := s.now } else x) }
      (s.fieldEvents v.formedMarks).enginesShow
  else
    match s.item? n id with
    | none => s
    | some x => if (x.phase = .head ∨ x.running) ∧ !x.delivered then s.deliver n x else s

/-! ### Flush (R165) -/

/-- Removes unbound accepted items: SCOPE 1 after HEAD, SCOPE 2 with it; `spared` were in COMMITTING when the write was
accepted. WQ_FLUSHED carries the count removed, which no register or record of the cue board holds. -/
def State.flush (s : State) (n scope : Nat) (spared : List Nat) : State :=
  let q := s.queue n
  let out : List Item := q.items.filter (fun x =>
    (x.phase = .accepted ∨ (scope = 2 ∧ x.phase = .head)) ∧ !(spared.contains x.id))
  let s := s.setQueue n { q with
    items := q.items.filter (fun x => !(out.any (fun y => y.id = x.id))), flushed := out.length }
  let s := out.foldl (fun s x => s.histPut n { x.outRec with state := 8, verdict := 0 }) s
  let s := (s.enginesShow).wqShow n
  if out = [] then s else (s.emit (.flushed n out.length)).raise Ev.WQ_FLUSHED n

/-- The commands waiting hold a recognition of the BIND cue of track `n` in this cycle: it goes before a flush (R175). -/
def State.cueComes (s : State) (n : Nat) : Bool :=
  s.pending.any (fun c => match c with
    | .cueEventRecognised m k t => m.val = n ∧ k.val = s.act (F.TRK_CUE_BIND_SEL n) ∧ t = s.now
    | _ => false)

/-- A flush that waited for the BIND cue of its cycle takes place (R175). -/
def State.flushLate (s : State) (n : Nat) : State :=
  match (s.queue n).lateFlush with
  | none => s
  | some (scope, spared) =>
    if s.cueComes n then s else (s.setQueue n { s.queue n with lateFlush := none }).flush n scope spared

/-- A flush takes place, or waits for the BIND cue of its cycle (R165, R175). -/
def State.flushNow (s : State) (n scope : Nat) (spared : List Nat) : State :=
  if s.cueComes n then s.setQueue n { s.queue n with lateFlush := some (scope, spared) } else s.flush n scope spared

/-! ### Supply early-warning (R171) -/

def State.earlyWarn (s : State) : State :=
  let s : State := { s with sys := { s.sys with earlyWarning := true } }
  (List.range 16).foldl (fun s n =>
    let s := s.markAll n (((s.queue n).items.filter Item.running).map Item.id) 14
    if (s.track n).armed then (s.setTrack n { s.track n with bindStop := true }).markRequest n 2 else s) s

def State.earlyClear (s : State) : State :=
  if !s.sys.earlyWarning then s else
  let s : State := { s with sys := { s.sys with earlyWarning := false } }
  (List.range 16).foldl (fun s n => if (s.track n).bindStop then s.markRequest n 1 else s) s

/-- A FIRED_MARK entry has been written (R168, R169, R171, R175). -/
def State.markWritten (s : State) (n sub c : Nat) : State :=
  let q := s.queue n
  let s := s.setQueue n { q with ceiling := some c }
  let s := s.put (F.WQ_CEILING n) c
  let s := if sub = 1 ∧ !s.sys.earlyWarning ∧ (s.track n).bindStop then s.setTrack n { s.track n with bindStop := false } else s
  (s.wqShow n).ceilCheck n

/-! ### Recovery (R172 to R174) -/

/-- The source of a track's recovery: SOURCE code, REC_FIRED and REC_CEIL. `reseal`: after a reseal (R472). -/
def State.recoverFrom (s : State) (n : Nat) (reseal : Bool) : Nat × Nat × Nat :=
  let a := s.aonMark n
  if reseal then
    let fl := s.get (F.LDG_FLOOR n)
    match s.firedEntry n with
    | some (_, f, c) => (3, f, max c fl)
    | none => (3, 0, fl)
  else if a.present then (1, a.fired, max a.fired a.bound)
  else match s.firedEntry n with
    | some (2, f, c) => (2, f, c)
    | some (_, f, c) => (3, f, c)
    | none => (0, 0, 0)

/-- Recovery of a track's work queue in phase ARM; an AON record whose halves disagree is reported and not used (R23, R172). -/
def State.recover (s : State) (n : Nat) (reseal : Bool) : State :=
  let s := if (s.aonMark n).present ∧ !(s.aonMark n).sound then (s.setAonMark n {}).raise Ev.WQ_REC_MISMATCH n else s
  let (src, f, c) := s.recoverFrom n reseal
  let s := (s.put (F.WQ_REC_FIRED n) f).put (F.WQ_REC_CEIL n) c
  let s := (s.put (F.WQ_REC_STATUS_SOURCE n) src).put (F.WQ_REC_STATUS_EXACT n) (bit (src ≠ 3))
  let s := (s.put (F.WQ_FIRED_HWM n) f).put (F.WQ_ACC_HWM n) c
  let s := s.setQueue n { boundMax := c, lastEntryFired := ((s.firedEntry n).map (fun e => e.2.1)).getD 0 }
  let s := (s.put (F.WQ_CEILING n) 0).put (F.WQ_HOLD_ID n) 0
  let s := ((s.put (F.WQ_STATUS n) 0).put (F.WQ_STARVED n) 0).aonKeep n
  let s := if src = 3 then s.raise Ev.WQ_REC_BOUNDED n else s
  s.markRequest n 1

end Sys2Proof.Machine
end

