-- ==== Sys2Proof/Machine/Cues.lean ====
section
/-! DEFINITION. Cue events, binding, starvation and fire instants (R94 to R96, R113 to R120, R162 to R164, R284). -/

namespace Sys2Proof.Machine

/-! ### Binding -/

/-- Positions F(L − 1) of every print of track `n` that still fires (R118). -/
def State.lastLines (s : State) (n : Nat) : List Pos :=
  ((s.queue n).items.filter Item.running).map (fun x => x.fireAt (x.lines - 1)) ++
    (s.track n).starves.map (fun x => x.fireAt (x.lines - 1))

/-- A print with its first line at `f0` would overlap one still firing. -/
def State.overlaps (s : State) (n : Nat) (f0 : Pos) : Bool := (s.lastLines n).any (fun p => decide (posDiff p f0 ≥ 0))

/-- DATE fields are computed again at bind (R284): the fields as they would be at the cue's instant. -/
def State.redate (s : State) (n : Nat) (x : Item) (at_ : Ps) : State :=
  if !(s.flag F.FRG_VD_CTRL_REDATE) then s else
  match s.itemLayout n x with
  | none => s
  | some ly =>
    let f := s.formFields ly (s.itemCtx x (x.formed.map FieldVal.chars) x.vdataBad (s.house.at at_ / 1000))
    let i := (List.range ly.fields.length).any (fun i =>
      ((ly.fields[i]?).map FieldDesc.kind) = some 3 ∧ f.1.getD i {} ≠ x.formed.getD i {})
    if !i then s else
    let s := s.modItem n x.id (fun y => { y with formed := f.1, formedMarks := f.2, delivered := false, headAt := s.now })
    (s.enginesShow).raise Ev.FRG_VD_REDATE

/-- The bound maximum rises to an ID (R166). -/
def State.boundTo (s : State) (n id : Nat) : State :=
  let q := s.queue n
  (s.setQueue n { q with boundMax := max q.boundMax id }).aonKeep n

/-- The item has fired its last line, or skipped it: it enters FIRED (R45, R166, R167). -/
def State.itemFired (s : State) (n : Nat) (x : Item) : State :=
  let s := s.modItem n x.id (fun y => { y with phase := .fired, firedAt := s.now })
  let s := s.put (F.WQ_FIRED_HWM n) (max (s.get (F.WQ_FIRED_HWM n)) x.id)
  let q := s.queue n
  let s := (s.setQueue n { q with since := q.since + 1 }).aonKeep n
  if 256 ≤ (s.queue n).since then s.markRequest n 1 else s

/-- Items of track `n` whose lines have all fired or been skipped enter FIRED. -/
def State.firedCheck (s : State) (n : Nat) : State :=
  let done : List Item := (s.queue n).items.filter (fun x => x.phase = .printing ∧ !x.stopped ∧ x.lines ≤ x.next)
  let s := done.foldl (fun s x => s.itemFired n x) s
  let k := s.track n
  if k.starves.all (fun x => x.next < x.lines) then s
  else s.setTrack n { k with starves := k.starves.filter (fun x => x.next < x.lines) }

/-- Item `x` in HEAD is bound at `c` (R43, R162, R117): lines at or below H are skipped. `at_`: time stamp of the cue. -/
def State.bindItem (s : State) (n : Nat) (x : Item) (c : Pos) (at_ : Ps) (perf : Bool) : State :=
  let ly := (s.itemLayout n x).getD {}
  let p := s.pitch n
  let f0 := firePos c x.cueOffset p 0
  let skip := linesUpTo f0 p ly.length (s.track n).h
  let s := s.modItem n x.id (fun y => { y with
    phase := if 0 < skip then .printing else .bound, c, pitch := p, lines := ly.length, boundAt := s.now, perf
    next := skip, skips := if 0 < skip then [(0, skip)] else [] })
  let s := s.boundTo n x.id
  let s := s.put (F.TRK_CUE_POS n) c.toNat
  let s := if 0 < skip then (s.mark n x.id 2).raise Ev.TRK_SKIP n else s
  let s := if s.sys.earlyWarning then s.mark n x.id 14 else s
  let s := match s.item? n x.id with | some y => s.redate n y at_ | none => s
  (s.firedCheck n).wqShow n

/-- A starvation at `c` (R163, R164). -/
def State.starve (s : State) (n : Nat) (c : Pos) (at_ : Ps) (uncovered : Bool) : State :=
  let id := s.act (F.WQ_CFG_STARVE_LAYOUT n)
  let s := match (if s.act (F.WQ_CFG_STARVE_PRINT n) = 1 then s.layout? n id else none) with
    | none => s
    | some ly =>
      let cx : FieldCtx := { vdataBad := true, instant := s.house.at at_ / 1000, unset := !s.house.set, bound := s.holdBound
                             counters := s.takeCounters ly }
      let f := s.formFields ly cx
      let p := s.pitch n
      let o := s.act (F.WQ_STARVE_OFFSET n)
      let skip := linesUpTo (firePos c o p 0) p ly.length (s.track n).h
      let v : Starve := { layout := id, version := ly.version, c, offset := o, pitch := p, lines := ly.length, next := skip
                          announced := skip, stamp := at_, fields := f.1, formedMarks := f.2 }
      let k := s.track n
      (s.setTrack n { k with starves := if skip < ly.length then k.starves ++ [v] else k.starves }).enginesShow
  let s := s.rejectProduct n c
  let s := (s.addSat (F.WQ_STARVED n) 1).raise Ev.WQ_STARVED n
  if uncovered then s.raise Ev.WQ_CEILING_WAIT n else s

/-- The layout length and offset that R118 tests a cue with, none where no line would fire. -/
def State.wouldPrint (s : State) (n : Nat) (x : Option Item) : Option (Nat × Nat) :=
  match x with
  | some x => (s.itemLayout n x).map (fun l => (x.cueOffset, l.length))
  | none =>
    if s.act (F.WQ_CFG_STARVE_PRINT n) = 0 then none else
    (s.layout? n (s.act (F.WQ_CFG_STARVE_LAYOUT n))).map (fun l => (s.act (F.WQ_STARVE_OFFSET n), l.length))

/-- The commands waiting hold a supply early-warning of this cycle: it goes before a BIND cue (R175). -/
def State.warningComes (s : State) : Bool :=
  s.pending.any (fun c => match c with | .supplyEarlyWarning _ t => decide (t = s.now) | _ => false)

/-- The item that a cue finds in HEAD: one accepted in the cue's own cycle is not there yet (R175). -/
def State.cueHead (s : State) (n : Nat) : Option Item := (s.headItem n).filter (fun x => x.acceptedAt ≠ some s.now)

/-- The item in HEAD that a cue may bind (R162, R169, R171, R175). -/
def State.bindable (s : State) (n : Nat) : Option Item :=
  (s.cueHead n).filter (fun x => s.covered n x.id ∧ !(s.track n).bindStop ∧ !s.warningComes)

/-- A BIND cue of a track that R119 judges as a product, at position `c` (R118, R119, R162, R163). `coast`: it came in
COAST. -/
def State.productCue (s : State) (n : Nat) (c : Pos) (at_ : Ps) (coast : Bool) : State :=
  let s := s.setTrack n { s.track n with lastBind := some c }
  let x := s.bindable n
  let past : Bool := match s.wouldPrint n x with
    | some (o, _) => s.overlaps n (firePos c o (s.pitch n) 0)
    | none => false
  if past then (s.rejectProduct n c).raise Ev.TRK_CUE_ORPHAN n
  else match x with
    | none => s.starve n c at_ ((s.cueHead n).any (fun x => !(s.covered n x.id)))
    | some x =>
      let s := s.bindItem n x c at_ (s.track n).perf
      let s := if coast ∧ s.act (F.TRK_COAST_MARK n) = 1 then s.mark n x.id 3 else s
      if s.mirrors then
        s.dpxSend 0x0A (leBytes 1 n ++ leBytes 1 (bit (s.track n).perf) ++ leBytes 6 0 ++ leBytes 8 x.id ++ leBytes 8 c.toNat)
      else s

/-- A BIND cue event is judged (R96, R119); on an understudy a product cue is recorded instead (R435). Where rows of R119
overlap, the ignoring ones with TRK_CUE_IGNORED go first, then LOCKOUT, then the orphan (R94, R96, R111, R126; log entry
85). -/
def State.bindCue (s : State) (n : Nat) (c : CuePending) : State :=
  let k := s.track n
  if c.inCall ∨ !s.accepting ∨ c.reverse ∨ c.inhibited ∨ (c.st = .acquire ∧ !c.lockedOnce) then s.raise Ev.TRK_CUE_IGNORED n
  else
    let lock := s.act (F.TRK_CUE_LOCKOUT n)
    let locked : Bool := match k.lastBind with
      | some p => decide (posDiff c.pos p < lock * 4096) && decide (lock ≠ 0)
      | none => false
    if locked then s.raise Ev.TRK_CUE_LOCKOUT n
    else if s.mode = 4 then
      s.setTrack n { k with lastBind := some c.pos, unbound := ((c.at_, c.pos) :: k.unbound).take 64 }
    else if c.st = .acquire then
      ((s.setTrack n { k with lastBind := some c.pos }).rejectProduct n c.pos).raise Ev.TRK_CUE_ORPHAN n
    else s.productCue n c.pos c.at_ (c.st = .coast)

/-- A transition on input `k` has stayed for DEBOUNCE: an active one is a cue event (R94, R95), on a track that is not armed
yet early motion (R75). -/
def State.cueStays (s : State) (n k : Nat) (c : CuePending) : State :=
  let s := s.settle n s.now
  let x := s.track n
  let s := s.setTrack n { x with
    cues := tblPut none x.cues k none
    cueStable := if c.level then x.cueStable ||| 2 ^ k else x.cueStable &&& (255 - 2 ^ k) }
  if c.level = s.cueEdge n k ∨ !(s.cueEn n k) then s
  else if !x.armed then when (s.act (F.TRK_CUE_BIND_SEL n) = k) (fun s => s.earlyMotion n) s
  else if s.act (F.TRK_CUE_BIND_SEL n) = k then s.bindCue n c
  else if s.cueInhibits n k then s
  else (s.emit (.aux n k c.pos)).raise Ev.TRK_CUE_AUX n

/-- Input `k` of track `n` has stayed at its level for DEBOUNCE µs at instant `t` (R95). -/
def State.cueDue (s : State) (n k : Nat) (t : Ps) : State :=
  match tblGet none (s.track n).cues k with
  | none => s
  | some c => if c.at_ + s.act (F.TRK_CUE_DEBOUNCE n) * 1000000 ≤ t then s.cueStays n k c else s

/-- DEBOUNCE µs have passed since a cue transition on input `k` of track `n` (R94, R95). -/
def State.cueEvent (s : State) (n k : Nat) : State := (s.cueDue n k s.now).flushLate n

/-- A level change of cue input `k` with time stamp `t` (R95): one to a new level starts a debounce with what held at its time
stamp, one that reverts before DEBOUNCE discards it. -/
def State.cueTransition (s : State) (n k : Nat) (level : Bool) (t : Ps) : State :=
  if (s.track n).cueLevel.testBit k = level then s else
  let s := s.cueDue n k t
  let x := s.track n
  let moved (m : Nat) : Nat := if level then m ||| 2 ^ k else m &&& (255 - 2 ^ k)
  let s := s.setTrack n { x with cueLevel := moved x.cueLevel }
  if !(s.cueEn n k) ∨ s.act (F.TRK_CTRL_ENABLE n) = 0 then
    s.setTrack n { s.track n with cueStable := moved x.cueStable, cues := tblPut none x.cues k none }
  else if level = x.cueStable.testBit k then s.setTrack n { s.track n with cues := tblPut none x.cues k none }
  else
    let s := s.settle n s.now
    let x := s.track n
    let c : CuePending := { level, at_ := t, pos := s.psAt n t, st := x.st, lockedOnce := x.lockedOnce, reverse := x.reverse
                            inhibited := s.inhibited n, inCall := s.mode = 1 }
    s.setTrack n { x with cues := tblPut none x.cues k (some c) }

/-- A level change of a cue input or of Z takes place. -/
def State.happen (s : State) (n : Nat) (h : Late) : State :=
  match h with
  | .cue k level t => s.cueTransition n k level t
  | .z _ => s.zEdge n

/-- The happenings that waited for the edge of their step take place (R122). -/
def State.lateRun (s : State) (n : Nat) : State :=
  let l := (s.track n).late
  if s.edgeComes n ∨ l = [] then s
  else l.foldl (fun s h => s.happen n h) (s.setTrack n { s.track n with late := [] })

/-- A happening takes place, or waits for an edge of its step that is still to come (R122). -/
def State.afterEdge (s : State) (n : Nat) (h : Late) : State :=
  if s.edgeComes n then s.setTrack n { s.track n with late := (s.track n).late ++ [h] }
  else (s.lateRun n).happen n h

/-! ### Fire instants -/

/-- The motion in which lines fire (R113). -/
def State.fires (s : State) (n : Nat) : Bool :=
  let x := s.track n
  x.armed ∧ x.st ≠ .acquire ∧ !x.reverse ∧ s.accepting

/-- Each fired line works off part of an absorbed jump (R107). -/
def State.slewLine (s : State) (n : Nat) : State :=
  let x := s.track n
  if x.st ≠ .rejoin ∨ x.r = 0 then s else
  let sl : Int := max 1 (s.act (F.TRK_REJOIN_SLEW n))
  let d : Int := if x.r < 0 then -(min (-x.r) sl) else min x.r sl
  (s.setTrack n { x with r := x.r - d, ps := posAdd x.ps d }).rejoinDone n

/-- The next line of track `n` has been reached by H. -/
def State.reached (s : State) (n : Nat) : Option NextLine :=
  match s.nextFire n with
  | some l => if posDiff (s.track n).h l.fire ≥ 0 then some l else none
  | none => none

/-- One line fires at instant `at_` of the 625 ps grid (R100, R105, R107, R113, R115): `held` it was held by MIN_SPACING, and
its displacement is judged (R116). -/
def State.fireLine (s : State) (n : Nat) (l : NextLine) (at_ : Ps) (held : Bool) : State :=
  let x := s.track n
  let disp := posDiff (s.psAt n at_) l.fire
  let s := s.setTrack n { x with
    lastFire := some at_, firedTag := (l.item, l.index), overspeed := false
    firedEdge := if l.item = 0 then x.firedEdge else (x.firedEdge ++ [l.item]).eraseDups
    firedZ := if l.item = 0 then x.firedZ else (x.firedZ ++ [l.item]).eraseDups
    starves := if l.item ≠ 0 then x.starves else
      x.starves.map (fun v => if v.c = l.c then { v with next := passSkips (l.index + 1) v.skips } else v) }
  let s := if l.item = 0 then s else s.modItem n l.item (fun y => { y with
    phase := .printing, next := passSkips (l.index + 1) y.skips })
  let s := if held ∧ disp > s.act (F.TRK_SCHED_OVERSPEED_TOL n) * 64 then
      (s.mark n l.item 6).raise Ev.TRK_OVERSPEED n else s
  let s := if x.st = .coast ∧ s.act (F.TRK_COAST_MARK n) = 1 then s.mark n l.item 3 else s
  let s := (s.slewLine n).firedCheck n
  let more := (s.reached n).isSome
  (s.setTrack n { s.track n with overspeed := more }).wqShow n

/-- H reaches the fire position of the next line: it fires at the next instant of the grid, or is held by MIN_SPACING (R100,
R113, R116). A reverse edge of the same step wins (R122). -/
def State.fireInstant (s : State) (n : Nat) : State :=
  let s := s.settle n s.now
  if !(s.fires n) ∨ s.reverseComes n then s else
  match s.reached n with
  | none => s
  | some l =>
    let at_ := onGrid s.now
    let soon : Bool := match (s.track n).lastFire with | none => false | some a => decide (at_ < a + s.spacingPs n)
    if soon then s.setTrack n { s.track n with overspeed := true } else s.fireLine n l at_ false

/-- A held line fires at the previous fire instant plus MIN_SPACING (R116). -/
def State.heldFire (s : State) (n : Nat) : State :=
  let s := s.settle n s.now
  if !(s.fires n) ∨ !(s.track n).overspeed ∨ s.reverseComes n then s else
  match s.reached n, (s.track n).lastFire with
  | some l, some a => if a + s.spacingPs n ≤ s.now then s.fireLine n l (a + s.spacingPs n) true else s
  | _, _ => s

/-! ### After a command that may have moved items -/

/-- What the work queue does at once after such a command: items whose last
line is done enter FIRED (R45), condemned items are decided (R401), held submissions are checked
(R156) and HEAD is filled (R161). -/
def State.queuesRun (s : State) : State :=
  let s := (List.range 16).foldl (fun s n => s.firedCheck n) s
  let s := s.decideAll
  let s := (List.range 16).foldl (fun s n => s.heldTry n) s
  let s := s.fillHeads
  (List.range 16).foldl (fun s n => s.ceilCheck n) s

end Sys2Proof.Machine
end

