-- ==== Sys2Proof/Machine/Forge.lean ====
section
/-! DEFINITION. The forge: the line queue, composition, the hand-off, deadlines and their faults, layout operations and the
changes that admission checks (R193 to R256, R310 to R323, R356, R382 to R397). -/

namespace Sys2Proof.Machine

/-! ### The line queue -/

/-- Changes the lines of the queue. -/
def State.setLines (s : State) (l : List Line) : State := { s with frg := { s.frg with lines := l } }

/-- Two records name one line. -/
def Line.same (a b : Line) : Bool := a.track = b.track ∧ a.c = b.c ∧ a.index = b.index ∧ a.item = b.item

/-- Replaces a line. -/
def State.setLine (s : State) (l : Line) : State := s.setLines (s.frg.lines.map (fun x => if x.same l then l else x))

/-- Removes a line. -/
def State.dropLine (s : State) (l : Line) : State := s.setLines (s.frg.lines.filter (fun x => !(x.same l)))

/-- The pipelines that compose, in bits (R244). -/
def State.pipesBusy (s : State) : Nat :=
  s.frg.lines.foldl (fun m l => match l.st with | .composing k _ => m ||| 2 ^ k | _ => m) 0

/-- Shows PIPE_BUSY and QUEUED (R244). -/
def State.linesShow (s : State) : State :=
  (s.put F.FRG_STATUS_PIPE_BUSY s.pipesBusy).put F.FRG_STATUS_QUEUED (min 4096 s.frg.lines.length)

/-- The fields that the lines of a print draw from, and when they were delivered; none before (R195, R387). -/
def State.printFields (s : State) (l : Line) : List FieldVal × Option Ps :=
  if l.item = 0 then
    match (s.track l.track).starves.find? (fun v => v.c = l.c) with
    | some v => (v.fields, if v.ready then some v.readyAt else none)
    | none => ([], none)
  else match s.item? l.track l.item with
    | some x => (x.fields, if x.delivered then some x.deliveredAt else none)
    | none => ([], none)

/-- The line draws a symbol or a glyph run (R195). -/
def State.drawsField (s : State) (l : Line) : Bool :=
  match s.version? l.track l.layout l.version with
  | none => false
  | some ly => ly.draws.any (fun d => (d.st.kind = 2 ∨ d.st.kind = 3) ∧ (d.onLine ly l.index) ≠ [])

/-- The line is eligible (R195). -/
def State.eligible (s : State) (l : Line) : Bool :=
  l.st = .queued ∧ (s.version? l.track l.layout l.version).isSome ∧ (!(s.drawsField l) ∨ (s.printFields l).2.isSome)

/-- A track composes its lines (R198, R438): not on an understudy before it is aligned. -/
def State.composes (s : State) (n : Nat) : Bool := s.accepting ∧ (s.mode ≠ 4 ∨ (s.track n).aligned)

/-- Lines of track `n` not yet announced, the first of each print, in print order. -/
def State.toAnnounce (s : State) (n : Nat) : List (NextLine × Nat × Nat) :=
  ((s.queue n).items.filter (fun x => x.running ∧ !x.stopped)).filterMap (fun x =>
      let i := passSkips (max x.announced x.next) x.skips
      if i < x.lines then some (⟨x.id, x.c, i, x.fireAt i⟩, x.layout, x.version) else none) ++
    (s.track n).starves.filterMap (fun x =>
      let i := passSkips (max x.announced x.next) x.skips
      if i < x.lines then some (⟨0, x.c, i, x.fireAt i⟩, x.layout, x.version) else none)

/-- The forms of a line's heads enter their lanes, ahead of later lines of the track (R390). A head with no working path gets
none. -/
def State.formIn (s : State) (l : Line) (h : Nat) (bs : List Byte) : State :=
  let k := (s.headRun h).lane
  if k = 0xFF then s else
  let x := s.lane k
  let fs := framesOf l.track h (s.get (F.NZC_HEAD_A_PLANE h)) l.item l.index l.c l.fire s.now true bs
  let later (f : Frame) : Bool := f.track = l.track ∧ decide (posDiff f.fire l.fire > 0)
  let cut := x.buf.takeWhile (fun f => !(later f))
  (s.setLane k { x with buf := cut ++ fs ++ x.buf.drop cut.length }).laneShow k

/-- The understudy forms of some heads of a line (R323, R390). -/
def State.formsIn (s : State) (l : Line) (heads : List Nat) : State :=
  match s.version? l.track l.layout l.version with
  | none => s
  | some ly => heads.foldl (fun s h => s.formIn l h (tblGet [] ly.forms (256 * s.linePage l.track + h))) s

/-- The line has left the forge. -/
def Line.out (l : Line) : Bool :=
  match l.st with
  | .left _ => true
  | _ => false

/-- The fire position of the first line of track `n` that has still to leave the forge. -/
def State.firstToLeave (s : State) (n : Nat) : Option Pos :=
  let inside := (s.frg.lines.filter (fun l => l.track = n ∧ !l.out)).map Line.fire
  (inside ++ (s.toAnnounce n).map (fun x => x.1.fire)).foldl (fun b p => match b with
    | none => some p
    | some q => if posDiff p q < 0 then some p else some q) none

/-- The delay store records the understudy line as the line: as a whole, or for the heads whose head lines it replaces of a line
that has left the forge (R323). -/
def State.recordUnder (s : State) (l : Line) (heads : List Nat) : State :=
  match s.version? l.track l.layout l.version with
  | none => s
  | some ly =>
    if !l.out then s.delayRecord l.track { item := l.item, c := l.c, index := l.index, planes := ly.underLevels }
    else
      let d := (tblGet [] s.nzc.delay l.track).map (fun d =>
        if d.item = l.item ∧ d.c = l.c ∧ d.index = l.index then { d with replaced := heads, under := ly.underLevels } else d)
      { s with nzc := { s.nzc with delay := tblPut [] s.nzc.delay l.track d } }

/-! ### The tile cache (R215 to R218) -/

/-- The units that a line reads, once its layout and its fields stand. -/
def State.lineUnits (s : State) (l : Line) : List Nat :=
  match s.version? l.track l.layout l.version with
  | none => []
  | some ly => s.unitsRead ly (s.printFields l).1 l.index

/-- A fetch of a unit waits. -/
def State.filling (s : State) (u : Nat) : Bool := s.dreq.any (fun r => r.who = .fill ∧ r.addr = 64 * u)

/-- Asks for the units of some that stand neither in the cache nor in a fetch that waits, at a class; each is fetched once
(R218). -/
def State.fetch (s : State) (cls : Nat) (us : List Nat) : State :=
  us.foldl (fun s u => if s.cached u ∨ s.filling u then s else
    { s with dreq := s.dreq ++ [{ cls, addr := 64 * u, len := 64, who := .fill, since := s.now }] }) s

/-- The units of a line that no cache holds now. -/
def State.missing (s : State) (l : Line) : List Nat := (s.lineUnits l).filter (fun u => !(s.cached u))

/-- A line has asked for its artwork: it remembers which units were fetched for it (R218). -/
def State.lineFetch (s : State) (cls : Nat) (l : Line) : State × Line :=
  let us := s.missing l
  (s.fetch cls us, { l with fetched := (l.fetched ++ us).eraseDups })

/-- An artwork read of a line is outstanding (R197). -/
def State.reading (s : State) (l : Line) : Bool := (s.lineUnits l).any s.filling

/-- Announces the next line of track `n` when it is due (R115, R194): the line of a corrupt layout goes out at once as its
understudy line (R202). -/
def State.announce (s : State) (n : Nat) : State :=
  let s := s.settle n s.now
  let first := (s.toAnnounce n).foldl (fun b x => match b with
    | none => some x
    | some (y : NextLine × Nat × Nat) => if posDiff x.1.fire y.1.fire < 0 then some x else some y) none
  match first with
  | none => s
  | some (l, id, ver) =>
    let due : Bool := match s.predict n l.fire with
      | none => false
      | some t => decide (t ≤ s.now + (s.tLead n + max 8 (s.act (F.TRK_SCHED_COMPOSE_AHEAD n))) * 1000000)
    if !due ∨ !(s.composes n) ∨ 4096 ≤ s.frg.lines.length then s else
    let x : Line := { track := n, item := l.item, c := l.c, index := l.index, fire := l.fire, layout := id, version := ver
                      announced := s.now }
    let s := if l.item = 0 then
        let k := s.track n
        s.setTrack n { k with starves := k.starves.map (fun v => if v.c = l.c then { v with announced := l.index + 1 } else v) }
      else s.modItem n l.item (fun y => { y with announced := l.index + 1 })
    let corrupt : Bool := match s.item? n l.item with | some y => y.corrupt | none => false
    if corrupt then (s.formsIn x (s.headsOf n)).recordUnder x []
    else
      let (s, x) := s.lineFetch 4 x
      (s.setLines (s.frg.lines ++ [x])).linesShow

/-- The order in which pipelines take lines (R195): the earliest deadline, the lower track, the lower index; a line with no
predicted instant comes last. -/
def State.lineBefore (s : State) (a b : Line) : Bool :=
  let d (l : Line) : Nat := (s.deadline l.track l.fire).getD (2 ^ 100)
  if d a ≠ d b then d a < d b else if a.track ≠ b.track then a.track < b.track else a.index < b.index

/-- A pipeline reads the units of its line: each that was not fetched for the line is served from the cache, and the others
are asked for (R218, R252). -/
def State.lineRead (s : State) (k : Nat) (l : Line) : State :=
  let us := s.lineUnits l
  let hits := us.filter (fun u => s.cached u && !(l.fetched.contains u))
  let (s, l) := s.lineFetch 4 l
  let s := (us.filter s.cached).foldl State.cacheUse s
  (s.addSat F.FRG_CACHE_HITS hits.length).setLine { l with st := .composing k none }

/-- The line with the nearest deadline on any track, of those that wait or are composed. -/
def State.nearest (s : State) : Option Line :=
  (s.frg.lines.filter (fun l => match l.st with | .queued => true | .composing _ _ => true | _ => false)).foldl (fun b x =>
    match b with
    | none => some x
    | some y => if s.lineBefore x y then some x else some y) none

/-- The fetches for the line with the nearest deadline wait at class 2, the others at class 4 (R35, R218). -/
def State.fillsRank (s : State) : State :=
  if !(s.dreq.any (fun r => r.who = .fill)) then s else
  let near := match s.nearest with | some l => s.lineUnits l | none => []
  { s with dreq := s.dreq.map (fun r =>
      if r.who = .fill then { r with cls := if near.contains (r.addr / 64) then 2 else 4 } else r) }

/-- Free pipeline `k` takes the eligible line with the earliest deadline (R195). -/
def State.lineStart (s : State) (k : Nat) : State :=
  if !((s.get F.FRG_CTRL_PIPE_EN).testBit k) ∨ s.pipesBusy.testBit k ∨ !s.accepting then s else
  let best := (s.frg.lines.filter s.eligible).foldl (fun b x => match b with
    | none => some x
    | some y => if s.lineBefore x y then some x else some y) none
  match best with
  | none => s
  | some l => (s.lineRead k l).linesShow

/-- A bad word met while a line is conditioned (R331): kind 0 entry, 1 curve, 2 weight set, uncorrectable, on the page the
line uses; 3 a delay store line, by index; 4 a corrected word. -/
def State.condError (s : State) (l : Line) (page : Nat) (e : Nat × Nat) : State :=
  let p := s.nzPage page
  let bad (s : State) : State :=
    (((s.setFlags F.NZC_STATUS_ACTIVE_BAD 1).put F.NZC_RESULT_INDEX e.2).raise Ev.NZC_MAP_UNCORRECTABLE)
  match e.1 with
  | 0 => bad (s.setNzPage page { p with badEntries := (p.badEntries ++ [e.2]).eraseDups })
  | 1 => bad (s.setNzPage page { p with badCurves := (p.badCurves ++ [e.2 % 16]).eraseDups })
  | 2 => bad (s.setNzPage page { p with badWsets := (p.badWsets ++ [e.2 % 16]).eraseDups })
  | 3 =>
    let d := (tblGet [] s.nzc.delay l.track).map (fun d =>
      if d.item = l.item ∧ d.c = l.c ∧ d.index = e.2 then { d with bad := true } else d)
    let s : State := { s with nzc := { s.nzc with delay := tblPut [] s.nzc.delay l.track d } }
    (s.mark l.track l.item 15).raise Ev.NZC_DELAY_PARITY
  | _ => (s.addSat F.NZC_CORRECTED 1).raise Ev.NZC_MAP_CORRECTED

/-! ### Settings of the line taps (R234) -/

/-- The taps that track `n` passes as written, and those of them in MODIFY, in bits. -/
def State.tapsWritten (s : State) (n : Nat) : Nat × Nat :=
  (List.range 8).foldl (fun (m : Nat × Nat) k =>
    if s.flag (F.FRG_TAP_CTRL_EN k) ∧ (s.get (F.FRG_TAP_CTRL_TRACKS k)).testBit n then
      (m.1 + 2 ^ k, m.2 + s.get (F.FRG_TAP_CTRL_MODIFY k) * 2 ^ k) else m) (0, 0)

/-- Track `n` takes the written settings of the taps; other tracks keep theirs until their own window (R234). -/
def State.tapApply (s : State) (n : Nat) : State :=
  { s with frg := { s.frg with taps := tblPut (0, 0) s.frg.taps n (s.tapsWritten n) } }

/-- The written tap settings of track `n` differ from those in force. -/
def State.tapsPend (s : State) (n : Nat) : Bool := s.tapsWritten n ≠ tblGet (0, 0) s.frg.taps n

/-! ### Line taps (R230 to R233) -/

/-- The tap passes the lines of a track, by the setting in force for it (R230, R234). -/
def State.tapServes (s : State) (k n : Nat) : Bool := (tblGet (0, 0) s.frg.taps n).1.testBit k

/-- The taps of a track that are in MODIFY (R233). -/
def State.modTaps (s : State) (n : Nat) : List Nat :=
  (List.range 8).filter (fun k => s.tapServes k n && (tblGet (0, 0) s.frg.taps n).2.testBit k)

/-- The groups that the fabric returned for a plane of a line at a tap, in order. -/
def returned (back : List TapReturn) (k : Nat) (l : Line) (p : Nat) : List (Option Nat) :=
  match back.find? (fun r => r.tap = k ∧ r.track = l.track ∧ r.item = l.item ∧ r.index = l.index ∧ r.plane = p) with
  | some r => r.groups
  | none => []

/-- What a plane's groups become in MODIFY: a returned group replaces its data words, a missing one stands unchanged; with the
number of groups that were missing (R233). -/
def modified (out : List (List Nat)) (rin : List (Option Nat)) : List (List Nat) × Nat :=
  out.zipIdx.foldl (fun a p =>
    match rin.getD p.2 none with
    | some v => (a.1 ++ [(List.range 4).map (fun j => v / 2 ^ (64 * j) % 2 ^ 64)], a.2)
    | none => (a.1 ++ [p.1], a.2 + 1)) ([], 0)

/-- A line passes one tap (R230 to R233): each plane is shown to the fabric in groups of four words, the first marked; in MODIFY
the data words that came back go on, and each missing group is counted, marked and raised. -/
def State.tapPass (s : State) (l : Line) (ly : Layout) (back : List TapReturn) (k : Nat) : State × Line :=
  (List.range ly.planes).foldl (fun (a : State × Line) p =>
    let ws := planeWords ly.width ly.depth (a.2.planes.getD p [])
    let gs := tapGroups l.track l.index p l.item (p + 1 = ly.planes) ws
    let s := a.1.emit (.tap k (gs.zipIdx.map (fun g => (g.2 == 0, (List.range 4).foldl (fun v j => v + g.1.getD j 0 * 2 ^ (64 * j)) 0))))
    if !((a.1.modTaps l.track).contains k) then (s, a.2) else
    let (out, gaps) := modified gs (if s.cfg.swap.isSome then [] else returned back k l p)
    let s := (List.range gaps).foldl (fun s _ => s.raise Ev.FRG_TAP_GAP) s
    let s := if gaps = 0 then s else (s.addSat (F.FRG_TAP_GAPS k) gaps).mark l.track l.item 15
    (s, { a.2 with planes := a.2.planes.set p (wordDots ly.width ly.depth ((out.flatten.drop 2).take ws.length)) })) (s, l)

/-- A line passes the taps of its track in ascending order (R230). -/
def State.tapsPass (s : State) (l : Line) (ly : Layout) (back : List TapReturn) : State × Line :=
  ((List.range 8).filter (fun k => s.tapServes k l.track)).foldl (fun a k => a.1.tapPass a.2 ly back k) (s, l)

/-! ### The hand-over to nozzle conditioning -/

/-- A line leaves the forge (R196, R312 to R319, R328): its head lines are formed on the page in force. -/
def State.lineLeave (s : State) (l : Line) : State :=
  let n := l.track
  match s.version? n l.layout l.version with
  | none => s.dropLine l
  | some ly =>
    let lineSwap : Bool := match s.nzc.swap with | some w => !w.curtain && w.reaches s.now n l.fire | none => false
    let s := if lineSwap then s.nzSwitch n else s
    let page := s.linePage n
    let newPage : Bool := match s.nzc.swap with | some w => w.switched.testBit n | none => true
    let s := if newPage ∧ s.nzc.firstNew.testBit n then
        let s : State := { s with nzc := { s.nzc with firstNew := s.nzc.firstNew &&& (65535 - 2 ^ n) } }
        s.put (F.NZC_SWAP_POS n) l.fire.toNat
      else s
    let pitch := if l.item = 0 then (((s.track n).starves.find? (fun v => v.c = l.c)).map Starve.pitch).getD (s.pitch n)
      else ((s.item? n l.item).map Item.pitch).getD (s.pitch n)
    let src := s.delayed n l.item l.c l.index l.planes
    let heads := (s.headsOf n).map (fun h => (h, s.headLine page h pitch ly.depth (src h)))
    let tail := s.tailDots page n pitch l.index ly.length l.planes
    let s := if s.clips page n pitch then
        match s.item? n l.item with
        | some x => if x.clipped then s else
          ((s.modItem n x.id (fun y => { y with clipped := true })).mark n x.id 15).raise Ev.NZC_DELAY_CLIP n
        | none => s
      else s
    let s := if 0 < tail then ((s.addSat (F.NZC_TAIL_LOST n) tail).mark n l.item 15).raise Ev.NZC_TAIL_LOST n else s
    let s := s.delayRecord n { item := l.item, c := l.c, index := l.index, planes := l.planes }
    s.setLine { l with st := .left s.now, heads, planes := [] }

/-- Line `l` has reached its deadline: the step of D is not after the present step (R383, R384). -/
def State.lateNow (s : State) (l : Line) : Bool :=
  match s.deadline l.track l.fire with
  | none => false
  | some d => decide (d / 625 ≤ s.now / 625)

/-- Buffered lines of track `n` leave in order of fire position: each once no earlier line of the track is still to leave
(R196), and none at or past its deadline (R239). -/
def State.linesRelease (s : State) (n : Nat) (back : List TapReturn) : Nat → State
  | 0 => s
  | fuel + 1 =>
    let inside := s.frg.lines.filter (fun l => l.track = n && !l.out)
    let first := inside.foldl (fun b x => match b with
      | none => some x
      | some (y : Line) => if posDiff x.fire y.fire < 0 then some x else some y) none
    match first with
    | some l =>
      if l.st = .buffered ∧ !(s.lateNow l) then
        let (s, l) := match s.version? n l.layout l.version with
          | some ly => s.tapsPass l ly back
          | none => (s, l)
        (s.lineLeave l).linesRelease n back fuel
      else s
    | none => s

/-- Pipeline `k` completes its line, once its artwork has been read and before its deadline (R196, R197, R239): the groups that
came back from the taps for the lines that leave now, and what conditioning met: bad map entries, bad curves (false) and weight
sets (true), bad lines of the delay store, and corrected words. -/
def State.lineComposed (s : State) (k : Nat) (back : List TapReturn) (badEntries : List Nat) (badSets : List (Bool × Nat))
    (badDelay : List Nat) (corrected : Nat) : State :=
  match s.frg.lines.find? (fun l => match l.st with | .composing j _ => j = k | _ => false) with
  | none => s
  | some l =>
    let n := l.track
    if s.reading l ∨ s.lateNow l then s else
    let ly := (s.version? n l.layout l.version).getD {}
    let errs := badEntries.map (fun i => (0, i)) ++ badSets.map (fun p => (if p.1 then 2 else 1, p.2)) ++
      badDelay.map (fun i => (3, i)) ++ (List.range corrected).map (fun _ => (4, 0))
    let s := errs.foldl (fun s e => s.condError l (s.linePage n) e) s
    let s : State := { s with frg := { s.frg with pipeErr := s.frg.pipeErr &&& (255 - 2 ^ (k % 8)) } }
    let s := s.setLine { l with st := .buffered, planes := s.compose ly (s.printFields l).1 l.index }
    (s.linesRelease n back 4096).linesShow

/-! ### Deadlines (R382 to R397) -/

/-- Shows the fault log (R411, R412). -/
def State.dlShow (s : State) : State :=
  let w : Nat := match s.frg.log with
    | [] => 0
    | r :: _ => r.item + (r.index % 2 ^ 24 + r.flags * 2 ^ 24 + r.cause * 2 ^ 32 + r.head * 2 ^ 40) * 2 ^ 64
  let s := (List.range 4).foldl (fun s j => s.put (F.FRG_DL_REC j) (w / 2 ^ (32 * j) % 2 ^ 32)) s
  s.put F.FRG_DL_STATUS_UNREAD s.frg.log.length

/-- Writes a fault record, the count and the last fault (R397). -/
def State.dlRecord (s : State) (n : Nat) (r : FaultRec) : State :=
  let full : Bool := 64 ≤ s.frg.log.length
  let s : State := { s with frg := { s.frg with log := (if full then s.frg.log.drop 1 else s.frg.log) ++ [r] } }
  let s := (s.addSat (F.FRG_DL_COUNT n) 1).put (F.FRG_DL_LAST n) (r.cause * 2 ^ 24 + r.index % 2 ^ 24)
  let s := (s.raise Ev.FRG_DEADLINE n).dlShow
  if full then (s.setFlags F.FRG_DL_STATUS_OVERFLOW 1).raise Ev.FRG_DL_LOG_OVERFLOW else s

/-- LATENCY_t in ps (R387). -/
def State.latencyPs (s : State) (n : Nat) : Nat := s.get (F.FRG_TRK_LATENCY n) * 1000

/-- The cause of a line that is late at `d` (R197, R239, R387). `read`: an artwork read took longer than R612 gives; a read that
still waits is one. A line that only waits for a pipeline, or whose parity restart meets its deadline, is the forge's. -/
def State.faultCause (s : State) (l : Line) (d : Ps) (read : Bool) : Nat :=
  let lat := s.latencyPs l.track
  let late : Bool := match (s.printFields l).2 with | none => true | some a => decide (d < a + lat)
  let inTime : Bool := match l.st with | .left a => decide (a + 160000 ≤ d) | _ => false
  if d < l.announced + lat then 6
  else if s.drawsField l ∧ late then 3
  else if inTime then (if l.heads.any (fun p => (s.headRun p.1).lane ≠ 0xFF) then 4 else 5)
  else
    let slow : Bool := read || s.reading l
    match l.st with
    | .queued => 1
    | .composing _ (some r) => if slow ∧ r / 625 ≠ d / 625 then 2 else 1
    | _ => if slow then 2 else 1

/-- A line is judged late (R385, R390 to R397): the head lines not handed become understudy forms, the item is marked, the
fault is recorded, and a lead may hand over. -/
def State.lineFault (s : State) (l : Line) (cause : Nat) (hold : Bool) : State :=
  let n := l.track
  let left := l.out
  let heads := if left then l.heads.map Prod.fst else s.headsOf n
  let s := s.dropLine l
  let defer : Bool := s.flag F.FRG_DL_CTRL_DEFER_TO_TWIN ∧ s.role = 1 ∧ s.dpx.partnerMode = 4 ∧ s.flag F.DPX_STATUS_LINK_UP
  let s := if hold ∨ defer then s else s.formsIn l heads
  let s := if hold then s else s.recordUnder l heads
  let s := if l.item = 0 then s else s.mark n l.item 0
  let flags := bit hold * 128 + bit defer * 64 + bit (0 < l.handed) * 32 + bit (s.mode = 4) * 16 + n
  let placed := if hold ∨ defer then [] else heads.filter (fun h => (s.headRun h).lane ≠ 0xFF)
  let head := match placed with | [h] => h | _ => 0xFF
  let s := s.dlRecord n { item := l.item, index := l.index, flags, cause, head }
  let s := (if hold then s else s.linesRelease n [] 4096).linesShow
  if !hold ∧ (s.get F.FRG_DL_CTRL_CO_CAUSES).testBit (cause - 1) ∧ s.role = 1 then s.coTrigger 2 else s

/-- The track will not fire the line: it was skipped, or its print is gone (R386). -/
def State.lineDead (s : State) (l : Line) : Bool :=
  if l.item = 0 then !((s.track l.track).starves.any (fun v => v.c = l.c ∧ v.next ≤ l.index ∧
    !(v.skips.any (fun r => r.1 ≤ l.index ∧ l.index < r.2))))
  else match s.item? l.track l.item with
    | none => true
    | some x => x.skips.any (fun r => r.1 ≤ l.index ∧ l.index < r.2)

/-- Lines that the track will not fire leave the queue. -/
def State.linesClean (s : State) : State :=
  let l := s.frg.lines.filter (fun x => !(s.lineDead x))
  if l.length = s.frg.lines.length then s else
  (List.range 16).foldl (fun s n => s.linesRelease n [] 4096) (s.setLines l) |>.linesShow

/-- D of a line, for a line that has one. -/
def State.dOf (s : State) (l : Line) : Ps := (s.deadline l.track l.fire).getD s.now

/-- The line of track `n` with the lowest fire position among some. -/
def State.firstLine (s : State) (n : Nat) (p : Line → Bool) : Option Line :=
  (s.frg.lines.filter (fun l => l.track = n ∧ p l)).foldl (fun b x => match b with
    | none => some x
    | some (y : Line) => if posDiff x.fire y.fire < 0 then some x else some y) none

/-- The earliest line of track `n` past its deadline is a deadline fault (R384). -/
def State.lineDeadline (s : State) (n : Nat) (read : Bool) : State :=
  let s := s.settle n s.now
  match s.firstLine n s.lateNow with
  | none => s
  | some l => if s.lineDead l then s.dropLine l else s.lineFault l (s.faultCause l (s.dOf l) read) false

/-- The lines of track `n` that are late are judged before it fires, the marks made first (R384, R409). -/
def State.linesJudge (s : State) (n : Nat) : Nat → State
  | 0 => s
  | fuel + 1 =>
    match s.firstLine n s.lateNow with
    | none => s
    | some _ => (s.lineDeadline n false).linesJudge n fuel

/-- The head lines of the earliest line that has left the forge go into their lanes (R356, R383); the line is done when all
have been written. -/
def State.lineHanded (s : State) (n : Nat) : State :=
  let s := s.settle n s.now
  match s.firstLine n Line.out with
  | none => s
  | some l =>
    if s.lateNow l then s.lineFault l (s.faultCause l (s.dOf l) false) false else
    let (s, rest, k) := l.heads.foldl (fun (a : State × List (Nat × List Byte) × Nat) p =>
      let (s, ok) := a.1.handHead l p.1 p.2
      if ok then (s, a.2.1, a.2.2 + 1) else (s, a.2.1 ++ [p], a.2.2)) (s, [], l.handed)
    if rest = [] then
      let slack := match s.deadline n l.fire with | some d => (d - s.now) / 1000 | none => 0xFFFFFFFF
      ((s.dropLine l).note (F.FRG_DL_SLACK n) 0 |>.put (F.FRG_DL_SLACK n) (min slack (s.get (F.FRG_DL_SLACK n)))).linesShow
    else s.setLine { l with heads := rest, handed := k }

/-- Every announced line that has not been handed faults on entry to HOLD, all at once: none leaves the forge any more (R198,
R393). -/
def State.linesHold (s : State) (frozen : Bool) : State :=
  s.frg.lines.foldl (fun s l => if s.lineDead l then s.dropLine l else s.lineFault l (if frozen then 2 else 1) true) s

/-- A write of 1 to FRG_DL_POP (R412). -/
def State.dlPop (s : State) : State := ({ s with frg := { s.frg with log := s.frg.log.drop 1 } } : State).dlShow

/-! ### Parity (R218, R238) -/

/-- A parity error in pipeline `k`: the line is restarted once; at a second error the pipeline is disabled and its line
returns to the queue. The answer says whether CYCLES then fails. -/
def State.pipeParity (s : State) (k : Nat) : State × Bool :=
  match s.frg.lines.find? (fun l => match l.st with | .composing j _ => j = k | _ => false) with
  | none => (s, false)
  | some l =>
    if !(s.frg.pipeErr.testBit k) then
      ((s.setLine { l with st := .composing k (some s.now) } : State) |> fun s =>
        { s with frg := { s.frg with pipeErr := s.frg.pipeErr ||| 2 ^ k } }, false)
    else
      let s := s.setLine { l with st := .queued }
      let s : State := { s with frg := { s.frg with pipeErr := s.frg.pipeErr &&& (255 - 2 ^ k) } }
      let s := s.put F.FRG_CTRL_PIPE_EN (s.get F.FRG_CTRL_PIPE_EN &&& (255 - 2 ^ k))
      let s := s.setFlags F.FRG_STATUS_PIPE_FAULTED (2 ^ k)
      let s := ((s.raise Ev.FRG_PIPE_FAULT).frgShow).linesShow
      (s, !(fracLe (s.rateSum s.cT (List.range 16)) (s.pipes * 800000000 * s.util) 256))

/-! ### Layout operations (R227 to R229) -/

/-- A version is in use by a print from HEAD on (R228). -/
def State.versionUsed (s : State) (l : Layout) : Bool := (s.storeUse l.track).any (fun u => u.2 = (l.id, l.version))

/-- The layouts without the retiring versions that nothing uses any longer. -/
def State.layoutsKept (s : State) : List Layout := s.frg.layouts.filter (fun l => !l.retiring ∨ s.versionUsed l)

/-- The units that the installed layouts pin stand in the cache (R216). -/
def State.repin (s : State) : State :=
  let pins := s.pinned
  (pins.filter (fun u => !(s.cached u))).foldl State.cacheUse { s with frg := { s.frg with pins } }

/-- Retiring versions that nothing uses any longer leave the store. -/
def State.layoutsRetire (s : State) : State :=
  if s.layoutsKept.length = s.frg.layouts.length then s else
  (({ s with frg := { s.frg with layouts := s.layoutsKept } } : State).repin).frgShow

/-- Ends the running operation (R249). -/
def State.layoutEnd (s : State) (code stamp : Nat) : State :=
  let s : State := { s with frg := { s.frg with op := none, opLate := false } }
  let s := ((s.put F.FRG_LAYOUT_RESULT_BUSY 0).put F.FRG_LAYOUT_RESULT_CODE code).put F.FRG_LAYOUT_RESULT_STAMP stamp
  if code = 0 then s.raise Ev.FRG_LAYOUT_INSTALLED else s

/-- An operation is written (R227): it starts, or ends BUSY or NOT_READY. -/
def State.layoutWrite (s : State) (op track id : Nat) (mirror : Option Nat) : State :=
  if op = 0 then s
  else if s.frg.op.isSome then (s.put F.FRG_LAYOUT_RESULT_CODE 1).put F.FRG_LAYOUT_RESULT_STAMP 0xFF
  else if op ≠ 3 ∧ !(s.accepting ∨ s.mode = 7) then s.layoutEnd 10 0xFF
  else
    let o : LayoutOp := { op, track, id, addr := 256 * s.get F.FRG_LAYOUT_ADDR, mirror }
    ({ s with frg := { s.frg with op := some o } } : State).put F.FRG_LAYOUT_RESULT_BUSY 1

/-! ### The install log (R203) -/

/-- The base of the layouts region, where the log stands. -/
def State.logBase (s : State) : Option Nat := (s.regionsOf 2).head?.map Region.base

/-- The first 64 KiB of the layouts region hold the install log (R203). -/
def State.inLog (s : State) (a n : Nat) : Bool :=
  match s.logBase with | some b => decide (a < b + 65536) && decide (b < a + n) | none => false

/-- A row of the log: OP, track, ID, address in units of 256 bytes and list length. The spec gives the log no layout (log
entry 95). -/
def logRow (op track id addr len : Nat) : List Byte :=
  leBytes 1 op ++ leBytes 1 track ++ leBytes 2 id ++ leBytes 4 (addr / 256) ++ leBytes 4 len ++ leBytes 4 0

/-- Appends a row to the log; a full log is written again with the layouts installed now. -/
def State.logPut (s : State) (row : List Byte) : State :=
  match s.logBase with
  | none => s
  | some b =>
    if s.frg.logged < 4096 then
      let s := s.dramPut 4 (b + 16 * s.frg.logged) (row ++ (if s.frg.logged < 4095 then leBytes 16 0 else []))
      { s with frg := { s.frg with logged := s.frg.logged + 1 } }
    else
      let rows := (s.frg.layouts.filter (fun l => !l.retiring)).map (fun l => logRow 1 l.track l.id l.addr l.len)
      let s := s.dramPut 4 b (rows.flatten ++ leBytes (65536 - 16 * rows.length) 0)
      { s with frg := { s.frg with logged := rows.length } }

/-- The layouts that the log names: track, ID, address and length. -/
def State.logRead (s : State) : List (Nat × Nat × Nat × Nat) :=
  match s.logBase with
  | none => []
  | some b =>
    let rows := ((List.range 4096).map (fun i => s.dramBytes (b + 16 * i) 16)).takeWhile (fun r => leAt r 0 1 ≠ 0)
    rows.foldl (fun t r =>
      let t := t.filter (fun x => !(x.1 = leAt r 1 1 ∧ x.2.1 = leAt r 2 2))
      if leAt r 0 1 = 3 then t else t ++ [(leAt r 1 1, leAt r 2 2, 256 * leAt r 4 4, leAt r 8 4)]) []

/-! ### The checks of an operation (R227) -/

/-- The layout that a list at an address describes, as it would be held. -/
def State.layoutAt (s : State) (track addr : Nat) (l : List Byte) : Layout :=
  { layoutOf l with track, addr, len := leAt l 28 4, crc := leAt l 32 4, under := s.underLines l, version := s.frg.verCount + 1 }

/-- A list may be installed (R227), apart from admission: the layout, or the code and the failing stamp. -/
def State.layoutCheck (s : State) (o : LayoutOp) : Except (Nat × Nat) Layout :=
  let cur := s.layout? o.track o.id
  let n := (s.frg.layouts.filter (fun l => !l.retiring)).length
  let l := s.dramBytes o.addr (min (leAt (s.dramBytes o.addr 64) 28 4) 65536)
  let ly := s.layoutAt o.track o.addr l
  if o.id = 0 ∨ o.id = 0xFFFF then .error (2, 0xFF)
  else if o.op = 1 ∧ cur.isSome then .error (3, 0xFF)
  else if o.op = 2 ∧ cur.isNone then .error (4, 0xFF)
  else if o.op = 1 ∧ 1024 ≤ n then .error (8, 0xFF)
  else if s.inLog o.addr (max 64 l.length) ∨ !(s.inRegion 2 o.addr (max 64 l.length)) ∨
      (o.op = 2 ∧ s.frg.layouts.any (fun v => v.track = o.track ∧ v.id = o.id ∧ v.addr = o.addr)) then .error (5, 0xFF)
  else if descCrc l ≠ leAt l 32 4 then .error (6, 0xFF)
  else if ly.id ≠ o.id then .error (2, 0xFF)
  else match formatFault l with
    | some i => .error (5, i)
    | none =>
      match s.footprintFault ly with
      | some i => .error (5, i)
      | none =>
        match s.referenceFault l ly with
        | some i => .error (7, i)
        | none => .ok (s.measure ly)

/-- The understudy store has room for a layout (R389). -/
def State.storeFits (s : State) (ly : Layout) : Bool := s.underUsed + ly.reserved ≤ 16777216

/-- The layout table with a layout in place, an older version of its ID retiring, and gone where no item uses it (R228). -/
def State.layoutPut (s : State) (ly : Layout) : State :=
  let old := s.frg.layouts.map (fun l => if l.track = ly.track ∧ l.id = ly.id then { l with retiring := true } else l)
  let s : State := { s with frg := { s.frg with layouts := old ++ [ly], verCount := ly.version } }
  { s with frg := { s.frg with layouts := s.layoutsKept } }

/-- A layout is in place: its units are pinned, its row is logged, and its cost is shown (R229, R250). -/
def State.layoutHeld (s : State) (op : Nat) (ly : Layout) : State :=
  (((s.layoutPut (s.formsMade ly)).repin).logPut (logRow op ly.track ly.id ly.addr ly.len)).put F.FRG_LAYOUT_CMAX ly.cmax

/-- The effect of the running operation, once a lead's understudy has acknowledged it (R229, R428): the code and stamp. -/
def State.layoutApply (s : State) (o : LayoutOp) : State :=
  if o.op = 3 then
    let named (l : Layout) : Bool := l.track = o.track ∧ l.id = o.id ∧ !l.retiring
    let s : State := { s with frg := { s.frg with
      layouts := s.frg.layouts.map (fun l => if named l then { l with retiring := true } else l) } }
    (((s.logPut (logRow 3 o.track o.id 0 0)).layoutsRetire).frgShow).layoutEnd 0 0xFF
  else match s.layoutCheck o with
    | .error (c, i) => s.layoutEnd c i
    | .ok ly =>
      let s := s.put F.FRG_LAYOUT_CMAX ly.cmax
      if !(s.storeFits ly) then (s.put F.FRG_DL_STATUS_STORE_FULL 1).layoutEnd 7 0xFF else
      match s.admitCheck (s.layoutPut ly) with
      | some f => (s.admitRefuse f o.track 1).layoutEnd f.1 0xFF
      | none => (((s.layoutHeld o.op ly).put F.FRG_DL_STATUS_STORE_FULL 0).frgShow).layoutEnd 0 0xFF

/-- Why a remove ends, if it does (R227). -/
def State.removeFault (s : State) (o : LayoutOp) : Option Nat :=
  if o.id = 0 ∨ o.id = 0xFFFF then some 2
  else if (s.layout? o.track o.id).isNone then some 4
  else if (s.queue o.track).items.any (fun x => x.layout = o.id ∧ x.phase ≠ .fired) ∨
      s.act (F.WQ_CFG_STARVE_LAYOUT o.track) = o.id ∨ s.get (F.WQ_CFG_STARVE_LAYOUT o.track) = o.id then some 9
  else none

/-- Why the running operation would fail now. -/
def State.layoutFails (s : State) (o : LayoutOp) : Bool :=
  if o.op = 3 then (s.removeFault o).isSome else
  match s.layoutCheck o with
  | .error _ => true
  | .ok ly => !(s.storeFits ly) || (s.admitCheck (s.layoutPut ly)).isSome

/-- TRK_SCHED_n writes held while an operation ran are checked now (R239). -/
def State.schedHeld (s : State) : State :=
  if s.frg.op.isSome then s else
  s.frg.heldSched.foldl (fun s p => s.admitChange (fun s =>
      let s := s.setRegAt (F.TRK_SCHED p.1).addr (F.TRK_SCHED p.1).rst p.2
      let s := s.setTrack p.1 { s.track p.1 with cfgPending := true }
      if s.inCurtain p.1 then s.trkApply p.1 else s) p.1 2)
    { s with frg := { s.frg with heldSched := [] } }

/-- The running operation ends (R227): on a lead, a sound operation first waits for the understudy. -/
def State.layoutFinish (s : State) : State :=
  match s.frg.op with
  | none => s
  | some o =>
    if o.waiting.isSome then s else
    match (if o.op = 3 then s.removeFault o else none) with
    | some c =>
      let s := (s.layoutEnd c 0xFF).schedHeld
      match o.mirror with
      | some q => s.dpxAck q 0x07 o.track
      | none => s
    | none =>
      if s.mirrors ∧ !(s.layoutFails o) then
        let s := if o.op = 3 then s else s.dpxDram o.addr (leAt (s.dramBytes o.addr 64) 28 4)
        let q := s.dpx.commitSeq
        let s : State := { s with frg := { s.frg with op := some { o with waiting := some q } } }
        s.dpxCommit 0x07 o.track .layout (leBytes 1 1 ++ leBytes 7 0 ++ leBytes 4 (o.addr / 256) ++
          leBytes 4 (o.op * 2 ^ 20 + o.track * 2 ^ 16 + o.id))
      else
        let s := (s.layoutApply o).schedHeld
        match o.mirror with
        | some q => s.dpxAck q 0x07 o.track
        | none => s

/-- LAYOUT_OP_COMPLETE (R227): the list of an install or replace is read once the controllers serve it, and it waits for a
PREPARE (R332). An item that enters HEAD
or COMMITTING in the same instant goes before a replace or a remove (R239). -/
def State.layoutComplete (s : State) : State :=
  match s.frg.op with
  | none => s
  | some o =>
    if o.op ≠ 3 ∧ (!(s.dramMay 4 o.addr 64) ∨ s.nzc.op.any (fun p => p.op = 3)) then s
    else if o.op ≠ 1 ∧ s.more then { s with frg := { s.frg with opLate := true } }
    else s.layoutFinish

/-- An operation that ends with its instant does so. -/
def State.layoutLate (s : State) : State :=
  if s.frg.opLate ∧ !s.more then ({ s with frg := { s.frg with opLate := false } } : State).layoutFinish else s

/-- A HOLD cause or a reset ends the running operation ABORTED (R227, R239). -/
def State.layoutAbort (s : State) : State := if s.frg.op.isSome then (s.layoutEnd 11 0xFF).schedHeld else s

/-- On wake, the table is rebuilt from the install log: layouts whose DESC_CRC fails are dropped, and the units of the others
are pinned again (R242). -/
def State.layoutRebuild (s : State) : State :=
  let rows := s.logRead.map (fun r => (r, s.dramBytes r.2.2.1 (min r.2.2.2 65536)))
  let good := rows.filter (fun p => descCrc p.2 = leAt p.2 32 4)
  let bad := rows.filter (fun p => descCrc p.2 ≠ leAt p.2 32 4)
  let old := s.frg.layouts
  let s : State := { s with frg := { s.frg with
    layouts := old.filter Layout.retiring, cache := [], logged := 0, rebuilding := false } }
  let s := good.foldl (fun s p =>
    let ly := s.measure (s.layoutAt p.1.1 p.1.2.2.1 p.2)
    let v := (old.find? (fun l => l.track = ly.track ∧ l.id = ly.id ∧ l.addr = ly.addr ∧ !l.retiring)).map Layout.version
    let ly := s.formsMade { ly with version := v.getD (s.frg.verCount + 1) }
    let s : State := { s with frg := { s.frg with layouts := s.frg.layouts ++ [ly], verCount := max s.frg.verCount ly.version } }
    s.logPut (logRow 1 ly.track ly.id ly.addr ly.len)) s
  ((bad.foldl (fun s p => s.raise Ev.FRG_LAYOUT_CORRUPT p.1.1) s).repin).frgShow

/-! ### What goes on by itself after a command -/

/-- Queues, lines and layouts after a command that may have moved items or lines. -/
def State.printRun (s : State) : State := ((((s.queuesRun).linesClean).layoutLate).layoutsRetire).fillsRank

end Sys2Proof.Machine
end

