-- ==== Sys2Proof/Machine/Modes.lean ====
section
/-! DEFINITION. The modes and their transitions, HOLD and SERVICE entry, and the entry to INTERVAL (R55 to R63, R664,
R665). -/

namespace Sys2Proof.Machine

/-! ### A mode takes its place -/

/-- Tracks take the rules of a mode: only PERFORMANCE runs armed tracks under PERFORMANCE rules; a track that leaves them ends
its gate pulses (R60, R407). -/
def State.perfFor (s : State) (m : Nat) : State :=
  (List.range 16).foldl (fun s n =>
    let x := s.track n
    let p : Bool := m = 3 ∧ x.armed
    if x.perf = p then s else
    let s := s.setTrack n { x with perf := p }
    if p then s else s.gatesCancel n) s

/-- SYS_MODE.MODE takes a value with its cause (R58, R82), and SYS_MODE_CHANGED tells of a new one (R88): lanes take their
roles (R361) and readiness is judged again. -/
def State.modeTake (s : State) (m cause : Nat) : State :=
  let old := s.mode
  let s := (s.put F.SYS_MODE_PREV s.mode).put F.SYS_MODE_CAUSE cause
  let s := (s.put F.SYS_MODE_MODE m).put F.SYS_MODE_BUSY (bit s.dpx.switch.isSome)
  let s : State := { s with sys := { s.sys with toMode := none } }
  (((when (old ≠ m) (fun s => s.raise Ev.SYS_MODE_CHANGED) s).perfFor m).fenceRoles).dpxReadyCheck

/-- A mode change: the CHECKPOINT entry of every track is requested with it, once recovery has given the tracks their marks
(R45, R167, R172; log entry 89). -/
def State.setMode (s : State) (m cause : Nat) : State :=
  let s := s.modeTake m cause
  when s.sys.armStarted (fun s => (List.range 16).foldl (fun s n => s.markRequest n 1) s) s

/-- A request is refused with a code of REQ_RESULT (R59, R62). -/
def State.modeRefuse (s : State) (code : Nat) : State := (s.put F.SYS_MODE_REQ_RESULT code).raise Ev.SYS_MODE_REFUSED

/-- The mode that a pending R60 transition leads to. -/
def State.perTrackTo (s : State) : Option Nat :=
  match s.sys.toMode with
  | some m => if (m = 2 ∨ m = 3) ∧ (s.mode = 2 ∨ s.mode = 3) then some m else none
  | none => none

/-- A pending R60 transition completes when the last armed track has switched; a cancelled one when the last has switched
back (R60, R61). -/
def State.modeTry (s : State) : State :=
  match s.perTrackTo with
  | none => s
  | some m =>
    if (List.range 16).all (fun n => !(s.track n).armed || (s.track n).perf = (m = 3)) then
      if m = s.mode then
        ({ s with sys := { s.sys with toMode := none } } : State).put F.SYS_MODE_BUSY (bit s.dpx.switch.isSome)
      else (s.put F.SYS_MODE_REQ_RESULT 1).setMode m 1
    else s

/-- Track `n` in its curtain window switches to the rules of the mode that a pending R60 transition leads to (R60). -/
def State.trackSwitch (s : State) (n : Nat) : State :=
  match s.perTrackTo with
  | none => s
  | some m =>
    let x := s.track n
    if !x.armed ∨ x.perf = (m = 3) ∨ !(s.inCurtain n) then s else
    let s := s.setTrack n { x with perf := m = 3 }
    (if m = 3 then s else s.gatesCancel n).fenceRoles

/-- Every idle track switches at once, and the transition may complete. -/
def State.modeSwitch (s : State) : State := ((List.range 16).foldl (fun s n => s.trackSwitch n) s).modeTry

/-- An R60 transition starts. -/
def State.modeStart (s : State) (m : Nat) : State :=
  let s : State := { s with sys := { s.sys with toMode := some m } }
  ((s.put F.SYS_MODE_BUSY 1).put F.SYS_MODE_REQ_RESULT 2).modeSwitch

/-- A pending R60 transition is cancelled by a request for the mode being left (R61). -/
def State.modeCancel (s : State) : State :=
  let s : State := { s with sys := { s.sys with toMode := some s.mode } }
  (s.put F.SYS_MODE_REQ_RESULT 6).modeSwitch

/-! ### Entry to INTERVAL -/

/-- Entry to INTERVAL begins (R664). -/
def State.entryBegin (s : State) : State :=
  let s : State := { s with sys := { s.sys with toMode := some 5 }, pwr := { s.pwr with step := 1, stepAt := s.now, due := 0 } }
  ((s.put F.SYS_MODE_BUSY 1).put F.SYS_MODE_REQ_RESULT 2).put F.PWR_STATUS_STATE 1

/-- The entry is abandoned with its RESULT and POINT (R664, R665); the device runs on as if it had not begun. -/
def State.entryAbandon (s : State) (result point : Nat) : State :=
  let s : State := { s with sys := { s.sys with toMode := none }, pwr := { s.pwr with step := 0, due := 0 } }
  let s : State := { s with banks := [] }
  let s := (s.put F.PWR_STATUS_STATE 0).put F.SYS_MODE_BUSY 0
  let s := ((s.put F.SYS_MODE_REQ_RESULT 6).put F.PWR_ENTRY_RESULT result).put F.PWR_ENTRY_POINT point
  s.raise Ev.PWR_ENTRY_ABORTED

/-- Entry to INTERVAL is under way, in a step that can still be abandoned. -/
def State.entering (s : State) : Bool := 1 ≤ s.pwr.step ∧ s.pwr.step ≤ 4

/-! ### HOLD and SERVICE -/

/-- What stops on entry to HOLD or SERVICE (R57, R198, R332): announced lines are recorded, items in BOUND or PRINTING
are marked and stay, commits end and gate pulses are cancelled. -/
def State.stopPrint (s : State) (frozen : Bool) : State :=
  let s := (s.linesHold frozen).nzAbort
  let s := (List.range 16).foldl (fun s n =>
    let ids := ((s.queue n).items.filter Item.running).map Item.id
    let s := s.markAll n ids 15
    let s := s.mapItems n (fun x => if x.running then { x with stopped := true } else x)
    let s := s.setTrack n { s.track n with starves := [], overspeed := false }
    match (s.queue n).items.find? Item.committing with
    | some x => s.commitFail n x.id
    | none => s) s
  (List.range 16).foldl (fun s n => s.gatesCancel n) s

/-- What a transition under way becomes when HOLD, a changeover or a print-path reset takes its place (R63, R676; log entries 90
and 97): an entry is abandoned, an R60 transition ends CANCELLED, a print-path reset stops. -/
def State.transitionDrop (s : State) : State :=
  let s := s.pathEnds
  if s.entering then s.entryAbandon 2 s.pwr.step
  else if s.sys.toMode.isSome then
    ({ s with sys := { s.sys with toMode := none } } : State).put F.SYS_MODE_REQ_RESULT 6
  else s

/-- A HOLD cause: 2 DMC_FREEZE, 3 INTEGRITY (R59, R63). It acts in CALL after phase DRAM, REHEARSAL, PERFORMANCE and
UNDERSTUDY. A lead triggers a changeover (R440), which takes the place of one under way; an understudy is one no more (R417). -/
def State.holdEnter (s : State) (cause : Nat) : State :=
  let m := s.mode
  if (m = 1 ∧ s.phaseDone 6) ∨ m = 2 ∨ m = 3 ∨ m = 4 then
    let s := ((s.transitionDrop).layoutAbort).stopPrint (cause = 2)
    let s : State := { s with dpx := { s.dpx with switch := none, taking := none } }
    let s := if s.role = 2 then s.setRole 3 else s.coTrigger 1
    s.setMode 6 cause
  else s

/-- SERVICE is entered (R57, R59). -/
def State.serviceEnter (s : State) : State :=
  let hold := s.mode = 6
  let s : State := { s with sys := { s.sys with fromHold := hold } }
  let s := if s.mode = 2 then s.stopPrint false else s
  (s.put F.SYS_MODE_REQ_RESULT 1).setMode 7 9

/-! ### Requests -/

/-- The understudy state is entered by request (R59, R449): positions and queue come from the partner. -/
def State.understudyEnter (s : State) (cause : Nat) : State :=
  let s := (List.range 16).foldl (fun s n =>
    s.setTrack n { s.track n with aligned := false, alignRun := 0, alignOff := 0, unbound := [] }) s
  let s : State := { s with dpx := { s.dpx with synced := false } }
  (s.setRole 2).setMode 4 cause

/-- A request for a mode (R59 to R62). -/
def State.modeReq (s : State) (m : Nat) : State :=
  if s.flag F.SYS_MODE_BUSY then
    if s.perTrackTo.isSome ∧ m = s.mode then s.modeCancel else s.modeRefuse 4
  else
    match s.mode, m with
    | 2, 3 => if s.role = 2 then s.modeRefuse 5 else s.modeStart 3
    | 3, 2 => s.modeStart 2
    | 2, 4 =>
      if s.flag F.DPX_STATUS_LINK_UP ∧ s.dpx.partnerMode = 3 then
        (s.put F.SYS_MODE_REQ_RESULT 1).understudyEnter 1 else s.modeRefuse 5
    | 4, 2 => (((s.put F.SYS_MODE_REQ_RESULT 1).setRole 3).setMode 2 1).dpxState
    | 2, 5 => s.entryBegin
    | 0, 7 => if s.debugOpen then s.serviceEnter else s.modeRefuse 5
    | 2, 7 => if s.debugOpen then s.serviceEnter else s.modeRefuse 5
    | 6, 7 => if s.debugOpen then s.serviceEnter else s.modeRefuse 5
    | _, _ => s.modeRefuse 3

end Sys2Proof.Machine
end

