-- ==== Sys2Proof/Machine/Dram.lean ====
section
/-! DEFINITION. The DDR5 controllers: address map, refresh debt, temperature, training, frequency change and the freeze (R604
to R635, R653). -/

namespace Sys2Proof.Machine

/-! ### Refresh (R614 to R617) -/

/-- The controller runs at the hot rate: a hot reading, or a sensor fault (R608, R614). -/
def State.hotRate (s : State) (c : Nat) : Bool := s.flag (F.DMC_STATUS_HOT c) ∨ s.flag (F.DMC_STATUS_TS_FAULT c)

/-- The refresh interval T in ps for a rate (R614). -/
def refreshPs (fgr hot : Bool) : Nat := 3900000 / (if fgr then 2 else 1) / (if hot then 2 else 1)

/-- The interval in force. -/
def State.interval (s : State) (c : Nat) : Nat := refreshPs (s.flag (F.DMC_STATUS_FGR c)) (s.hotRate c)

/-- The ceiling c (R615, R625). -/
def State.ceiling (s : State) (c : Nat) : Nat :=
  if s.ctlState c = 5 ∨ s.ctlState c = 6 ∨ !(s.flag (F.DMC_CFG_POSTPONE c)) ∨ s.flag (F.DMC_STATUS_FGR c) then 0
  else if s.hotRate c then 2 else 4

/-- φ in 1/4,096 (R630). -/
def State.phase (s : State) (c : Nat) : Nat :=
  let x := s.ctl c
  if x.inSr then 0 else (((s.now : Int) - x.since).toNat * 4096 / s.interval c) % 4096

/-- The debt now: during a stall, less the refreshes issued so far. -/
def Dmc.debtAt (x : Dmc) (t : Ps) : Nat :=
  match x.stall with
  | none => x.debt
  | some (a, _) => x.debt - (t - a - x.tRp) / max 1 x.tRfc

/-- The controller issues refreshes: it is not in self-refresh, off, training or failed. -/
def State.refreshes (s : State) (c : Nat) : Bool :=
  !(s.ctl c).inSr ∧ (s.ctlState c = 2 ∨ s.ctlState c = 4 ∨ s.ctlState c = 5 ∨ s.ctlState c = 6)

/-- The refresh rate doubles or halves (R616): `was` says whether the hot rate held before. -/
def State.rateCross (s : State) (c : Nat) (was : Bool) : State :=
  let x := s.ctl c
  let hot := s.hotRate c
  if hot = was ∨ x.inSr then s else
  let t' := s.interval c
  let d := x.debtAt s.now
  if hot then
    let past : Bool := x.since + t' ≤ s.now
    let d := 2 * d + bit past
    let since := if past then x.since + t' else x.since
    let k := s.ceiling c
    if k < d then
      let start := match x.stall with | some (a, _) => a | none => s.now
      let pre := if x.stall.isSome then 0 else x.tRp
      (s.setCtl c { x with debt := d, since, stall := some (start, s.now + pre + (d - k) * x.tRfc), pages := [] }).put
        (F.DMC_STATUS_RECOVERING c) 1
    else s.setCtl c { x with debt := d, since }
  else
    let t := t' / 2
    s.setCtl c { x with
      debt := d / 2, since := x.since - (d % 2) * t
      stall := x.stall.map (fun p => (p.1, s.now + (d / 2 - s.ceiling c) * x.tRfc)) }

/-- A refresh interval elapses (R615): a debt above the ceiling is refreshed at once, with every bank closed (R611). -/
def State.refreshInterval (s : State) (c : Nat) : State :=
  let x := s.ctl c
  let t := s.interval c
  if !(s.refreshes c) ∨ (s.now : Int) < x.since + t then s else
  let x := { x with since := x.since + t }
  match x.stall with
  | some (a, e) => s.setCtl c { x with debt := x.debt + 1, stall := some (a, e + x.tRfc) }
  | none =>
    let over_ : Bool := s.ceiling c < x.debt + 1
    s.setCtl c { x with debt := min (x.debt + 1) (s.ceiling c), pages := if over_ then [] else x.pages }

/-- A request has waited for 100 ns. -/
def State.dramWaits (s : State) : Bool := s.dreq.any (fun r => decide (r.since + 100000 ≤ s.now))

/-- A postponed refresh is issued while no request has waited for 100 ns (R615). -/
def State.idleRefresh (s : State) (c : Nat) : State :=
  let x := s.ctl c
  if s.refreshes c ∧ 1 ≤ x.debt ∧ x.stall.isNone ∧ !s.dramWaits then s.setCtl c { x with debt := x.debt - 1, pages := [] } else s

/-- A recovery stall ends (R617). -/
def State.recoverEnd (s : State) (c : Nat) : State :=
  let x := s.ctl c
  match x.stall with
  | none => s
  | some (a, e) =>
    if s.now < e then s else
    let s := (s.setCtl c { x with debt := min x.debt (s.ceiling c), stall := none }).put (F.DMC_STATUS_RECOVERING c) 0
    let s := s.atLeast (F.DMC_RECOVER_MAX c) ((e - a) / 1000)
    (s.addSat (F.DMC_RECOVER_COUNT c) 1).raise Ev.DMC_REFRESH_RECOVER c

/-- The controller enters self-refresh: every bank is closed, and d and φ stay at 0 (R611, R618). -/
def State.srEnter (s : State) (c : Nat) : State :=
  (s.setCtl c { s.ctl c with inSr := true, debt := 0, since := s.now, stall := none, pages := [], srFrom := s.now }).put (F.DMC_STATUS_RECOVERING c) 0

/-- The controller leaves self-refresh (R618). -/
def State.srExit (s : State) (c : Nat) : State :=
  let x := s.ctl c
  s.setCtl c { x with inSr := false, debt := 0, since := s.now, srTo := if x.inSr then s.now else x.srTo }

/-! ### Temperature (R608, R614) -/

/-- A temperature byte in °C. -/
def celsius (v : Nat) : Int := (BitVec.ofNat 8 v).toInt

/-- A sensor read of a controller: both sensors, or a failure. -/
def State.tempRead (s : State) (c : Nat) (ok : Bool) (ts0 ts1 : Nat) : State :=
  if s.mode = 0 ∨ s.mode = 5 ∨ s.ctlState c < 2 ∨ s.ctlState c = 7 then s else
  let x := s.ctl c
  let was := s.hotRate c
  if !ok then
    let s := s.setCtl c { x with tsFails := x.tsFails + 1 }
    if x.tsFails + 1 < 3 ∨ s.flag (F.DMC_STATUS_TS_FAULT c) then s else
    ((s.put (F.DMC_STATUS_TS_FAULT c) 1).raise Ev.DMC_TS_FAULT c).rateCross c was
  else
    let hi := max (celsius ts0) (celsius ts1)
    let hot := s.flag (F.DMC_STATUS_HOT c)
    let hot' : Bool := if celsius (s.get (F.DMC_CFG_HOT_ENTER c)) ≤ hi then true
      else if hi ≤ celsius (s.get (F.DMC_CFG_HOT_LEAVE c)) then false else hot
    let past : Bool := celsius (s.get (F.DMC_CFG_CRIT c)) ≤ hi
    let s := s.setCtl c { x with tsFails := 0, critOver := past }
    let s := ((s.put (F.DMC_TEMP_TS0 c) ts0).put (F.DMC_TEMP_TS1 c) ts1).put (F.DMC_STATUS_TS_FAULT c) 0
    let s := (s.put (F.DMC_STATUS_HOT c) (bit hot')).rateCross c was
    let s := if hot' ∧ !hot then s.raise Ev.DMC_HOT c else if hot ∧ !hot' then s.raise Ev.DMC_COOL c else s
    if past ∧ !x.critOver then s.raise Ev.DMC_TEMP_CRIT c else s

/-! ### Training (R622) -/

/-- Where the training of a module stops: where it was found to, or at its capacity (R604). -/
def Dimm.stops (m : Dimm) : Option (Nat × Nat × Nat) :=
  match m.fail with
  | some f => some f
  | none => if [16, 32, 64, 128].contains m.capacity then none else some (2, 3, 0xFF)

/-- Both modules are equal (R605). -/
def Dimm.matches (m n : Dimm) : Bool :=
  m.capacity == n.capacity && m.ranks == n.ranks && m.width == n.width && m.density == n.density

/-- One controller trains on a DIMM, at a rate; `warm` says that only VERIFY ran. -/
def State.ctlTrain (s : State) (c : Nat) (m : Dimm) (rate : Nat) (warm : Bool) : State :=
  let s := (s.put (F.DMC_MODULE_CAPACITY c) m.capacity).put (F.DMC_MODULE_DENSITY c) m.density
  let s := (s.put (F.DMC_MODULE_ROW_BITS c) m.rowBits).put (F.DMC_MODULE_COL_BITS c) m.colBits
  let s := (s.put (F.DMC_MODULE_RANKS c) m.ranks).put (F.DMC_MODULE_WIDTH c) m.width
  let x := s.ctl c
  let s := s.setCtl c { x with rating := m.rating, minPs := m.minPs, tRp := m.minPs.getD 3 0, tRfc := m.minPs.getD 13 0 }
  match m.fail with
  | some (step, cause, lane) =>
    let s := ((s.put (F.DMC_TRAIN_STEP c) step).put (F.DMC_TRAIN_CAUSE c) cause).put (F.DMC_TRAIN_LANE c) lane
    (s.put (F.DMC_STATUS_STATE c) 7).raise Ev.DMC_TRAIN_FAIL c
  | none =>
    let s := if warm then (s.dmcPllSet c rate).pllRun (4 + c) false else s.dmcPllStart c m.rating rate
    let sets := (rate :: (s.ctl c).sets.filter (· ≠ rate)).take 4
    let s := s.setCtl c { s.ctl c with sets }
    let s := ((s.put (F.DMC_TRAIN_STEP c) (if warm then 9 else 10)).put (F.DMC_TRAIN_CAUSE c) 0).put (F.DMC_TRAIN_LANE c) 0xFF
    let s := ((s.put (F.DMC_STATUS_STATE c) 2).put (F.DMC_STATUS_RATE c) rate).put (F.DMC_STATUS_SETS c) sets.length
    s.srExit c

/-- Phase DRAM ends on both controllers (R610, R622, R77): modules that differ fail step MATCH on both (R605). -/
def State.dramTrain (s : State) (m0 m1 : Dimm) : State :=
  let bad : Bool := m0.stops.isNone && m1.stops.isNone && !(m0.matches m1)
  let judge (m : Dimm) : Dimm := { m with fail := if bad then some (10, 5, 0xFF) else m.stops }
  let m0 := judge m0
  let m1 := judge m1
  let s : State := if s.sys.warm then s else
    { s with dmcMap := (let m := s.get (F.DMC_CFG_MAP 0); if m = 3 then 2 else m) }
  let fresh := min (s.get (F.DMC_CFG_CALL_RATE 0)) (min m0.rating m1.rating)
  let verify (m : Dimm) : Bool := s.sys.warm && !m.full
  let rate (c : Nat) (m : Dimm) : Nat := if verify m then ((s.ctl c).sets.head?).getD fresh else fresh
  let s' := (s.ctlTrain 0 m0 (rate 0 m0) (verify m0)).ctlTrain 1 m1 (rate 1 m1) (verify m1)
  (s'.put F.SYS_CALL_STATUS_DRAM_OK_0 (bit m0.fail.isNone)).put F.SYS_CALL_STATUS_DRAM_OK_1 (bit m1.fail.isNone)

/-! ### Frequency change (R620, R621) -/

/-- A shadow value lies below the SPD's minimum at a rate. -/
def State.shadowBad (s : State) (c target : Nat) : Bool :=
  (List.range 16).any (fun k =>
    s.get (F.DMC_SHADOW_CYCLES c k) * 2000000 < ((s.ctl c).minPs.getD k 0) * (3200 + 400 * target))

/-- A write of DMC_FREQ_OP CHANGE. A controller that is FROZEN, HALTED or FAILED cannot change: NOT_READY (DESIGN CHOICE, log
entry 106). -/
def State.freqReq (s : State) (fgr : Bool) (target : Nat) : State :=
  let code (n : Nat) : State := s.put F.DMC_FREQ_RESULT_CODE n
  if s.freq.isSome then code 2
  else if s.mode = 0 ∨ s.mode = 1 ∨ s.mode = 5 ∨ 5 ≤ s.ctlState 0 ∨ 5 ≤ s.ctlState 1 then code 3
  else if s.shadowBad 0 target ∨ s.shadowBad 1 target then code 4
  else if (s.ctl 0).rating < target ∨ (s.ctl 1).rating < target then code 5
  else { code 9 with freq := some { fgr, target, at_ := s.now } }

/-- The change ends with a code. -/
def State.freqEnd (s : State) (code : Nat) : State :=
  let us := match s.freq.bind FreqOp.started with | some a => min 0xFFFF ((s.now - a) / 1000000) | none => 0
  let s := (s.put F.DMC_FREQ_RESULT_CODE code).put F.DMC_FREQ_RESULT_US us
  { s with freq := none }

/-- The change starts (R619, R620): in PERFORMANCE and UNDERSTUDY once every armed track is in its curtain window, and with no
request of classes 1 to 3 waiting. -/
def State.freqStart (s : State) : State :=
  match s.freq with
  | none => s
  | some o =>
    let wait : Bool := s.mode = 3 ∨ s.mode = 4
    let open_ : Bool := (List.range 16).all (fun n => !(s.track n).armed || s.inCurtain n)
    if o.started.isSome ∨ (wait ∧ !open_ ∧ !o.again) ∨ !s.dramReady ∨ s.dreq.any (fun r => r.cls ≤ 3) then s else
    let s : State := { s with freq := some { o with started := some s.now } }
    ((s.put (F.DMC_STATUS_STATE 0) 4).put (F.DMC_STATUS_STATE 1) 4 |>.srEnter 0).srEnter 1

/-- The timing in force from the shadow registers at a rate. -/
def State.shadowApply (s : State) (c rate : Nat) : State :=
  let ps (k : Nat) : Nat := s.get (F.DMC_SHADOW_CYCLES c k) * 2000000 / (3200 + 400 * rate)
  s.setCtl c { s.ctl c with tRp := ps 3, tRfc := ps 13 }

/-- The change ends RETRAIN_FAIL (R621): the controller has FAILED, a HOLD cause. -/
def State.freqFail (s : State) (c step cause lane : Nat) : State :=
  let s := ((s.put (F.DMC_TRAIN_STEP c) step).put (F.DMC_TRAIN_CAUSE c) cause).put (F.DMC_TRAIN_LANE c) lane
  let s := ((s.put (F.DMC_STATUS_STATE c) 7).raise Ev.DMC_TRAIN_FAIL c).freqEnd 7
  (s.frgShow).holdEnter 3

/-- The PLL of a controller runs at the target rate (t1 and t2 of R621), where it did not. -/
def State.dmcPllLocked (s : State) (c rate : Nat) : State :=
  if s.get (F.DMC_STATUS_RATE c) = rate ∧ s.get (F.CLK_PLL_STATUS_STATE (4 + c)) = 3 then s
  else (s.dmcPllSet c rate).pllRun (4 + c) false

/-- A controller takes the target's timing and is READY (t3 and t4 of R621); `fails` says that its retraining fails: no training
set is stored. -/
def State.freqReady (s : State) (o : FreqOp) (c : Nat) (fails : Bool) : State :=
  let s := ((s.dmcPllLocked c o.target).shadowApply c o.target).srExit c
  let sets := if fails then (s.ctl c).sets else (o.target :: (s.ctl c).sets.filter (· ≠ o.target)).take 4
  let s := s.setCtl c { s.ctl c with sets }
  let s := (s.put (F.DMC_STATUS_RATE c) o.target).put (F.DMC_STATUS_FGR c) (bit o.fgr)
  ((s.put (F.DMC_STATUS_SETS c) sets.length).put (F.DMC_STATUS_STATE c) 2).raise Ev.DMC_FREQ_DONE c

/-- The change reaches READY, with a retraining at t5 where the rate had no training set (R621). -/
def State.freqDone (s : State) (fail : Option (Nat × Nat × Nat × Nat)) : State :=
  match s.freq with
  | none => s
  | some o =>
    if o.started.isNone ∨ s.ctlState 0 ≠ 4 ∨ s.ctlState 1 ≠ 4 then s else
    let fail := match fail with
      | some (c, x) => if (s.ctl (c % 2)).sets.contains o.target then none else some (c % 2, x)
      | none => none
    let s := [0, 1].foldl (fun s c => s.freqReady o c (fail.any (fun f => f.1 = c))) s
    match fail with
    | some (c, step, cause, lane) => s.freqFail c step cause lane
    | none => (s.freqEnd 1).frgShow

/-- The PLL of controller `c` does not relock from band memory in a change (R655): it ends RETRAIN_FAIL; the other controller is
READY at the new rate. -/
def State.freqStale (s : State) (c : Nat) : State :=
  match s.freq with
  | none => s
  | some o =>
    let p := s.pll (4 + c)
    match o.started, ((s.dmcPllSet c o.target).pll (4 + c)).find ((s.dmcPllSet c o.target).pllKey (4 + c)) with
    | some a, some e =>
      if s.ctlState c ≠ 4 ∨ s.now < a + 20000000 then s else
      let s := s.setPll (4 + c) { p with bands := tblPut {} p.bands e { tblGet {} p.bands e with valid := false } }
      let s := ((s.raise Ev.CLK_BAND_STALE (4 + c)).dmcPllSet c o.target).pllAttempt (4 + c) true
      let s := s.freqReady o (1 - c) false
      (((s.put (F.DMC_STATUS_STATE c) 7).freqEnd 7).frgShow).holdEnter 3
    | _, _ => s

/-- 1,000 ms pass with no curtain instant (R620). -/
def State.freqTimeout (s : State) : State :=
  match s.freq with
  | none => s
  | some o => if o.started.isNone ∧ !o.again ∧ o.at_ + 10 ^ 12 ≤ s.now then s.freqEnd 6 else s

/-! ### Check bits and the freeze (R623 to R626) -/

/-- A corrected beat (R623): counted; the rewritten burst holds the same bytes. -/
def State.eccCorrected (s : State) (c : Nat) : State :=
  if s.ctlState c = 5 ∨ s.ctlState c = 6 then s else (s.addSat (F.DMC_ECC_COUNT c) 1).raise Ev.DMC_ECC_CORRECTED c

/-- Loads the capture (R625, R634). -/
def State.capture (s : State) (c : Nat) (ca : Bool) (f : DramFault) : State :=
  let s := s.put (F.DMC_CAP_STATUS c) 0
  let s := (s.put (F.DMC_CAP_STATUS_VALID c) 1).put (if ca then F.DMC_CAP_STATUS_CA_PARITY c else F.DMC_CAP_STATUS_UE c) 1
  let s := (s.put (F.DMC_CAP_STATUS_ENTRIES c) (min 64 f.hist.length)).put (F.DMC_CAP_ADDR_ADDR c) f.addr
  let s := (s.put (F.DMC_CAP_SYND_SYNDROME c) (if ca then 0 else f.syndrome)).put (F.DMC_CAP_SYND_BEAT c) f.beat
  (s.put (F.DMC_CAP_SYND_SUBCH c) (bit f.subch)).setCtl c { s.ctl c with hist := f.hist.take 64 }

/-- An uncorrectable beat, or an ALERT_N assertion (`ca`), on controller `c` (R624, R626, R627). -/
def State.dramFault (s : State) (c : Nat) (ca : Bool) (f : DramFault) : State :=
  let ev := if ca then Ev.DMC_CA_PARITY else Ev.DMC_UNCORRECTABLE
  let x := s.ctl c
  let st := s.ctlState c
  if st = 5 then
    if x.frozeAt = some s.now then
      (s.put (if ca then F.DMC_CAP_STATUS_CA_PARITY c else F.DMC_CAP_STATUS_UE c) 1).raise ev c
    else s
  else if st = 0 ∨ st = 7 ∨ (st = 6 ∧ x.frozeAt ≠ some s.now) then s
  else if !ca ∧ s.mode = 7 ∧ s.flag (F.DMC_CFG_UE_REPORT c) then (s.capture c ca f).raise ev c
  else
    let s := s.capture c ca f
    let s := (s.setCtl c { s.ctl c with frozeAt := some s.now }).put (F.DMC_STATUS_STATE c) 5
    let o := 1 - c % 2
    let s := if s.ctlState o = 5 ∨ s.ctlState o = 7 then s
      else (s.setCtl o { s.ctl o with frozeAt := some s.now }).put (F.DMC_STATUS_STATE o) 6
    let s := (if s.freq.isSome then s.freqEnd 8 else s).raise ev c
    (s.frgShow).holdEnter 2

/-! ### Loss of a controller's PLL (R653) -/

/-- PLL_4 or PLL_5 loses lock: outside a frequency change the controller goes to self-refresh. -/
def State.dmcPllLost (s : State) (c : Nat) : State :=
  if s.freq.bind FreqOp.started ≠ none ∨ s.ctlState c ≠ 2 then s else
  let s := (s.srEnter c).put (F.DMC_STATUS_STATE c) 3
  s.setCtl c { s.ctl c with pllLost := some s.now }

/-- The PLL relocks: the controller leaves self-refresh. -/
def State.dmcPllBack (s : State) (c : Nat) : State :=
  if (s.ctl c).pllLost.isNone ∨ s.ctlState c ≠ 3 then s else
  (s.srExit c |> fun (s : State) => s.setCtl c { s.ctl c with pllLost := none }).put (F.DMC_STATUS_STATE c) 2

/-- 1 ms passes with no relock: the controller has FAILED, a HOLD cause. -/
def State.dmcPllTimeout (s : State) (c : Nat) : State :=
  match (s.ctl c).pllLost with
  | none => s
  | some a =>
    if s.now < a + 1000000000 then s else
    (((s.setCtl c { s.ctl c with pllLost := none }).put (F.DMC_STATUS_STATE c) 7).frgShow).holdEnter 3

end Sys2Proof.Machine
end

