-- ==== Sys2Proof/Machine/Pins.lean ====
section
/-! DEFINITION. User pins, GPIO, pattern units and the small peripherals (R680 to R704). -/

namespace Sys2Proof.Machine

/-! ### Pins -/

/-- A function code that R684 lists. -/
def funcOk (c : Nat) : Bool := c ≤ 2 ∨ (0x10 ≤ c ∧ c ≤ 0x37) ∨ (0x40 ≤ c ∧ c ≤ 0x57)

/-- A code that may stand in at most one slot of all pins (R686). -/
def funcSingle (c : Nat) : Bool := 2 < c

/-- The two slots of a GPIO_PIN value name codes that R686 refuses, `taken` being the codes of the other pins. -/
def slotsBad (taken : List Nat) (v : Nat) : Bool :=
  let a := bits v 7 0
  let b := bits v 15 8
  !(funcOk a) || !(funcOk b) || (funcSingle a && (taken.contains a || decide (a = b))) || (funcSingle b && taken.contains b)

/-- The codes that the slots of the other pins hold. -/
def State.codesTaken (s : State) (p : Nat) : List Nat :=
  ((List.range 640).filter (fun q => q ≠ p)).flatMap (fun q => [s.get (F.GPIO_PIN_FUNC_A q), s.get (F.GPIO_PIN_FUNC_B q)])

/-- A pin takes a value of GPIO_PIN; a change of a slot starts a hand-over, or waits for the one under way (R688, R698). -/
def State.pinTake (s : State) (p v : Nat) : State :=
  let old := bits (s.get (F.GPIO_PIN p)) 15 0
  let s := s.put (F.GPIO_PIN p) (bits v 20 0)
  let new := bits v 15 0
  if old = new then s
  else if (tblGet none s.per.handing p).isSome then
    { s with per := { s.per with again := tblPut none s.per.again p (some new) } }
  else { s with per := { s.per with handing := tblPut none s.per.handing p (some (s.now, new)) } }

/-- A write of GPIO_PIN_p (R686). -/
def State.pinWrite (s : State) (p v : Nat) : State :=
  if slotsBad (s.codesTaken p) v then (s.put F.GPIO_MAP_FAULT_PIN_PIN p).raise Ev.GPIO_MAP_FAULT
  else s.pinTake p v

/-- CTS_N of a UART that a pin's new slots `v` no longer name reads 0 (R684). -/
def State.ctsDrop (s : State) (p v : Nat) : State :=
  let was := tblGet 0 s.per.slots p
  let lost (c : Nat) : Bool := (bits was 7 0 = c || bits was 15 8 = c) && bits v 7 0 ≠ c && bits v 15 8 ≠ c
  (List.range 4).foldl (fun (s : State) k =>
    if lost (0x13 + 4 * k) then
      { s with per := { s.per with uart := tblPut {} s.per.uart k { tblGet {} s.per.uart k with cts := false } } }
    else s) s

/-- Cycle 2 of a hand-over: the new slots drive, and one that waits begins (R688, R698). -/
def State.handOver (s : State) (p : Nat) : State :=
  match tblGet none s.per.handing p with
  | none => s
  | some (a, v) =>
    if s.now < a + 20000 then s else
    let s := s.ctsDrop p v
    let next : Option (Ps × Nat) := (tblGet none s.per.again p).map (fun w => (s.now, w))
    { s with per := { s.per with
        slots := tblPut 0 s.per.slots p v
        handing := tblPut none s.per.handing p next
        again := tblPut none s.per.again p none } }

/-- Every GPIO_PIN takes the value of its record, and the reset value without one (R687). -/
def State.pinsScene (s : State) (recs : List (Nat × Nat)) : State :=
  (List.range 640).foldl (fun s p => s.pinTake p ((recs.lookup p).getD 0)) s

/-- Bank of a pin. -/
def pinBank (p : Nat) : Nat := p / 40

/-- A masked write (R690). -/
def masked (old v : Nat) : Nat :=
  let m := bits v 31 16
  (old &&& (0xFFFF - m)) ||| (bits v 15 0 &&& m)

/-- The supply code of bank `b` changes (R681). -/
def State.bankCode (s : State) (b code : Nat) : State :=
  if s.get (F.GPIO_BANK_VCCIO b) = code ∨ code = 6 ∨ 7 < code then s else
  let s := s.put (F.GPIO_BANK_VCCIO b) code
  if s.phaseDone 5 then s.raise Ev.GPIO_BANK_FAULT b else s

/-! ### Pattern units (R691, R692) -/

/-- Unit `u` matches the accepted levels of its window. -/
def State.patMatch (s : State) (u levels : Nat) : Bool :=
  let m := s.get (F.GPIO_PAT_MASK u)
  (levels &&& m) = (s.get (F.GPIO_PAT_VALUE u) &&& m)

/-- Accepted levels of the window of unit `u`, with the pins whose accepted change has just come. -/
def State.pattern (s : State) (u levels changed : Nat) : State :=
  let c := s.get (F.GPIO_PAT_CFG u)
  let s : State := { s with per := { s.per with accepted := tblPut none s.per.accepted u (some (levels, bits c 21 16, bits c 15 0)) } }
  if !(s.flag (F.GPIO_PAT_CFG_EN u)) ∨ s.mode = 5 then s else
  let was := s.flag (F.GPIO_PAT_CFG_MATCH u)
  let is := s.patMatch u levels
  let edge := s.get (F.GPIO_PAT_EDGE u) &&& s.get (F.GPIO_PAT_MASK u)
  let s := s.put (F.GPIO_PAT_CFG_MATCH u) (bit is)
  if is ∧ !was ∧ (edge &&& changed) = edge then s.raise Ev.GPIO_PATTERN u else s

/-- A unit whose configuration is written is judged again with no event (R692). The accepted levels are those last reported for
the same window and debounce; for another window they are not the model's to know (log entry 22). -/
def State.patWritten (s : State) (u : Nat) : State :=
  if !(s.flag (F.GPIO_PAT_CFG_EN u)) then s.put (F.GPIO_PAT_CFG_MATCH u) 0
  else if s.get (F.GPIO_PAT_MASK u) = 0 then s.put (F.GPIO_PAT_CFG_MATCH u) 1
  else
    let c := s.get (F.GPIO_PAT_CFG u)
    let known : Option Nat := match tblGet none s.per.accepted u with
      | some (l, b, d) => if b = bits c 21 16 ∧ d = bits c 15 0 then some l else none
      | none => none
    match known with
    | some l => s.put (F.GPIO_PAT_CFG_MATCH u) (bit (s.patMatch u l))
    | none =>
      let (x, s) := s.takeFree 2
      s.put (F.GPIO_PAT_CFG_MATCH u) x

/-! ### UART (R693) -/

def State.uart (s : State) (k : Nat) : Uart := tblGet {} s.per.uart k

/-- Puts a UART back and shows its counts. -/
def State.setUart (s : State) (k : Nat) (x : Uart) : State :=
  let s : State := { s with per := { s.per with uart := tblPut {} s.per.uart k x } }
  let s := (s.put (F.UART_STATUS_RX_COUNT k) x.rx.length).put (F.UART_STATUS_TX_COUNT k) x.tx.length
  s.put (F.UART_DATA_EMPTY k) (bit (x.rx = []))

/-- Time of one byte in ps. -/
def State.uartByte (s : State) (k : Nat) : Nat :=
  let par := s.get (F.UART_CTRL_PARITY k)
  (10 + bit (par = 1 ∨ par = 2)) * 160000 * max 1 (s.get (F.UART_CTRL_DIV k))

/-- Transmission up to now: each byte leaves the shifter after its time and the next follows, unless CTS_N stops it. -/
def State.uartRun (s : State) (k : Nat) : Nat → State
  | 0 => s
  | fuel + 1 =>
    let x := s.uart k
    match x.shifting with
    | some _ =>
      let e := x.since + s.uartByte k
      if e ≤ s.now then (s.setUart k { x with shifting := none, since := e }).uartRun k fuel else s
    | none =>
      match x.tx with
      | [] => s
      | b :: rest =>
        if !(s.flag (F.UART_CTRL_EN k)) ∨ (s.flag (F.UART_CTRL_FLOW k) ∧ x.cts) ∨ s.mode = 5 then s
        else ((s.setUart k { x with shifting := some b, tx := rest }).emit (.uart k b)).uartRun k fuel

/-- Brings UART `k` up to now. -/
def State.uartGo (s : State) (k : Nat) : State := s.uartRun k (2 * (s.uart k).tx.length + 2)

/-- A byte is queued for sending; discarded when the FIFO is full. -/
def State.uartWrite (s : State) (k b : Nat) : State :=
  let s := s.uartGo k
  let x := s.uart k
  if 64 ≤ x.tx.length then s else
  let since := if x.shifting.isNone ∧ x.tx = [] then s.now else x.since
  (s.setUart k { x with tx := x.tx ++ [BitVec.ofNat 8 b], busy := true, since }).uartGo k

/-- A received byte is removed. -/
def State.uartRead (s : State) (k : Nat) : State × Nat :=
  let x := s.uart k
  match x.rx with
  | [] => (s, 0x100)
  | b :: rest => (s.setUart k { x with rx := rest }, b.toNat)

/-- A byte arrives. -/
def State.uartRx (s : State) (k b : Nat) (parityBad framingBad : Bool) : State :=
  if !(s.flag (F.UART_CTRL_EN k)) ∨ s.mode = 5 then s else
  let x := s.uart k
  let full : Bool := 64 ≤ x.rx.length
  let par := s.get (F.UART_CTRL_PARITY k)
  let pb : Bool := parityBad && (par = 1 ∨ par = 2)
  let s := if full then s.setFlags (F.UART_STATUS_OVERRUN k) 1 else s.setUart k { x with rx := x.rx ++ [BitVec.ofNat 8 b] }
  let s := if framingBad then s.setFlags (F.UART_STATUS_FRAMING k) 1 else s
  let s := if pb then s.setFlags (F.UART_STATUS_PARITY k) 1 else s
  let s := if x.rx = [] then s.raise Ev.PER_UART_RX k else s
  if full || framingBad || pb then s.raise Ev.PER_UART_ERR k else s

/-- Twelve bit times of low. -/
def State.uartBreak (s : State) (k : Nat) : State :=
  if !(s.flag (F.UART_CTRL_EN k)) ∨ s.mode = 5 then s
  else (s.setFlags (F.UART_STATUS_BREAK k) 1).raise Ev.PER_UART_ERR k

/-- FIFO and shifter have emptied. -/
def State.uartDone (s : State) (k : Nat) : State :=
  let s := s.uartGo k
  let x := s.uart k
  if x.busy ∧ x.tx = [] ∧ x.shifting.isNone then (s.setUart k { x with busy := false }).raise Ev.PER_UART_TX_EMPTY k else s

/-- CTS_N changes level. -/
def State.uartCts (s : State) (k : Nat) (high : Bool) : State :=
  let s := s.uartGo k
  let x := s.uart k
  let since := if x.shifting.isNone then s.now else x.since
  (s.setUart k { x with cts := high, since }).uartGo k

/-! ### SPI (R694) -/

def State.spi (s : State) (k : Nat) : Spi := tblGet {} s.per.spi k

def State.setSpi (s : State) (k : Nat) (x : Spi) : State :=
  let s : State := { s with per := { s.per with spi := tblPut {} s.per.spi k x } }
  let s := (s.put (F.SPI_STATUS_RX_COUNT k) x.rx.length).put (F.SPI_STATUS_TX_COUNT k) x.tx.length
  s.put (F.SPI_DATA_EMPTY k) (bit (x.rx = []))

/-- The next frame starts when none runs. -/
def State.spiGo (s : State) (k : Nat) : State :=
  let x := s.spi k
  match x.shifting, x.tx with
  | none, b :: rest =>
    if s.flag (F.SPI_CTRL_EN k) ∧ s.mode ≠ 5 then
      ((s.setSpi k { x with shifting := some b, tx := rest }).put (F.SPI_STATUS_BUSY k) 1).emit (.spi k b)
    else s
  | _, _ => s

def State.spiWrite (s : State) (k b : Nat) : State :=
  let x := s.spi k
  if 64 ≤ x.tx.length then s else (s.setSpi k { x with tx := x.tx ++ [BitVec.ofNat 8 b] }).spiGo k

def State.spiRead (s : State) (k : Nat) : State × Nat :=
  let x := s.spi k
  match x.rx with
  | [] => (s, 0x100)
  | b :: rest => (s.setSpi k { x with rx := rest }, b.toNat)

/-- A frame completes with a received byte. -/
def State.spiFrame (s : State) (k b : Nat) : State :=
  let x := s.spi k
  match x.shifting with
  | none => s
  | some _ =>
    let s := if 64 ≤ x.rx.length then
        ((s.setSpi k { x with shifting := none }).setFlags (F.SPI_STATUS_OVERRUN k) 1).raise Ev.PER_SPI_OVERRUN k
      else s.setSpi k { x with shifting := none, rx := x.rx ++ [BitVec.ofNat 8 b] }
    s.spiGo k

/-- CS_N rises: nothing is left to send and CS_HOLD is 0. -/
def State.spiDone (s : State) (k : Nat) : State :=
  let x := s.spi k
  if s.flag (F.SPI_STATUS_BUSY k) ∧ x.tx = [] ∧ x.shifting.isNone ∧ !(s.flag (F.SPI_CTRL_CS_HOLD k)) then
    (s.put (F.SPI_STATUS_BUSY k) 0).raise Ev.PER_SPI_DONE k
  else s

/-! ### I2C (R695) -/

def State.i2c (s : State) (k : Nat) : I2c := tblGet {} s.per.i2c k

def State.setI2c (s : State) (k : Nat) (x : I2c) : State :=
  let s : State := { s with per := { s.per with i2c := tblPut {} s.per.i2c k x } }
  let s := (s.put (F.I2C_STATUS_RX_COUNT k) x.rx.length).put (F.I2C_STATUS_CMD_COUNT k) x.cmds.length
  s.put (F.I2C_RXDATA_EMPTY k) (bit (x.rx = []))

/-- A command is queued: OP 1 START, 2 WRITE, 3 READ_ACK, 4 READ_NACK, 5 STOP; others are ignored. One that finds the FIFO
full is discarded (log entry 23). -/
def State.i2cQueue (s : State) (k op data : Nat) : State :=
  let x := s.i2c k
  if op = 0 ∨ 5 < op ∨ 32 ≤ x.cmds.length then s else s.setI2c k { x with cmds := x.cmds ++ [(op, data % 256)] }

def State.i2cRead (s : State) (k : Nat) : State × Nat :=
  let x := s.i2c k
  match x.rx with
  | [] => (s, 0x100)
  | b :: rest => (s.setI2c k { x with rx := rest }, b.toNat)

/-- After NACK, TIMEOUT or ARB_LOST every queued command is discarded; STOP is issued but for ARB_LOST. -/
def State.i2cFault (s : State) (k : Nat) (flag : Fld) (stop : Bool) : State :=
  let s := (s.setI2c k { s.i2c k with cmds := [] }).setFlags flag 1
  let s := if stop then s.emit (.i2c k 5 0) else s
  (s.put (F.I2C_STATUS_BUSY k) 0).raise Ev.PER_I2C_FAULT k

/-- The command at the front ends: 0 complete, 1 NACK to a WRITE, 2 arbitration lost; `rx` is the byte a read received. -/
def State.i2cDone (s : State) (k res rx : Nat) : State :=
  let x := s.i2c k
  match x.cmds with
  | [] => s
  | (op, d) :: rest =>
    if !(s.flag (F.I2C_CTRL_EN k)) ∨ s.mode = 5 then s else
    let s := s.emit (.i2c k op d)
    if res = 1 ∧ op = 2 then s.i2cFault k (F.I2C_STATUS_NACK k) true
    else if res = 2 then s.i2cFault k (F.I2C_STATUS_ARB_LOST k) false
    else
      let rd : Bool := op = 3 ∨ op = 4
      let s := s.setI2c k { x with cmds := rest, rx := if rd ∧ x.rx.length < 32 then x.rx ++ [BitVec.ofNat 8 rx] else x.rx }
      let s := if op = 1 then s.put (F.I2C_STATUS_BUSY k) 1 else if op = 5 then s.put (F.I2C_STATUS_BUSY k) 0 else s
      if rest = [] then s.raise Ev.PER_I2C_DONE k else s

/-- A stretch longer than 25 ms. -/
def State.i2cStretch (s : State) (k : Nat) : State :=
  if (s.i2c k).cmds = [] then s else s.i2cFault k (F.I2C_STATUS_TIMEOUT k) true

/-! ### Timers (R696) -/

def State.timer (s : State) (k : Nat) : Timer := tblGet {} s.per.timer k

def State.setTimer (s : State) (k : Nat) (x : Timer) : State :=
  { s with per := { s.per with timer := tblPut {} s.per.timer k x } }

/-- Time of one count in ps. -/
def State.timerTick (s : State) (k : Nat) : Nat := 10000 * (s.get (F.TIMER_CTRL_PRESCALE k) + 1)

/-- The count without its end. -/
def State.timerRaw (s : State) (k : Nat) : Nat :=
  let x := s.timer k
  if s.flag (F.TIMER_CTRL_EN k) ∧ s.mode ≠ 5 then x.base + (s.now - x.baseAt) / s.timerTick k else x.base

/-- The present count: it waits at PERIOD for the wrap or stop that PER_TIMER makes. -/
def State.timerCount (s : State) (k : Nat) : Nat := min (s.timerRaw k) (s.timer k).period

/-- OUT of a timer (R696). -/
def State.timerOut (s : State) (k : Nat) : Bool :=
  decide (s.timerCount k < (s.timer k).compare) != s.flag (F.TIMER_CTRL_INVERT k)

/-- A timer wraps or stops. -/
def State.timerEnd (s : State) (k : Nat) : State :=
  let x := s.timer k
  let one : Bool := s.get (F.TIMER_CTRL_MODE k) = 1
  if !(s.flag (F.TIMER_CTRL_EN k)) ∨ s.mode = 5 ∨ s.timerRaw k < (if one then x.period else x.period + 1) then s else
  let period := s.get (F.TIMER_PERIOD k)
  let compare := s.get (F.TIMER_COMPARE k)
  let s := if one then (s.setTimer k { base := x.period, baseAt := s.now, period, compare }).put (F.TIMER_CTRL_EN k) 0
    else s.setTimer k { base := 0, baseAt := x.baseAt + (x.period + 1 - x.base) * s.timerTick k, period, compare }
  s.raise Ev.PER_TIMER k

/-- A CAP edge of the selected polarity copies the count. -/
def State.timerCap (s : State) (k : Nat) : State :=
  if !(s.flag (F.TIMER_CTRL_EN k)) ∨ s.get (F.TIMER_CTRL_MODE k) ≠ 2 ∨ s.mode = 5 then s else
  let full := s.flag (F.TIMER_CTRL_CAPTURE_FULL k)
  let s := s.put (F.TIMER_CAPTURE k) (s.timerCount k)
  let s := if full then s.setFlags (F.TIMER_CTRL_CAPTURE_LOST k) 1 else s.put (F.TIMER_CTRL_CAPTURE_FULL k) 1
  s.raise Ev.PER_TIMER_CAP k

/-- TIMER_k_CTRL, PERIOD or COMPARE is written by `w`: setting EN starts the count at 0 with the values written (log entry
24); PERIOD and COMPARE wait for the next wrap while EN is 1. -/
def State.timerWrite (s : State) (k : Nat) (w : State → State) : State :=
  let was := s.flag (F.TIMER_CTRL_EN k)
  let c := s.timerCount k
  let x := s.timer k
  let s := w s
  let is := s.flag (F.TIMER_CTRL_EN k)
  let period := s.get (F.TIMER_PERIOD k)
  let compare := s.get (F.TIMER_COMPARE k)
  if is ∧ !was then s.setTimer k { base := 0, baseAt := s.now, period, compare }
  else if is then s.setTimer k { x with base := c, baseAt := s.now - (s.now - x.baseAt) % s.timerTick k }
  else s.setTimer k { base := c, baseAt := s.now, period, compare }

/-- CD_4 stops or returns (R697): the counts stand, and go on from now. -/
def State.timersHold (s : State) (counting : Bool) : State :=
  (List.range 8).foldl (fun s k =>
    s.setTimer k { s.timer k with base := if counting then s.timerCount k else (s.timer k).base, baseAt := s.now }) s

/-! ### Levels of user pins -/

/-- Source `k` has EN 1 and a flag set (R743). -/
def State.pendingSource (s : State) (k : Nat) : Bool :=
  (s.get (F.CUE_SRC_ROUTE k)).testBit 15 && s.get (F.CUE_SRC_FLAGS k) != 0

/-- Event pin `k` is high (R735). -/
def State.eventPin (s : State) (k : Nat) : Bool :=
  if s.flag (F.CUE_PIN_CFG_MODE k) then decide (s.now < tblGet 0 s.cue.pinEnd k)
  else (List.range 1024).any (fun e =>
    let r := s.get (F.CUE_SRC_ROUTE e)
    r.testBit 7 && bits r 6 4 == k && s.pendingSource e)

/-- What a slot of pin `p` drives (R684, R685): its enable and value; none where a serial line moves, which nothing in State
follows (log entry 22). -/
def State.slotDrive (s : State) (p code : Nat) : Option (Bool × Bool) :=
  if code = 0 then some (false, false)
  else if code = 1 then let x := tblGet 0 s.fab.outs p; some (x.testBit 0, x.testBit 1)
  else if code = 2 then
    let on := (s.get (F.GPIO_OE_ENABLE (p / 16))).testBit (p % 16)
    some (on, on && (s.get (F.GPIO_OUT_VALUE (p / 16))).testBit (p % 16))
  else if code < 0x20 then
    let k := (code - 0x10) / 4
    match code % 4 with
    | 0 => if (s.uart k).shifting.isNone then some (true, true) else none
    | 2 => some (true, s.flag (F.UART_CTRL_FLOW k) && decide (56 ≤ (s.uart k).rx.length))
    | _ => some (false, false)
  else if code < 0x30 then
    let k := (code - 0x20) / 4
    match code % 4 with
    | 3 => some (true, !(s.flag (F.SPI_STATUS_BUSY k)))
    | 2 => some (false, false)
    | _ => none
  else if code < 0x40 then
    if s.flag (F.I2C_STATUS_BUSY ((code - 0x30) / 2)) ∨ (s.i2c ((code - 0x30) / 2)).cmds ≠ [] then none else some (false, false)
  else if code < 0x50 then
    let k := (code - 0x40) / 2
    if code % 2 = 0 then some (true, s.timerOut k) else some (false, false)
  else some (true, s.eventPin (code - 0x50))

/-- The level of pin `p` as GPIO_IN shows it (R681, R685, R689): 0 in a bank with no supply; from the end of phase PLANE (R69) the
level that its slots drive where that is known and one of them does; free elsewhere (log entry 22). -/
def State.pinLevel (s : State) (p : Nat) : State × Nat :=
  let code := s.get (F.GPIO_BANK_VCCIO (pinBank p))
  let sl := tblGet 0 s.per.slots p
  let free : State × Nat := let (x, s) := s.takeFree 2; (s, x)
  if code = 0 ∨ code = 7 then (s, 0)
  else if !s.phaseDone 5 then free
  else match s.slotDrive p (bits sl 7 0), s.slotDrive p (bits sl 15 8) with
    | some a, some b => if a.1 || b.1 then (s, bit (a.2 || b.2)) else free
    | _, _ => free

/-- GPIO_IN of half-port `n`. -/
def State.gpioIn (s : State) (n : Nat) : State × Nat :=
  (List.range 16).foldl (fun (p : State × Nat) j =>
    let (s, b) := p.1.pinLevel (16 * n + j)
    (s, p.2 + b * 2 ^ j)) (s, 0)

end Sys2Proof.Machine
end

