-- ==== Sys2Proof/Machine/Links.lean ====
section
/-! DEFINITION. The lanes of port D, of the ring ports and of the Izrex ports: their training states (R346, R423, R473, R507,
R508), and the Izrex ports they make up. -/

namespace Sys2Proof.Machine

/-! ### Izrex ports -/

def State.port (s : State) (p : Nat) : Port := tblGet {} s.ports p
def State.setPort (s : State) (p : Nat) (x : Port) : State := { s with ports := tblPut {} s.ports p x }

/-- The width of a port by its UP lanes (R508). -/
def portWidth (lanes : Nat) : Nat :=
  if lanes % 16 = 15 then 4 else if lanes % 4 = 3 then 2 else if lanes % 16 = 0 then 0 else 1

/-- The boxes of a port that goes DOWN are held (R513). -/
def State.portHolds (s : State) (p : Nat) : State :=
  (List.range 15).foldl (fun s b =>
    let x := s.box b
    if x.isOpen ∧ !x.held ∧ x.port = p then (s.setBox b { x with held := true, heldAt := s.now }).boxShow b else s) s

/-- A port goes DOWN with a cause. -/
def State.portDown (s : State) (p cause : Nat) : State :=
  let was := s.get (F.IZX_PORT_STATUS_STATE p)
  let s := s.setPort p { s.port p with since := s.now }
  let s := (((s.put (F.IZX_PORT_STATUS_STATE p) 5).put (F.IZX_PORT_STATUS_CAUSE p) cause).put
    (F.IZX_PORT_STATUS_LANES_UP p) 0).put (F.IZX_PORT_STATUS_WIDTH p) 0
  let s := s.portHolds p
  if was = 5 then s else s.raise Ev.IZX_PORT_DOWN p

/-- A port is UP on a mask of lanes (R508). A box held on it stays held until it is opened again or its hold ends (R512,
R513). -/
def State.portUp (s : State) (p lanes : Nat) : State :=
  let was := s.get (F.IZX_PORT_STATUS_STATE p)
  let w := s.get (F.IZX_PORT_STATUS_WIDTH p)
  let s := ((s.put (F.IZX_PORT_STATUS_STATE p) 4).put (F.IZX_PORT_STATUS_LANES_UP p) lanes).put
    (F.IZX_PORT_STATUS_WIDTH p) (portWidth lanes)
  let s := if w ≠ portWidth lanes then s.raise Ev.IZX_WIDTH_CHANGE p else s
  if was = 4 then s else s.raise Ev.IZX_PORT_UP p

/-! ### Lanes -/

/-- The place of a lane in `State.links`: port D 0 to 3, ring ports 4 and 5, Izrex port p from 6 + 4p. -/
def LaneId.ix : LaneId → Nat
  | .stage k => 14 + k.val
  | .duplex k => k.val
  | .ring p => 4 + p.val
  | .izrex p k => 6 + 4 * p.val + k.val

def State.link (s : State) (i : Nat) : Link := tblGet {} s.links i
def State.setLink (s : State) (i : Nat) (x : Link) : State := { s with links := tblPut {} s.links i x }

/-- A lane enters a training state now. -/
def State.linkTo (s : State) (i st : Nat) : State := s.setLink i { state := st, since := s.now }

/-- The lanes of `n` from place `i` on that are UP, as a mask. -/
def State.linkMask (s : State) (i n : Nat) : Nat :=
  (List.range n).foldl (fun m k => if (s.link (i + k)).state = 4 then m + 2 ^ k else m) 0

/-- STATE of an Izrex port with no lane UP: the training state its lanes have reached, or FAILED (R507, R532). -/
def State.portShow (s : State) (p : Nat) : State :=
  let l := (List.range 4).map (fun k => (s.link (6 + 4 * p + k)).state)
  if l.contains 4 then s else
  let st := if l.contains 3 then 3 else if l.contains 2 then 2 else if l.contains 1 then 1 else if l.contains 6 then 6 else 5
  s.put (F.IZX_PORT_STATUS_STATE p) st

/-- The port trains (R508): its lanes start at DETECT. -/
def State.portTrain (s : State) (p : Nat) : State :=
  let s := s.setPort p { s.port p with since := s.now }
  ((List.range 4).foldl (fun s k => s.linkTo (6 + 4 * p + k) 1) s).put (F.IZX_PORT_STATUS_STATE p) 1

/-- The links train from t3 of CALL and on wake (R73, R668): every lane that is OFF goes to DETECT. -/
def State.linksTrain (s : State) : State :=
  let s := (List.range 14).foldl (fun s i => if (s.link i).state = 0 then s.linkTo i 1 else s) s
  [0, 1].foldl (fun s p => if (s.port p).takenDown then s else s.portShow p) s

/-- Entry to INTERVAL (R661, R664): lane 0 of the Izrex ports and of port D stay on; the other lanes and the ring ports go to
electrical idle. -/
def State.linksIdle (s : State) : State :=
  let s := (List.range 14).foldl (fun s i => if i = 0 ∨ i = 6 ∨ i = 10 then s else s.setLink i {}) s
  let s := (s.put F.CMP_STATUS_PORT0_UP 0).put F.CMP_STATUS_PORT1_UP 0
  let d := s.linkMask 0 4
  let s := (s.put F.DPX_LINK_LANES_UP d).put F.DPX_STATUS_WIDTH (portWidth d)
  let s := if d = 0 then s.put F.DPX_STATUS_LINK_UP 0 else s
  [0, 1].foldl (fun s p =>
    if s.get (F.IZX_PORT_STATUS_STATE p) ≠ 4 then s
    else if (s.link (6 + 4 * p)).state = 4 then s.portUp p 1 else s.portDown p 0) s

end Sys2Proof.Machine
end

