-- ==== Sys2Proof/Machine/Power.lean ====
section
/-! DEFINITION. Power domains: the steps of entry to INTERVAL, the wake, its failure and the retention banks (R661 to
R677). -/

namespace Sys2Proof.Machine

/-- Domains that stay on in INTERVAL (R661): AON, LINKS, the kept quadrants, and TRACKS when a track is kept. -/
def State.keptOn (s : State) : Nat :=
  let fq := s.get F.PWR_INTERVAL_CFG_FQ_KEEP
  let trk : Bool := (List.range 16).any (fun n => s.act (F.TRK_CTRL_KEEP_IN_INTERVAL n) = 1)
  1 + 4 * fq + 128 * bit trk + 2 ^ 18

/-- PLLs that stay on because a kept domain uses them (R662): PLL_2 for TRACKS, PLL_6 and PLL_7 for kept quadrants. -/
def keptPlls (on : Nat) : Nat := 4 * bit (on.testBit 7) + 192 * bit (bits on 5 2 ≠ 0)

/-- PLLs in a mask go off, with the domains they feed. -/
def State.pllsOff (s : State) (mask : Nat) : State :=
  (List.range 8).foldl (fun s k =>
    if !(mask.testBit k) then s else
    let s := s.put F.CLK_STATUS_LOCKED (s.get F.CLK_STATUS_LOCKED &&& (255 - 2 ^ k))
    let s := s.put (F.CLK_PLL_STATUS_STATE k) 0
    (s.fed k).foldl (fun s d => s.put (F.CLK_DOM_STATE d) 0) s) s

/-- PLLs in a mask lock again from band memory, and their domains run (R668). -/
def State.pllsOn (s : State) (mask : Nat) : State :=
  (List.range 8).foldl (fun s k =>
    if !(mask.testBit k) ∨ !((s.pll k).cfg.testBit 31) then s else
    let s := s.put F.CLK_STATUS_LOCKED (s.get F.CLK_STATUS_LOCKED ||| 2 ^ k)
    let s := s.put (F.CLK_PLL_STATUS_STATE k) 3
    (s.fed k).foldl (fun s d => s.put (F.CLK_DOM_STATE d) 1) s) s

/-- Stage lanes go to electrical idle (R375, R664). -/
def State.lanesIdle (s : State) : State :=
  let s : State := { s with stg := { s.stg with
    lanes := s.stg.lanes.map (fun (p : Nat × Lane) => (p.1, ({ expected := p.2.expected, since := s.now } : Lane)))
    heads := s.stg.heads.map (fun (p : Nat × HeadRun) => (p.1, { p.2 with lane := 0xFF })) } }
  ((List.range 32).foldl (fun s k => ((s.setLaneState k 0 0).put (F.STG_LANE_FILL k) 0).put (F.STG_LANE_CREDIT k) 0) s).laneFlags

/-! ### Entry (R664 to R666) -/

/-- A step of the entry ends: at its abort point the entry is abandoned when a wake source has arrived; otherwise the next
step begins. -/
def State.entryNext (s : State) (k : Nat) (next : State → State) : State :=
  if s.pwr.due ≠ 0 then s.entryAbandon 2 k
  else next { s with pwr := { s.pwr with step := k + 1, stepAt := s.now } }

/-- Step 1 ends: every armed track is in its curtain window, and no item is committing. -/
def State.entryCurtain (s : State) : State :=
  let idle : Bool := (List.range 16).all (fun n =>
    (!(s.track n).armed || s.inCurtain n) && !((s.queue n).items.any Item.committing))
  if s.pwr.step ≠ 1 ∨ !idle then s else
  s.entryNext 1 (fun s => (List.range 16).foldl (fun s n => s.markRequest n 1) s)

/-- Step 1 did not end in time. -/
def State.entryTimeout (s : State) : State :=
  if s.pwr.step = 1 ∧ s.pwr.stepAt + max 1 (s.get F.PWR_ENTRY_TIMEOUT_MS) * 1000000000 ≤ s.now then s.entryAbandon 3 1 else s

/-- Step 2 ends: every FIRED_MARK entry is written. -/
def State.entryCheckpoints (s : State) : State :=
  if s.pwr.step ≠ 2 ∨ (List.range 16).any (fun n => s.marksOut n ≠ 0) then s else
  s.entryNext 2 (fun s => s.addWrap F.AON_RET_SEQ 1)

/-- Step 3 ends: banks 0 to 7 are written. -/
def State.entryRetention (s : State) : State :=
  if s.pwr.step ≠ 3 then s else ((List.range 8).foldl State.bankWrite s).entryNext 3 (fun s => s)

/-- Step 4 ends: both controllers are in self-refresh once the requests accepted have been served, unless one abandoned it (R618,
R619, R665). -/
def State.entrySelfRefresh (s : State) : State :=
  if s.pwr.step ≠ 4 ∨ (s.pwr.due = 0 ∧ s.dreq ≠ []) then s else
  if s.pwr.due ≠ 0 then ((s.raise Ev.DMC_SR_ABANDONED 0).raise Ev.DMC_SR_ABANDONED 1).entryAbandon 2 4
  else
    let s := ((s.srEnter 0).srEnter 1 |>.put (F.DMC_STATUS_STATE 0) 3).put (F.DMC_STATUS_STATE 1) 3
    { s with pwr := { s.pwr with step := 5, stepAt := s.now } }

/-- A stage or an arm ends when the flash domain goes off (R598). -/
def State.cfgSleep (s : State) : State :=
  let s := match s.cfg.arm with
    | some _ => ((({ s with cfg := { s.cfg with arm := none } } : State).put F.CFG_STATUS_ARM 0).put
        F.CFG_ARM_STATUS_RESULT 7).raise Ev.CFG_ARM_ENDED
    | none => s
  match s.cfg.stage with
  | some g =>
    let s := s.store (.flashErase (planeBase g.plane) (planeBase g.plane + planeBytes))
    let p (x : Plane) : Plane := { x with state := 0, record := {} }
    let c := if g.plane = 0 then { s.cfg with planeA := p s.cfg.planeA, stage := none }
      else { s.cfg with planeB := p s.cfg.planeB, stage := none }
    let s := (({ s with cfg := c, scene := none } : State).put F.CFG_STATUS_WINGS 0).put F.CFG_STAGE_STATUS_BUSY 0
    match g.box, g.wait with
    | some b, some q => s.boxDone b q { status := 6, payload := leBytes 8 0 }
    | _, _ => s
  | none => s

/-- Step 5 ends: the device is in INTERVAL (R664). -/
def State.entered (s : State) : State :=
  if s.pwr.step ≠ 5 then s else
  let on := s.keptOn
  let s := (List.range 16).foldl (fun s n =>
    if s.act (F.TRK_CTRL_KEEP_IN_INTERVAL n) = 1 then s else s.trkDisarm n) s
  let s := ((s.cfgSleep).lanesIdle).linksIdle
  let s : State := { s with
    cmp := { s.cmp with intervalFrom := s.now, beacons := [], port := [] }
    pwr := { s.pwr with step := 0, off := 0xFFFFF - on, refOff := s.flag F.PWR_INTERVAL_CFG_REF_OFF ∧ keptPlls on = 0 } }
  let s := (s.pllsOff (255 - keptPlls on)).put F.PWR_STATUS_ON on
  let s := ((s.put F.SYS_MODE_REQ_RESULT 1).put F.PWR_ENTRY_RESULT 1).put F.PWR_ENTRY_POINT 0
  ((s.put F.PWR_STATUS_STATE 2).modeTake 5 1).raise Ev.PWR_ENTERED

/-! ### Wake (R667 to R670) -/

/-- A wake starts at t0: the transition to REHEARSAL is in progress (R58, R668). -/
def State.wakeBegin (s : State) : State :=
  let s : State := { s with pwr := { s.pwr with wake := 1, wakeAt := s.now, tries := 0, due := 0 } }
  (s.put F.PWR_STATUS_STATE 3).put F.SYS_MODE_BUSY 1

/-- A wake source fires (R665 to R667, R676): recorded where it is enabled; it wakes a sleeping device, and an entry under way
ends at its next abort point or is followed by the wake. -/
def State.wakeSource (s : State) (src : Nat) : State :=
  let st := s.get F.PWR_STATUS_STATE
  let on : Bool := src = 0 ∨ (s.get F.PWR_WAKE_EN_SOURCES).testBit (src - 1)
  if !on ∨ st = 0 ∨ st = 4 then s else
  let s := s.setFlags F.PWR_WAKE_CAUSE_CAUSE (2 ^ src)
  if st = 2 then s.wakeBegin
  else if st = 1 then { s with pwr := { s.pwr with due := s.pwr.due ||| 2 ^ src } }
  else s

/-- Step 5 of the entry ends; a wake source held in it starts the wake (R666). -/
def State.entryDone (s : State) : State :=
  let due := s.pwr.due
  let s' := s.entered
  if s.pwr.step = 5 ∧ due ≠ 0 then s'.wakeBegin else s'

/-- Events latched while the cue board was gated are raised once each (R663). -/
def State.latchedRaise (s : State) : State :=
  let l := s.cue.latched
  l.foldl (fun s k => s.raise (k % 1024) (k / 1024)) { s with cue := { s.cue with latched := [] } }

/-- Registers of a list of fields at their reset values, in force as well. -/
def State.regsReset (s : State) (l : List Fld) : State := l.foldl (fun s f => s.resetRegs f.addr (f.addr + 4)) s

/-- The staged registers of a track (R123, R127 to R142). -/
def trkRegs (n : Nat) : List Fld :=
  [F.TRK_CTRL n, F.TRK_INPUT n, F.TRK_PITCH n, F.TRK_LOCK n, F.TRK_COAST n, F.TRK_DECEL n, F.TRK_REJOIN n, F.TRK_REV n,
    F.TRK_SCHED n, F.TRK_CUE n, F.TRK_CUE_CFG n, F.TRK_Z n]

/-- The blocks of a bank that is not valid take their safe state (R672, R674). -/
def State.bankFail (s : State) (b : Nat) : State :=
  let s := s.setFlags F.PWR_RET_STATUS_FAIL (2 ^ b)
  let s := if b = 5 then s else s.put F.PWR_RET_STATUS_HELD (s.get F.PWR_RET_STATUS_HELD ||| 2 ^ b)
  let s := s.raise Ev.PWR_RET_FAIL
  match b with
  | 0 =>
    let fed := (List.range 16).filter (fun i => decide (s.pllOf (48 + i) = 6) || decide (s.pllOf (48 + i) = 7))
    let s := ((s.resetRegs 0x30280 0x30300).resetRegs 0x308C0 0x30900).resetRegs 0x70000 0x80000 |>.resetRegs 0x140000 0x150000
    let s := s.put F.CLK_STATUS_LOCKED (s.get F.CLK_STATUS_LOCKED &&& 63)
    let s := (s.setPll 6 { s.pll 6 with cfg := 0 }).setPll 7 { s.pll 7 with cfg := 0 }
    let s := fed.foldl (fun s i => s.put (F.CLK_DOM_STATE (48 + i)) 3) s
    { s with per := {} }
  | 1 => (List.range 16).foldl (fun s n => (s.regsReset (trkRegs n)).trkDisarm n) s
  | 2 => (List.range 16).foldl (fun s n => (s.regsReset [F.WQ_CFG n, F.WQ_STARVE_OFFSET n]).setAonMark n {}) s
  | 3 =>
    let s := s.regsReset ([F.FRG_CTRL, F.FRG_BUDGET, F.FRG_CACHE_CFG, F.FRG_DL_CTRL, F.FRG_VD_CTRL, F.NZC_CTRL] ++
      (List.range 8).map F.FRG_TAP_CTRL)
    (s.resetRegs 0x102400 0x102800).resetRegs 0x107000 0x107400
  | 4 => s.resetRegs 0x102800 0x102C00
  | 5 => { s with series := s.series.map (fun (p : Nat × SeriesRun) => (p.1, { p.2 with cur := none, ahead := none })) }
  | 6 =>
    let s := s.regsReset ([F.STG_CTRL, F.DPX_CFG, F.DPX_CO_POLICY, F.CMP_TIME_CFG, F.CMP_HOLD_LIMIT] ++
      (List.range 16).flatMap (fun n => [F.INS_TRK_CFG n, F.INS_TRK_WINDOW n]) ++
      (List.range 32).flatMap (fun g => [F.INS_GATE_CFG g, F.INS_GATE_OFFSET g]))
    (List.range 16).foldl (fun s n => s.trkDisarm n) s
  | 7 => { s with fab := { s.fab with held := bits s.pwr.off 5 2 } }
  | _ => s

/-- Software's bits of a register take the value that a bank kept; the device's own stand. -/
def State.regRestore (s : State) (a v : Nat) : State :=
  match findReg a with
  | none => s
  | some r => s.setRegAt r.addr r.reset (s.regAt r.addr r.reset - (s.regAt r.addr r.reset &&& r.row.rw) ||| (v &&& r.row.rw))

/-- The registers of a valid bank take the values it kept, those it does not list their reset values (R672, R674). -/
def State.bankLoad (s : State) (b : Nat) : State :=
  match tblGet none s.banks b with
  | none => s
  | some x =>
    let mine := ((s.regs.map Prod.fst) ++ x.value.map Prod.fst).eraseDups.filter (inBank b)
    let rst (a : Nat) : Nat := match findReg a with | some r => r.reset | none => 0
    let s := mine.foldl (fun s a => s.regRestore a (tblGet (BitVec.ofNat 64 (rst a)) x.value a).toNat) s
    if b = 1 then
      { s with active := x.value.foldl (fun t c => tblIns t c.1 c.2) (s.active.filter (fun c => !(inBank 1 c.1))) }
    else if b = 7 then s.fabRestore (x.value.map (fun c => (c.1 - 2 ^ 33, c.2.toNat.testBit 0)))
    else s

/-- The retention banks are checked and restored (R672, R674): series beyond the 12 that bank 5 holds lose their accessions;
FIFOs of the peripherals are empty (R697). `bad` names the banks that have lost a bit. -/
def State.banksRestore (s : State) (bad : Nat) : State :=
  let s := s.banksDamage bad
  let holds := s.series.filter (fun (p : Nat × SeriesRun) => p.2.cur.isSome || p.2.ahead.isSome)
  let keep := (holds.take 12).map Prod.fst
  let s : State := { s with
    series := s.series.map (fun (p : Nat × SeriesRun) =>
      if keep.contains p.1 then p else (p.1, { p.2 with cur := none, ahead := none }))
    per := { s.per with uart := [], spi := [], i2c := [] } }
  (List.range 8).foldl (fun s b => if s.bankOk b then s.bankLoad b else s.bankFail b) s

/-- No bank holds the arming of tracks (R672). -/
def State.armsFree (s : State) : Bool := !(s.bankHeld 1) && !(s.bankHeld 6)

/-- Tracks that are not armed are armed, unless a held bank forbids it (R125, R126). -/
def State.tracksArm (s : State) : State :=
  if !s.armsFree then s else
  (List.range 16).foldl (fun s n => if (s.track n).armed then s else s.trkArm n) s

/-- t7 (R668): the device is in REHEARSAL; tracks are armed, lanes train, layouts and map are read again, items in HEAD are
pre-composed again from the read instant and counters stored, and house time is in holdover, off by up to 1 % of
the time in INTERVAL, which the AON timer carried (R489; log entry 124). -/
def State.woken (s : State) : State :=
  let s := s.tracksArm
  let s := (List.range 16).foldl (fun s n => s.mapItems n (fun x =>
    if x.phase = .head then
      { x with delivered := false, headAt := s.now, formed := if x.delivered then x.fields else x.formed
               formedMarks := if x.delivered then 0 else x.formedMarks }
    else x)) s
  let s := ((s.enginesShow).lanesTrain).linksTrain
  let s : State := { s with
    frg := { s.frg with rebuilding := true }, nzc := { s.nzc with restoring := true }
    pwr := { s.pwr with wake := 0, tries := 0, off := 0 } }
  let s := ((s.put F.PWR_STATUS_STATE 0).put F.PWR_WAKE_STATUS_RESULT 1).put F.PWR_WAKE_TIME
    (min ((s.now - s.pwr.wakeAt) / 1000000) 0xFFFFFFFF)
  let s := s.enterHoldover 4
  let lost := (s.now - s.cmp.intervalFrom) / 100000
  let (k, s) := s.takeFree (2000 * lost + 1)
  let s : State := { s with
    house := { s.house with base := s.house.base + k - 1000 * lost }
    cmp := { s.cmp with holdE := s.cmp.holdE + lost } }
  (s.setMode 2 5).raise Ev.PWR_WOKEN

/-- A wake step's domains report ready, and the next instant follows (R668); `bad` names the banks that are not valid at
t5. -/
def State.wakeReady (s : State) (bad : Nat) : State :=
  let to_ (s : State) (k : Nat) : State := { s with pwr := { s.pwr with wake := k, tries := 0 } }
  let on := s.get F.PWR_STATUS_ON
  match s.pwr.wake with
  | 1 => to_ (s.put F.PWR_STATUS_ON (on ||| 2)) (if s.pwr.refOff then 2 else 3)
  | 2 => to_ s 3
  | 3 => (to_ (s.pllsOn 9) 4).latchedRaise
  | 4 => to_ ((s.fabReload.put F.PWR_STATUS_ON 0xFFFFF).pllsOn 0xF6) 5
  | 5 => to_ (s.banksRestore bad) 6
  | 6 =>
    let frozen (c : Nat) : Bool := s.ctlState c ≠ 3
    let s := [0, 1].foldl (fun s c => if frozen c then s else (s.srExit c).put (F.DMC_STATUS_STATE c) 2) s
    to_ s 7
  | 7 => s.woken
  | _ => s

/-- PWR_WAKE_FAIL (R670): it is not latched; the log and the open boxes that route it get it at once. -/
def State.wakeFailEvent (s : State) : State :=
  let routed := (s.get (F.CUE_SRC_ROUTE Ev.PWR_WAKE_FAIL)).testBit 14 ∧ (s.get (F.CUE_SRC_ROUTE Ev.PWR_WAKE_FAIL)).testBit 15
  let (s, _) := s.raisePlain Ev.PWR_WAKE_FAIL 0
  if routed then s else s.logRecord ⟨Ev.PWR_WAKE_FAIL, tblGet 0 s.cue.counts Ev.PWR_WAKE_FAIL, s.recTime⟩

/-- A ready report does not come within 2 ms (R670): the step runs once more; a second timeout ends the wake. -/
def State.wakeLate (s : State) (cause domain pll : Nat) : State :=
  if s.pwr.wake = 0 ∨ s.get F.PWR_STATUS_STATE ≠ 3 then s else
  let tries := s.pwr.tries + 1
  if tries < 2 then { s with pwr := { s.pwr with tries } } else
  let s := (s.put F.PWR_STATUS_ON (0xFFFFF - s.pwr.off)).pllsOff (255 - keptPlls (0xFFFFF - s.pwr.off))
  let s := [0, 1].foldl (fun s c => if s.ctlState c = 2 then (s.srEnter c).put (F.DMC_STATUS_STATE c) 3 else s) s
  let s : State := { s with pwr := { s.pwr with wake := 0, tries := 0 } }
  let s := ((s.put F.PWR_STATUS_STATE 4).put F.PWR_WAKE_STATUS_RESULT 2).put F.PWR_WAKE_STATUS_CAUSE cause
  let s := (s.put F.PWR_WAKE_STATUS_DOMAIN domain).put F.PWR_WAKE_STATUS_PLL pll
  ((s.put F.PWR_WAKE_STATUS_ATTEMPTS tries).put F.SYS_MODE_BUSY 0).wakeFailEvent

/-- PWR_OP WAKE in INTERVAL, RETRY in WAKE_FAILED (R667, R670, R677). -/
def State.pwrOp (s : State) (op : Nat) : State :=
  let st := s.get F.PWR_STATUS_STATE
  if op = 1 ∧ st = 2 then s.wakeSource 0
  else if op = 2 ∧ st = 4 then s.wakeBegin
  else s

/-- PWR_RET_RELEASE (R675): the named banks leave their safe state, but for bank 2; tracks that banks 1 and 6 held are
armed. -/
def State.retRelease (s : State) (banks : Nat) : State :=
  let held := s.get F.PWR_RET_STATUS_HELD
  let s' := s.put F.PWR_RET_STATUS_HELD (held &&& (255 - (banks &&& 0xFB)))
  let s' : State := if banks.testBit 7 then { s' with fab := { s'.fab with held := 0 } } else s'
  if !s.armsFree ∧ s'.armsFree ∧ s'.accepting then s'.tracksArm else s'

/-- A stall exceeds LIMIT_US (R669). -/
def State.stallLong (s : State) : State :=
  let lim := max 1 (s.get F.PWR_STALL_CFG_LIMIT_US) * 1000000
  if s.pwr.stalls.any (fun x => !x.long ∧ x.at_ + lim < s.now) then
    let k := (s.pwr.stalls.filter (fun x => !x.long ∧ x.at_ + lim < s.now)).length
    let s : State := { s with pwr := { s.pwr with stalls := s.pwr.stalls.map (fun (x : Stall) =>
      if x.at_ + lim < s.now then { x with long := true } else x) } }
    (List.range k).foldl (fun s _ => s.raise Ev.PWR_STALL_LONG) s
  else s

end Sys2Proof.Machine
end

