-- ==== Sys2Proof/Machine/Planes.lean ====
section
/-! DEFINITION. Configuration planes: scene images, staging, the plane select, and the scene change (R569 to R590). -/

namespace Sys2Proof.Machine

/-! ### Keys and images -/

/-- The AES key of a slot of a use (R716). -/
def State.aesKey (s : State) (slot use : Nat) : Option (List Byte) :=
  if s.lcy.keyBad.testBit slot then none else (s.lcy.keys.find? (fun k => k.1 = slot ∧ k.2.1 = use)).map (fun k => k.2.2)

/-- A public key: both halves, by the KIND of its X half (R717). -/
def State.pubKey (s : State) (kind : Nat) : Option (List Byte × List Byte) :=
  if s.lcy.keyBad.testBit (if kind ≤ 4 then 16 else 17) then none else
  match s.lcy.pubs.lookup kind, s.lcy.pubs.lookup (kind + 1) with
  | some x, some y => some (x, y)
  | _, _ => none

/-- Life-cycle states in which images need neither signature nor encryption (R706). -/
def State.imagesOpen (s : State) : Bool := s.get F.LCY_STATUS_STATE ≤ 1

/-- A signature over a header prefix and a directory verifies against the key whose X half has a KIND. -/
def State.signed (s : State) (kind : Nat) (data sig : List Byte) : Bool :=
  match s.pubKey kind with
  | some (x, y) => Config.ecdsaOk x y (Config.sha256 data) (sig.take 32) ((sig.drop 32).take 32)
  | none => false

/-- One directory entry (R180). -/
structure Section where
  type : Nat
  instance_ : Nat
  off : Nat
  len : Nat
  plain : Nat
  res : Nat
  iv : List Byte
  crc : Nat
  aad : List Byte
  deriving DecidableEq, Repr

def sectionOf (e : List Byte) : Section :=
  { type := leAt e 0 1, instance_ := leAt e 1 1, off := leAt e 4 4, len := leAt e 8 4, plain := leAt e 12 4
    iv := (e.drop 16).take 12, crc := leAt e 28 4, aad := e.take 16, res := leAt e 2 2 }

/-- The entries of a directory. -/
def sectionsOf (dir : List Byte) (count : Nat) : List Section :=
  (List.range count).map (fun i => sectionOf ((dir.drop (32 * i)).take 32))

/-- Sections overlap one another, the header or the directory, run past the end, begin off a multiple of 256, repeat an IV, hold
a length that is not their plain text's, or break the fields of their entry, whose instances run from 0 (R180). The spec names
no check for these faults: they fail with the code of the layout checks, 0x08 in a book and 0x09 in a scene (log entry 96). -/
def sectionsBad (total dirOff : Nat) (enc : Bool) (l : List Section) : Option Nat :=
  (List.range l.length).find? (fun i =>
    match l[i]? with
    | none => false
    | some a =>
      let meets (b n : Nat) : Bool := a.off < b + n ∧ b < a.off + a.len
      a.res ≠ 0 || decide ((l.filter (fun b => b.type = a.type)).length ≤ a.instance_) ||
      (l.take i).any (fun b => b.type = a.type && b.instance_ = a.instance_) ||
      a.off % 256 ≠ 0 || decide (total < a.off + a.len) || meets 0 256 || meets dirOff (32 * l.length) ||
      (l.take i).any (fun b => meets b.off b.len || (enc && a.iv = b.iv)) ||
      (if enc then decide (a.len ≠ a.plain + 16) else decide (a.len ≠ a.plain)))

/-- The plain bytes of a stored section; none where a tag fails (R180). -/
def State.plainOf (key : Option (List Byte)) (x : Section) (stored : List Byte) : Option (List Byte) :=
  match key with
  | none => some stored
  | some k => Config.gcmOpen k x.iv x.aad (stored.take (x.len - 16)) (stored.drop (x.len - 16))

/-- The pin records of a PINS section (R687). -/
def pinRecords (b : List Byte) : List (Nat × Nat) :=
  (List.range (leAt b 16 2)).map (fun i => (leAt b (24 + 8 * i) 2, leAt b (28 + 8 * i) 4))

/-- A PINS section meets its layout (R687). -/
def pinsOk (b : List Byte) : Bool :=
  let recs := pinRecords b
  let codes (v : Nat) : List Nat := [bits v 7 0, bits v 15 8]
  decide (24 ≤ b.length) && decide (leAt b 16 2 ≤ 640) && zeros b 18 24 && decide (b.length = 24 + 8 * leAt b 16 2) &&
  (List.range recs.length).all (fun i =>
    match recs[i]? with
    | none => true
    | some (p, v) =>
      let before := recs.take i
      decide (p < 640) && zeros b (26 + 8 * i) (28 + 8 * i) && !(before.any (fun q => q.1 = p)) &&
      decide (leAt b (pinBank p) 1 ≠ 0) && !(slotsBad (before.flatMap (fun q => codes q.2)) v))

/-- A section of a scene image meets its layout (R579). -/
def sceneBodyOk (t : Nat) (b : List Byte) : Bool :=
  match t with
  | 1 =>
    let n := b.length / 8200
    let sec (i : Nat) := leAt b (8200 * i) 4
    b.length % 8200 = 0 ∧ ((List.range n).all (fun i =>
      decide (sec i < 5632) && zeros b (8200 * i + 4) (8200 * i + 8) && !((List.range i).any (fun j => sec j = sec i)))) = true
  | 2 => b.length = 1536 ∧ (b.all (fun x => x.toNat ≤ 1)) = true
  | 3 => 4 ≤ b.length ∧ leAt b 0 4 ≤ 65536 ∧ b.length = 4 + 4 * leAt b 0 4 ∧
      ((List.range (leAt b 0 4)).all (fun i => leAt b (4 + 4 * i) 4 < 2 ^ 22)) = true
  | 4 => pinsOk b
  | 5 => b.length = 104 ∧ zeros b 88 104 = true ∧ (leAt b 80 4).testBit 1 = false ∧ leAt b 80 4 < 2 ^ 23 ∧ leAt b 84 4 < 8
  | _ => false

/-! ### Planes -/

/-- Plane 0 A or 1 B. -/
def State.plane (s : State) (p : Nat) : Plane := if p = 0 then s.cfg.planeA else s.cfg.planeB

def State.setPlane (s : State) (p : Nat) (x : Plane) : State :=
  { s with cfg := if p = 0 then { s.cfg with planeA := x } else { s.cfg with planeB := x } }

/-- The active plane, once phase PLANE has completed. -/
def State.activePlane? (s : State) : Option Nat := if s.phaseDone 5 then some (s.get F.CFG_STATUS_ACTIVE) else none

/-- The wings: the plane that is not active. -/
def State.wings (s : State) : Nat := 1 - s.get F.CFG_STATUS_ACTIVE

/-- The target of a stage (R571). -/
def State.stageTarget (s : State) : Nat :=
  let k := s.get F.CFG_STAGE_CTRL_TARGET
  if s.mode = 0 ∧ (k = 1 ∨ k = 2) then k - 1 else s.wings

/-- Shows a digest in eight registers; none shows 0. -/
def State.showDigest (s : State) (f : Nat → Fld) (d : Option (List Byte)) : State :=
  (List.range 8).foldl (fun s k => s.put (f k) (match d with | some l => leAt l (4 * k) 4 | none => 0)) s

def PlaneRec.digest (r : PlaneRec) : List Byte := (r.header.drop 0x30).take 32

/-- Shows the wings: their digest while they are STAGED (R580). -/
def State.wingsShow (s : State) : State :=
  let w := s.plane s.wings
  s.showDigest F.CFG_WINGS_DIGEST (if w.state = 4 then some w.record.digest else none)

/-- A plane takes a state, which CFG_STATUS.WINGS shows (R573). -/
def State.planeState (s : State) (p st : Nat) : State :=
  ((s.setPlane p { s.plane p with state := st }).put F.CFG_STATUS_WINGS st).wingsShow

/-- A section of a plane's scene record. -/
def PlaneRec.body (r : PlaneRec) (t : Nat) : Option (List Byte) := r.sections.lookup t

/-- What FABRIC_CFG and PINS of the active plane set (R549, R579, R587, R651, R655, R687): `trees` names the PLL of each clock tree,
14 where FRG_TAP_CLK feeds it. -/
def State.sceneTake (s : State) (p : Nat) (trees : List Nat) : State :=
  let r := (s.plane p).record
  let fc := (r.body 5).getD []
  let s := s.put F.PRB_CP_WMASK_BLOCKS (clearBits (leAt fc 80 4) 2)
  let s := (s.put F.PRB_CP_STATUS_MASTER (leAt fc 84 4 % 2)).put F.PRB_CP_STATUS_SLAVE (leAt fc 84 4 / 2 % 2)
  let s := s.pinsScene (match r.body 4 with | some b => pinRecords b | none => [])
  let s := (List.range 16).foldl (fun s i =>
    let k := (trees[i]?).getD 15 % 16
    let tap : Bool := k = 14
    let s : State := { s with clk := { s.clk with tapTrees := s.clk.tapTrees - (s.clk.tapTrees &&& 2 ^ i) + 2 ^ i * bit tap } }
    let locked : Bool := 8 ≤ k || (s.get F.CLK_STATUS_LOCKED).testBit k
    let s := s.put (F.CLK_DOM_PLL (48 + i)) (if tap then 15 else k)
    s.put (F.CLK_DOM_STATE (48 + i)) (if tap then s.get (F.CLK_DOM_STATE 7) else if locked then 1
      else if s.get (F.CLK_PLL_STATUS_STATE k) = 0 then 0 else policyState (s.get (F.CLK_DOM_POLICY (48 + i))))) s
  (s.showDigest F.CFG_SCENE_DIGEST (some r.digest)).put F.CFG_SCENE_VERSION (leAt r.header 0x10 8)

/-- A refusal for contention is recorded (R543, R567). -/
def State.contention (s : State) (p : Nat) (c : Contend) : State :=
  let s := s.put F.CFG_REFUSE_WIRE_0
    (2 ^ 31 + c.cls % 8 * 2 ^ 28 + c.x % 1024 * 2 ^ 18 + c.y % 256 * 2 ^ 10 + c.index % 1024)
  (s.put F.CFG_REFUSE_WIRE_1 (p * 2 ^ 31 + min c.drivers 15 * 2 ^ 24 + min c.count (2 ^ 24 - 1))).raise Ev.CFG_REFUSED

/-! ### The plane select (R570, R572, R588) -/

/-- The record as read: none for a mismatch; 0 NONE, 1 plane A, 2 plane B. -/
def State.selectRead (s : State) : Option Nat :=
  let v := s.cfg.selVal
  let n := s.cfg.selNot
  if v = 0xFFFFFFFF ∧ n = 0xFFFFFFFF then some 0
  else if v + n = 0xFFFFFFFF ∧ (v = 1 ∨ v = 2) then some v
  else none

/-- The record is written to a plane. -/
def State.selectPut (s : State) (p : Nat) : State :=
  let s : State := { s with cfg := { s.cfg with selVal := p + 1, selNot := 0xFFFFFFFF - (p + 1), selecting := none, selDefer := false } }
  ((s.put F.CFG_STATUS_SELECT_NONE 0).put F.CFG_STATUS_SEL_RESULT 1).raise Ev.CFG_SELECT_WRITTEN

/-- A write of CFG_PLANE_SEL: 1 A, 2 B; others have no effect. -/
def State.planeSel (s : State) (v : Nat) : State :=
  if v ≠ 1 ∧ v ≠ 2 then s else
  let p := v - 1
  if !(s.activePlane? = some p || (s.plane p).state = 4) ∨ s.sys.earlyWarning ∨ s.cfg.selecting.isSome ∨ s.cfg.selDefer then
    s.put F.CFG_STATUS_SEL_RESULT 2
  else ({ s with cfg := { s.cfg with selecting := some p } } : State).put F.CFG_STATUS_SEL_RESULT 3

/-- The program pulse of a select write completes; naming the active plane ends a trial. -/
def State.selectWritten (s : State) : State :=
  match s.cfg.selecting with
  | none => s
  | some p =>
    let s := s.selectPut p
    if s.activePlane? = some p then s.put F.CFG_STATUS_TRIAL 0 else s

/-- t5 of R584: the record names the new plane, unless the early-warning defers the write. -/
def State.sceneRecord (s : State) : State :=
  if !s.cfg.recordDue then s else
  let s : State := { s with cfg := { s.cfg with recordDue := false } }
  if s.sys.earlyWarning then
    ({ s with cfg := { s.cfg with selDefer := true } } : State).put F.CFG_STATUS_SEL_RESULT 3
  else s.selectPut (s.get F.CFG_STATUS_ACTIVE)

/-- The early-warning has cleared: a deferred select write is made. -/
def State.selectResume (s : State) : State :=
  if s.cfg.selDefer then
    { s with cfg := { s.cfg with selDefer := false, selecting := some (s.get F.CFG_STATUS_ACTIVE) } }
  else s

/-! ### Arming (R582, R583) -/

/-- An arm ends without firing, or is refused, with its RESULT. -/
def State.armEnd (s : State) (code : Nat) : State :=
  let s : State := { s with cfg := { s.cfg with arm := none } }
  ((s.put F.CFG_STATUS_ARM 0).put F.CFG_ARM_STATUS_RESULT code).raise Ev.CFG_ARM_ENDED

/-- A refusal leaves a pending arm as it is. -/
def State.armRefuse (s : State) (code : Nat) : State := (s.put F.CFG_ARM_STATUS_RESULT code).raise Ev.CFG_ARM_ENDED

/-- The arm is accepted. -/
def State.armAccept (s : State) (tracks : Nat) (trial : Bool) (at_ : Ps) : State :=
  let s : State := { s with cfg := { s.cfg with arm := some { tracks, trial, at_ } } }
  (((s.put F.CFG_STATUS_ARM 1).put F.CFG_ARM_STATUS_RESULT 0).put F.CFG_ARM_STATUS_TRACKS tracks).raise Ev.CFG_SCENE_ARMED

/-- Why an arm is refused, in the order of R582. -/
def State.armFault (s : State) (tracks : Nat) (force : Bool) (mirrored : Bool) : Option Nat :=
  if (s.plane s.wings).state ≠ 4 then some 2
  else if !((List.range 16).any (fun n => tracks.testBit n && (s.track n).armed)) then some 3
  else if s.cfg.arm.isSome ∨ s.cfg.swap.isSome then some 9
  else if !(s.mode = 2 ∨ s.mode = 3 ∨ s.mode = 7 ∨ (mirrored ∧ s.mode = 4)) then some 7
  else if !force ∧ (List.range 8).any (fun k => (List.range 16).any (fun n =>
      !(tracks.testBit n) && s.tapOn k n && (s.modTaps n).contains k)) then some 4
  else none

/-- OP ARM: a lead waits for its understudy before the arm is accepted (R589). -/
def State.arm (s : State) (tracks : Nat) (trial force : Bool) : State :=
  match s.armFault tracks force false with
  | some c => s.armRefuse c
  | none =>
    if s.mirrors then
      let q := s.dpx.commitSeq
      let s : State := { s with cfg := { s.cfg with arm := some { tracks, trial, at_ := s.now, waiting := some q } } }
      let v := tracks * 65536 + 16 * bit force + 8 * bit trial + 1
      s.dpxCommit 0x07 0 .scene (leBytes 1 4 ++ leBytes 7 0 ++ leBytes 8 v)
    else s.armAccept tracks trial s.now

/-- The understudy has acknowledged the arm, or it will not. -/
def State.armAnswer (s : State) (ok : Bool) : State :=
  match s.cfg.arm with
  | some a => if a.waiting.isNone then s else if ok then s.armAccept a.tracks a.trial a.at_ else s.armEnd 8
  | none => s

/-- t0 of R584. -/
def State.sceneFire (s : State) (trial : Bool) : State :=
  let s : State := { s with
    cfg := { s.cfg with arm := none, swap := some (s.now, trial) }
    dreq := s.dreq.map (fun r => match r.who with | .cp _ => { r with who := .gone } | _ => r)
    window := s.window.map (fun x => if x.who = .cp then { x with who := .gone } else x) }
  (s.put F.CFG_STATUS_ARM 2).put F.CFG_ARM_STATUS_RESULT 1

/-- The curtain condition of R583, at which a HOLD taken in the same cycle ends the arm (R590). -/
def State.armCurtain (s : State) : State :=
  match s.cfg.arm with
  | none => s
  | some a =>
    if a.waiting.isSome then s
    else if s.mode = 6 then s.armEnd 7
    else if (List.range 16).all (fun n => !(a.tracks.testBit n) || !(s.track n).armed || s.inCurtain n) then s.sceneFire a.trial
    else s

/-- OP FIRE_NOW. -/
def State.fireNow (s : State) : State :=
  match s.cfg.arm with
  | none => s
  | some a => if a.waiting.isSome then s else s.sceneFire a.trial

/-- OP DISARM. -/
def State.disarm (s : State) : State := if s.cfg.arm.isSome then s.armEnd 6 else s

/-- An arm has not fired within CFG_ARM_TIMEOUT. -/
def State.armTimeout (s : State) : State :=
  match s.cfg.arm with
  | none => s
  | some a =>
    if a.waiting.isNone ∧ a.at_ + max 1 (s.get F.CFG_ARM_TIMEOUT) * 1000000000 ≤ s.now then s.armEnd 5 else s

/-- t4 of R584: the planes exchange roles (R585 to R588). `trees` names the PLL of each clock tree of the new scene, 15
none. -/
def State.sceneChanged (s : State) (trees : List Nat) : State :=
  match s.cfg.swap with
  | none => s
  | some (t0, trial) =>
    let p := s.wings
    let s : State := { s with cfg := { s.cfg with swap := none, recordDue := !trial } }
    let s := ((s.put F.CFG_STATUS_ACTIVE p).put F.CFG_STATUS_ARM 0).put F.CFG_STATUS_TRIAL (bit trial)
    let s := s.put F.CFG_SWAP_TIME ((s.now - t0) / 1000)
    let s := (List.range 16).foldl (fun s k => (s.keep (F.PRB_SEL k)).setRegAt (F.PRB_SEL k).addr (F.PRB_SEL k).rst 0) s
    (((s.sceneTake p trees).fabChange (planeBase p)).planeState s.wings 4).raise Ev.CFG_SCENE_CHANGED

/-! ### Staging (R574 to R577) -/

/-- A stage or an erase may begin now. -/
def State.stageFree (s : State) : Bool :=
  s.cfg.stage.isNone && s.mode ≠ 5 && s.get F.CFG_STATUS_ARM = 0 && s.cfg.arm.isNone && !s.cfg.tableFault &&
  !s.sys.earlyWarning && s.activePlane? ≠ some s.stageTarget

/-- The erase of the target begins. -/
def State.stageBegin (s : State) (g : Stage) : State :=
  let s : State := { s with cfg := { s.cfg with stage := some g } }
  let s := (s.planeState g.plane 1).put F.CFG_STAGE_STATUS 0
  s.put F.CFG_STAGE_STATUS_BUSY 1

/-- The running stage ends with its plane in a state. -/
def State.stageEnd (s : State) (st : Nat) : State :=
  match s.cfg.stage with
  | none => s
  | some g =>
    let s : State := { s with cfg := { s.cfg with stage := none } }
    (s.planeState g.plane st).put F.CFG_STAGE_STATUS_BUSY 0

/-- The image range lies wholly inside one region other than a queue region (R574). -/
def State.imageRange (s : State) (a n : Nat) : Bool :=
  s.regions.any (fun r => r.kind ≠ 1 && decide (r.base ≤ a) && decide (a + n ≤ r.base + r.size))

/-- OP LOAD: its conditions do not hold, and nothing happens, or the erase begins. A DEGRADED plane cannot be staged (R595). -/
def State.stageLoad (s : State) : State :=
  let p := s.stageTarget
  let a := s.get F.CFG_STAGE_ADDR
  let n := s.get F.CFG_STAGE_LEN
  if s.stageFree ∧ (s.plane p).state ≠ 7 ∧ a % 64 = 0 ∧ s.imageRange a n then s.stageBegin { plane := p, src := a, len := n }
  else s

/-- OP ERASE: a pending arm is disarmed and the wings are erased. -/
def State.stageErase (s : State) : State :=
  let s := s.disarm
  if s.stageFree then s.stageBegin { plane := s.stageTarget, eraseOnly := true } else s

/-- A box's answer to the BEGIN or END that waits. -/
def State.stageAnswer (s : State) (g : Stage) (r : Resp) : State :=
  match g.box, g.wait with
  | some b, some q => s.boxDone b q r
  | _, _ => s

/-- An answer with a DETAIL in its first byte. -/
def detailResp (status detail : Nat) : Resp := { status, payload := leBytes 1 detail ++ leBytes 7 0 }

/-- OP ABORT, at the next sector boundary: the plane is left EMPTY (R577). -/
def State.stageAbort (s : State) : State :=
  let s := s.disarm
  match s.cfg.stage with
  | none => s
  | some g =>
    let s := s.store (.flashErase (planeBase g.plane) (planeBase g.plane + planeBytes))
    let s := (s.setPlane g.plane { s.plane g.plane with record := {} }).stageEnd 0
    ({ s with scene := none } : State).stageAnswer g (detailResp 6 0)

/-- Sectors of a plane in state `a` take state `b`. -/
def State.sectorsMove (s : State) (p a b : Nat) : State :=
  { s with cfg := { s.cfg with sectors := s.cfg.sectors.map (fun c =>
      if c.1 / 65536 = 2 + p ∧ c.2.state = a then (c.1, { c.2 with state := b }) else c) } }

/-- A pulse on the target was cut, or the flash can pulse no longer: the plane is INTERRUPTED (R593), and so are the sixteen
sectors under work (R575), which nothing else names. -/
def State.stageCut (s : State) : State :=
  match s.cfg.stage with
  | none => s
  | some g =>
    let (r, s) := s.takeFree 352
    let s := (List.range 16).foldl (fun s i =>
      let x := s.sector (2 + g.plane) (16 * r + i)
      if x.state = 2 then s else s.setSector (2 + g.plane) (16 * r + i) { x with state := 1 }) s
    let s := ((s.stageEnd 6).raise Ev.FLC_INTERRUPTED).raise Ev.CFG_WINGS_INTERRUPTED
    ({ s with scene := none } : State).stageAnswer g (detailResp 6 0)

/-- The target is erased: `pulses` is the greatest number that any sector took (R594). -/
def State.stageErased (s : State) (pulses : Nat) : State :=
  match s.cfg.stage with
  | none => s
  | some g =>
    if g.step ≠ 1 then s else
    let s := s.store (.flashErase (planeBase g.plane) (planeBase g.plane + planeBytes))
    let x := s.plane g.plane
    let s := s.setPlane g.plane { x with record := {}, erases := x.erases + 1, pulses }
    let s := s.sectorsMove g.plane 1 0
    let s := s.addSat (if g.plane = 0 then F.CFG_CYCLES_A else F.CFG_CYCLES_B) 1
    let s := s.put F.CFG_STAGE_STATUS_SECTORS 5632
    let s := if s.get F.FLC_WEAR_THRESH_PLANE < pulses then s.raise Ev.FLC_WEAR else s
    if g.eraseOnly then s.stageEnd 0 else
    let s : State := { s with cfg := { s.cfg with stage := some { g with step := 2, wait := none } } }
    let s := (s.planeState g.plane 2).put F.CFG_STAGE_STATUS_SECTORS 0
    let s : State := { s with scene := s.scene.map (fun t => { t with ready := true }) }
    s.stageAnswer g (detailResp 0 0)

/-- A byte range of the image of a stage: the stream, or the DRAM range. -/
def State.imageAt (s : State) (g : Stage) (o n : Nat) : List Byte :=
  if g.box.isSome then memBytes .flash g.image o n else s.dramBytes (g.src + o) n

/-- Check 0x01 of R576. -/
def sceneHeaderOk (h : List Byte) (limit : Nat) : Bool :=
  let total := leAt h 8 4
  let count := leAt h 0x18 2
  let dir := leAt h 0x1C 4
  decide (leAt h 0 4 = 0x4E454353) && decide (leAt h 4 2 = 1) && decide (leAt h 6 2 = 0x100) &&
  decide (leAt h 0xFC 4 = crc32c (h.take 0xFC)) && decide (256 ≤ total) && decide (total ≤ 50331648) && decide (total ≤ limit) &&
  decide (1 ≤ leAt h 0xE 1) && decide (leAt h 0xE 1 ≤ 2) && decide (leAt h 0xF 1 ≤ 1) && decide (2 ≤ count) && decide (count ≤ 16) &&
  zeros h 0x1B 0x1C && decide (dir % 256 = 0) && decide (256 ≤ dir) &&
  decide (dir + 32 * count ≤ total) && zeros h 0x20 0x30 && zeros h 0x90 0xFC

/-- What the checks of R576 need beside the image: what no register shows. -/
structure StageFound where
  /-- sectors repaired with spare rows, in rows -/
  repaired : Nat
  /-- a sector that cannot be repaired -/
  bad : Option Nat
  /-- a contended wire that the driver count met -/
  drivers : Option Contend
  /-- every carried location is a flip-flop of the new scene -/
  carryOk : Bool
  deriving DecidableEq, Repr

/-- The configuration bits that FABRIC records program in an erased plane (R579). -/
def imageCells (b : List Byte) : Memory :=
  (List.range (b.length / 8200)).foldl (fun m i =>
    memWrite .flash m (leAt b (8200 * i) 4 * 8192) ((b.drop (8200 * i + 8)).take 8192)) []

/-- The checks of R576 in order: the failing code, directory index and contended wire, or the plain sections. -/
def State.sceneChecks (s : State) (g : Stage) (f : StageFound) :
    Except (Nat × Nat × Option Contend) (PlaneRec × List (Nat × List Byte)) :=
  let h := s.imageAt g 0 256
  let total := leAt h 8 4
  let count := leAt h 0x18 2
  let dirOff := leAt h 0x1C 4
  let dir := s.imageAt g dirOff (32 * count)
  let secs := sectionsOf dir count
  let enc : Bool := leAt h 0xF 1 = 1
  let key := if enc then s.aesKey (leAt h 0x1A 1) 1 else none
  let stored := secs.map (fun x => (x, s.imageAt g x.off x.len))
  let plains := stored.map (fun p => (p.1, State.plainOf key p.1 p.2))
  let bodies := plains.map (fun p => (p.1.type, p.2.getD []))
  let index {α : Type} (l : List α) (bad : α → Bool) : Option Nat := l.findIdx? bad
  if !(sceneHeaderOk h (if g.box.isSome then 50331648 else g.len)) then .error (1, 0xFF, none)
  else if leAt h 0xC 2 ≠ 0x8400 then .error (2, 0xFF, none)
  else if Config.speedGrade < leAt h 0xE 1 then .error (3, 0xFF, none)
  else if enc ∧ key.isNone then .error (4, 0xFF, none)
  else if !s.imagesOpen ∧ !(enc && s.signed 3 (h.take 0x50 ++ dir) ((h.drop 0x50).take 64)) then .error (5, 0xFF, none)
  else match index stored (fun p => crc32c p.2 ≠ p.1.crc) with
  | some i => .error (6, i, none)
  | none =>
  match index plains (fun p => p.2.isNone) with
  | some i => .error (7, i, none)
  | none =>
  if Config.sha256 (bodies.flatMap Prod.snd) ≠ (h.drop 0x30).take 32 then .error (8, 0xFF, none)
  else match sectionsBad total dirOff enc secs with
  | some i => .error (9, i, none)
  | none =>
  match index bodies (fun p => !(sceneBodyOk p.1 p.2)) with
  | some i => .error (9, i, none)
  | none =>
  let kept := bodies.filter (fun p => p.1 ≠ 1)
  let size := 256 + dir.length + (kept.map (fun p => p.2.length)).foldl (· + ·) 0
  if !([1, 5].all (fun t => bodies.any (fun p => p.1 = t))) ∨ 524288 < size ∨
      (List.range count).any (fun i => ((bodies.map Prod.fst).take i).contains (((bodies.map Prod.fst)[i]?).getD 0)) then
    .error (9, 0xFF, none)
  else if f.bad.isSome then .error (0xA, 0xFF, none)
  else
    let design := Config.design (imageCells ((bodies.lookup 1).getD [])) ((bodies.lookup 5).getD [])
    let drivers := f.drivers.or design.contend
    if drivers.isSome then .error (0xB, 0xFF, drivers) else
    let pins := (bodies.lookup 4).getD []
    if (List.range 16).any (fun b => leAt pins b 1 ≠ 0 && decide (leAt pins b 1 ≠ s.get (F.GPIO_BANK_VCCIO b))) then
      .error (0xC, 0xFF, none)
    else if !f.carryOk ∨ (carriedOf ((bodies.lookup 3).getD [])).any (fun n => !(isFlipFlop n)) then .error (0xD, 0xFF, none)
    else .ok ({ header := h, dir, sections := kept }, bodies)

/-- Programs the FABRIC records of a plane. -/
def State.programFabric (s : State) (p : Nat) (b : List Byte) : State :=
  (List.range (b.length / 8200)).foldl (fun s i =>
    s.store (.flash (planeBase p + leAt b (8200 * i) 4 * 8192) ((b.drop (8200 * i + 8)).take 8192))) s

/-- A spare row replaces a failing row of a sector, which nothing else names (R595). -/
def State.rowRepaired (s : State) (p : Nat) : State :=
  let (k, s) := s.takeFree 5632
  let x := s.sector (2 + p) k
  let s := if x.state = 2 then s else s.setSector (2 + p) k { x with state := 3 }
  s.raise Ev.FLC_ROW_REPAIRED

/-- The checks finish (R576, R593 to R595): the plane is STAGED, REFUSED or DEGRADED. -/
def State.stageChecked (s : State) (f : StageFound) : State :=
  match s.cfg.stage with
  | none => s
  | some g =>
    if !(g.step = 3 ∨ (g.step = 2 ∧ g.box.isNone ∧ s.dramMay 5 g.src 64)) then s else
    let s := (List.range f.repaired).foldl (fun s _ => s.rowRepaired g.plane) s
    match s.sceneChecks g f with
    | .error (c, d, drivers) =>
      let s := s.stageEnd (if c = 0xA then 7 else 5)
      let s := (s.put F.CFG_STAGE_STATUS_FAIL_CHECK c).put F.CFG_STAGE_STATUS_DETAIL d
      let s := if c = 0xA then (s.growBad (2 + g.plane) (f.bad.getD 0)).raise Ev.FLC_PLANE_DEGRADED else s
      let s := match drivers with
        | some w => s.contention g.plane w
        | none => s
      (s.raise Ev.CFG_STAGE_FAIL).stageAnswer g (detailResp 0 c)
    | .ok (r, bodies) =>
      let s := s.programFabric g.plane ((bodies.lookup 1).getD [])
      let s := s.setPlane g.plane { s.plane g.plane with record := r }
      let s := (s.put F.CFG_STAGE_STATUS_SECTORS 5632).stageEnd 4
      (s.raise Ev.CFG_STAGED).stageAnswer g (detailResp 0 0)

/-! ### The flash controller's commands (R591 to R597) -/

/-- An FLC command ends. -/
def State.flcEnd (s : State) (code : Nat) : State :=
  let s : State := { s with cfg := { s.cfg with flc := none } }
  ((s.put F.FLC_RESULT_CODE code).put F.FLC_RESULT_BUSY 0).raise Ev.FLC_OP_DONE

/-- A guarded write of FLC_CMD: 1 READ, 2 PROGRAM, 3 ERASE, 4 QUERY. -/
def State.flcStart (s : State) (op : Nat) : State :=
  if op = 0 ∨ 4 < op then s
  else if s.cfg.flc.isSome then (s.put F.FLC_RESULT_CODE 1).raise Ev.FLC_OP_DONE
  else if s.mode = 5 then s.flcEnd 11
  else
    let data := (List.range 4).flatMap (fun w => leBytes 4 (s.get (F.FLC_DATA w)))
    ({ s with cfg := { s.cfg with flc := some { op, addr := s.get F.FLC_ADDR, data } } } : State).put F.FLC_RESULT_BUSY 1

/-- Sectors of an array (R591). -/
def arraySectors (a : Nat) : Nat := if a = 0 then 1024 else if a = 1 then 32 else 5696

/-- What a program or erase of user flash ends with before any pulse, if it does. -/
def State.flcRefused (s : State) (o : FlcOp) : Option Nat :=
  let k := bits o.addr 25 0 / 8192
  let st := (s.sector 0 k).state
  if s.cfg.tableFault then some 8
  else if st = 2 then some 4
  else if s.sys.earlyWarning then some 7
  else if o.op = 2 ∧ st = 1 then some 3
  else if o.op = 2 ∧ (s.flashBytes (bits o.addr 25 0) 16).any (fun b => b ≠ 0xFF) then some 2
  else none

/-- The running command ends: `ecc` 0 none, 1 corrected, 2 uncorrectable; `pulses` of an erase; `fail` its verify failed. -/
def State.flcDone (s : State) (ecc pulses : Nat) (fail : Bool) : State :=
  match s.cfg.flc with
  | none => s
  | some o =>
    let array := bits o.addr 31 28
    let a := bits o.addr 25 0
    let k := a / 8192
    if o.op = 4 then
      if 3 < array ∨ arraySectors array ≤ k then s.flcEnd 6 else
      let x := s.sector array k
      let pl := s.plane (array - 2)
      let s := (s.put F.FLC_INFO_STATE x.state).put F.FLC_INFO_PULSES (min 63 (if 2 ≤ array then pl.pulses else x.pulses))
      (s.put F.FLC_INFO_CYCLES (min (2 ^ 18 - 1) (x.cycles + if 2 ≤ array then pl.erases else 0))).flcEnd 0
    else if array ≠ 0 ∨ 8388608 ≤ a ∨ a % 16 ≠ 0 then s.flcEnd 6
    else if o.op = 1 then
      let (bs, s) : List Byte × State := if ecc = 2 then s.freeBytes 16 else (s.flashBytes a 16, s)
      let s := (List.range 4).foldl (fun s w => s.put (F.FLC_DATA w) (leAt bs (4 * w) 4)) s
      if ecc = 2 then (s.raise Ev.FLC_ECC_FAULT).flcEnd 10
      else if ecc = 1 then ((s.addSat F.FLC_ECC 1).raise Ev.FLC_ECC_CORRECTED).flcEnd 9
      else s.flcEnd 0
    else
      match s.flcRefused o with
      | some c => (if c = 2 then s.raise Ev.FLC_NOT_ERASED else s).flcEnd c
      | none =>
        if o.op = 2 then
          if fail then
            let (bs, s) := s.freeBytes 16
            ((s.store (.flash a bs)).growBad 0 k).flcEnd 5
          else (s.store (.flash a o.data)).flcEnd 0
        else
          let x := s.sector 0 k
          let s := s.setSector 0 k { x with state := 0, pulses, cycles := x.cycles + 1 }
          let s := if s.get F.FLC_WEAR_THRESH_USER < pulses then s.raise Ev.FLC_WEAR else s
          if fail then
            let (bs, s) := s.freeBytes 8192
            ((s.store (.flash (8192 * k) bs)).growBad 0 k).flcEnd 5
          else (s.store (.flashErase (8192 * k) (8192 * k + 8192))).flcEnd 0

/-- A program or erase that the supply early-warning cuts: its sector is interrupted (R593). -/
def State.flcCut (s : State) : State :=
  match s.cfg.flc with
  | none => s
  | some o =>
    if o.op ≠ 2 ∧ o.op ≠ 3 then s else
    let k := bits o.addr 25 0 / 8192
    let n := if o.op = 2 then 16 else 8192
    let a := if o.op = 2 then bits o.addr 25 0 else 8192 * k
    let (bs, s) := s.freeBytes n
    let s := s.store (.flash a bs)
    ((s.setSector 0 k { s.sector 0 k with state := 1 }).raise Ev.FLC_INTERRUPTED).flcEnd 7

/-- The supply early-warning asserts (R593): no new pulse starts and the pulse in progress ends. `cut` says that one was in
progress on a plane or on the select record. -/
def State.flashWarn (s : State) (cut : Bool) : State :=
  let s := (s.flcCut).ldgEraseCut
  let s := match s.cfg.stage with
    | some g => if g.step = 1 ∨ cut then s.stageCut else s
    | none => s
  match s.cfg.selecting with
  | none => s
  | some p =>
    if cut then
      let (v, s) := s.takeFree (2 ^ 32)
      let (n, s) := s.takeFree (2 ^ 32)
      ({ s with cfg := { s.cfg with selecting := none, selVal := v, selNot := n } } : State).put F.CFG_STATUS_SEL_RESULT 2
    else if s.activePlane? = some p then
      { s with cfg := { s.cfg with selecting := none, selDefer := true } }
    else ({ s with cfg := { s.cfg with selecting := none } } : State).put F.CFG_STATUS_SEL_RESULT 2

/-! ### The early phases of CALL on planes -/

/-- Phase SELECT reads the record (R570); a mismatch stops CALL. The answer is whether it is sound. -/
def State.phaseSelect (s : State) : State × Bool :=
  match s.selectRead with
  | none => (s.raise Ev.CFG_SELECT_FAULT, false)
  | some v => (s.put F.CFG_STATUS_SELECT_NONE (bit (v = 0)), true)

/-- Phase PLANE activates the selected plane (R64, R543, R570, R598): the answer is whether it did. `valid` says that its
scene record reads back sound. -/
def State.phasePlane (s : State) (valid : Bool) (drivers : Option Contend) (trees : List Nat) : State × Bool :=
  match s.selectRead with
  | some (v + 1) =>
    let p := v % 2
    if (s.plane p).state ≠ 4 ∨ !valid then (s.raise Ev.CFG_NO_SCENE, false)
    else match drivers.or (s.designOf p (planeBase p)).contend with
    | some c => (s.contention p c, false)
    | none =>
      let s := s.put F.CFG_STATUS_ACTIVE p
      let s := (s.put F.CFG_STATUS_WINGS (s.plane (1 - p)).state).wingsShow
      let s := s.sceneTake p trees
      if s.cfg.reverted then
        (({ s with cfg := { s.cfg with reverted := false } } : State).raise Ev.CFG_TRIAL_REVERTED, true)
      else (s, true)
  | _ => (s.raise Ev.CFG_NO_SCENE, false)

end Sys2Proof.Machine
end

