-- ==== Sys2Proof/Machine/Lifecycle.lean ====
section
/-! DEFINITION. The life cycle: fuses, transitions, tokens, wipes, keys and debug (R705 to R720). -/

namespace Sys2Proof.Machine

/-! ### Fuses -/

/-- The number of ones of a thermometer code of 64 bits, none for another value. -/
def thermometer (v : Nat) : Option Nat := (List.range 65).find? (fun k => v = 2 ^ k - 1)

/-- The code of R706 that the rows decode to; `spent`: a token was spent since the last device reset. -/
def lcyDecode (value compl : Nat) (spent : Bool) : Nat :=
  if compl ≠ 2 ^ 64 - 1 - value then 7
  else match thermometer value with
  | some 0 => 0
  | some 8 => 1
  | some 16 => 2
  | some 24 => if spent then 4 else 3
  | some 40 => 5
  | some 64 => 6
  | _ => 7

/-- The decoded state now. -/
def State.lcyState (s : State) : Nat := lcyDecode s.lcy.value s.lcy.compl s.lcy.fieldTest

/-- Debug is open (R707). -/
def State.lcyOpen (s : State) : Bool :=
  match s.lcyState with
  | 3 => s.lcy.reopened
  | 6 => false
  | 7 => false
  | _ => true

/-- Shows the state, DEBUG_OPEN and the rows (R727). -/
def State.lcyShow (s : State) : State :=
  let s := (s.put F.LCY_STATUS_STATE s.lcyState).put F.LCY_STATUS_DEBUG_OPEN (bit s.lcyOpen)
  let s := (s.put F.LCY_COUNTER s.lcy.value).put F.LCY_COUNTER_NOT s.lcy.compl
  let tok (t : Nat) : Bool × Bool := (s.lcy.tokVal.testBit t, !(s.lcy.tokNot.testBit t))
  let spent := ((List.range 8).filter (fun t => (tok t).1 || (tok t).2)).foldl (fun a t => a + 2 ^ t) 0
  let fault := ((List.range 8).filter (fun t => (tok t).1 != (tok t).2)).foldl (fun a t => a + 2 ^ t) 0
  (s.put F.LCY_TOKENS_SPENT spent).put F.LCY_TOKENS_FAULT fault

/-- Shows which keys are written (R727). -/
def State.keysShow (s : State) : State :=
  let mask (use : Nat) : Nat := ((List.range 16).filter (fun k => (s.aesKey k use).isSome)).foldl
    (fun a k => a + 2 ^ k) 0
  let s := (s.put F.LCY_KEY_STATUS_SCENE (mask 1)).put F.LCY_KEY_STATUS_PROMPT (mask 2)
  (s.put F.LCY_KEY_PUB_SCENE_PUB (bit (s.pubKey 3).isSome)).put F.LCY_KEY_PUB_PROMPT_PUB (bit (s.pubKey 5).isSome)

/-- The wipe of R714 is required: no valid wipe record exists. -/
def State.wipeDue (s : State) : Bool := (s.lcyState = 5 ∨ s.lcyState = 6) ∧ s.lcy.wipeVal + s.lcy.wipeNot ≠ 0xFFFFFFFF

/-- What the wipe leaves of the state of a flash sector: erased once more, and known as bad where it was (R594 to R596). -/
def Sector.wiped (x : Sector) : Sector :=
  { x with state := if x.state = 2 then 2 else 0, cycles := x.cycles + 1 }

/-- The wipe runs to its end, its record as the last act (R714); what value the record holds nothing states. -/
def State.wipe (s : State) : State :=
  let (v, s) := s.takeFree (2 ^ 32)
  let s := s.store (.flashErase 0 (4 * 2 ^ 28))
  let plane (x : Plane) : Plane := { x with state := 0, record := {}, erases := x.erases + 1 }
  let s : State := { s with
    ldg := {}, leases := []
    lcy := { s.lcy with keys := [], pubs := [], wipeVal := v, wipeNot := 0xFFFFFFFF - v }
    cfg := { s.cfg with planeA := plane s.cfg.planeA, planeB := plane s.cfg.planeB, selVal := 0xFFFFFFFF, selNot := 0xFFFFFFFF } }
  let s := (List.range 1024).foldl (fun s k => s.setSector 0 k (s.sector 0 k).wiped) s
  let s := (List.range 32).foldl (fun s k => s.setSector 1 k (s.sector 1 k).wiped) s
  let s := (s.put F.CFG_CYCLES_A (min s.cfg.planeA.erases 0xFFFF)).put F.CFG_CYCLES_B (min s.cfg.planeB.erases 0xFFFF)
  ((s.keysShow).put F.LCY_STATUS_WIPE_PENDING 0).raise Ev.LCY_WIPE_DONE

/-- Phase LIFE (R706, R713, R714): the answer is whether CALL goes on. -/
def State.phaseLife (s : State) : State × Bool :=
  let s := s.lcyShow
  let s := if s.get F.LCY_TOKENS_FAULT ≠ 0 then s.raise Ev.LCY_TOKEN_FAULT else s
  let s := if s.wipeDue then s.wipe else s
  if s.lcyState = 7 then (s.raise Ev.LCY_LIMBO, false) else (s, true)

/-! ### Results -/

/-- A result of an operation: SOURCE 1 transition, 2 debug operation, 3 key operation. -/
def State.lcyResult (s : State) (source code : Nat) : State := (s.put F.LCY_RESULT_CODE code).put F.LCY_RESULT_SOURCE source

/-- A refusal. -/
def State.lcyRefuse (s : State) (source code : Nat) : State := (s.lcyResult source code).raise Ev.LCY_REFUSED

/-! ### Transitions (R708 to R712) -/

/-- Pairs of states that R708 permits. -/
def lcyPermits (frm to_ : Nat) : Bool :=
  (frm = 0 ∧ to_ = 1) ∨ (frm = 1 ∧ to_ = 2) ∨ (frm = 2 ∧ to_ = 3) ∨ ((frm = 2 ∨ frm = 3 ∨ frm = 4) ∧ to_ = 5) ∨
  (frm = 3 ∧ to_ = 4) ∨ (frm ≠ 6 ∧ to_ = 6)

/-- The unspent token of the lowest number. -/
def State.token (s : State) : Option Nat :=
  (List.range 8).find? (fun t => !(s.lcy.tokVal.testBit t) && s.lcy.tokNot.testBit t)

/-- The life cycle before phase LIFE has read it counts as it decodes. -/
def State.lcyFault (s : State) (target : Nat) (holdup : Bool) : Option Nat :=
  let st := s.lcyState
  if s.lcy.op.isSome then some 2
  else if !(lcyPermits st target) then some 3
  else if !(s.mode = 0 ∨ s.mode = 1 ∨ s.mode = 2 ∨ s.mode = 7) then some 4
  else if target = 4 ∧ s.token.isNone then some 5
  else if s.sys.earlyWarning then some 6
  else if !holdup then some 7
  else none

/-- A guarded write of TARGET, with the level of LCY_HOLDUP: 0 and 7 have no effect. -/
def State.lcyTransition (s : State) (target : Nat) (holdup : Bool) : State :=
  let s := s.put F.LCY_STATUS_HOLDUP (bit holdup)
  if target = 0 ∨ 7 ≤ target then s else
  match s.lcyFault target holdup with
  | some c => s.lcyRefuse 1 c
  | none => ({ s with lcy := { s.lcy with op := some (.transition target) } } : State).put F.LCY_STATUS_BUSY 1

/-- Ones of the counter in a state. -/
def lcyOnes (st : Nat) : Nat :=
  match st with
  | 1 => 8
  | 2 => 16
  | 3 => 24
  | 5 => 40
  | _ => 64

/-- The last fuse of a transition is blown (R708, R710, R712). -/
def State.lcyDone (s : State) : State :=
  match s.lcy.op with
  | some (.transition target) =>
    let s : State :=
      if target = 4 then
        let t := s.token.getD 0
        { s with lcy := { s.lcy with
            op := none, fieldTest := true, tokVal := s.lcy.tokVal ||| 2 ^ t, tokNot := s.lcy.tokNot &&& (255 - 2 ^ t) } }
      else
        let v := 2 ^ lcyOnes target - 1
        { s with lcy := { s.lcy with
            op := none, value := s.lcy.value ||| v, compl := s.lcy.compl &&& (2 ^ 64 - 1 - v), resetAt := some (s.now + 1000000)
            wipeVal := if target = 5 ∨ target = 6 then 0xFFFFFFFF else s.lcy.wipeVal
            wipeNot := if target = 5 ∨ target = 6 then 0xFFFFFFFF else s.lcy.wipeNot } }
    ((s.lcyShow.put F.LCY_STATUS_BUSY 0).lcyResult 1 1).raise Ev.LCY_TRANSITION_DONE
  | _ => s

/-- A device reset stops a running transition with `k` fuses blown (R705, R711, R713, R726): value fuses first, then
complement fuses. -/
def State.lcyCut (s : State) (k : Nat) : State :=
  match s.lcy.op with
  | some (.transition 4) =>
    let t := s.token.getD 0
    if k = 0 then s else { s with lcy := { s.lcy with tokVal := s.lcy.tokVal ||| 2 ^ t } }
  | some (.transition target) =>
    let n := lcyOnes target
    let todoV := (List.range n).filter (fun b => !(s.lcy.value.testBit b))
    let todoC := (List.range n).filter (fun b => s.lcy.compl.testBit b)
    let v := (todoV.take k).foldl (fun a b => a ||| 2 ^ b) s.lcy.value
    let c := (todoC.take (k - todoV.length)).foldl (fun a b => a - 2 ^ b) s.lcy.compl
    { s with lcy := { s.lcy with value := v, compl := c } }
  | _ => s

/-! ### Keys (R717) -/

/-- A guarded write of LCY_KEY_OP: KIND 1 and 2 AES, 3 to 6 public key halves. -/
def State.keyOp (s : State) (kind slot : Nat) : State :=
  if kind = 0 ∨ 6 < kind then s else
  let bytes := (List.range 8).flatMap (fun k => leBytes 4 (s.get (F.LCY_KEY_DATA k)))
  let clear (s : State) : State := (List.range 8).foldl (fun s k => s.put (F.LCY_KEY_DATA k) 0) s
  let st := s.lcyState
  let used : Bool := if kind ≤ 2 then s.lcy.keys.any (fun x => x.1 = slot) else (s.lcy.pubs.lookup kind).isSome
  if s.lcy.op.isSome then clear (s.lcyRefuse 3 2)
  else if !(st = 1 ∨ st = 2 ∨ st = 5) ∨ (kind ≤ 2 ∧ 16 ≤ slot) then clear (s.lcyRefuse 3 3)
  else if used then clear (s.lcyRefuse 3 11)
  else if crc32c bytes ≠ s.get F.LCY_KEY_CRC then clear (s.lcyRefuse 3 12)
  else ({ s with lcy := { s.lcy with op := some (.key kind slot bytes) } } : State).put F.LCY_STATUS_BUSY 1

/-- The key store has been programmed. -/
def State.keyWritten (s : State) : State :=
  match s.lcy.op with
  | some (.key kind slot bytes) =>
    let s : State := { s with lcy :=
      if kind ≤ 2 then { s.lcy with op := none, keys := s.lcy.keys ++ [(slot, kind, bytes)] }
      else { s.lcy with op := none, pubs := s.lcy.pubs ++ [(kind, bytes)] } }
    let s := (List.range 8).foldl (fun s k => s.put (F.LCY_KEY_DATA k) 0) s.keysShow
    ((s.put F.LCY_STATUS_BUSY 0).lcyResult 3 1).raise Ev.LCY_KEY_WRITTEN
  | _ => s

/-- Keys whose CRC fails at CALL are not provisioned (R716): slots in bits [15:0], SCENE_PUB and PROMPT_PUB above. -/
def State.keysCheck (s : State) (bad : Nat) : State :=
  let lost := s.lcy.keys.any (fun x => bad.testBit x.1) ∨ s.lcy.pubs.any (fun x => bad.testBit (if x.1 ≤ 4 then 16 else 17))
  let s := ({ s with lcy := { s.lcy with keyBad := bad } } : State).keysShow
  if lost then s.raise Ev.LCY_KEY_FAULT else s

/-! ### Debug (R718 to R720) -/

/-- Shows the live nonce, or 0. -/
def State.nonceShow (s : State) : State :=
  (List.range 4).foldl (fun s k =>
    s.put (F.LCY_NONCE k) (match s.lcy.nonce with | some (b, _) => leAt b (4 * k) 4 | none => 0)) s

/-- The conditions of R720. -/
def State.debugFault (s : State) : Option Nat :=
  if s.lcy.op.isSome then some 2
  else if s.lcyState ≠ 3 then some 3
  else if s.mode = 3 ∨ s.mode = 4 ∨ s.mode = 5 then some 4
  else none

/-- OP CHALLENGE: a fresh nonce, whose bytes nothing fixes (log entry 2). -/
def State.challenge (s : State) : State :=
  match s.debugFault with
  | some c => s.lcyRefuse 2 c
  | none =>
    let locked : Bool := match s.lcy.failedAt with
      | some a => s.now < a + 10000000000000
      | none => false
    if locked then s.lcyRefuse 2 10 else
    let (b, s) := s.freeBytes 16
    (({ s with lcy := { s.lcy with nonce := some (b, s.now) } } : State).nonceShow).lcyResult 2 1

/-- The challenge block of R718. -/
def challengeBlock (nonce : List Byte) : List Byte :=
  nonce ++ leBytes 8 Config.deviceId ++ leBytes 4 1 ++ leBytes 1 3 ++ leBytes 3 0

/-- OP VERIFY starts. -/
def State.verifyStart (s : State) : State :=
  match s.debugFault with
  | some c => s.lcyRefuse 2 c
  | none =>
    if s.lcy.nonce.isNone then s.lcyRefuse 2 9
    else ({ s with lcy := { s.lcy with op := some .verify } } : State).put F.LCY_STATUS_BUSY 1

/-- Verification completes. -/
def State.verifyDone (s : State) : State :=
  match s.lcy.op with
  | some .verify =>
    let resp := (List.range 16).flatMap (fun k => leBytes 4 (s.get (F.LCY_RESP k)))
    let ok := match s.lcy.nonce with
      | some (b, _) => Config.ecdsaOk Config.authKeyX Config.authKeyY (Config.sha256 (challengeBlock b)) (resp.take 32) (resp.drop 32)
      | none => false
    let s := ({ s with lcy := { s.lcy with op := none, nonce := none } } : State).nonceShow.put F.LCY_STATUS_BUSY 0
    if ok then
      let s : State := { s with lcy := { s.lcy with reopened := true } }
      ((s.put F.LCY_STATUS_DEBUG_OPEN (bit s.lcyOpen)).lcyResult 2 1).raise Ev.LCY_DEBUG_OPENED
    else
      let s : State := { s with lcy := { s.lcy with failedAt := some s.now } }
      ((s.lcyResult 2 8).addSat F.LCY_STATUS_AUTH_FAILS 1).raise Ev.LCY_AUTH_FAIL
  | _ => s

/-- 600 s have passed since the CHALLENGE. -/
def State.nonceExpire (s : State) : State :=
  match s.lcy.nonce with
  | some (_, a) =>
    if a + 600000000000000 ≤ s.now then ({ s with lcy := { s.lcy with nonce := none } } : State).nonceShow else s
  | none => s

/-- OP of LCY_DEBUG_OP: 1 CHALLENGE, 2 VERIFY. -/
def State.debugOp (s : State) (op : Nat) : State :=
  if op = 1 then s.challenge else if op = 2 then s.verifyStart else s

end Sys2Proof.Machine
end

