-- ==== Sys2Proof/Machine/Prompt.lean ====
section
/-! DEFINITION. The prompt book: slots, checks, sections and import (R176 to R184, R235 to R237, R298, R299, R334, R373, R455,
R461, R499, R528). -/

namespace Sys2Proof.Machine

/-- First byte of a slot in NOR (R176). -/
def slotBase (k : Nat) : Nat := k * 0x4000000

/-- Splits a body into records: `size` gives the length of the record at the front, 0 for one that it does not know; each is
padded with zeros to a multiple of `pad`. -/
def records (size : List Byte → Nat) (pad : Nat) : Nat → List Byte → Option (List (List Byte))
  | _, [] => some []
  | 0, _ => none
  | fuel + 1, l =>
    let n := size l
    let m := (n + pad - 1) / pad * pad
    if n = 0 ∨ l.length < m ∨ !(zeros l n m) then none
    else (records size pad fuel (l.drop m)).map (fun r => l.take n :: r)

/-- All records of a body. -/
def recordsOf (size : List Byte → Nat) (pad : Nat) (l : List Byte) : Option (List (List Byte)) := records size pad (l.length + 1) l

/-- No two elements are equal. -/
def distinct (l : List Nat) : Bool := match l with | [] => true | x :: r => !(r.contains x) && distinct r

def alphRecords (l : List Byte) : Option (List (List Byte)) := recordsOf (fun r => 4 + 2 * leAt r 1 1) 4 l

def radixSize (r : List Byte) : Nat :=
  match leAt r 0 1 with
  | 1 => 4 + 4 * leAt r 2 1
  | 2 => 24
  | 3 => 32
  | _ => 0

def radixRecords (l : List Byte) : Option (List (List Byte)) := recordsOf radixSize 1 l

def headsSize (r : List Byte) : Nat :=
  match leAt r 0 1 with
  | 1 => 4
  | 2 => 12
  | 3 => 8
  | _ => 0

def headsRecords (l : List Byte) : Option (List (List Byte)) := recordsOf headsSize 8 l

def nozzleSize (r : List Byte) : Nat :=
  match leAt r 0 1 with
  | 1 => 24
  | 2 => 16
  | 3 => 8
  | 4 => 12 + 4 * leAt r 8 4
  | _ => 0

def nozzleRecords (l : List Byte) : Option (List (List Byte)) := recordsOf nozzleSize 8 l

def fixedRecords (n : Nat) (l : List Byte) : Option (List (List Byte)) := recordsOf (fun _ => n) 1 l

def fontRecords (l : List Byte) : Option (List (List Byte)) := recordsOf (fun r => 128 + 4096 * leAt r 4 2) 1 l

/-- Splits LAYOUTS records: only the start of the next record is aligned, so the bytes between are not looked at and the last
record needs none after it (R235). -/
def layoutSplit : Nat → List Byte → Option (List (List Byte))
  | _, [] => some []
  | 0, _ => none
  | fuel + 1, l =>
    let n := 8 + leAt l 4 4
    if l.length < n then none
    else (layoutSplit fuel (l.drop ((n + 7) / 8 * 8))).map (fun r => l.take n :: r)

def layoutRecords (l : List Byte) : Option (List (List Byte)) := layoutSplit (l.length + 1) l

def artworkRecords (l : List Byte) : Option (List (List Byte)) := recordsOf (fun r => 16 + leAt r 8 4) 16 l

/-- A book that has passed the checks up to DIGEST: its header and its sections as (directory index, type, body). -/
structure Book where
  header : List Byte
  parts : List (Nat × Nat × List Byte)
  deriving DecidableEq, Repr

/-- The body of a type: its instances one after another. -/
def Book.body (b : Book) (t : Nat) : List Byte := (b.parts.filter (fun p => p.2.1 = t)).flatMap (fun p => p.2.2)

def Book.has (b : Book) (t : Nat) : Bool := b.parts.any (fun p => p.2.1 = t)

/-- Directory index of the first section of a type; 0xFF none. -/
def Book.index (b : Book) (t : Nat) : Nat :=
  match b.parts.find? (fun p => p.2.1 = t) with
  | some p => p.1
  | none => 0xFF

/-! ### Checks of sections (check 0x08) -/

def alphOk (r : List Byte) : Bool :=
  let n := leAt r 1 1
  let chars := (List.range n).map (fun j => leAt r (4 + 2 * j) 1)
  decide (leAt r 0 1 < 64) && decide (2 ≤ n) && decide (n ≤ 64) && zeros r 2 4 && distinct chars && chars.all fieldChar &&
  (List.range n).all (fun j => leAt r (5 + 2 * j) 1 < 64)

/-- Digits of a vector record. -/
def vectorOf (r : List Byte) : List VDigit :=
  (List.range (leAt r 2 1)).map (fun i =>
    { radix := leAt r (4 + 4 * i) 1, alph := leAt r (5 + 4 * i) 1, carry := leAt r (6 + 4 * i) 1, cal := leAt r (7 + 4 * i) 1 })

/-- Capacities of the calendar elements of a vector: each maximal run of digits that carry one element (R282). -/
def elementRuns : List VDigit → List (Nat × Nat)
  | [] => []
  | d :: v =>
    match elementRuns v with
    | (c, n) :: r => if d.cal = c then (c, d.radix * n) :: r else (d.cal, d.radix) :: (c, n) :: r
    | [] => [(d.cal, d.radix)]

/-- Least capacity of an element in a calendar with `shifts` shifts; a SHIFT element needs one shift (R282). -/
def leastCapacity (shifts code : Nat) : Nat :=
  match code with
  | 1 => 0 | 2 => 13 | 3 => 32 | 4 => 367 | 5 => 24 | 6 => 60 | 7 => 0 | 8 => 54 | 9 => 8
  | _ => shifts

/-- A RADIX record keeps its ranges; `alphs` answers the entries of an alphabet, `vec` a vector of the section and `cals` the
vectors that calendars name (R260, R263, R281, R282, R299). -/
def radixOk (alphs : Nat → Nat) (vec : Nat → List VDigit) (cals : List Nat) (r : List Byte) : Bool :=
  match leAt r 0 1 with
  | 1 =>
    let n := leAt r 2 1
    decide (leAt r 1 1 < 128) && decide (1 ≤ n) && decide (n ≤ 24) && zeros r 3 4 &&
    (vectorOf r).all (fun d => decide (2 ≤ d.radix) && decide (d.radix ≤ 36) && decide (d.alph < 64) &&
      decide (d.radix ≤ alphs d.alph) && decide (d.carry ≤ 2) && decide (d.cal ≤ 0xA) &&
      (decide (d.cal = 0) || cals.contains (leAt r 1 1)))
  | 2 =>
    let v := vec (leAt r 2 1)
    let n := leAt r 6 1
    let off := leAt r 4 2
    decide (leAt r 1 1 < 16) && decide (v ≠ []) && v.all (fun d => d.cal ≠ 0) && decide (leAt r 3 1 ≤ 1) && zeros r 7 8 &&
    (elementRuns v).all (fun e => decide (leastCapacity n e.1 ≤ e.2) && (decide (e.1 ≠ 0xA) || decide (0 < n))) &&
    decide (n ≤ 8) && zeros r (8 + 2 * n) 24 && (decide (off ≤ 1440) || decide (65536 - 1440 ≤ off)) &&
    (List.range n).all (fun i => decide (leAt r (8 + 2 * i) 2 < 1440) &&
      (decide (i = 0) || decide (leAt r (6 + 2 * i) 2 < leAt r (8 + 2 * i) 2)))
  | 3 =>
    let v := vec (leAt r 2 1)
    decide (leAt r 1 1 < 64) && decide (v ≠ []) && zeros r 3 4 && decide (1 ≤ leAt r 4 4) && decide (leAt r 4 4 ≤ 2 ^ 20) &&
    wordOk v (leAt r 8 18) && zeros r 26 32
  | _ => false

def seriesOk (vec : Nat → List VDigit) (r : List Byte) : Bool :=
  let v := vec (leAt r 1 1)
  let k := leAt r 2 1
  let q := leAt r 4 4
  let lq := leAt r 8 2
  let a := leAt r 16 18
  let b := leAt r 34 18
  decide (v ≠ []) && v.all (fun d => decide (d.carry = 0) && decide (d.cal = 0)) && decide (4 ≤ k) && decide (k ≤ 20) &&
  zeros r 3 4 && decide (2 ^ k ≤ q) && decide (q ≤ 2 ^ 31) && decide (1 ≤ lq) && zeros r 10 12 && zeros r 52 64 &&
  wordOk v a && wordOk v b && decide (digitsVal v (wordDigits a) ≤ digitsVal v (wordDigits b)) && decide (2 ^ k ≤ q * lq)

/-- REGIONS: sixteen queues in track order, each at least 5 MiB, no overlap, inside the modules (R182). -/
def bookRegions (l : List Byte) : List Region :=
  ((fixedRecords 16 l).getD []).map (fun r =>
    { kind := leAt r 0 1, base := leAt r 8 4 * 1048576, size := leAt r 12 4 * 1048576 })

def regionsOk (size : Nat) (l : List Byte) : Bool :=
  match fixedRecords 16 l with
  | none => false
  | some rs =>
    let g := bookRegions l
    rs.all (fun r => zeros r 1 8 && decide (1 ≤ leAt r 0 1) && decide (leAt r 0 1 ≤ 5)) &&
    decide ((g.filter (fun r => r.kind = 1)).length = 16) &&
    g.all (fun r => decide (r.base + r.size ≤ size) && (decide (r.kind ≠ 1) || decide (5 * 1048576 ≤ r.size))) &&
    (List.range g.length).all (fun i =>
      match g[i]? with
      | none => true
      | some a => (g.take i).all (fun b => decide (a.base + a.size ≤ b.base) || decide (b.base + b.size ≤ a.base)))

def headsOk (l : List Byte) : Bool :=
  match headsRecords l with
  | none => false
  | some rs =>
    let of (t : Nat) := rs.filter (fun r => leAt r 0 1 = t)
    let lane (k : Nat) : Option (List Byte) := (of 2).find? (fun r => leAt r 1 1 = k)
    let board (k : Nat) : Bool := match lane k with | some r => leAt r 2 1 = 1 | none => false
    let tracksOn (k : Nat) := (List.range 16).filter (fun n => (of 3).any (fun r => leAt r 2 1 = k ∧ leAt r 6 1 = n))
    [1, 2, 3].all (fun t => distinct ((of t).map (fun r => leAt r 1 1))) &&
    (of 1).all (fun r => decide (leAt r 1 1 < 8) && decide (leAt r 2 1 ≤ 9) && decide (leAt r 3 1 ≤ 1)) &&
    (of 2).all (fun r => decide (leAt r 1 1 < 32) && (decide (leAt r 2 1 = 1) || decide (leAt r 2 1 = 2)) && zeros r 3 4 &&
      (decide (leAt r 2 1 = 2) || zeros r 6 8) && (of 1).any (fun q => leAt q 1 1 = leAt r 1 1 / 4)) &&
    (of 3).all (fun r =>
      let k := leAt r 2 1
      let sp := leAt r 3 1
      board k && decide (2 ≤ leAt r 4 2) && decide (leAt r 4 2 ≤ 500) && decide (leAt r 6 1 < 16) && decide (leAt r 7 1 < 8) &&
      (decide (sp = 0xFF) || (board sp && decide (sp ≠ k) &&
        decide (((lane k).getD []).drop 8 = ((lane sp).getD []).drop 8)))) &&
    (List.range 32).all (fun k => (tracksOn k).length ≤ 4)

/-- Ranges `[a, a + n)` of a list do not overlap. -/
def apart : List (Nat × Nat) → Bool
  | [] => true
  | (a, n) :: r => r.all (fun p => decide (a + n ≤ p.1) || decide (p.1 + p.2 ≤ a)) && apart r

def nozzlesOk (heads : List Byte) (l : List Byte) : Bool :=
  match nozzleRecords l with
  | none => false
  | some rs =>
    let of (t : Nat) := rs.filter (fun r => leAt r 0 1 = t)
    let named := ((headsRecords heads).getD []).filter (fun r => leAt r 0 1 = 3)
    let bits := ((of 1).map (fun r => leAt r 12 4 * 4 * leAt r 6 1)).foldl (· + ·) 0
    [1, 2, 3].all (fun t => distinct ((of t).map (fun r => leAt r 1 1))) &&
    (of 1).all (fun r =>
      decide (leAt r 2 1 < 16) && decide (leAt r 3 1 < 8) && decide (leAt r 4 1 ≤ 2) && decide (leAt r 5 1 ≤ 1) && zeros r 7 8 &&
      decide (1 ≤ leAt r 12 4) && decide (leAt r 12 4 ≤ 65536) && decide (leAt r 8 4 + leAt r 12 4 ≤ 1048576) &&
      decide (leAt r 16 4 < 1048576) && zeros r 20 24 &&
      named.any (fun q => leAt q 1 1 = leAt r 1 1 ∧ leAt q 6 1 = leAt r 2 1 ∧ leAt q 7 1 = leAt r 3 1)) &&
    named.all (fun q => (of 1).any (fun r => leAt r 1 1 = leAt q 1 1)) &&
    apart ((of 1).map (fun r => (leAt r 8 4, leAt r 12 4))) &&
    (List.range 128).all (fun k => apart (((of 1).filter (fun r => leAt r 2 1 * 8 + leAt r 3 1 = k)).map
      (fun r => (leAt r 16 4, leAt r 12 4)))) &&
    (of 2).all (fun r => decide (leAt r 1 1 < 16) && zeros r 2 8) &&
    (of 3).all (fun r => decide (leAt r 1 1 < 16) && zeros r 2 4) &&
    (of 4).all (fun r => zeros r 1 4 && decide (leAt r 4 4 + leAt r 8 4 ≤ 1048576)) &&
    apart ((of 4).map (fun r => (leAt r 4 4, leAt r 8 4))) && decide (bits ≤ 33554432)

/-- More than 131,072 bytes of one track's line on one lane (R374). -/
def lineTooLong (heads nozzles : List Byte) : Bool :=
  let hs := ((headsRecords heads).getD []).filter (fun r => leAt r 0 1 = 3)
  let nz := ((nozzleRecords nozzles).getD []).filter (fun r => leAt r 0 1 = 1)
  let bytes (h : Nat) : Nat :=
    match nz.find? (fun r => leAt r 1 1 = h) with
    | some r => (leAt r 12 4 * depthBits (leAt r 4 1) + 7) / 8
    | none => 0
  (List.range 32).any (fun k => (List.range 16).any (fun n =>
    decide (131072 < ((hs.filter (fun r => leAt r 2 1 = k ∧ leAt r 6 1 = n)).map (fun r => bytes (leAt r 1 1))).foldl (· + ·) 0)))

def companyOk (l : List Byte) : Bool :=
  let n := leAt l 8 2
  let ids := (List.range n).map (fun i => leAt l (32 + 16 * i) 8)
  let lim := leAt l 16 4
  decide (1 ≤ n) && decide (n ≤ 512) && decide (l.length = 32 + 16 * n) && decide (leAt l 10 2 ≤ 1000) &&
  (decide (leAt l 12 2 = 0) || decide (100 ≤ leAt l 12 2)) && decide (lim ≤ 3600000) && zeros l 20 32 &&
  (List.range n).all (fun i => zeros l (41 + 16 * i) (48 + 16 * i)) && distinct ids && ids.contains (Config.deviceId % 2 ^ 64)

def duplexOk (l : List Byte) : Bool :=
  decide (l.length = 32) && decide (leAt l 8 1 ≤ 2) && decide (10 ≤ leAt l 10 2) && decide (leAt l 10 2 ≤ 10000) &&
  decide (1 ≤ leAt l 12 1) && zeros l 13 32

def boxesOk (l : List Byte) : Bool :=
  match fixedRecords 32 l with
  | none => false
  | some rs =>
    distinct (rs.map (fun r => leAt r 0 1)) &&
    rs.all (fun r =>
      let b := leAt r 0 1
      decide (b ≤ 15) && decide (leAt r 1 1 ≤ 3) && decide (leAt r 2 1 ≤ 15) && decide (leAt r 3 1 ≤ 15) &&
      decide (leAt r 4 4 < 2 ^ 23) && decide (leAt r 8 4 < 2 ^ 23) && zeros r 24 32 &&
      (if b = 15 then zeros r 1 12 && zeros r 14 24
       else decide (64 ≤ leAt r 14 2) && decide (leAt r 14 2 ≤ 16384))) &&
    decide (((rs.filter (fun r => leAt r 0 1 ≠ 15)).map (fun r => leAt r 14 2)).foldl (· + ·) 0 ≤ 65536)

/-! ### Import of sections -/

/-- A DRAM write that the rest of the same command can read. -/
def State.writeNow (s : State) (a : Nat) (bs : List Byte) : State :=
  ({ s with dram := memWrite .dram s.dram a bs } : State).store (.dram a bs)

def State.importAlphs (s : State) (l : List Byte) : State :=
  ((alphRecords l).getD []).foldl (fun s r =>
    let al := (List.range (leAt r 1 1)).map (fun j => (leAt r (4 + 2 * j) 1, leAt r (5 + 2 * j) 1 % 64))
    { s with vd := { s.vd with alphs := tblPut [] s.vd.alphs (leAt r 0 1) al } }) s

def State.importRadix (s : State) (l : List Byte) : State :=
  ((radixRecords l).getD []).foldl (fun s r =>
    let i := leAt r 1 1
    match leAt r 0 1 with
    | 1 => { s with vd := { s.vd with vecs := tblPut [] s.vd.vecs i (vectorOf r) } }
    | 2 =>
      let c : Calendar := { defined := true, vector := leAt r 2 1, shifts := (List.range (leAt r 6 1)).map (fun j => leAt r (8 + 2 * j) 2) }
      let s : State := { s with vd := { s.vd with cals := tblPut {} s.vd.cals i c } }
      (s.put (F.FRG_VD_CAL_PRODUCTION_DAY i) (leAt r 3 1 % 2)).put (F.FRG_VD_CAL_OFFSET i) (leAt r 4 2)
    | _ =>
      let s : State := { s with vd := { s.vd with cnts := s.vd.cnts ++ [i] } }
      ((s.put (F.FRG_VD_CNT_CFG_VECTOR i) (leAt r 2 1)).put (F.FRG_VD_CNT_CFG_STEP i) (leAt r 4 4)).setCntWord i (leAt r 8 18)) s

/-- The digest of a series (R463). -/
def seriesDigest (alphs radix : List Byte) (r : List Byte) : List Byte :=
  let vrec := (((radixRecords radix).getD []).find? (fun x => leAt x 0 1 = 1 ∧ leAt x 1 1 = leAt r 1 1)).getD []
  let used := (vectorOf vrec).map VDigit.alph
  let arecs := (List.range 64).flatMap (fun a =>
    if used.contains a then (((alphRecords alphs).getD []).find? (fun x => leAt x 0 1 = a)).getD [] else [])
  Config.sha256 (r ++ vrec ++ arecs)

def State.importSeries (s : State) (alphs radix l : List Byte) : State :=
  ((fixedRecords 64 l).getD []).foldl (fun s r =>
    let v := s.vec (leAt r 1 1)
    let num (w : Nat) : Nat := digitsVal v (wordDigits w)
    let d : SeriesDef := ⟨true, leAt r 1 1, leAt r 2 1, leAt r 4 4, leAt r 8 2, leAt r 12 4, num (leAt r 16 18), num (leAt r 34 18), seriesDigest alphs radix r⟩
    { s with sdefs := tblPut {} s.sdefs (leAt r 0 1) d }) s

def State.importHeads (s : State) (l : List Byte) : State :=
  ((headsRecords l).getD []).foldl (fun s r =>
    let k := leAt r 1 1
    match leAt r 0 1 with
    | 1 => ((s.put (F.STG_QUAD_RATE k) (leAt r 2 1)).put (F.STG_QUAD_REFCLK k) (leAt r 3 1)).put (F.STG_QUAD_PLL_LOCKED k) 1
    | 2 =>
      let s := (s.put (F.STG_LANE_STATUS_PARTNER k) (leAt r 2 1)).put (F.STG_LANE_CFG_ADVANCE k) (leAt r 4 2)
      (s.put (F.STG_LANE_CFG_VISION_TRACKS k) (leAt r 6 2)).setLane k { s.lane k with expected := leAt r 8 4 }
    | _ =>
      let s := (s.put (F.STG_HEAD_CFG_LANE k) (leAt r 2 1)).put (F.STG_HEAD_CFG_SPARE k) (leAt r 3 1)
      (s.put (F.STG_HEAD_CFG_VALID k) 1).put (F.STG_HEAD_CFG_LEAD_TIME k) (leAt r 4 2)) s

def State.importNozzles (s : State) (l : List Byte) : State :=
  let rs := (nozzleRecords l).getD []
  let s := rs.foldl (fun s r =>
    if leAt r 0 1 ≠ 1 then s else
    let h := leAt r 1 1
    let a := leAt r 2 1 * 2 ^ 28 + leAt r 3 1 * 2 ^ 25 + leAt r 5 1 * 2 ^ 24 + leAt r 4 1 * 2 ^ 22 + 2 ^ 21 + leAt r 12 4
    ((s.put (F.NZC_HEAD_A h) a).put (F.NZC_HEAD_B h) (leAt r 8 4)).put (F.NZC_HEAD_C h) (leAt r 6 1 * 2 ^ 20 + leAt r 16 4)) s
  let page := rs.foldl (fun (p : NzPage) r =>
    match leAt r 0 1 with
    | 2 => { p with curves := tblPut identityCurve p.curves (leAt r 1 1) (leAt r 8 8) }
    | 3 => { p with wsets := tblPut 0 p.wsets (leAt r 1 1) (leAt r 4 4) }
    | 4 => { p with entries := (List.range (leAt r 8 4)).foldl (fun e i =>
        tblPut 0 e (leAt r 4 4 + i) (leAt r (12 + 4 * i) 4)) p.entries }
    | _ => p) ({} : NzPage)
  let s : State := { s with nzc := { s.nzc with page0 := page, page1 := page } }
  s.put F.NZC_DELAY_USED s.delayBits

def State.importCompany (s : State) (l : List Byte) (has : Bool) : State :=
  let n := if has then leAt l 8 2 else 1
  let roster := if has then (List.range n).map (fun i => (leAt l (32 + 16 * i) 8, leAt l (40 + 16 * i) 1))
    else [(Config.deviceId % 2 ^ 64, 0)]
  let dflt (v d : Nat) : Nat := if v = 0 then d else v
  let s : State := { s with cmp := { s.cmp with
    roster, seats := n, companyId := if has then leAt l 0 8 else 0, digest := if has then Config.sha256 l else []
    leaseMs := if has then dflt (leAt l 10 2) 20 else 20 } }
  let s := if has then
      ((s.put F.CMP_TIME_CFG_TOL (dflt (leAt l 12 2) 1000)).put F.CMP_TIME_CFG_HOLD_PPB (dflt (leAt l 14 2) 500)).put
        F.CMP_HOLD_LIMIT (dflt (leAt l 16 4) 30000)
    else s
  let seat := ((roster.map Prod.fst).findIdx? (fun d => d = Config.deviceId % 2 ^ 64)).getD 0
  let s := (s.put F.CMP_STATUS_SEAT seat).put F.CMP_STATUS_SOLE (bit (n = 1))
  if n ≠ 1 then s else
  (((s.setLink 4 {}).setLink 5 {}).put F.CMP_STATUS_PORT0_UP 0).put F.CMP_STATUS_PORT1_UP 0

def State.importDuplex (s : State) (l : List Byte) (has : Bool) : State :=
  if !has then { s with dpx := { s.dpx with configured := false } } else
  let s : State := { s with dpx := { s.dpx with configured := true, partnerReq := leAt l 0 8, prefer := leAt l 8 1 } }
  let s := s.put { F.DPX_CO_POLICY with hi := 7, lo := 0 } (leAt l 9 1 &&& 0x1F)
  (s.put F.DPX_CFG_ACK_TIMEOUT (leAt l 10 2)).put F.DPX_CFG_HOLDOFF (leAt l 12 1)

/-- Rights of one box. -/
def State.boxRights (s : State) (b ports cmd dram wr rd tracks credits host : Nat) : State :=
  let s := (s.put (F.IZX_BOX_WRITE b) wr).put (F.IZX_BOX_READ b) rd
  let s := (s.put (F.IZX_BOX_RIGHTS_TRACKS b) tracks).put (F.IZX_BOX_RIGHTS_DRAM b) dram
  let s := (s.put (F.IZX_BOX_RIGHTS_CMD b) cmd).put (F.IZX_BOX_RIGHTS_PORTS b) ports
  (s.put (F.IZX_BOX_CREDITS_BLOCKS b) credits).setBox b { s.box b with hostReq := host }

/-- The BOXES section takes effect (R515, R517, R528, R558, R559): open boxes that its rights refuse are closed, and box 15
opens. -/
def State.importBoxes (s : State) (l : List Byte) (has : Bool) : State :=
  let s := (List.range 16).foldl (fun s b =>
    if !has then
      if b = 15 then s.boxRights 15 0 0 0 0 0 0xFFFF 0 0 else s.boxRights b 3 15 15 0x7FFFFF 0x7FFFFF 0xFFFF 4096 0
    else match ((fixedRecords 32 l).getD []).find? (fun r => leAt r 0 1 = b) with
    | some r => s.boxRights b (leAt r 1 1) (leAt r 2 1) (leAt r 3 1) (leAt r 4 4) (leAt r 8 4) (leAt r 12 2) (leAt r 14 2)
        (leAt r 16 8)
    | none => s.boxRights b 0 0 0 0 0 0 0 0) s
  let s := (List.range 15).foldl (fun s b =>
    let x := s.box b
    let refused : Bool := !((s.get (F.IZX_BOX_RIGHTS_PORTS b)).testBit x.port) ||
      (x.hostReq ≠ 0 && x.hostReq ≠ s.get (F.IZX_BOX_HOST b))
    if x.isOpen ∧ refused then (s.setBox b { x with closing := true }).boxSend b else s) s
  s.setBox 15 { s.box 15 with isOpen := true }

/-- Fonts go into the fonts region one after another on 64-byte boundaries (log entry 25). -/
def State.importFonts (s : State) (l : List Byte) : State :=
  let base := match s.regionsOf 4 with | r :: _ => r.base | [] => 0
  (((fontRecords l).getD []).foldl (fun (p : State × Nat) r =>
    let (s, a) := p
    let s := s.writeNow a r
    let f : Font := { cellW := leAt r 2 2, cellH := leAt r 4 2, advance := (List.range 64).map (fun g => leAt r (16 + g) 1), addr := a }
    ({ s with frg := { s.frg with fonts := tblPut {} s.frg.fonts (leAt r 0 1) f } }, (a + r.length + 63) / 64 * 64)) (s, base)).1

def State.importArtwork (s : State) (l : List Byte) : State :=
  ((artworkRecords l).getD []).foldl (fun s r => s.writeNow (leAt r 0 8) (r.drop 16)) s

/-- Layouts are copied above the install log, one after another on 256-byte boundaries (log entry 25), and installed; none
when one of them cannot be. -/
def State.importLayouts (s : State) (l : List Byte) : Option State :=
  let base := match s.regionsOf 2 with | r :: _ => r.base + 65536 | [] => 0
  (((layoutRecords l).getD []).foldl (fun (p : Option (State × Nat)) r =>
    match p with
    | none => none
    | some (s, a) =>
      let list := r.drop 8
      let s := s.writeNow a list
      let track := leAt r 0 1
      if 16 ≤ track ∨ !(zeros r 1 4) then none else
      match s.layoutCheck { op := 1, track, id := (layoutOf list).id, addr := a } with
      | .error _ => none
      | .ok ly => if s.storeFits ly then some (s.layoutHeld 1 ly, (a + list.length + 255) / 256 * 256) else none)
    (some (s, base))).map Prod.fst

/-- Registers that the TRACKS section sets: the staged set of every track, its work queue settings and the inspection
settings (R123, R181, R408). -/
def trackBookRegs : List Fld :=
  (List.range 16).flatMap (fun n => trkRegs n ++ [F.WQ_CFG n, F.WQ_STARVE_OFFSET n, F.INS_TRK_CFG n, F.INS_TRK_WINDOW n]) ++
  (List.range 32).flatMap (fun g => [F.INS_GATE_CFG g, F.INS_GATE_OFFSET g])

/-- The TRACKS section, whose layout the spec does not give: Config reads it (log entry 26). The settings are staged and, with
no item on any track, in force at once. -/
def State.importTracks (s : State) (l : List Byte) : State :=
  trackBookRegs.foldl (fun s f => (s.setRegAt f.addr f.rst (Config.tracksReg l f.addr % 2 ^ 32)).apply f) s

/-- Everything but layouts. -/
def State.importTables (s : State) (b : Book) : State :=
  let s : State := { s with regions := bookRegions (b.body 3), vd := {}, sdefs := [] }
  let s := (s.importAlphs (b.body 5)).importRadix (b.body 6)
  let s := (s.importSeries (b.body 5) (b.body 6) (b.body 7)).importHeads (b.body 2)
  let s := (s.importNozzles (b.body 9)).importCompany (b.body 0xA) (b.has 0xA)
  let s := (s.importDuplex (b.body 0xB) (b.has 0xB)).importTracks (b.body 1)
  (s.importFonts (b.body 8)).importArtwork (b.body 0xD)

/-- A section keeps its rules, judged on the state with the book's tables in place. -/
def State.sectionOk (s : State) (b : Book) (t : Nat) : Bool :=
  let l := b.body t
  let alphs (i : Nat) : Nat := (tblGet [] s.vd.alphs i).length
  match t with
  | 1 => Config.tracksLaid l && (List.range 16).all (fun n =>
      let sl := s.get (F.WQ_CFG_STARVE_LAYOUT n)
      decide (256 ≤ s.get (F.TRK_PITCH n)) && !(s.insBad n) &&
      (decide (sl = 0) || ((layoutRecords (b.body 4)).getD []).any (fun r => leAt r 0 1 = n && (layoutOf (r.drop 8)).id = sl)))
  | 2 => headsOk l && !(lineTooLong l (b.body 9)) &&
      ((((headsRecords l).getD []).filter (fun r => leAt r 0 1 = 3)).all (fun q =>
        (((nozzleRecords (b.body 9)).getD []).any (fun r => leAt r 0 1 = 1 ∧ leAt r 1 1 = leAt q 1 1))))
  | 3 => regionsOk s.dramSize l
  | 4 => (layoutRecords l).isSome && (s.importLayouts l).isSome
  | 5 => match alphRecords l with
    | some rs => rs.all alphOk && distinct (rs.map (fun r => leAt r 0 1))
    | none => false
  | 6 => match radixRecords l with
    | some rs =>
      let cals := (rs.filter (fun r => leAt r 0 1 = 2)).map (fun r => leAt r 2 1)
      rs.all (radixOk alphs s.vec cals) && distinct (rs.map (fun r => leAt r 0 1 * 256 + leAt r 1 1))
    | none => false
  | 7 => match fixedRecords 64 l with
    | some rs => rs.all (seriesOk s.vec) && distinct (rs.map (fun r => leAt r 0 1))
    | none => false
  | 8 => match fontRecords l with
    | some rs =>
      let size := (rs.map (fun r => (r.length + 63) / 64 * 64)).foldl (· + ·) 0
      let room := match s.regionsOf 4 with | r :: _ => r.size | [] => 0
      distinct (rs.map (fun r => leAt r 0 1)) && decide (size ≤ room) && rs.all (fun r =>
        let w := leAt r 2 2
        decide (leAt r 0 1 < 16) && zeros r 1 2 && decide (1 ≤ w) && decide (w ≤ 256) && decide (1 ≤ leAt r 4 2) &&
        decide (leAt r 4 2 ≤ 256) && zeros r 6 16 && zeros r 80 128 && (List.range 64).all (fun g => leAt r (16 + g) 1 ≤ w) &&
        (List.range (64 * leAt r 4 2)).all (fun k => decide (leAt r (128 + 64 * k) 64 < 2 ^ w)))
    | none => false
  | 9 => nozzlesOk (b.body 2) l
  | 0xA => companyOk l
  | 0xB => duplexOk l
  | 0xC => boxesOk l
  | 0xD => match artworkRecords l with
    | some rs => rs.all (fun r => zeros r 12 16 && s.inRegion 3 (leAt r 0 8) (leAt r 8 4))
    | none => false
  | _ => false

/-! ### Checks of a slot (R183) -/

/-- Check 0x02. -/
def bookHeaderOk (h : List Byte) : Bool :=
  let total := leAt h 8 4
  let count := leAt h 0x1E 2
  let dir := leAt h 0x24 4
  let join := leAt h 0x1C 2
  let iface := leAt h 0x18 1
  decide (leAt h 0 4 = 0x4B425250) && decide (leAt h 4 2 = 1) && decide (leAt h 6 2 = 0x100) &&
  decide (leAt h 0xFC 4 = crc32c (h.take 0xFC)) && decide (256 ≤ total) && decide (total ≤ 67108864) &&
  (decide (iface ≤ 3) || decide (iface = 7)) && decide (25 ≤ leAt h 0x19 1) && decide (leAt h 0x19 1 ≤ 200) &&
  decide (leAt h 0x1A 1 ≤ 31) && decide (2 ≤ leAt h 0x1B 1) && decide (leAt h 0x1B 1 ≤ 3) &&
  (decide (join = 0) || (decide (10 ≤ join) && decide (join ≤ 10000))) && decide (1 ≤ count) && decide (count ≤ 64) &&
  decide (leAt h 0x21 1 ≤ 1) && zeros h 0x22 0x24 && decide (dir % 256 = 0) && decide (256 ≤ dir) &&
  decide (dir + 32 * count ≤ total) && zeros h 0x28 0x30 && zeros h 0x90 0xFC

/-- What a slot fails with: check code, section, and where admission refused its layouts the condition and the C_max of the last
of them. -/
structure BookFault where
  code : Nat
  sec : Nat := 0xFF
  refusal : Option ((Nat × Nat × Nat) × Nat) := none
  deriving DecidableEq, Repr

/-- The checks of one slot with a valid header: how it fails, or the book and the state with it imported. -/
def State.bookChecks (s : State) (k : Nat) : Except BookFault (Book × State) :=
  let h := s.norBytes (slotBase k) 256
  let total := leAt h 8 4
  let count := leAt h 0x1E 2
  let dirOff := leAt h 0x24 4
  let dir := s.norBytes (slotBase k + dirOff) (32 * count)
  let secs := sectionsOf dir count
  let enc : Bool := leAt h 0x21 1 = 1
  let key := if enc then s.aesKey (leAt h 0x20 1) 2 else none
  let stored := secs.map (fun x => (x, s.norBytes (slotBase k + x.off) x.len))
  let plains := stored.map (fun p => (p.1, State.plainOf key p.1 p.2))
  let parts := (List.range count).filterMap (fun i => (plains[i]?).map (fun p => (i, p.1.type, p.2.getD [])))
  let index {α : Type} (l : List α) (bad : α → Bool) : Option Nat := l.findIdx? bad
  if enc ∧ key.isNone then .error { code := 3 }
  else if !s.imagesOpen ∧ !(enc && s.signed 5 (h.take 0x50 ++ dir) ((h.drop 0x50).take 64)) then .error { code := 4 }
  else match index stored (fun p => crc32c p.2 ≠ p.1.crc) with
  | some i => .error { code := 5, sec := i }
  | none =>
  match index plains (fun p => p.2.isNone) with
  | some i => .error { code := 6, sec := i }
  | none =>
  if Config.sha256 (parts.flatMap (fun p => p.2.2)) ≠ (h.drop 0x30).take 32 then .error { code := 7 }
  else match sectionsBad total dirOff enc secs with
  | some i => .error { code := 8, sec := i }
  | none =>
  let b : Book := { header := h, parts }
  let s1 := s.importTables b
  if !([1, 3, 4].all b.has) then .error { code := 8 }
  else match parts.find? (fun p => !(s1.sectionOk b p.2.1)) with
  | some p => .error { code := 8, sec := p.1 }
  | none =>
  match s1.importLayouts (b.body 4) with
  | none => .error { code := 8, sec := b.index 4 }
  | some s2 => match s2.admitFault with
    | some f => .error { code := 9, sec := b.index 4, refusal := some (f, s2.get F.FRG_LAYOUT_CMAX) }
    | none => .ok (b, s2)

/-- The header of a slot is valid; `mute` names the slots at which the NOR does not answer. -/
def State.slotValid (s : State) (mute k : Nat) : Bool := !(mute.testBit k) && bookHeaderOk (s.norBytes (slotBase k) 256)

/-- A slot's header failure code: READ or HEADER. -/
def slotFault (mute k : Nat) : Nat := if mute.testBit k then 1 else 2

/-- Records the failure that CFG_PROMPT_STATUS reports (R191). -/
def State.promptFault (s : State) (slot code sec : Nat) : State :=
  ((s.put F.CFG_PROMPT_STATUS_FAIL_SLOT slot).put F.CFG_PROMPT_STATUS_FAIL_CHECK code).put F.CFG_PROMPT_STATUS_FAIL_SECTION sec

/-- A slot fails its checks: CFG_PROMPT_STATUS names the check, and a refusal by admission is recorded as one (R191, R225,
R253). -/
def State.bookFail (s : State) (slot : Nat) (e : BookFault) : State :=
  let s := s.promptFault slot e.code e.sec
  match e.refusal with
  | none => s
  | some (f, cmax) => (s.put F.FRG_LAYOUT_CMAX cmax).admitRefuse f 0 7

/-- A book takes effect (R184, R191). -/
def State.promptTake (s : State) (k : Nat) (b : Book) : State :=
  let h := b.header
  let s := s.importBoxes (b.body 0xC) (b.has 0xC)
  let s := (s.put F.CFG_PROMPT_STATUS_SLOT k).put F.CFG_PROMPT_STATUS_IMPORTED 1
  let s := s.put (if k = 0 then F.CFG_PROMPT_STATUS_SLOT0_OK else F.CFG_PROMPT_STATUS_SLOT1_OK) 1
  let s := (s.put F.CFG_PROMPT_VERSION (leAt h 0x10 8)).put F.CFG_PROMPT_SEQ (leAt h 0xC 4)
  let s := s.showDigest F.CFG_PROMPT_DIGEST (some ((h.drop 0x30).take 32))
  let join := leAt h 0x1C 2
  let s : State := { s with sys := { s.sys with startPerf := leAt h 0x1B 1 = 3, joinMs := if join = 0 then 100 else join } }
  s.frgShow

/-- Phase PROMPT chooses, checks and imports a book (R176, R183): the answer is whether one passed. -/
def State.phasePrompt (s : State) (mute : Nat) : State × Bool :=
  let s := (s.put F.CFG_PROMPT_STATUS_SLOT0_OK 0).put F.CFG_PROMPT_STATUS_SLOT1_OK 0
  let s := s.promptFault 0 0 0
  let v0 := s.slotValid mute 0
  let v1 := s.slotValid mute 1
  let seq (k : Nat) : Nat := leAt (s.norBytes (slotBase k) 256) 0xC 4
  if !v0 ∧ !v1 then (s.promptFault 0 (slotFault mute 0) 0xFF, false)
  else
    let first := if v0 && (!v1 || decide (seq 1 ≤ seq 0)) then 0 else 1
    let other := 1 - first
    match s.bookChecks first with
    | .ok (b, s2) => (s2.promptTake first b, true)
    | .error e =>
      let s := s.bookFail first e
      if !(if other = 0 then v0 else v1) then (s, false) else
      let s := s.raise Ev.CFG_PROMPT_FALLBACK
      match s.bookChecks other with
      | .ok (b, s2) => (s2.promptTake other b, true)
      | .error e => (match e.refusal with | some (f, cmax) => (s.put F.FRG_LAYOUT_CMAX cmax).admitRefuse f 0 7 | none => s, false)

end Sys2Proof.Machine
end

