-- ==== Sys2Proof/Machine/Reset.lean ====
section
/-! DEFINITION. Resets and the phases of CALL: what each reset kind keeps (R78 to R81), and what each phase does (R64 to
R77). -/

namespace Sys2Proof.Machine

/-! ### Phases -/

/-- Shows the least phase not completed. -/
def State.phaseShow (s : State) : State :=
  s.put F.SYS_CALL_STATUS_PHASE (((List.range' 1 9).find? (fun p => !s.phaseDone p)).getD 9)

/-- A phase completes (R64, R84). -/
def State.phaseEnd (s : State) (p : Nat) : State :=
  let s : State := { s with sys := { s.sys with done := p :: s.sys.done } }
  (s.phaseShow).put F.SYS_CALL_TIME (min ((s.now - s.sys.t0) / 1000000) 0xFFFFFFFF)

/-- CALL stops in DARK with its cause: 6 NO_PLANE, 7 START_FAULT (R59, R72). -/
def State.goDark (s : State) (cause : Nat) : State :=
  (((s.put F.SYS_MODE_PREV s.mode).put F.SYS_MODE_CAUSE cause).put F.SYS_MODE_MODE 0).raise Ev.SYS_MODE_CHANGED

/-- Phase `p` may complete now: CALL runs, the phases named have completed and `p` has not. -/
def State.phaseMay (s : State) (p : Nat) (before : List Nat) : Bool :=
  s.mode = 1 && !s.sys.held && !s.sys.clkFail && before.all s.phaseDone && !s.phaseDone p

/-! ### Device resets (R78, R79) -/

/-- Registers that a cold or warm reset keeps: the PWR and AON blocks, the DRAM capture, CLK_REF, the straps of the banks and
the reset flags. -/
def keptRegister (a : Nat) : Bool :=
  (decide (0x20000 ≤ a) && decide (a < 0x30000) && !([F.PWR_STATUS, F.PWR_RET_STATUS].map Fld.addr).contains a) ||
  (decide (0x160000 ≤ a) && decide (a < 0x170000)) || decide (a = F.SYS_RESET_CAUSE.addr) || decide (a = F.CLK_REF.addr) ||
  (decide (0x70500 ≤ a) && decide (a < 0x70540)) ||
  [0, 1].any (fun c => [F.DMC_CAP_STATUS c, F.DMC_CAP_ADDR c, F.DMC_CAP_SYND c].any (fun f => decide (f.addr = a)))

/-- Registers that a power-on reset keeps: the straps, sampled again at its release. -/
def strapRegister (a : Nat) : Bool := decide (a = F.CLK_REF.addr) || (decide (0x70500 ≤ a) && decide (a < 0x70540))

/-- A ledger entry being written may be cut by the reset: nothing, a torn slot, or the whole entry stands in flash (R471). -/
def State.ldgCut (s : State) : State :=
  match s.ldg.queue, s.ldg.head with
  | r :: _, some (x, k) =>
    if k < 256 then
      let (v, s) := s.takeFree 3
      if v = 0 then s
      else if v = 1 then s.putSlot x k r.entry.value
      else s.putSlot x k r.entry.bytes
    else s
  | _, _ => s

/-- What flash, fuses and the ledger make of a reset that falls into their work (R471, R593, R598, R711). -/
def State.resetCuts (s : State) : State :=
  let (k, s) := s.takeFree 129
  let s := s.lcyCut k
  let (c, s) := s.takeFree 2
  let was := s.cfg.flc.isSome || s.cfg.stage.isSome || s.cfg.selecting.isSome
  let s := s.flashWarn (c = 1)
  let s := (s.stageAbort).ldgCut
  { s with cfg := { s.cfg with cutPulse := was && decide (c = 1) } }

/-- What a reset leaves of a sector's state: one refused only because the table was full is tried again (R596). -/
def State.sectorKept (s : State) (p : Nat × Sector) : Nat × Sector :=
  if p.2.state = 2 ∧ !p.2.factory ∧ !(s.cfg.grown.contains (p.1 / 65536 * 2 ^ 28 + p.1 % 65536)) then (p.1, { p.2 with state := 0 }) else p

/-- A device reset: `kind` 0 power-on, 1 cold, 2 warm. -/
def State.deviceReset (s0 : State) (kind : Nat) (held : Bool) : State :=
  let s := s0.resetCuts
  let warm : Bool := kind = 2
  let por : Bool := kind = 0
  let regs := s.regs.filter (fun c => if por then strapRegister c.1 else keptRegister c.1)
  let pll (p : Nat × Pll) : Nat × Pll := (p.1, ({ bands := p.2.bands, useCount := p.2.useCount } : Pll))
  let dmc (p : Nat × Dmc) : Nat × Dmc :=
    (p.1, if warm then ({ sets := p.2.sets, rating := p.2.rating, minPs := p.2.minPs, inSr := true, hist := p.2.hist } : Dmc)
          else ({ hist := p.2.hist } : Dmc))
  let reverted := s.flag F.CFG_STATUS_TRIAL || s.cfg.selDefer || s.cfg.recordDue
  let n : State := {
    pending := s.pending, now := s.now, freeIx := s.freeIx, stores := s.stores, dram := s.dram, flash := s.flash, nor := s.nor
    regs := regs, porAt := s.porAt, aonMarks := if por then [] else s.aonMarks
    banks := if por then [] else s.banks
    cue := if por then {} else { log := s.cue.log, logHead := s.cue.logHead, logTotal := s.cue.logTotal }
    clk := { pll := if por then [] else s.clk.pll.map pll, refSel := s.clk.refSel }
    sys := { held, por, earlyWarning := s.sys.earlyWarning, warm, t0 := s.now, done := if warm then [1, 2] else [] }
    dmc := if por then [] else s.dmc.map dmc
    dmcMap := s.dmcMap, rstIn := s.rstIn
    cfg := { planeA := s.cfg.planeA, planeB := s.cfg.planeB, selVal := s.cfg.selVal, selNot := s.cfg.selNot, reverted
             sectors := s.cfg.sectors.map s.sectorKept, grown := s.cfg.grown, cutPulse := s.cfg.cutPulse }
    lcy := { value := s.lcy.value, compl := s.lcy.compl, tokVal := s.lcy.tokVal, tokNot := s.lcy.tokNot, trim := s.lcy.trim, trimNot := s.lcy.trimNot, keys := s.lcy.keys
             pubs := s.lcy.pubs, keyBad := if warm then s.lcy.keyBad else 0, wipeVal := s.lcy.wipeVal, wipeNot := s.lcy.wipeNot, failedAt := s.lcy.failedAt } }
  let n := if warm then n else n.store .dramLost
  let n := if por then n else
    let n := n.put F.SYS_CALL_CTRL_STOP_BEFORE_ARM (s0.get F.SYS_CALL_CTRL_STOP_BEFORE_ARM)
    (n.put (F.DMC_CFG_MAP 0) (s0.get (F.DMC_CFG_MAP 0))).put (F.DMC_CFG_CALL_RATE 0) (s0.get (F.DMC_CFG_CALL_RATE 0))
  let n := n.put F.LCY_STATUS_HOLDUP (s0.get F.LCY_STATUS_HOLDUP)
  n.put F.LCY_STATUS_EARLY_WARNING (s0.get F.LCY_STATUS_EARLY_WARNING)

/-- CALL starts (R59, R531): from TRIM, or from SELECT after a warm reset. R82 has no CAUSE of its own for the way from DARK to
CALL, nor for a reset by request, watchdog or life cycle: all show PIN_RESET (DESIGN CHOICE, log entry 98). -/
def State.callStart (s : State) : State :=
  let s : State := { s with sys := { s.sys with t0 := s.now, held := false, por := false } }
  let (tag, s) := s.takeFree (2 ^ 32)
  let s := ((s.put F.IZX_BOOT_TAG tag).put F.SYS_MODE_MODE 1).put F.SYS_MODE_CAUSE 8
  (s.phaseShow).raise Ev.SYS_MODE_CHANGED

/-- What phase TRIM shows of nonvolatile state (R594, R596, R727), and a warm reset again. -/
def State.keptShow (s : State) : State :=
  let s := (s.put F.CLK_STATUS_REF_OK 1).put F.CLK_STATUS_MAIN_RC_OK 1
  let s := (s.put F.CFG_CYCLES_A (min s.cfg.planeA.erases 0xFFFF)).put F.CFG_CYCLES_B (min s.cfg.planeB.erases 0xFFFF)
  (s.put F.FLC_BAD_GROWN s.cfg.grown.length).keysShow

/-- A warm reset goes on at SELECT with the life cycle decoded and the PLLs started. -/
def State.warmStart (s : State) : State := ((s.callStart.keptShow).lcyShow).clocksBegin

/-- A cold reset by request, watchdog or life cycle, with its flag. -/
def State.coldReset (s : State) (cause : Fld) : State := ((s.deviceReset 1 false).setFlags cause 1).callStart

def State.warmReset (s : State) : State := ((s.deviceReset 2 false).setFlags F.SYS_RESET_CAUSE_WARM 1).warmStart

/-- SYS_RST_N low, or a rail below its trip point: the device is held in DARK. -/
def State.pinReset (s : State) : State :=
  if s.sys.held then s.setFlags F.SYS_RESET_CAUSE_PIN 1 else (s.deviceReset 1 true).setFlags F.SYS_RESET_CAUSE_PIN 1

def State.brownOut (s : State) (aonKept : Bool) : State :=
  let s := (s.deviceReset 0 true).put F.SYS_RESET_CAUSE 0 |>.setFlags F.SYS_RESET_CAUSE_POWER_ON 1
  if aonKept then s.setFlags F.SYS_RESET_CAUSE_BROWN_OUT 1 else s

/-- Reset is released (R747): straps, bank supplies and LCY_HOLDUP as they stand; the strap of a bank whose supply is out of
range reads 0 (R752). -/
def State.powerOn (s : State) (refSel : Nat) (banks : List (Nat × Nat)) (holdup : Bool) : State :=
  if !s.sys.held then s else
  let s := if s.sys.por then
      let s : State := { s with porAt := s.now, clk := { s.clk with refSel := refSel % 8 } }
      let s := (s.put F.CLK_REF_SEL refSel).put F.CLK_REF_FREQ (refFreq (refSel % 8))
      (List.range 16).foldl (fun s b =>
        let x := (banks[b]?).getD (0, 0)
        s.put (F.GPIO_BANK_STRAP b) (if [0, 6, 7].contains (x.2 % 8) then 0 else x.1)) s
    else s
  let s := (List.range 16).foldl (fun s b =>
    let v := ((banks[b]?).getD (0, 0)).2 % 8
    s.put (F.GPIO_BANK_VCCIO b) (if v = 6 then 7 else v)) s
  (s.put F.LCY_STATUS_HOLDUP (bit holdup)).callStart

/-! ### Phases TRIM to CLOCKS -/

/-- A trim word has lost a bit. -/
def State.trimDamage (s : State) (bad : Bool) : State :=
  { s with lcy := { s.lcy with trimNot := if bad then s.lcy.trimNot ^^^ 1 else s.lcy.trimNot } }

/-- The trim words agree with their complements (R22). -/
def State.trimSound (s : State) : Bool := s.lcy.trim + s.lcy.trimNot = 0xFFFFFFFF

/-- Phase TRIM (R64, R72, R596, R637, R716): `fault` a trim word has lost a bit, `keyBad` the keys whose CRC fails, `tableBad` a
bad-sector entry whose halves disagree, `ext` an external clock on REF. -/
def State.phaseTrim (s : State) (fault : Bool) (keyBad : Nat) (tableBad ext : Bool) : State :=
  if !(s.phaseMay 1 []) then s else
  let s := s.trimDamage fault
  if !s.trimSound then (s.raise Ev.SYS_TRIM_FAULT).goDark 7
  else
    let s := ((s.put F.CLK_REF_EXT (bit ext)).keptShow).keysCheck keyBad
    let s := if tableBad then ({ s with cfg := { s.cfg with tableFault := true } } : State).raise Ev.FLC_TABLE_FAULT else s
    let s := if s.cfg.cutPulse then ({ s with cfg := { s.cfg with cutPulse := false } } : State).raise Ev.FLC_INTERRUPTED else s
    let s := if s.wipeDue then s.put F.LCY_STATUS_WIPE_PENDING 1 else s
    (s.clocksBegin).phaseEnd 1

/-- Phase LIFE (R706, R714): LIMBO and SCRAP stop in DARK; a part in SCRAP whose wipe has emptied its planes ends with
NO_PLANE. -/
def State.phaseLifeEnd (s : State) : State :=
  if !(s.phaseMay 2 [1]) then s else
  let (s, ok) := s.phaseLife
  if ok ∧ s.lcyState ≠ 6 then s.phaseEnd 2 else s.goDark 7

/-- Phase SELECT (R570, R72). -/
def State.phaseSelectEnd (s : State) : State :=
  if !(s.phaseMay 3 [1, 2]) then s else
  let (s, ok) := s.phaseSelect
  if ok then s.phaseEnd 3 else s.goDark 7

/-- Phase CLOCKS (R64, R70, R73, R645, R661): PLL_0 to PLL_3 have locked, every domain is on and the links are enabled. -/
def State.phaseClocks (s : State) : State :=
  if !((s.mode = 0 || s.mode = 1) && !s.sys.held && s.phaseDone 1 && !s.phaseDone 4 &&
       [0, 1, 2, 3].all (fun k => (s.get F.CLK_STATUS_LOCKED).testBit k)) then s
  else ((s.put F.PWR_STATUS_ON 0xFFFFF).phaseEnd 4).linksTrain

/-- A PLL has not locked within its bound (R645): CALL stays in its phase. -/
def State.clkLockFail (s : State) (k : Nat) : State :=
  let st := s.get (F.CLK_PLL_STATUS_STATE k)
  if s.mode = 1 ∧ (st = 1 ∨ st = 2) ∧ k ≤ 5 ∧ !s.phaseDone 6 ∧ (s.pll k).since + 300000000 ≤ s.now then
    (({ s with sys := { s.sys with clkFail := true } } : State).put (F.CLK_PLL_STATUS_STATE k) 4).raise Ev.CLK_LOCK_FAIL k
  else s

/-! ### Phases PLANE to PROMPT -/

/-- Phase PLANE (R64, R543, R570). R59 names no CAUSE for DARK after CFG_REFUSED: it shows NO_PLANE, as the other failure of the
phase does (DESIGN CHOICE, log entry 98). -/
def State.phasePlaneEnd (s : State) (valid : Bool) (drivers : Option Contend) (trees : List Nat) : State :=
  if !(s.phaseMay 5 [3, 4]) then s else
  let (s', ok) := s.phasePlane valid drivers trees
  if ok then (s'.phaseEnd 5).fabStart (planeBase (s'.get F.CFG_STATUS_ACTIVE)) else s'.goDark 6

/-- Phase DRAM (R610, R622, R77): both controllers train, or CALL stays. -/
def State.phaseDram (s : State) (m0 m1 : Dimm) : State :=
  if !(s.phaseMay 6 [4]) ∨ s.sys.dramFail then s else
  let s := s.dramTrain m0 m1
  if s.flag F.SYS_CALL_STATUS_DRAM_OK_0 ∧ s.flag F.SYS_CALL_STATUS_DRAM_OK_1 then s.phaseEnd 6
  else { s with sys := { s.sys with dramFail := true } }

/-- Phase PROMPT (R76, R183): `mute` names the slots at which the NOR does not answer. -/
def State.phasePromptEnd (s : State) (mute : Nat) : State :=
  if !(s.phaseMay 7 [5, 6]) ∨ s.flag F.SYS_CALL_STATUS_PROMPT_BAD then s else
  let (s, ok) := s.phasePrompt mute
  if ok then ({ s with sys := { s.sys with promptAt := s.now } } : State).phaseEnd 7
  else (s.put F.SYS_CALL_STATUS_PROMPT_BAD 1).raise Ev.CFG_PROMPT_BAD

/-- RETRY_PROMPT (R76). -/
def State.retryPrompt (s : State) : State :=
  if s.mode = 1 ∧ s.flag F.SYS_CALL_STATUS_PROMPT_BAD then s.put F.SYS_CALL_STATUS_PROMPT_BAD 0 else s

/-! ### Phases JOIN and ARM -/

/-- Recovery and lane training begin (R64, R172, R174, R346); `reseal`: after a reseal of the ledger. -/
def State.armStart (s : State) (reseal : Bool) : State :=
  let s := s.put F.SYS_CALL_STATUS_WAITING 0
  let s := (List.range 16).foldl (fun s n => s.recover n reseal) s
  ({ s with sys := { s.sys with armStarted := true } } : State).lanesTrain

/-- JOIN is complete when the company and the duplex role are settled; CALL then stops at ARM, or goes on (R68, R472). -/
def State.joinTry (s : State) : State :=
  if s.mode = 1 ∧ s.phaseDone 7 ∧ !s.phaseDone 8 ∧ s.ldg.scanned ∧ s.sys.companyDone ∧ s.sys.roleDone then
    let s := s.phaseEnd 8
    if s.flag F.SYS_CALL_CTRL_STOP_BEFORE_ARM ∨ s.flag F.LDG_STATUS_LOG_FAULT then s.put F.SYS_CALL_STATUS_WAITING 1
    else s.armStart s.ldg.resealed
  else s

/-- CONTINUE from WAITING (R68, R472). -/
def State.callContinue (s : State) : State :=
  if s.flag F.SYS_CALL_STATUS_WAITING ∧ !s.flag F.LDG_STATUS_LOG_FAULT then s.armStart s.ldg.resealed else s

/-- The company side of JOIN ends (R67, R478). -/
def State.companyTry (s : State) : State :=
  if s.phaseDone 7 ∧ s.ldg.scanned ∧ !s.sys.companyDone ∧ s.flag F.CMP_STATUS_JOINED ∧ s.timeSettled then
    ({ s with sys := { s.sys with companyDone := true } } : State).joinTry
  else s

/-- The duplex role is settled (R448). -/
def State.roleSettle (s : State) (r : Nat) : State :=
  let s := ({ s with sys := { s.sys with roleDone := true } } : State).setRole r
  ((s.put F.SYS_CALL_STATUS_SOLO (bit (r = 3))).earlySettle).joinTry

/-- The series that the prompt book defines draw what they need (R275, R492). -/
def State.seriesAll (s : State) : State :=
  (List.range 256).foldl (fun s i => if (s.sdef i).defined then s.seriesTop i else s) s

/-- Phase JOIN begins (R469, R470, R477): `aonBad` names tracks whose AON record has lost a bit. A company of one is
its own keeper and joined at once. -/
def State.phaseJoin (s : State) (aonBad : Nat) : State :=
  if !(s.phaseMay 8 [7]) ∨ s.ldg.scanned then s else
  let s := ((s.aonDamage aonBad).ldgScan).leasesResume
  let s := match s.ldg.live.find? (fun e => match e with | .epoch _ _ => true | _ => false) with
    | some (.epoch p _) => s.put F.CMP_EPOCH p
    | _ => s
  let s := if s.sole then
      let s : State := { s with cmp := { s.cmp with keeper := true } }
      let s := ((s.put F.CMP_STATUS_KEEPER 1).put F.CMP_KEEPER_KEEPER s.seat).put F.CMP_KEEPER_PRESENT 1
      ((s.put (F.CMP_CAST 0) 1).put F.CMP_STATUS_QUORUM 1).joined
    else s
  let s := s.seriesAll
  let s : State := { s with dpx := { s.dpx with helloFrom := s.now }, cmp := { s.cmp with castAt := some s.now } }
  let s : State := if s.dpx.configured then s else { s with sys := { s.sys with roleDone := true } }
  (s.companyTry).joinTry

/-- The join timeout (R67, R478). -/
def State.joinLate (s : State) : State :=
  if s.mode = 1 ∧ s.phaseDone 7 ∧ !s.phaseDone 8 ∧ s.ldg.scanned ∧ !s.sys.companyDone then
    let s := (s.put F.SYS_CALL_STATUS_JOIN_LATE 1).raise Ev.CMP_JOIN_LATE
    ({ s with sys := { s.sys with companyDone := true } } : State).joinTry
  else s

/-- No HELLO within 10 ms of t6 (R448). -/
def State.roleTimeout (s : State) : State :=
  if s.mode = 1 ∧ s.phaseDone 7 ∧ !s.phaseDone 8 ∧ s.ldg.scanned ∧ s.dpx.configured ∧ !s.sys.roleDone then s.roleSettle 3 else s

/-- A lane that HEADS names still trains. -/
def State.lanesBusy (s : State) : Bool :=
  (List.range 32).any (fun k => s.laneNamed k && [1, 2, 3].contains (s.laneState k))

/-- Every FIRED_MARK entry requested has been written. -/
def State.marksWritten (s : State) : Bool := (List.range 16).all (fun n => s.marksOut n = 0)

/-- Phase ARM fails, and stays so (R64, R347). -/
def State.armFails (s : State) : State :=
  ({ s with sys := { s.sys with armFail := true } } : State).raise Ev.STG_TRAIN_FAIL

/-- Phase ARM completes (R64, R125, R174, R347), in CALL or in a print-path reset: the mode changes, or a head without a lane
stops it. -/
def State.phaseArm (s : State) : State :=
  if s.lanesBusy ∨ !s.marksWritten ∨ s.sys.held ∨ s.sys.armFail then s
  else if s.sys.printReset then
    let (s, ok) := s.headsPlace
    if !ok then s.armFails else
    ((s.pathEnds).tracksArm).setMode 2 0xA
  else if s.mode = 1 ∧ s.sys.armStarted ∧ !s.phaseDone 9 then
    let (s, ok) := s.headsPlace
    if !ok then s.armFails else
    let s := (s.tracksArm).phaseEnd 9
    let s := s.put F.SYS_CALL_STATUS_DONE 1
    if s.role = 2 then s.understudyEnter 0
    else s.setMode (if s.sys.startPerf then 3 else 2) 0
  else s

/-! ### Print-path reset (R79, R80) -/

/-- Counters, results and records of the print path that the reset returns to their reset values (R80); its settings, and what
the prompt book set, stand (R240, R301, R333, R410; log entry 28). -/
def printRegs : List Fld :=
  [F.FRG_STATUS, F.FRG_CACHE_HITS, F.FRG_CACHE_MISSES, F.FRG_REFUSE, F.FRG_VD_STATUS, F.FRG_DL_STATUS, F.FRG_DL_REC 0,
    F.FRG_DL_REC 1, F.FRG_DL_REC 2, F.FRG_DL_REC 3, F.NZC_CORRECTED, F.NZC_RESULT, F.STG_OP_RESULT, F.DPX_CO_LAST, F.DPX_CO_TIME,
    F.DPX_CO_COUNT, F.DPX_COMMIT, F.DPX_RETRY] ++
  (List.range 8).map F.FRG_TAP_GAPS ++
  (List.range 16).flatMap (fun n => [F.TRK_JUMP n, F.TRK_CUE_POS n, F.WQ_STARVED n, F.NZC_TAIL_LOST n, F.NZC_SWAP_POS n,
    F.INS_TRK_PASS n, F.INS_TRK_REJECT n, F.INS_TRK_MISSING n, F.INS_TRK_UNMATCHED n, F.FRG_DL_COUNT n, F.FRG_DL_LAST n,
    F.FRG_DL_SLACK n]) ++
  (List.range 32).flatMap (fun g => [F.INS_GATE_PULSES g, F.INS_GATE_CANCELLED g]) ++
  (List.range 256).flatMap (fun h => [F.STG_HEAD_LAG h, F.STG_HEAD_FENCE h])

/-- A register at its reset value. -/
def State.toReset (s : State) (f : Fld) : State :=
  if s.regAt f.addr f.rst = f.rst then s else s.setRegAt f.addr f.rst f.rst

/-- The blocks of the print path at a print-path reset. -/
def State.printClear (s : State) : State :=
  let s := s.layoutAbort
  let s := if s.nzc.swap.isSome then (s.nzExchange).nzEnd 0 0xFFFFF else s.nzAbort
  let s := (List.range 16).foldl (fun s n => s.commitsEnd n) s
  let s := (List.range 16).foldl (fun s b => s.retriesFail b) s
  let s := (printRegs.foldl State.toReset s).put F.NZC_STATUS_ENGINE_BUSY 0
  let s := (List.range 16).foldl (fun s n => (s.gatesCancel n).trkDisarm n) s
  let s : State := { s with
    frg := { s.frg with lines := [], log := [], pipeErr := 0 }, nzc := { s.nzc with delay := [] }, ins := { s.ins with gates := [] }
    dpx := { s.dpx with
      commits := [], applying := [], switch := none, taking := none, serving := [], lastCo := none, missed := [], keys := []
      faults := 0, nakSeq := 0 }
    boxes := s.boxes.map (fun (p : Nat × Box) => (p.1, { p.2 with slots := [] })) }
  ((List.range 16).foldl (fun s n => ((s.trkApply n).insApply n).tapApply n) s).frgShow

/-- A print-path reset (R80): phase ARM then runs. A pending R60 transition ends CANCELLED, and a second print-path reset starts
phase ARM again: the spec states neither (DESIGN CHOICE, log entry 90). `aonBad` as in phase JOIN. -/
def State.printPathReset (s : State) (aonBad : Nat) : State :=
  if !(s.mode = 2 ∨ s.mode = 7) then s.raise Ev.SYS_RESET_FAULT else
  let s := (List.range 16).foldl (fun s n => s.markRequest n 2) s
  let s := (s.setFlags F.SYS_RESET_CAUSE_PRINT_PATH 1).transitionDrop
  let s := (s.put F.SYS_MODE_BUSY 1).printClear
  let s := s.put F.PWR_RET_STATUS_HELD (s.get F.PWR_RET_STATUS_HELD &&& (255 - 4))
  let s : State := { s with sys := { s.sys with printReset := true, armStarted := false, armFail := false } }
  ((s.fabSettle.aonDamage aonBad).lanesReset).armStart false

/-- SYS_RESET_REQ of a KIND (R80, R87): a print-path reset is refused outside REHEARSAL and SERVICE; the reset begins 1 µs
later. -/
def State.resetReq (s : State) (kind : Nat) : State :=
  if kind = 0 ∨ 3 < kind then s
  else if kind = 1 ∧ !(s.mode = 2 ∨ s.mode = 7) then s.raise Ev.SYS_RESET_FAULT
  else { s with sys := { s.sys with reset := some (kind, s.now + 1000000) } }

/-- The reset requested of a KIND is due. -/
def State.resetDue (s : State) (kind : Nat) : Bool :=
  match s.sys.reset with
  | some (k, at_) => decide (k = kind) && decide (at_ ≤ s.now)
  | none => false

/-- Takes the request off. -/
def State.resetTaken (s : State) : State := { s with sys := { s.sys with reset := none } }

end Sys2Proof.Machine
end

