-- ==== Sys2Proof/Machine/Writes.lean ====
section
/-! DEFINITION. What writes of particular registers do: staged track settings and the work of a curtain window, changes that
are checked for admission, and the guarded operations of the blocks. -/

namespace Sys2Proof.Machine

/-! ### Curtain windows (R123) -/

/-- The work that waits for the curtain window of track `n`: its staged settings (R123), inspection settings (R408), taps
(R234), the rules of a pending mode (R60), a curtain swap of the nozzle map (R328) and heads that return (R370). A track
whose ENABLE is applied as 0 is disarmed (R124). -/
def State.curtainWork (s : State) (n : Nat) : State :=
  let shows : Bool := (s.track n).cfgPending || s.tapsPend n
  let s := if (s.track n).cfgPending then s.trkApply n else s
  let s := if (s.track n).armed ∧ s.act (F.TRK_CTRL_ENABLE n) = 0 then s.trkDisarm n else s
  let s := (s.insApply n).tapApply n
  let s := (if shows then s.frgShow else s).trackSwitch n
  let s := match s.nzc.swap with
    | some w => if w.curtain ∧ !(w.switched.testBit n) then s.nzSwitch n else s
    | none => s
  (s.lanesReturn n).modeTry

/-- A curtain window of track `n`. -/
def State.curtain (s : State) (n : Nat) : State := if s.inCurtain n then s.curtainWork n else s

/-- A write of a staged register of track `n` (R123, R188): an idle track applies the set at once. -/
def State.stageWrite (s : State) (n : Nat) (write : State → State) : State :=
  let s := write s
  (s.setTrack n { s.track n with cfgPending := true }).curtain n

/-- A write of TRK_SCHED_n (R222, R225, R239): held while a layout operation runs; otherwise checked when it lowers
MIN_SPACING or changes COMPOSE_AHEAD, and then staged. -/
def State.schedWrite (s : State) (n v : Nat) : State :=
  let f := F.TRK_SCHED n
  let write (s : State) : State := s.setRegAt f.addr f.rst v
  let check : Bool := bits v 11 0 < s.get (F.TRK_SCHED_MIN_SPACING n) ∨ bits v 31 20 ≠ s.get (F.TRK_SCHED_COMPOSE_AHEAD n)
  if s.frg.op.isSome then { s with frg := { s.frg with heldSched := s.frg.heldSched ++ [(n, v)] } }
  else if !check then s.stageWrite n write
  else match s.admitCheck (write s) with
    | none => (s.stageWrite n write).frgShow
    | some c => s.admitRefuse c n 2

/-! ### Forge registers (R225, R243, R245, R251, R254) -/

/-- A write that makes no load larger takes effect; another is checked. -/
def State.loadWrite (s : State) (write : State → State) (less : Bool) (source : Nat) : State :=
  if less then (write s).frgShow else s.admitChange write 0 source

/-- FRG_BUDGET. -/
def State.budgetWrite (s : State) (v : Nat) : State :=
  let f := F.FRG_BUDGET
  let less : Bool := s.get F.FRG_BUDGET_UTIL ≤ bits v 31 24 ∧ s.get F.FRG_BUDGET_DRAM_SHARE ≤ bits v 23 18 ∧
    bits v 15 8 ≤ s.get F.FRG_BUDGET_DOWNSTREAM
  s.loadWrite (fun s => s.setRegAt f.addr f.rst v) less 3

/-- FRG_CTRL: only a write that lowers PIPE_EN is checked. -/
def State.frgCtrlWrite (s : State) (v : Nat) : State :=
  let f := F.FRG_CTRL
  s.loadWrite (fun s => s.setRegAt f.addr f.rst v) (decide (popCount (s.get F.FRG_CTRL_PIPE_EN) 8 ≤ popCount v 8)) 4

/-- FRG_CACHE_CFG: only a write that lowers PIN_WAYS is checked. -/
def State.cacheWrite (s : State) (v : Nat) : State :=
  let f := F.FRG_CACHE_CFG
  s.loadWrite (fun s => s.setRegAt f.addr f.rst v) (decide (s.get F.FRG_CACHE_CFG_PIN_WAYS ≤ bits v 3 0)) 5

/-- FRG_TAP_CTRL_k: checked, then in force for each track at its curtain window; a track in one takes it at once. -/
def State.tapWrite (s : State) (k v : Nat) : State :=
  let f := F.FRG_TAP_CTRL k
  let serves (v n : Nat) : Bool := v.testBit 0 && v.testBit (16 + n)
  let less : Bool := (List.range 16).all (fun n => !(serves v n) || serves (s.get f) n)
  let s := s.loadWrite (fun s => s.setRegAt f.addr f.rst v) less 6
  ((List.range 16).foldl (fun s n => if s.inCurtain n then s.tapApply n else s) s).frgShow

/-! ### Guarded operations of the print path -/

/-- FRG_LAYOUT_OP (R227, R248). -/
def State.layoutOp (s : State) (v : Nat) : State := s.layoutWrite (bits v 21 20) (bits v 19 16) (bits v 15 0) none

/-- WQ_FLUSH_n (R158, R165, R189): on a lead a flush completes when the understudy has acknowledged it (R428). -/
def State.flushWrite (s : State) (n scope : Nat) : State :=
  if scope = 0 then s
  else if scope = 3 then s.holdEnd n
  else
    let spared := ((s.queue n).items.filter Item.committing).map Item.id
    if s.mirrors then s.dpxCommit 0x08 n (.flush n scope spared) (leBytes 1 n ++ leBytes 1 scope ++ leBytes 6 0)
    else s.flushNow n scope spared

/-- A lead names the first line of each track that has still to leave the forge as the first line on the new page (R330). -/
def State.swapNamed (s : State) : State :=
  let names := (List.range 16).filterMap (fun n => (s.firstToLeave n).map (fun p => (n, p)))
  { s with nzc := { s.nzc with swap := s.nzc.swap.map (fun w => if w.curtain then w else { w with named := names }) } }

/-- The lines named, as a CONFIG frame carries them: a mask of tracks, and their fire positions (log entry 34). -/
def State.namedBytes (s : State) : List Byte :=
  let l := match s.nzc.swap with | some w => w.named | none => []
  leBytes 8 (l.foldl (fun m x => m + 2 ^ x.1) 0) ++ l.flatMap (fun x => leBytes 8 x.2.toNat)

/-- The CONFIG frames of a nozzle operation (R330, R427): a LOAD brings its data with it, a swap the lines named. -/
def State.nzMirror (s : State) (op : Nat) : State :=
  let s := s.swapNamed
  let kind := s.get F.NZC_LOAD_CFG_KIND
  let n := s.get F.NZC_LOAD_COUNT_COUNT * (if kind = 1 then 8 else 4)
  let s := if op = 2 then s.dpxDram (s.get F.NZC_LOAD_ADDR_ADDR) n else s
  let s : State := { s with nzc := { s.nzc with op := s.nzc.op.map (fun o => { o with waiting := true }) } }
  s.dpxCommit 0x07 0 .nozzle (leBytes 1 2 ++ leBytes 7 0 ++ leBytes 4 op ++ leBytes 8 (s.get F.NZC_LOAD_ADDR_ADDR) ++
    leBytes 4 (s.get F.NZC_LOAD_CFG) ++ leBytes 4 (s.get F.NZC_LOAD_COUNT) ++ leBytes 4 (s.get F.NZC_LOAD_CRC) ++
    (if op = 4 then s.namedBytes else []))

/-- NZC_OP (R325, R337); on a lead an operation that runs is mirrored. -/
def State.nzOp (s : State) (op : Nat) : State :=
  let s' := if 1 ≤ op ∧ op ≤ 3 then s.nzStart op none else if op = 4 ∨ op = 5 then s.nzSwap (op = 5) none else s
  if s.nzc.op.isNone ∧ s'.nzc.op.isSome ∧ s'.mirrors then s'.nzMirror op else s'

/-- NZC_PATCH_ENTRY (R326, R330). -/
def State.nzPatchWrite (s : State) (v : Nat) : State :=
  let i := s.get F.NZC_PATCH_INDEX_INDEX
  let stored : Bool := s.patchCode v false = 0
  let s := s.nzPatch v false
  if stored ∧ s.mirrors then
    s.dpxCommit 0x07 0 (.patch i v) (leBytes 1 2 ++ leBytes 7 0 ++ leBytes 4 6 ++ leBytes 4 i ++ leBytes 4 v)
  else s

/-- STG_LANE_OP (R346, R370, R376, R377). -/
def State.laneOp (s : State) (k op : Nat) : State :=
  let m := s.mode
  if op = 0 then s
  else if !(s.laneNamed k) then s.put F.STG_OP_RESULT_CODE 1
  else if m = 0 ∨ m = 5 ∨ (m = 1 ∧ !s.sys.armStarted) then s.put F.STG_OP_RESULT_CODE 2
  else
    let s := s.put F.STG_OP_RESULT_CODE 0
    let x := s.lane k
    if op = 1 then
      if s.laneState k = 5 ∨ s.laneState k = 6 then (s.setLane k { x with takenDown := false }).laneTrain k else s
    else if op = 2 then
      let s := s.setLane k { x with takenDown := true }
      if s.laneUp k then s.laneDown k 0xB else s.setLaneState k 5 0xB
    else
      let s := s.setLane k { x with mayReturn := true }
      s.lanesReturnNow

/-- FRG_DL_POP (R412). -/
def State.dlPopWrite (s : State) (v : Nat) : State := if v.testBit 0 then s.dlPop else s

/-! ### Duplex, ledger and company -/

/-- DPX_CO_REQ (R441, R458): HAND_OVER on a lead is trigger 5; TAKE on an understudy asks its lead. -/
def State.coReq (s : State) (op : Nat) : State :=
  if op = 1 ∧ s.role = 1 then s.coTrigger 5
  else if op = 2 ∧ s.role = 2 ∧ s.coEnabled 5 then
    let s := s.dpxSend 0x0D (leBytes 1 5 ++ leBytes 1 2 ++ leBytes 6 0)
    { s with dpx := { s.dpx with taking := some s.now } }
  else s

/-- LDG_RESEAL (R472, R501): own leases are abandoned and a RESEAL entry is journaled. -/
def State.reseal (s : State) (key : Nat) : State :=
  if key ≠ 0x5EA1 ∨ !(s.flag F.LDG_STATUS_LOG_FAULT) ∨ s.ldg.resealing then s else
  let own := s.leases.filter (fun l => !l.partner ∧ (l.state = 1 ∨ l.state = 2))
  let s := own.foldl (fun s l => (s.leaseState l 4).raise Ev.LDG_LEASE_ABANDONED) s
  ({ s with ldg := { s.ldg with resealing := true } } : State).ldgRequest (.reseal own.length) .resealDone

/-- CMP_TIME_OP (R485, R504): 1 SET, 2 STEP, on the keeper only. -/
def State.timeOp (s : State) (op : Nat) : State :=
  if op = 0 ∨ op = 3 then s
  else if !s.cmp.keeper then s.raise Ev.CMP_TIME_REFUSED
  else
    let v := s.get F.CMP_TIME_SET * 1000
    if op = 1 then
      if s.house.set then s.houseSlew ((v : Int) - s.house.at s.now) else s.houseStep v
    else
      let s := (s.houseStep v).raise Ev.CMP_TIME_STEP
      { s with cmp := { s.cmp with steppedUntil := s.now + 1000000000000 } }

/-! ### Izrex ports and boxes -/

/-- IZX_PORT_OP (R508, R533). -/
def State.portOp (s : State) (p op : Nat) : State :=
  if !(s.phaseDone 4) then s
  else if op = 1 then
    let st := s.get (F.IZX_PORT_STATUS_STATE p)
    let s := s.setPort p { s.port p with takenDown := false }
    if st = 4 then (s.portDown p 0).portTrain p else s.portTrain p
  else if op = 2 then
    let s := (List.range 4).foldl (fun s k => s.linkTo (6 + 4 * p + k) 5) s
    (s.setPort p { s.port p with takenDown := true }).portDown p 0xB
  else s

/-- A box closes when no command of it runs; it executes nothing new until then (R512). -/
def State.boxEnd (s : State) (b : Nat) (on : Option Nat) : State :=
  let x := s.box b
  if !x.isOpen then s else
  (s.setBox b { x with closing := true, closeOn := match on with | some p => some p | none => x.closeOn }).boxSend b

/-- IZX_BOX_OP CLOSE (R512, R533). -/
def State.boxOp (s : State) (b op : Nat) : State := if op = 1 ∧ b < 15 then s.boxEnd b none else s

end Sys2Proof.Machine
end

