-- ==== Sys2Proof/Machine/RegBus.lean ====
section
/-! DEFINITION. The register bus: reads and writes of every register with their access codes (R10 to R21, R767), the values
that registers show live, and the effects of a write (the register sections of spec/02 to spec/20). -/

namespace Sys2Proof.Machine

/-- A number for each master, as the key of its latches. -/
def Master.code : Master → Nat
  | .prompter => 16
  | .fabric => 17
  | .box b => b

/-! ### Values shown live -/

/-- The rate that TRK_VEL_n shows, in edges/s to the nearest (R105, R132; log entry 44). -/
def State.velNow (s : State) (n : Nat) : Nat :=
  if (s.track n).st = .acquire then 0 else (s.rateAt n s.now + hertz / 2) / hertz

/-- The code of a synthesiser state (R128). -/
def Synth.code : Synth → Nat
  | .acquire => 0
  | .locked => 1
  | .coast => 2
  | .rejoin => 3

/-- TRK_STATUS_n (R128). -/
def State.trkStatus (s : State) (n : Nat) : Nat :=
  let x := s.track n
  (if x.st = .acquire then 0 else x.mult % 32) * 2 ^ 27 + x.lossCause % 4 * 2 ^ 12 + bit x.cfgPending * 2 ^ 11 +
    bit x.overspeed * 2 ^ 10 + bit x.reverse * 2 ^ 9 + bit (s.rehearsing n) * 2 ^ 8 + bit x.lockedOnce * 2 ^ 7 +
    bit x.armed * 2 ^ 6 + bit x.back * 2 ^ 5 + x.st.code

/-- The oldest unread deadline record as 16 bytes (R396, R412). -/
def FaultRec.bytes (r : FaultRec) : List Byte :=
  leBytes 8 r.item ++ leBytes 3 r.index ++ leBytes 1 r.flags ++ leBytes 1 r.cause ++ leBytes 1 r.head ++ leBytes 2 0

/-- A log record as 16 bytes (R524, R737). -/
def EvRec.bytes (r : EvRec) : List Byte := leBytes 2 r.source ++ leBytes 2 0 ++ leBytes 4 r.count ++ leBytes 8 r.time

/-- CUE_SUMMARY_w (R743). -/
def State.cueSummary (s : State) (w : Nat) : Nat :=
  (List.range 32).foldl (fun a b => a + bit (s.pendingSource (32 * w + b)) * 2 ^ b) 0

/-- The mean of the last link delays of a ring port (R482). -/
def Marks.delay (m : Marks) : Nat := if m.delays = [] then 0 else m.delays.foldl (· + ·) 0 / m.delays.length

/-- The value that a register shows, for those that the device computes when they are read; none for one that is stored. -/
def State.live (s : State) (id : RegId) (i j : Nat) : Option Nat :=
  match id with
  | .SYS_ID => some (0x84000000 + Config.sysIdLow)
  | .SYS_DEVICE_ID => some (Config.deviceId % 2 ^ 64)
  | .TRK_STATUS => some (s.trkStatus i)
  | .TRK_POS => some (s.psAt i s.now).toNat
  | .TRK_HWM => some ((s.settle i s.now).track i).h.toNat
  | .TRK_VEL => some (s.velNow i)
  | .CMP_TIME => some (if s.house.set then s.houseNs % 2 ^ 64 else 0)
  | .CMP_TIME_BOUND => some s.timeBound
  | .CMP_LINK => some ((s.marks 0).delay % 2 ^ 16 + (s.marks 1).delay % 2 ^ 16 * 2 ^ 16)
  | .CMP_HOPS => some ((s.marks 0).hops % 2 ^ 10 + (s.marks 1).hops % 2 ^ 10 * 2 ^ 16)
  | .CMP_STATUS =>
    let v := s.get F.CMP_STATUS
    some (if s.house.slewLeft s.now = 0 then clearBits v 4 else v)
  | .DMC_REFRESH =>
    some ((s.ctl i).debtAt s.now % 16 * 2 ^ 28 + s.ceiling i % 16 * 2 ^ 24 + s.phase i % 4096 * 2 ^ 12)
  | .DMC_HIST => some ((s.ctl i).hist.getD (s.get (F.DMC_HIST_SEL_INDEX i)) 0)
  | .CLK_PLL_BAND => some (s.bandShown i)
  | .CLK_DOM => some (s.domShown i)
  | .AON_TIMER => some s.aonTimer
  | .TIMER_COUNT => some (s.timerCount i)
  | .NZC_READ_ACTIVE => some ((s.nzPage s.activePage).entry (s.get F.NZC_READ_INDEX_INDEX))
  | .NZC_READ_SHADOW => some ((s.nzPage s.shadowPage).entry (s.get F.NZC_READ_INDEX_INDEX))
  | .FRG_DL_REC => some (match s.frg.log with | [] => 0 | r :: _ => leAt r.bytes (4 * i) 4)
  | .DPX_STATUS =>
    let al := (List.range 16).foldl (fun a n => a + bit (s.track n).aligned * 2 ^ n) 0
    some (setBits (s.get F.DPX_STATUS) 31 16 al)
  | .CUE_SRC_INFO => some (evInstances i)
  | .CUE_SUMMARY => some (s.cueSummary i)
  | .CUE_CNT => some (tblGet 0 s.cue.counts (s.get F.CUE_CNT_SEL_SOURCE))
  | .CUE_LOG_STATUS => some s.cue.logHead
  | .CUE_LOG_TOTAL => some s.cue.logTotal
  | .CUE_LOG_DATA =>
    some (match s.cue.log[s.get F.CUE_LOG_SEL_AGE]? with | none => 0 | some r => leAt r.bytes (4 * i) 4)
  | .CUE_PIN_CFG => some (setBits (s.get (F.CUE_PIN_CFG i)) 30 30 (bit (s.eventPin i)))
  | _ => let _ := j; none

/-! ### Reads -/

/-- The 64-bit pair that a guarded register reads as (R17, R18). -/
def guardPair (v : Nat) : Nat := v + (0xFFFFFFFF - v) * 2 ^ 32

/-- The stored value of a register as a read sees it: RC fields that hardware has set in this instant read as they did before
(R20). -/
def State.seen (s : State) (r : RegAt) : Nat :=
  let v := s.regAt r.addr r.reset
  if r.row.rc = 0 then v else
  match tblGet none s.hits r.addr with
  | some h => clearBits v r.row.rc ||| (h.old &&& r.row.rc)
  | none => v

/-- The written value without the flags that hardware has set in this instant, whose set wins over their clearing (R19). -/
def State.clearable (s : State) (r : RegAt) (v : Nat) : Nat :=
  if r.row.w1c = 0 then v else
  match tblGet none s.hits r.addr with
  | some h => clearBits v (r.row.w1c &&& h.bits)
  | none => v

/-- A register's whole value, with what reading it does. -/
def State.readWhole (s : State) (r : RegAt) : State × Nat :=
  let v := s.seen r
  match r.row.id with
  | .GPIO_IN => s.gpioIn r.i
  | .UART_STATUS => let s := s.uartGo r.i; (s, s.regAt r.addr r.reset)
  | .UART_DATA => s.uartRead r.i
  | .SPI_DATA => s.spiRead r.i
  | .I2C_RXDATA => s.i2cRead r.i
  | .PRB_USER_EVT => let (v, s) := s.takeFree (2 ^ 32); (s, v)
  | .TIMER_CAPTURE => (s.put (F.TIMER_CTRL_CAPTURE_FULL r.i) 0, v)
  | _ =>
    match s.live r.row.id r.i r.j with
    | some x => (s, x)
    | none => (s, if r.row.wg then guardPair v else clearBits v r.row.wo)

/-- The RC fields of a register that a read of the bits in `m` clears (R14); a field that hardware has set in this instant is
not cleared (R20). -/
def State.readClear (s : State) (r : RegAt) (m : Nat) : State :=
  let k := r.row.rc &&& m
  if k = 0 ∨ (tblGet none s.hits r.addr).isSome then s
  else s.setRegAt r.addr r.reset (clearBits (s.regAt r.addr r.reset) k ||| (r.reset &&& k))

/-- A 32-bit read of a register or of one half of it. A read of a half of a guarded register returns that half (R17). A read
of the lower half of another 64-bit register latches its upper half for the master's next read of that half (R131). -/
def State.read32 (s : State) (m : Master) (r : RegAt) : State × Nat :=
  if r.row.wg then
    let (s, v) := s.readWhole r
    (s, if r.off = 0 then v % 2 ^ 32 else v / 2 ^ 32 % 2 ^ 32)
  else if r.row.wide then
    let k := m.code * 2 ^ 32 + r.addr
    if r.off = 0 then
      let (s, v) := s.readWhole r
      let s := s.readClear r 0xFFFFFFFF
      ({ s with latch := tblPut none s.latch k (some (BitVec.ofNat 32 (v / 2 ^ 32))) }, v % 2 ^ 32)
    else
      match tblGet none s.latch k with
      | some h => ({ s with latch := tblPut none s.latch k none }, h.toNat)
      | none =>
        let (s, v) := s.readWhole r
        (s.readClear r (0xFFFFFFFF * 2 ^ 32), v / 2 ^ 32 % 2 ^ 32)
  else
    let (s, v) := s.readWhole r
    (s.readClear r 0xFFFFFFFF, v % 2 ^ 32)

/-! ### Effects of writes -/

/-- The operation of a guarded register whose value has just been stored. -/
def State.guardAct (s : State) (id : RegId) (i v : Nat) : State :=
  match id with
  | .SYS_MODE_REQ => s.modeReq (bits v 2 0)
  | .SYS_RESET_REQ => s.resetReq (bits v 1 0)
  | .WQ_FLUSH => s.flushWrite i (bits v 1 0)
  | .FRG_LAYOUT_OP => s.layoutOp v
  | .NZC_OP => s.nzOp (bits v 2 0)
  | .STG_LANE_OP => s.laneOp (bits v 12 8) (bits v 1 0)
  | .DPX_CO_REQ => s.coReq (bits v 1 0)
  | .LDG_RESEAL => s.reseal (bits v 15 0)
  | .CMP_TIME_OP => s.timeOp (bits v 1 0)
  | .IZX_PORT_OP => s.portOp (bits v 8 8) (bits v 1 0)
  | .IZX_BOX_OP => s.boxOp (bits v 11 8) (bits v 1 0)
  | .CFG_PLANE_SEL => s.planeSel (bits v 1 0)
  | .CFG_STAGE_OP =>
    let op := bits v 1 0
    if op = 1 then s.stageLoad else if op = 2 then s.stageErase else if op = 3 then s.stageAbort else s
  | .CFG_SCENE_OP =>
    let op := bits v 1 0
    if op = 1 then s.arm (bits v 31 16) (v.testBit 3) (v.testBit 4)
    else if op = 2 then s.disarm else if op = 3 then s.fireNow else s
  | .FLC_CMD => s.flcStart (bits v 2 0)
  | .DMC_FREQ_OP => if bits v 1 0 = 1 then s.freqReq (v.testBit 8) (bits v 7 4) else s
  | .CLK_PLL_OP =>
    let (fin, s) := s.takeFree 1000000
    s.pllOp i (bits v 1 0) fin
  | .CLK_DOM_OP => if bits v 1 0 = 1 then s.domRestore (bits v 13 8) else s
  | .PWR_OP => s.pwrOp (bits v 1 0)
  | .PWR_RET_RELEASE => s.retRelease (bits v 7 0)
  | .LCY_TRANSITION => s.lcyTransition (bits v 2 0) (s.flag F.LCY_STATUS_HOLDUP)
  | .LCY_DEBUG_OP => s.debugOp (bits v 1 0)
  | .LCY_KEY_OP => s.keyOp (bits v 3 0) (bits v 15 8)
  | _ => s

/-- A guarded write (R15 to R18): a pair is stored with its reserved bits 0 and acts; anything else is discarded. The status
is one of R552. -/
def State.writeGuard (s : State) (r : RegAt) (v : Nat) : State × Nat :=
  if v / 2 ^ 32 ≠ 0xFFFFFFFF - v % 2 ^ 32 then (s.raise Ev.SYS_GUARD_FAULT, 2)
  else
    let x := v &&& r.row.rw
    ((s.setRegAt r.addr r.reset x).guardAct r.row.id r.i x, 0)

/-- The value that a plain write leaves: RW bits of the mask take the written value, W1C bits written 1 clear (R14). -/
def RegRow.merge (w : RegRow) (old m v : Nat) : Nat :=
  clearBits (clearBits old (w.rw &&& m)) (w.w1c &&& m &&& v) ||| (v &&& (w.rw &&& m))

/-- A write of the bits in `m` of a register that is not guarded, with its effect. -/
def State.writePlain (s : State) (r : RegAt) (m v : Nat) : State :=
  let i := r.i
  let nv := r.row.merge (s.regAt r.addr r.reset) m (s.clearable r v)
  let st (s : State) : State := s.setRegAt r.addr r.reset nv
  match r.row.id with
  | .SYS_CALL_CTRL =>
    let s := st s
    let s := if v.testBit 1 then s.retryPrompt else s
    if v.testBit 2 then s.callContinue else s
  | .TRK_CTRL | .TRK_INPUT | .TRK_PITCH | .TRK_LOCK | .TRK_COAST | .TRK_DECEL | .TRK_REJOIN | .TRK_REV | .TRK_CUE
  | .TRK_CUE_CFG | .TRK_Z | .WQ_CFG | .WQ_STARVE_OFFSET => s.stageWrite i st
  | .TRK_SCHED => s.schedWrite i nv
  | .INS_TRK_CFG | .INS_TRK_WINDOW => s.insWrite st i none
  | .INS_GATE_CFG | .INS_GATE_OFFSET =>
    s.insWrite st ((st s).get (F.INS_GATE_CFG_TRACK i)) (some i)
  | .FRG_BUDGET => s.budgetWrite nv
  | .FRG_CTRL => s.frgCtrlWrite nv
  | .FRG_CACHE_CFG => s.cacheWrite nv
  | .FRG_TAP_CTRL => s.tapWrite i nv
  | .FRG_VD_OP => s.vdStart (bits v 2 0) (bits v 14 8)
  | .FRG_VD_CNT_VAL => s.cntWrite i r.j (bits nv 47 0)
  | .FRG_DL_POP => s.dlPopWrite v
  | .NZC_PATCH_ENTRY => s.nzPatchWrite v
  | .CLK_DOM => s.domWrite i v
  | .CUE_SRC_ROUTE => st (s.keep (F.CUE_SRC_ROUTE i))
  | .FRG_VD_CAL => st (s.keep (F.FRG_VD_CAL i))
  | .PRB_SEL => if (tblGet none s.hits r.addr).isSome then s else st s
  | .GPIO_PIN => s.pinWrite i v
  | .GPIO_MWR => s.put (F.GPIO_OUT_VALUE i) (masked (s.get (F.GPIO_OUT_VALUE i)) v)
  | .GPIO_MOE => s.put (F.GPIO_OE_ENABLE i) (masked (s.get (F.GPIO_OE_ENABLE i)) v)
  | .GPIO_PAT_CFG | .GPIO_PAT_MASK | .GPIO_PAT_VALUE | .GPIO_PAT_EDGE => (st s).patWritten i
  | .UART_CTRL => (st (s.uartGo i)).uartGo i
  | .UART_STATUS => let s := s.uartGo i; s.setRegAt r.addr r.reset (r.row.merge (s.regAt r.addr r.reset) m (s.clearable r v))
  | .UART_DATA => s.uartWrite i (bits v 7 0)
  | .SPI_CTRL => (st s).spiGo i
  | .SPI_DATA => s.spiWrite i (bits v 7 0)
  | .I2C_CMD => s.i2cQueue i (bits v 10 8) (bits v 7 0)
  | .TIMER_CTRL | .TIMER_PERIOD | .TIMER_COMPARE => s.timerWrite i st
  | .DMC_CFG => s.setRegAt r.addr r.reset (if i = 1 then clearBits nv 0xF3 else nv)
  | .LCY_KEY_DATA => s.setRegAt r.addr r.reset (v % 2 ^ 32)
  | _ => st s

/-- A 32-bit write: none to a guarded register (R16). -/
def State.write32 (s : State) (r : RegAt) (v : Nat) : State × Nat :=
  if r.row.wg then (s.raise Ev.SYS_GUARD_FAULT, 2)
  else if r.off = 4 then (s.writePlain r (0xFFFFFFFF * 2 ^ 32) (v % 2 ^ 32 * 2 ^ 32), 0)
  else (s.writePlain r 0xFFFFFFFF (v % 2 ^ 32), 0)

/-! ### Accesses -/

/-- A 32-bit access at one address; an empty address is handled as R12. -/
def State.access32 (s : State) (m : Master) (a : Nat) (data : Option Nat) : State × Nat × Nat :=
  match findReg a, data with
  | none, _ => (s.raise Ev.SYS_DECODE_FAULT, 0, 1)
  | some r, none => let (s, v) := s.read32 m r; (s, v, 0)
  | some r, some v => let (s, st) := s.write32 r v; (s, 0, st)

/-- A 64-bit access (R767). -/
def State.access64 (s : State) (m : Master) (a : Nat) (data : Option Nat) : State × Nat × Nat :=
  match findReg a with
  | some r =>
    if r.row.wide ∧ r.off = 0 then
      match data with
      | none => let (s, v) := s.readWhole r; (s.readClear r (2 ^ 64 - 1), v, 0)
      | some v =>
        if r.row.wg then let (s, st) := s.writeGuard r (v % 2 ^ 64); (s, 0, st)
        else (s.writePlain r (2 ^ 64 - 1) (v % 2 ^ 64), 0, 0)
    else halves s
  | none => halves s
where
  /-- Both halves at their own addresses, low half first. -/
  halves (s : State) : State × Nat × Nat :=
    let (s, lo, s0) := s.access32 m a (data.map (· % 2 ^ 32))
    let (s, hi, s1) := s.access32 m (a + 4) (data.map (· / 2 ^ 32 % 2 ^ 32))
    (s, lo + hi * 2 ^ 32, if s0 = 1 ∨ s1 = 1 then 1 else max s0 s1)

/-- The block of an address (R740). -/
def blockOf (a : Nat) : Nat := a / 2 ^ 16

/-- The access lies in the slave window (R555). -/
def inWindow (a : Nat) : Bool := 0x158000 ≤ a && a < 0x160000

/-- The AON controller serves the address in INTERVAL (R667, R741): PWR, AON, SYS_MODE and the identity registers. -/
def aonServed (a : Nat) : Bool := blockOf a = 2 || blockOf a = 22 || a < 0x104

/-- The blocks that a wake serves from t3 on: those of the MGMT and LINKS domains (R661, R668). -/
def earlyBlock (a : Nat) : Bool := [0, 1, 3, 4, 7, 10, 11, 12, 20, 21].contains (blockOf a)

/-- The target of an access is ready (R668, R669). -/
def State.awakeFor (s : State) (a : Nat) : Bool :=
  aonServed a ||
  match s.get F.PWR_STATUS_STATE with
  | 0 => true
  | 1 => decide (s.pwr.step < 5)
  | 3 => if inWindow a then false else if earlyBlock a then decide (4 ≤ s.pwr.wake) else decide (6 ≤ s.pwr.wake)
  | _ => false

/-- What a life-cycle state lets an access do (R711, R715). -/
def State.lcyAllows (s : State) (a : Access) : Bool :=
  let lcy : Bool := blockOf a.addr = 1 && a.data.isNone
  let id : Bool := decide (a.addr < 0x100) && a.data.isNone
  match s.lcyState with
  | 7 => lcy || id || (decide (a.addr = F.LCY_TRANSITION.addr) && a.wide && a.data == some (guardPair 6))
  | 6 => lcy || id
  | _ => true

/-- Before PROMPT completes a box may read every register and write SYS, LCY, CFG, FLC and IZX (R70); afterwards the BOXES
section rules (R528). -/
def State.boxMayReg (s : State) (b a : Nat) (write : Bool) : Bool :=
  if s.promptDone then
    (if write then s.get (F.IZX_BOX_WRITE b) else s.get (F.IZX_BOX_READ b)).testBit (blockOf a)
  else if write then [0, 1, 5, 6, 10].contains (blockOf a) else decide (blockOf a < 23)

/-- A refusal of a box's command is counted (R529). -/
def State.boxDenied (s : State) (b : Nat) : State := (s.addSat (F.IZX_BOX_DENIED b) 1).raise Ev.IZX_DENIED b

/-- The fabric master may make the access (R554). -/
def State.cpMay (s : State) (a : Access) : Bool :=
  a.data.isNone || (s.get F.PRB_CP_WMASK).testBit (blockOf a.addr)

/-- The control-port master is denied (R554). -/
def State.cpDenied (s : State) (addr : Nat) : State := (s.put F.PRB_CP_FAULT_ADDR addr).raise Ev.PRB_CP_DENIED

/-- An access whose rights have been checked reaches the registers, the fabric or a sleeping block. -/
def State.reach (s : State) (a : Access) : State × AccRes :=
  if !s.lcyAllows a then (s.raise Ev.SYS_DECODE_FAULT, .done 0 1)
  else
    let s := if aonServed a.addr then s else s.wakeSource 0
    if !s.awakeFor a.addr then
      if s.get F.PWR_STATUS_STATE = 4 then ((s.raise Ev.SYS_DECODE_FAULT).raise Ev.PWR_ACCESS_FAIL, .done 0 1)
      else (s, .stall)
    else if inWindow a.addr then
      if s.cfg.swap.isSome then (s, .window)
      else if s.flag F.PRB_CP_STATUS_SLAVE then (s.emit (.window a.addr a.wide a.data), .window)
      else
        let s := ((s.addSat F.PRB_SLAVE_TIMEOUTS 1).raise Ev.SYS_DECODE_FAULT).raise Ev.PRB_SLAVE_TIMEOUT
        (s, .done 0 1)
    else
      let (s, v, st) := if a.wide then s.access64 a.master a.addr a.data else s.access32 a.master a.addr a.data
      (s, .done v st)

/-- A register access by any master (R13, R528, R554). -/
def State.access (s : State) (a : Access) : State × AccRes :=
  match a.master with
  | .prompter => s.reach a
  | .fabric => if s.cpMay a then s.reach a else (s.cpDenied a.addr, .done 0 3)
  | .box b => if s.boxMayReg b a.addr a.data.isSome then s.reach a else (s.boxDenied b, .done 0 3)

end Sys2Proof.Machine
end

