-- ==== Sys2Proof/Machine/Izrex.lean ====
section
/-! DEFINITION. Accesses that wait (R555, R669), and the commands of the Izrex boxes and of the fabric item port (R510 to
R531, R557 to R559). -/

namespace Sys2Proof.Machine

/-! ### Register accesses that wait -/

/-- Error codes of a Prompter answer, as `Out.monitor` carries them (R724, log entry 21). -/
def errSyntax : Nat := 1
def errNotAllowed : Nat := 2
def errBusy : Nat := 3
def errRefused : Nat := 7
def errNotReady : Nat := 8

/-- The error of a register access status of R552: 4 DECODE, 5 GUARD, 6 DENIED. -/
def errOf (status : Nat) : Nat := if status = 0 then 0 else 3 + status

/-- Puts an access where it waits. -/
def State.accWait (s : State) (w : Waiter) (a : Access) (r : AccRes) : State :=
  match r with
  | .window => { s with window := s.window ++ [⟨w, a, s.now⟩] }
  | .stall => { s with pwr := { s.pwr with stalls := s.pwr.stalls ++ [{ at_ := s.now, what := .reg w a }] } }
  | .done _ _ => s

/-- A response of a box's running command; a refusal by rights raises IZX_DENIED (R519, R527). -/
def State.izxEnd (s : State) (b seq : Nat) (r : Resp) : State :=
  let s := if r.status = 1 then s.raise Ev.IZX_DENIED b else s
  s.boxDone b seq r

/-- The accesses of an Izrex register command, in ascending order (R519). -/
def State.izxRegs (s : State) (b seq : Nat) (got : List Byte) (fault : Bool) : List Access → State
  | [] => s.izxEnd b seq { status := if fault then 0x10 else 0, payload := got }
  | a :: l =>
    match s.access a with
    | (s, .done v st) =>
      s.izxRegs b seq (got ++ if a.data.isNone then leBytes (if a.wide then 8 else 4) v else []) (fault || st != 0) l
    | (s, r) => s.accWait (.izx b seq l got fault) a r

/-- The reads of a Prompter command (R723). -/
def State.prompterRegs (s : State) (got : List Nat) : List Access → State
  | [] => s.emit (.monitor 0 got)
  | a :: l =>
    match s.access a with
    | (s, .done v 0) => s.prompterRegs (if a.data.isNone then got ++ [v] else got) l
    | (s, .done _ st) => s.emit (.monitor (errOf st) [])
    | (s, r) => s.accWait (.prompter l got) a r

/-- An access that waited has ended with its data and status. -/
def State.accDone (s : State) (w : Waiter) (a : Access) (v st : Nat) : State :=
  match w with
  | .bare m => s.emit (.reg m v st)
  | .cp => if s.cfg.swap.isSome then s else s.emit (.cp v st)
  | .gone => s
  | .prompter l got =>
    if st = 0 then s.prompterRegs (if a.data.isNone then got ++ [v] else got) l else s.emit (.monitor (errOf st) [])
  | .izx b seq l got fault =>
    s.izxRegs b seq (got ++ if a.data.isNone then leBytes (if a.wide then 8 else 4) v else []) (fault || st != 0) l

/-- A single register access of a master. -/
def State.accRun (s : State) (w : Waiter) (a : Access) : State :=
  match s.access a with
  | (s, .done v st) => s.accDone w a v st
  | (s, r) => s.accWait w a r

/-- The fabric answers the oldest access in its slave window (R555). -/
def State.windowAck (s : State) (data status : Nat) : State :=
  match s.window with
  | [] => s
  | x :: l =>
    if s.cfg.swap.isSome then s else
    let s : State := { s with window := l }
    s.accDone x.who x.acc (if x.acc.data.isNone then data % (if x.acc.wide then 2 ^ 64 else 2 ^ 32) else 0) status

/-- An access that the fabric does not answer completes as R12 states (R556). -/
def State.windowMiss (s : State) (x : RegWait) : State :=
  let s := ((s.addSat F.PRB_SLAVE_TIMEOUTS 1).raise Ev.SYS_DECODE_FAULT).raise Ev.PRB_SLAVE_TIMEOUT
  s.accDone x.who x.acc 0 1

/-- The fabric has not answered the oldest access within SLAVE_TIMEOUT (R556). -/
def State.windowTimeout (s : State) : State :=
  match s.window with
  | [] => s
  | x :: l =>
    if s.now < x.at_ + max 1 (s.get F.PRB_CP_CFG_SLAVE_TIMEOUT) * 10000 ∨ s.cfg.swap.isSome then s else
    ({ s with window := l } : State).windowMiss x

/-- The new scene runs: accesses held through the swap go to it in order, or end at once where it has no slave window (R556,
R564). -/
def State.windowResume (s : State) : State :=
  if s.flag F.PRB_CP_STATUS_SLAVE then
    let s : State := { s with window := s.window.map (fun x => { x with at_ := s.now }) }
    s.window.foldl (fun s x => s.emit (.window x.acc.addr x.acc.wide x.acc.data)) s
  else s.window.foldl (fun s x => s.windowMiss x) { s with window := [] }

/-! ### Rights (R515, R528) -/

/-- The CMD, PORTS and CREDITS in effect of a box: those of R70 before PROMPT completes. -/
def State.boxCmd (s : State) (b : Nat) : Nat := if s.promptDone then s.get (F.IZX_BOX_RIGHTS_CMD b) else 3
def State.boxPorts (s : State) (b : Nat) : Nat := if s.promptDone then s.get (F.IZX_BOX_RIGHTS_PORTS b) else 3
def State.boxCredits (s : State) (b : Nat) : Nat := if s.promptDone then s.get (F.IZX_BOX_CREDITS_BLOCKS b) else 4096

/-- The box has no rights at all. -/
def State.boxBare (s : State) (b : Nat) : Bool :=
  s.promptDone && s.get (F.IZX_BOX_RIGHTS b) = 0 && s.get (F.IZX_BOX_WRITE b) = 0 && s.get (F.IZX_BOX_READ b) = 0

/-! ### Register and DRAM commands -/

/-- A payload of `n` bytes, alone or with the zeros that fill its last block (R510). -/
def spans (l : List Byte) (n : Nat) : Bool := decide (n ≤ l.length) && decide (l.length ≤ (n + 7) / 8 * 8) && (l.drop n).all (· = 0)

/-- REG_READ and REG_WRITE (R518, R519). -/
def State.izxReg (s : State) (b seq : Nat) (write : Bool) (l : List Byte) : State :=
  let a := leAt l 0 4
  let n := leAt l 4 2
  let wide : Bool := leAt l 6 1 = 1
  let w := if wide then 8 else 4
  if !(spans l (8 + (if write then n * w else 0))) ∨ n = 0 ∨ 64 < n ∨ 1 < leAt l 6 1 ∨ leAt l 7 1 ≠ 0 then
    s.izxEnd b seq { status := 3 }
  else if a % w ≠ 0 then s.izxEnd b seq { status := 2 }
  else
    let acc := (List.range n).map (fun i => ({ master := .box b, addr := a + w * i, wide
                                               data := if write then some (leAt l (8 + w * i) w) else none } : Access))
    if acc.any (fun x => !(s.boxMayReg b x.addr write)) then s.izxEnd b seq { status := 1 }
    else s.izxRegs b seq [] false acc

/-- A range lies in one region that the box may write (R520). -/
def State.boxMayWrite (s : State) (b a n : Nat) : Bool :=
  let d := s.get (F.IZX_BOX_RIGHTS_DRAM b)
  !(s.inLog a n) && s.regions.any (fun r => decide (2 ≤ r.kind) && decide (r.kind ≤ 5) && d.testBit (r.kind - 2) &&
    decide (r.base ≤ a) && decide (a + n ≤ r.base + r.size))

/-- A range is installed and touches no queue region (R520). -/
def State.dramReadable (s : State) (a n : Nat) : Bool :=
  decide (a + n ≤ s.dramSize) && s.regions.all (fun r => r.kind ≠ 1 || decide (a + n ≤ r.base) || decide (r.base + r.size ≤ a))

/-- DRAM_WRITE: its checks; the write then waits for its turn at class 6 (R520). -/
def State.izxDramWrite (s : State) (b seq : Nat) (l : List Byte) : State :=
  let n := leAt l 8 4
  if !(spans l (16 + n)) ∨ n = 0 ∨ 4096 < n then s.izxEnd b seq { status := 3 }
  else if !s.promptDone then s.izxEnd b seq { status := 6 }
  else if !(s.boxMayWrite b (leAt l 0 8) n) then s.izxEnd b seq { status := 2 }
  else if leAt l 12 4 ≠ crc32c ((l.drop 16).take n) then s.izxEnd b seq { status := 5 }
  else s.dramPut 6 (leAt l 0 8) ((l.drop 16).take n) (.bulk b seq)

/-- DRAM_READ (R520): its data leave when the controllers have served it. -/
def State.izxDramRead (s : State) (b seq : Nat) (l : List Byte) : State :=
  let n := leAt l 8 4
  if l.length ≠ 16 ∨ n = 0 ∨ 4096 < n ∨ leAt l 12 4 ≠ 0 then s.izxEnd b seq { status := 3 }
  else if !s.promptDone then s.izxEnd b seq { status := 6 }
  else if !((s.boxCmd b).testBit 3) then s.izxEnd b seq { status := 1 }
  else if !(s.dramReadable (leAt l 0 8) n) then s.izxEnd b seq { status := 2 }
  else { s with dreq := s.dreq ++ [{ cls := 6, addr := leAt l 0 8, len := n, who := .read b seq, since := s.now }] }

/-! ### Items -/

/-- A COMMAND frame as received: SOF, header and payload (R434, R510). -/
def commandFrame (b op seq : Nat) (l : List Byte) : List Byte :=
  leBytes 1 0 ++ leBytes 1 (0x10 + b) ++ leBytes 1 op ++ leBytes 1 0 ++ leBytes 4 seq ++
  leBytes 8 ((l.length + 7) / 8 * 2 ^ 48) ++ l

/-- Submissions of one command, in batch order: on an understudy they are forwarded to the lead (R434, R529). `items` holds
each record with its index. -/
def State.izxItems (s : State) (b op seq : Nat) (l : List Byte) (items : List (Nat × List Byte)) : State :=
  if s.role = 2 ∧ s.ready then
    if s.flag F.DPX_STATUS_LINK_UP then s.dpxSend 0x10 (leBytes 1 b ++ leBytes 7 0 ++ commandFrame b op seq l)
    else items.foldl (fun s p => s.outcome { box := b, seq, index := p.1 } 0x12 (notAccepted p.2)) s
  else items.foldl (fun s p => s.submit { bytes := p.2, sub := { box := b, seq, index := p.1 } }) s

/-- ITEM_SUBMIT (R518). -/
def State.izxSubmit (s : State) (b seq : Nat) (l : List Byte) : State :=
  if l.length ≠ 64 then s.izxEnd b seq { status := 3 } else s.izxItems b 0x20 seq l [(0, l)]

/-- ITEM_BATCH; `old` is the recorded answer of a repeat, whose entered outcomes stand (R527). -/
def State.izxBatch (s : State) (b seq : Nat) (l : List Byte) (old : Option (List Byte)) : State :=
  let n := leAt l 0 1
  if l.length ≠ 8 + 64 * n ∨ n = 0 ∨ 63 < n ∨ !(zeros l 1 8) then s.izxEnd b seq { status := 3 }
  else
    let kept (k : Nat) : Bool := match old with | some o => codeEntered (leAt o (8 + 24 * k) 1) | none => false
    let ans := (List.range n).foldl (fun a k =>
      if kept k then batchPut a k (((old.getD []).drop (8 + 24 * k)).take 24) else a) (batchAll 0xFF l)
    let x := s.box b
    let s := s.setBox b { x with due := x.due.map (fun d =>
      if d.seq = seq ∧ d.resp.isNone then { d with payload := ans, replay := (List.range n).any kept } else d) }
    s.izxItems b 0x21 seq l ((batchItems l).filter (fun p => !(kept p.1)))

/-- ITEM_QUERY (R153, R518). -/
def State.izxItemQuery (s : State) (b seq : Nat) (l : List Byte) : State :=
  let n := leAt l 0 1
  if l.length ≠ 16 ∨ 16 ≤ n ∨ !(zeros l 1 8) then s.izxEnd b seq { status := 3 }
  else if !(s.mayTrack b n) then s.izxEnd b seq { status := 1 }
  else s.izxEnd b seq { status := 0, payload := (s.recordOf n (leAt l 8 8)).bytes }

/-- TRACK_QUERY (R518). -/
def State.izxTrackQuery (s : State) (b seq : Nat) (l : List Byte) : State :=
  let n := leAt l 0 1
  if l.length ≠ 8 ∨ 16 ≤ n ∨ !(zeros l 1 8) then s.izxEnd b seq { status := 3 }
  else if !(s.mayTrack b n) then s.izxEnd b seq { status := 1 }
  else
    let p := leBytes 8 (s.get (F.WQ_ACC_HWM n)) ++ leBytes 8 (s.get (F.WQ_FIRED_HWM n)) ++
      leBytes 8 (s.get (F.WQ_REC_FIRED n)) ++ leBytes 8 (s.get (F.WQ_REC_CEIL n)) ++
      leBytes 4 (s.get (F.WQ_REC_STATUS n)) ++ leBytes 4 0
    s.izxEnd b seq { status := 0, payload := p }

/-! ### Scene and prompt book transfers (R526, R574, R589) -/

/-- PHASE, OFFSET, LENGTH, CRC and data of a transfer command; none where the payload breaks R518. -/
def transferOf (slotted : Bool) (l : List Byte) : Option (Nat × Nat × Nat × Nat × List Byte) :=
  let n := leAt l 8 4
  if spans l (16 + n) ∧ n ≤ 4096 ∧ leAt l 0 1 ≤ 2 ∧ zeros l 2 4 ∧ ((slotted ∧ leAt l 0 1 = 0) ∨ leAt l 1 1 = 0) then
    some (leAt l 0 1, leAt l 4 4, n, leAt l 12 4, (l.drop 16).take n)
  else none

/-- CONFIG frames with a phase, a number, an offset and up to 472 bytes of data each (R427); the last one completes `what`. -/
def State.dpxTransfer (s : State) (code phase num off : Nat) (data : List Byte) (what : CommitFor) : State :=
  let k := max 1 ((data.length + 471) / 472)
  (List.range k).foldl (fun s i =>
    let d := (data.drop (472 * i)).take 472
    s.dpxCommit 0x07 0 (if i + 1 = k then what else .data)
      (leBytes 1 code ++ leBytes 7 0 ++ leBytes 1 phase ++ leBytes 1 num ++ leBytes 2 0 ++ leBytes 4 (off + 472 * i) ++
       leBytes 4 d.length ++ leBytes 4 0 ++ d)) s

/-- The answer of a sound PROMPT_DATA: on a lead, once the understudy has acknowledged it (R428, R526). -/
def State.promptAnswer (s : State) (b seq phase slot off : Nat) (data : List Byte) : State :=
  if s.mirrors then s.dpxTransfer 5 phase slot off data (.prompt b seq) else s.izxEnd b seq (detailResp 0 0)

/-- Changes the stage under way. -/
def State.modStage (s : State) (f : Stage → Stage) : State := { s with cfg := { s.cfg with stage := s.cfg.stage.map f } }

/-- SCENE_DATA BEGIN: ownership, and the erase of the target (R526, R574). -/
def State.sceneBegin (s : State) (b seq : Nat) : State :=
  if s.scene.isSome ∨ s.cfg.stage.isSome then s.izxEnd b seq (detailResp 7 0)
  else if !s.stageFree ∨ (s.plane s.stageTarget).state = 7 then s.izxEnd b seq (detailResp 6 0)
  else
    let s : State := { s with scene := some { box := b, wait := some seq } }
    let s := s.stageBegin { plane := s.stageTarget, box := some b, wait := some seq }
    if s.mirrors then s.dpxTransfer 6 0 0 0 [] .data else s

/-- SCENE_DATA CHUNK (R526, R574). -/
def State.sceneChunk (s : State) (b seq off n crc : Nat) (data : List Byte) : State :=
  match s.scene with
  | none => s.izxEnd b seq (detailResp 0xB 0)
  | some t =>
    if t.box ≠ b then s.izxEnd b seq (detailResp 0xB 0)
    else if !t.ready then s.izxEnd b seq (detailResp 6 0)
    else if 50331648 < off + n then s.izxEnd b seq (detailResp 3 0)
    else if crc ≠ crc32c data then s.izxEnd b seq (detailResp 5 0)
    else
      let s := s.modStage (fun (g : Stage) => { g with image := memWrite .flash g.image off data })
      let s := if s.mirrors then s.dpxTransfer 6 1 0 off data .data else s
      s.izxEnd b seq (detailResp 0 0)

/-- SCENE_DATA END: the checks run, and the answer waits for them (R574, R576). -/
def State.sceneEndCmd (s : State) (b seq : Nat) : State :=
  match s.scene, s.cfg.stage with
  | some t, some g =>
    if t.box ≠ b then s.izxEnd b seq (detailResp 0xB 0)
    else if !t.ready then s.izxEnd b seq (detailResp 6 0)
    else
      let s := s.modStage (fun (g : Stage) => { g with step := 3, wait := some seq })
      let s := (({ s with scene := none } : State).planeState g.plane 3)
      if s.mirrors then s.dpxTransfer 6 2 0 0 [] .data else s
  | _, _ => s.izxEnd b seq (detailResp 0xB 0)

/-- A stream whose owner is gone before its END: the transfer is abandoned, and the target is left as an ended stage leaves
it (R526, R577). -/
def State.sceneOrphan (s : State) : State :=
  match s.cfg.stage with
  | some g =>
    if g.box.isSome ∧ g.step ≠ 3 ∧ s.scene.isNone then
      let s := s.store (.flashErase (planeBase g.plane) (planeBase g.plane + planeBytes))
      (s.setPlane g.plane { s.plane g.plane with record := {} }).stageEnd 0
    else s
  | none => s

/-- The slot that a PROMPT_DATA BEGIN names: 0, 1, or 2 for the one not in use (R518). -/
def State.promptSlot (s : State) (k : Nat) : Nat :=
  if k = 2 then (if s.flag F.CFG_PROMPT_STATUS_IMPORTED then 1 - s.get F.CFG_PROMPT_STATUS_SLOT else 0) else k

/-- PROMPT_DATA BEGIN (R526): ownership, and the erase of the slot. -/
def State.promptBegin (s : State) (b seq k : Nat) : State :=
  let slot := s.promptSlot k
  if 2 < k then s.izxEnd b seq (detailResp 3 0)
  else if (match s.promptUp with | some t => t.box ≠ b || t.wait.isSome | none => false) then s.izxEnd b seq (detailResp 7 0)
  else if s.flag F.CFG_PROMPT_STATUS_IMPORTED ∧ s.get F.CFG_PROMPT_STATUS_SLOT = slot then s.izxEnd b seq (detailResp 0xD 0)
  else { s with promptUp := some { box := b, slot, wait := some seq } }

/-- The erase of the slot completes, and the answer leaves. -/
def State.promptErased (s : State) : State :=
  match s.promptUp with
  | some t =>
    match t.wait, t.ready with
    | some q, false =>
      let s := s.store (.norErase (slotBase t.slot) (slotBase t.slot + 0x4000000))
      let s : State := { s with promptUp := some { t with ready := true, wait := none } }
      s.promptAnswer t.box q 0 t.slot 0 []
    | _, _ => s
  | none => s

/-- PROMPT_DATA CHUNK (R526). -/
def State.promptChunk (s : State) (b seq off n crc : Nat) (data : List Byte) : State :=
  match s.promptUp with
  | none => s.izxEnd b seq (detailResp 0xB 0)
  | some t =>
    if t.box ≠ b then s.izxEnd b seq (detailResp 0xB 0)
    else if !t.ready then s.izxEnd b seq (detailResp 6 0)
    else if 0x4000000 < off + n then s.izxEnd b seq (detailResp 3 0)
    else if crc ≠ crc32c data then s.izxEnd b seq (detailResp 5 0)
    else
      let s := s.store (.nor (slotBase t.slot + off) data)
      let s : State := { s with promptUp := some { t with written := t.written ++ [(off, n)] } }
      s.promptAnswer b seq 1 t.slot off data

/-- Byte ranges cover `[0, n)`: each step moves to the furthest end of a range that holds the byte reached so far. -/
def rangesCover (l : List (Nat × Nat)) (n : Nat) : Nat → Nat → Bool
  | 0, a => decide (n ≤ a)
  | fuel + 1, a =>
    if n ≤ a then true else
    let e := (l.filter (fun r => decide (r.1 ≤ a) && decide (a < r.1 + r.2))).foldl (fun m r => max m (r.1 + r.2)) a
    if e = a then false else rangesCover l n fuel e

/-- PROMPT_DATA END (R526): every byte of the book and of LENGTH is written, and the header is valid. No code is stated for a
book with bytes missing: a free value other than 0 (log entry 30). -/
def State.promptEnd (s : State) (b seq n : Nat) : State :=
  match s.promptUp with
  | none => s.izxEnd b seq (detailResp 0xB 0)
  | some t =>
    if t.box ≠ b then s.izxEnd b seq (detailResp 0xB 0)
    else if !t.ready then s.izxEnd b seq (detailResp 6 0)
    else
      let s : State := { s with promptUp := none }
      let h := s.norBytes (slotBase t.slot) 256
      if !(bookHeaderOk h) then s.izxEnd b seq (detailResp 0 2)
      else if !(rangesCover t.written (max n (leAt h 8 4)) (t.written.length + 1) 0) then
        let (x, s) := s.takeFree 255
        s.izxEnd b seq (detailResp 0 (1 + x))
      else s.promptAnswer b seq 2 t.slot 0 []

/-- SCENE_DATA and PROMPT_DATA (R518, R526). -/
def State.izxTransfer (s : State) (b seq : Nat) (prompt : Bool) (l : List Byte) : State :=
  match transferOf prompt l with
  | none => s.izxEnd b seq (detailResp 3 0)
  | some (ph, off, n, crc, data) =>
    if !((s.boxCmd b).testBit (bit prompt)) then s.izxEnd b seq (detailResp 1 0)
    else if prompt then
      if ph = 0 then s.promptBegin b seq (leAt l 1 1)
      else if ph = 1 then s.promptChunk b seq off n crc data else s.promptEnd b seq n
    else if ph = 0 then s.sceneBegin b seq
    else if ph = 1 then s.sceneChunk b seq off n crc data else s.sceneEndCmd b seq

/-! ### SUBSCRIBE and SERIES_QUERY -/

/-- SUBSCRIBE (R518, R524, R739). -/
def State.izxSubscribe (s : State) (b seq : Nat) (l : List Byte) : State :=
  let first := leAt l 0 2
  let n := leAt l 2 2
  if l.length ≠ 8 ∨ n = 0 ∨ 1024 < first + n ∨ 1 < leAt l 4 1 ∨ !(zeros l 5 8) then s.izxEnd b seq { status := 3 }
  else if !((s.boxCmd b).testBit 2) then s.izxEnd b seq { status := 1 }
  else
    let on : Bool := leAt l 4 1 = 1
    let s := (List.range n).foldl (fun s i =>
      let f := F.CUE_SRC_ROUTE_BOXES (first + i)
      (s.keep f).put f (if on then s.get f ||| 2 ^ b else clearBits (s.get f) (2 ^ b))) s
    s.izxEnd b seq { status := 0 }

/-- The latest journaled record of each lease of a series that is neither EXHAUSTED nor ABANDONED (R525). -/
def State.leasesNow (s : State) (i : Nat) : List Lease :=
  s.ldg.live.filterMap (fun e => match e with
    | .lease j p st q c h t =>
      if i = j ∧ (st = 1 ∨ st = 2) then
        let x : Lease := (s.leases.find? (fun l => l.series = i ∧ l.quantum = q ∧ l.partner = p)).getD {}
        some { x with series := i, partner := p, state := st, quantum := q, quanta := c, holder := h, tag := t }
      else none
    | _ => none)

/-- SERIES_QUERY (R525). -/
def State.izxSeries (s : State) (b seq : Nat) (l : List Byte) : State :=
  let i := leAt l 0 1
  if l.length ≠ 8 ∨ !(zeros l 1 8) then s.izxEnd b seq { status := 3 }
  else if !(s.boxMayReg b 0xF0000 false) then s.izxEnd b seq { status := 1 }
  else
    let ls := (s.leasesNow i).take 16
    let words (f : Nat → Fld) : List Byte := (List.range 3).flatMap (fun w => leBytes 8 (s.get (f w)))
    let flags := bit (s.castFor i) + 2 * s.get F.CMP_STATUS_QUORUM + 4 * s.get (F.FRG_VD_SERIES_STATUS_NO_LEASE i)
    let p := leBytes 4 (s.catNext i) ++ leBytes 4 flags ++ words (F.FRG_VD_SERIES_NEXT_DIGITS i) ++
      words (F.FRG_VD_SERIES_END_DIGITS i) ++ leBytes 1 ls.length ++ leBytes 7 0 ++ ls.flatMap (fun x => s.leaseBytes x)
    s.izxEnd b seq { status := 0, payload := p }

/-! ### Execution -/

/-- The target of a command is ready (R668, R669); register accesses wait each for themselves. -/
def State.izxReady (s : State) (op : Nat) : Bool :=
  op = 1 || op = 2 ||
  match s.get F.PWR_STATUS_STATE with
  | 0 => true
  | 1 => decide (s.pwr.step < 5)
  | 3 =>
    if op = 0x10 || op = 0x11 then decide (7 ≤ s.pwr.wake)
    else if op = 0x20 || op = 0x21 then false
    else if op = 0x40 then decide (4 ≤ s.pwr.wake)
    else decide (6 ≤ s.pwr.wake)
  | _ => false

/-- A register command that a device whose wake failed still serves: reads of what AON holds, and writes of PWR and AON, so
that PWR_OP RETRY can be given (R670, log entry 31). -/
def failedServes (op : Nat) (l : List Byte) : Bool :=
  let a := leAt l 0 4
  let e := a + leAt l 4 2 * (if leAt l 6 1 = 1 then 8 else 4) - 1
  (op = 1 && aonServed a && aonServed e && (blockOf a = blockOf e)) ||
  (op = 2 && blockOf a = blockOf e && (blockOf a = 2 || blockOf a = 22))

/-- Runs a command that its box has begun (R518). `old`: the recorded answer of a batch that is repeated. -/
def State.izxBody (s : State) (b op seq : Nat) (l : List Byte) (old : Option (List Byte)) : State :=
  match op with
  | 0x01 => s.izxReg b seq false l
  | 0x02 => s.izxReg b seq true l
  | 0x10 => s.izxDramWrite b seq l
  | 0x11 => s.izxDramRead b seq l
  | 0x20 => s.izxSubmit b seq l
  | 0x21 => s.izxBatch b seq l old
  | 0x22 => s.izxItemQuery b seq l
  | 0x23 => s.izxTrackQuery b seq l
  | 0x30 => s.izxTransfer b seq false l
  | 0x31 => s.izxTransfer b seq true l
  | 0x40 => s.izxSubscribe b seq l
  | 0x50 => s.izxSeries b seq l
  | _ => s.izxEnd b seq { status := 4 }

/-- Runs a command, or lets it stall for a sleeping target (R669, R670). -/
def State.izxRun (s : State) (b op seq : Nat) (l : List Byte) (old : Option (List Byte)) : State :=
  if b < 15 ∧ s.get F.PWR_STATUS_STATE = 4 ∧ !(failedServes op l) then s.izxEnd b seq { status := 6 }
  else if s.izxReady op ∨ b = 15 then s.izxBody b op seq l old
  else { s with pwr := { s.pwr with stalls := s.pwr.stalls ++
    [{ at_ := s.now, what := .izx (s.box b).port b op seq l }] } }

/-- A command that its box executes: it occupies its blocks from now on (R516). -/
def State.izxStart (s : State) (d : Due) (old : Option (List Byte)) (b : Nat) : State :=
  let x := s.box b
  let d := { d with subs := submitted d.opcode d.payload }
  ((s.setBox b { x with due := putDue d x.due }).boxShow b).izxRun b d.opcode d.seq d.payload old

/-- An answer that R521 gives without executing the command: it leaves in its turn. -/
def State.izxAnswer (s : State) (d : Due) (status : Nat) (replay : Bool) (payload : List Byte) (b : Nat) : State :=
  let x := s.box b
  let d := { d with resp := some { status, replay, payload }, payload := [] }
  (s.setBox b { x with due := putDue d x.due }).boxSend b

/-- A command of a SEQ in the window that is not running: answered from its record, or run afresh (R521). -/
def State.izxRetry (s : State) (d : Due) (b : Nat) : State :=
  let y := tblGet {} (s.box b).slots (d.seq % 256)
  if y.st = .recorded then
    if d.crc ≠ y.crc then s.izxAnswer d 0xC false [] b
    else if y.opcode = 0x21 ∧ y.status = 0 ∧
        !((List.range (leAt y.payload 0 1)).all (fun k => codeEntered (leAt y.payload (8 + 24 * k) 1))) then
      s.izxStart d (some y.payload) b
    else s.izxAnswer { d with opcode := y.opcode } y.status true y.payload b
  else s.izxStart d none b

/-- A command of SEQ `seq` runs in box `b`. -/
def State.izxRunning (s : State) (b seq : Nat) : Bool := (s.box b).due.any (fun d => d.seq = seq ∧ d.resp.isNone)

/-- The handler of R521. -/
def State.izxSeq (s : State) (d : Due) (b : Nat) : State :=
  let k := s.seqDist b d.seq
  if k = 1 then
    let x := s.box b
    let s := s.setBox b { x with slots := tblPut {} x.slots (d.seq % 256) {} }
    (s.put (F.IZX_BOX_HIGH b) d.seq).izxStart d none b
  else if k = 0 ∨ 2 ^ 32 - 255 ≤ k then
    if s.izxRunning b d.seq then
      let x := s.box b
      (s.setBox b { x with retries := x.retries ++ [d] }).boxShow b
    else s.izxRetry d b
  else if k ≤ 2 ^ 31 then s.izxAnswer d 8 false (leBytes 4 ((s.get (F.IZX_BOX_HIGH b) + 1) % 2 ^ 32)) b
  else s.izxAnswer d 9 false [] b

/-- Retries held behind a command that has ended go on, the oldest first (R530). -/
def State.retriesRun (s : State) (b : Nat) : Nat → State
  | 0 => s
  | fuel + 1 =>
    let x := s.box b
    match x.retries.find? (fun d => !(s.izxRunning b d.seq)) with
    | none => s
    | some d =>
      let s := s.setBox b { x with retries := x.retries.erase d }
      ((s.izxRetry d b).boxSend b).retriesRun b fuel

/-- Frame blocks of a command, SOF to EOF (R510, R516). -/
def frameBlocks (l : List Byte) : Nat := 3 + (l.length + 7) / 8

/-- A COMMAND frame arrives on port `p` (R511, R514, R516, R521). One beyond the allowance waits for what the instant still
frees (R530). -/
def State.izxCommand (s : State) (p b op seq : Nat) (l : List Byte) : State :=
  if s.get (F.IZX_PORT_STATUS_STATE p) ≠ 4 then s else
  let s := s.wakeSource 0
  let x := s.box b
  let n := frameBlocks l
  if 15 ≤ b ∨ !x.isOpen ∨ x.held ∨ x.port ≠ p ∨ x.closing then
    let s := if x.isOpen then s.setBox b { x with freed := (x.freed + n) % 2 ^ 32 } else s
    s.emit (.response p b op seq 0xB false (s.box b).freed [])
  else
    let d : Due := { seq, opcode := op, blocks := n, port := p, crc := crc32c l, payload := l }
    if s.boxCredits b < x.outstanding + n then
      if s.more then s.defer (.command p b op seq l) else
      let s := s.setBox b { x with freed := (x.freed + n) % 2 ^ 32 }
      (s.raise Ev.IZX_OVERRUN b).izxAnswer { d with blocks := 0 } 0xA false [] b
    else s.izxSeq d b

/-- A record arrives through the fabric item port: an ITEM_SUBMIT of box 15 (R557 to R559). -/
def State.itemPort (s : State) (seq : Nat) (l : List Byte) : State :=
  if !(s.box 15).isOpen ∨ 16 ≤ (s.box 15).due.length + (s.box 15).retries.length ∨ s.cfg.swap.isSome then s else
  s.izxSeq { seq, opcode := 0x20, blocks := 0, port := 0, crc := crc32c l, payload := l } 15

/-- A frame that R511 discards. -/
def State.izxBadFrame (s : State) (p : Nat) : State := (s.addSat (F.IZX_PORT_RX_ERR p) 1).raise Ev.IZX_RX_CRC p

/-- Blocks of a discarded command of box `b` count as freed (R511, R516). -/
def State.izxFree (s : State) (b n : Nat) : State :=
  let x := s.box b
  if x.isOpen then s.setBox b { x with freed := (x.freed + n) % 2 ^ 32 } else s

/-! ### LINK_REQ frames (R512, R516) -/

/-- OPEN. The responses of commands that run at the time are not sent (R530): their port is none of the two. -/
def State.izxOpen (s : State) (p b host start : Nat) (force : Bool) : State :=
  if s.get (F.IZX_PORT_STATUS_STATE p) ≠ 4 then s else
  let x := s.box b
  let refuse (s : State) (st : Nat) : State := s.emit (.linkResp p b 0x70 st x.freed [])
  if 15 ≤ b ∨ s.boxBare b ∨ !((s.boxPorts b).testBit p) ∨ (s.promptDone ∧ x.hostReq ≠ 0 ∧ x.hostReq ≠ host) then refuse s 0xF
  else if x.isOpen ∧ s.get (F.IZX_BOX_HOST b) ≠ host ∧ !force then refuse s 0xE
  else
    let st := if !x.isOpen then 0 else if s.get (F.IZX_BOX_HOST b) = host then 1 else 2
    let gone (d : Due) : Due := { d with port := 2 }
    let s := if x.isOpen then
        s.setBox b { x with held := false, port := p, due := x.due.map gone, retries := x.retries.map gone }
      else ((s.setBox b { hostReq := x.hostReq, isOpen := true, port := p }).put (F.IZX_BOX_HIGH b)
        ((start + (2 ^ 32 - 1)) % 2 ^ 32)).put (F.IZX_BOX_EVT_SEQ b) 0
    let s := (s.put (F.IZX_BOX_HOST b) host).boxShow b
    let s := s.emit (.linkResp p b 0x70 0 (s.box b).freed
      (leBytes 8 Config.deviceId ++ leBytes 4 (s.get F.IZX_BOOT_TAG) ++ leBytes 4 (s.get (F.IZX_BOX_HIGH b)) ++
       leBytes 2 (s.boxCredits b) ++ leBytes 1 p ++ leBytes 1 st ++ leBytes 4 0))
    let s := if st = 2 then s.raise Ev.IZX_BOX_TAKEN b else s
    s.raise Ev.IZX_BOX_OPENED b

/-- The box is open on the port that a LINK_REQ arrives on. -/
def State.openOn (s : State) (p b : Nat) : Bool :=
  decide (b < 15) && (s.box b).isOpen && !(s.box b).held && decide ((s.box b).port = p)

/-- CLOSE: answered once the commands in execution have completed. -/
def State.izxClose (s : State) (p b : Nat) : State :=
  if s.get (F.IZX_PORT_STATUS_STATE p) ≠ 4 then s
  else if s.openOn p b then s.boxEnd b (some p) else s.emit (.linkResp p b 0x71 0xB (s.box b).freed [])

/-- NOP. -/
def State.izxNop (s : State) (p b : Nat) : State :=
  if s.get (F.IZX_PORT_STATUS_STATE p) ≠ 4 then s
  else s.emit (.linkResp p b 0x72 (if s.openOn p b then 0 else 0xB) (s.box b).freed [])

/-- A held box closes BOX_HOLD seconds after its port went DOWN (R513). -/
def State.boxHoldEnd (s : State) (b : Nat) : State :=
  let x := s.box b
  if x.isOpen ∧ x.held ∧ x.heldAt + max 1 (s.get F.IZX_CTRL_BOX_HOLD) * 10 ^ 12 ≤ s.now then s.boxEnd b none else s

/-! ### What goes on by itself -/

/-- Retries and abandoned streams after a command. -/
def State.izxSettle (s : State) : State :=
  ((List.range 16).foldl (fun s b =>
    let x := s.box b
    if x.due = [] ∧ x.retries = [] ∧ !x.closing then s
    else ((s.retriesRun b (x.retries.length + 1)).boxSend b)) s).sceneOrphan

end Sys2Proof.Machine
end

