-- ==== Sys2Proof/Machine/DupFrames.lean ====
section
/-! DEFINITION. The duplex pair on port D: frames received, commits and their acknowledgement, role resolution, shadow
composition, resynchronisation and the changeover (R417 to R453). -/

namespace Sys2Proof.Machine

/-! ### Commits on the lead (R428, R432) -/

/-- What an acknowledged commit completes (R428). -/
def State.commitDone (s : State) (c : Commit) : State :=
  match c.what with
  | .item n id => (s.modItem n id (fun x => if x.phase = .mirror c.seq then { x with phase := .ready } else x)).acceptReady n
  | .accession i => s.accessionUse i
  | .lease l =>
    let s : State := { s with leases := s.leases.map (fun x => if x.same l then { x with wait := false } else x) }
    s.seriesTop l.series
  | .layout =>
    match s.frg.op with
    | some o => if o.waiting = some c.seq then (s.layoutApply o).schedHeld else s
    | none => s
  | .nozzle => { s with nzc := { s.nzc with op := s.nzc.op.map (fun o => { o with waiting := false }) } }
  | .flush n scope spared => s.flushNow n scope spared
  | .prompt b seq => s.izxEnd b seq (detailResp 0 0)
  | .scene => s.armAnswer true
  | .patch _ _ => s
  | .data => s

/-- What a commit that ends with COMMIT_FAIL leaves (R157, R432). -/
def State.commitLost (s : State) (c : Commit) : State :=
  match c.what with
  | .item n id => if (s.item? n id).any (fun x => x.phase = .mirror c.seq) then s.commitFail n id else s
  | .accession i => s.setSrun i { s.srun i with pend := none }
  | .lease l =>
    if s.role = 3 then
      { s with leases := s.leases.map (fun x => if x.same l then { x with wait := false } else x) }
    else s
  | .layout =>
    match s.frg.op with
    | some o => if o.waiting = some c.seq then (s.layoutEnd 11 0xFF).schedHeld else s
    | none => s
  | .nozzle => s.nzAbort
  | .flush _ _ _ => s
  | .prompt b seq => s.izxEnd b seq (detailResp 6 0)
  | .scene => s.armAnswer false
  | .patch _ _ => s
  | .data => s

/-- The commits in progress, with their number shown (R459). -/
def State.setCommits (s : State) (l : List Commit) : State :=
  ({ s with dpx := { s.dpx with commits := l } } : State).put F.DPX_COMMIT_PENDING (min l.length 255)

/-- Commits end with COMMIT_FAIL. -/
def State.commitsLose (s : State) (l : List Commit) : State :=
  let s := s.setCommits (s.dpx.commits.filter (fun c => !(l.contains c)))
  l.foldl (fun s c => s.commitLost c) s

/-- An acknowledgement whose record equals the record sent, value and complement, completes that commit (R429). -/
def State.commitAck (s : State) (record : List Byte) : State :=
  match s.dpx.commits.find? (fun c => commitRecord c.seq c.kind c.track = record) with
  | none => s
  | some c =>
    let s := s.setCommits (s.dpx.commits.filter (fun x => x ≠ c))
    (s.put F.DPX_COMMIT_SEQ_LOW c.seq).commitDone c

/-! ### Forwarded submissions (R434) -/

/-- Submissions that a box's commands forwarded and that no lead answers end with COMMIT_FAIL (R434, R529). -/
def State.fwdFail (s : State) : State :=
  (List.range 16).foldl (fun s b =>
    let l := (s.box b).due.filter (fun d => d.resp.isNone ∧ (d.opcode = 0x20 ∨ d.opcode = 0x21))
    l.foldl (fun s d =>
      if d.opcode = 0x20 then s.outcome { box := b, seq := d.seq } 0x12 (notAccepted d.payload)
      else
        let p := (List.range (leAt d.payload 0 1)).foldl (fun p k =>
          if leAt p (8 + 24 * k) 1 = 0xFF then p.take (8 + 24 * k) ++ leBytes 1 0x12 ++ p.drop (9 + 24 * k) else p) d.payload
        s.boxDone b d.seq { status := 0, payload := p }) s) s

/-- A lead executes a submission that its understudy forwarded (R434). -/
def State.submitFwd (s : State) (l : List Byte) : State :=
  let b := leAt l 0 1
  let op := leAt l 10 1
  let seq := leAt l 12 4
  let body := l.drop 24
  if s.role ≠ 1 ∨ !(op = 0x20 ∨ op = 0x21) then s else
  let items := if op = 0x20 then [(0, body.take 64)] else batchItems body
  let v : Serving := { box := b, seq, opcode := op, payload := if op = 0x21 then batchAll 0xFF body else [] }
  let s : State := { s with dpx := { s.dpx with serving := s.dpx.serving ++ [v] } }
  items.foldl (fun s p => s.submit { bytes := p.2, sub := { box := b, seq, index := p.1, fwd := true } }) s

/-- The understudy returns its lead's outcome to the box (R434, R529); outcomes that a repeat of a batch kept stand (R527). -/
def State.outcomeFwd (s : State) (l : List Byte) : State :=
  let b := leAt l 0 1
  let seq := leAt l 12 4
  let body := l.drop 24
  match (s.box b).due.find? (fun d => d.seq = seq ∧ d.resp.isNone) with
  | none => s
  | some d =>
    let n := leAt d.payload 0 1
    let p := if d.opcode = 0x21 then
        (List.range n).foldl (fun p k =>
          if leAt p (8 + 24 * k) 1 = 0xFF then batchPut p k ((body.drop (8 + 24 * k)).take 24) else p) d.payload
      else body.take 24
    s.boxDone b seq { status := 0, payload := p }

/-! ### Resynchronisation (R452) -/

/-- A queued item in a snapshot, with its marks and state (R452). -/
def State.syncItemOf (s : State) (n : Nat) (x : Item) : SyncItem :=
  let state := match x.phase with | .head => 1 | .bound => 2 | .printing => 3 | .fired => 4 | _ => 0
  { record := x.bytes n, issue := s.issueBytes x, marks := x.marks, state, instant := x.readInstant, counters := x.counters
    c := x.c.toNat, perf := x.perf }

/-- Part 1 for one track: its marks and its accepted items. -/
def State.syncQueue (s : State) (n : Nat) : Sync :=
  .queue n (s.get (F.WQ_ACC_HWM n)) (s.get (F.WQ_FIRED_HWM n)) (s.provisional n)
    (((s.queue n).items.filter (fun x => !x.committing)).map (s.syncItemOf n))

/-- Part 2: the accessions and leases, and the counters. -/
def State.syncSeries (s : State) : Sync :=
  .series (s.ldg.live.filterMap (fun e => match e with
      | .accession i false q o => some (i, q, o)
      | _ => none))
    (s.leases.map (fun l => (!l.partner, s.leaseBytes l))) (s.vd.cnts.map (fun k => (k, s.cntWord k)))

/-- Part 3: the layouts, and both pages of the nozzle map. -/
def State.syncConfig (s : State) : Sync :=
  let page (a : Bool) : List (Bool × Nat × Nat × Nat) :=
    let p := s.nzPage (if a then s.activePage else s.shadowPage)
    p.entries.map (fun c => (a, 0, c.1, c.2)) ++ p.curves.map (fun c => (a, 1, c.1, c.2)) ++ p.wsets.map (fun c => (a, 2, c.1, c.2))
  .config ((s.frg.layouts.filter (fun l => !l.retiring)).map (fun l => (l.track, l.id, l.addr, s.dramBytes l.addr l.len)))
    (page true ++ page false)

/-- The lead records the next COMMIT_SEQ S and sends the snapshot (R452): each part is shown as a frame with the part number,
and S in the end record, and its contents beside it, for the spec gives them no layout (log entry 33). -/
def State.syncSend (s : State) : State :=
  let q := s.dpx.commitSeq
  let s : State := { s with
    dpx := { s.dpx with syncSeq := q }, leases := s.leases.map (fun l => { l with wait := false }) }
  if !(s.flag F.DPX_STATUS_LINK_UP) then s else
  let parts : List (Nat × Sync) := (List.range 16).map (fun n => (1, s.syncQueue n)) ++
    [(2, s.syncSeries), (3, s.syncConfig), (4, .finish q)]
  parts.foldl (fun s p => (s.dpxSend 0x12 (leBytes 1 p.1 ++ leBytes 7 0 ++
    leBytes 8 (if p.1 = 4 then q else 0))).emit (.sync p.2)) s

/-- An understudy waits for a snapshot. -/
def State.syncLost (s : State) : State :=
  (({ s with dpx := { s.dpx with synced := false } } : State).put F.DPX_STATUS_SYNC 0).dpxReadyCheck

/-- One series' serial of an issue record: its value, none when none was issued (R274). -/
def State.issueOf (s : State) (l : List Byte) : Option Nat :=
  let v := s.vec (s.sdef (leAt l 26 1)).vector
  if leAt l 27 1 = 1 then some (digitsVal v (wordDigits (leAt l 8 18))) else none

/-- An item that the lead committed stands in the queue as accepted (R429); under a COMMIT_SEQ, the acknowledgement leaves when
both records stand in DRAM (R37). -/
def State.mirrorItem (s : State) (rec iss : List Byte) (marks : Nat) (commit : Option Nat) : State :=
  let n := trackOf rec
  let q := s.queue n
  let x := itemOf rec {}
  let x := { x with phase := .accepted, serial := s.issueOf iss, marks := x.marks ||| marks, slot := freeSlot (q.items.map Item.slot) q.slotNext q.items.length }
  let g := s.queueRegion n
  let who : DramUser := match commit with | some q => .mirror q n | none => .plain
  let s := (s.dramPut 3 (g.base + 64 * x.slot) rec who).dramPut 3 (g.base + 5242880 + 32 * x.slot) iss who
  let s := s.setQueue n { q with
    items := q.items ++ [x], slotNext := (x.slot + 1) % 65536, history := q.history.filter (fun r => r.id ≠ x.id) }
  (s.put (F.WQ_ACC_HWM n) (max x.id (s.get (F.WQ_ACC_HWM n)))).wqShow n

/-- An item enters HEAD on the understudy with its lead's read instant and counters (R435): each counter takes the value taken
plus STEP. -/
def State.mirrorHead (s : State) (n id instant : Nat) (cs : List (Nat × Nat)) : State :=
  match s.item? n id with
  | none => s
  | some x =>
    match s.layout? n x.layout with
    | none => s
    | some ly =>
      if x.phase ≠ .accepted then s else
      let s := s.enterHead n { x with version := ly.version } instant cs
      cs.foldl (fun s p => (s.setCntWord p.1 p.2).cntStep p.1) s

/-- The counters of a HEAD frame, one word for each COUNTER field of the item's layout in index order (R427). -/
def State.headWords (s : State) (n id : Nat) (l : List Byte) : List (Nat × Nat) :=
  match s.item? n id with
  | none => []
  | some x =>
    match s.layout? n x.layout with
    | none => []
    | some ly =>
      let ks := (ly.fields.filter (fun d => d.kind = 4)).map FieldDesc.sel
      let w (i : Nat) : Nat := leAt l (24 * i) 8 + leAt l (24 * i + 8) 8 * 2 ^ 48 + leAt l (24 * i + 16) 8 * 2 ^ 96
      (List.range ks.length).foldl (fun cs i =>
        let k := ks.getD i 0
        if cs.any (fun c => c.1 = k) then cs else cs ++ [(k, w i)]) []

/-- The understudy binds an item at its lead's position and PERF state (R435); its own cue event at that position is named. -/
def State.mirrorBind (s : State) (n id : Nat) (c : Pos) (perf : Bool) : State :=
  match s.item? n id with
  | none => s
  | some x =>
    if x.phase ≠ .head then s else
    let k := s.track n
    let near (u : Ps × Pos) : Bool := decide (posDiff u.2 c < 4096) && decide (posDiff c u.2 < 4096)
    let at_ := ((k.unbound.find? near).map Prod.fst).getD s.now
    let s := s.setTrack n { k with unbound := k.unbound.filter (fun u => !(near u)), lastBind := some c }
    s.bindItem n x c at_ perf

/-- One item of a snapshot. -/
def State.syncItem (s : State) (n : Nat) (y : SyncItem) : State :=
  let id := leAt y.record 0 8
  let s := s.mirrorItem y.record y.issue y.marks none
  let s := if 1 ≤ y.state then s.mirrorHead n id y.instant y.counters else s
  let s := if 2 ≤ y.state then s.mirrorBind n id (BitVec.ofNat 60 y.c) y.perf else s
  if y.state = 4 then s.modItem n id (fun x => { x with phase := .fired, next := x.lines, firedAt := s.now }) else s

/-- A series' lease of the lead, as this device journals it (R430, R494). -/
def leaseOf (l : List Byte) (partner : Bool) : Lease :=
  { series := leAt l 0 1, partner, state := leAt l 1 1, holder := leAt l 2 2, quantum := leAt l 4 4, quanta := leAt l 8 2
    epoch := leAt l 12 4, txn := leAt l 16 4, tag := leAt l 20 4 }

/-- The halves of a 64-byte lease record agree (R490). -/
def leaseSound (l : List Byte) : Bool := l.length = 64 ∧ l.drop 32 = (l.take 32).map (fun b => ~~~b)

/-- An entry of the lead is journaled here unless it stands in the ledger already. -/
def State.journalOnce (s : State) (e : Entry) : State := if s.ldg.live.contains e then s else s.ldgRequest e

/-- A host-installed layout of a snapshot takes its place (R229). -/
def State.syncLayout (s : State) (n id addr : Nat) (l : List Byte) : State :=
  let s := s.writeNow addr l
  match s.layout? n id with
  | some ly => if ly.crc = descCrc l then s else
    match s.layoutCheck { op := 2, track := n, id, addr } with
    | .ok ly => (s.layoutHeld 2 ly).frgShow
    | .error _ => s
  | none =>
    match s.layoutCheck { op := 1, track := n, id, addr } with
    | .ok ly => (s.layoutHeld 1 ly).frgShow
    | .error _ => s

/-- One entry of a nozzle map page: KIND of NZC_LOAD_CFG, index and value. -/
def NzPage.put (p : NzPage) (kind i v : Nat) : NzPage :=
  if kind = 0 then { p with entries := tblPut 0 p.entries i v }
  else if kind = 1 then { p with curves := tblPut identityCurve p.curves i v }
  else { p with wsets := tblPut 0 p.wsets i v }

/-- A page of the map by its role now. -/
def State.putPage (s : State) (active : Bool) (kind i v : Nat) : State :=
  let k := if active then s.activePage else s.shadowPage
  s.setNzPage k ((s.nzPage k).put kind i v)

/-- The lines that the lead named for a swap (R330): a mask of tracks, and their fire positions (log entry 34). -/
def State.swapNames (s : State) (seq : Nat) (d : List Byte) : State :=
  let tracks := (List.range 16).filter (fun n => (leAt d 0 8).testBit n)
  let names := tracks.zipIdx.map (fun x => (x.1, BitVec.ofNat 60 (leAt d (8 + 8 * x.2) 8)))
  { s with nzc := { s.nzc with swap := s.nzc.swap.map (fun w => if w.mirror = some seq then { w with named := names } else w) } }

/-! ### C frames on the understudy (R429 to R431) -/

/-- A CONFIG operation: 1 layout, 2 nozzle map, 3 DRAM data, 4 scene arm, 5 NOR, 6 scene transfer (log entry 34). The answer is
whether its effect is complete; an operation that runs is acknowledged at its end. -/
def State.configApply (s : State) (seq : Nat) (l : List Byte) : State × Bool :=
  let d := l.drop 8
  match leAt l 0 1 with
  | 1 =>
    let s := s.put F.FRG_LAYOUT_ADDR (leAt d 0 4)
    let v := leAt d 4 4
    (s.layoutWrite (bits v 21 20) (bits v 19 16) (bits v 15 0) (some seq), false)
  | 2 =>
    let op := leAt d 0 4
    if op = 6 then ((s.put F.NZC_PATCH_INDEX_INDEX (leAt d 4 4)).nzPatch (leAt d 8 4) true, true)
    else
      let s := (s.put F.NZC_LOAD_ADDR_ADDR (leAt d 4 8)).put F.NZC_LOAD_CFG (leAt d 12 4)
      let s := (s.put F.NZC_LOAD_COUNT (leAt d 16 4)).put F.NZC_LOAD_CRC (leAt d 20 4)
      (if 1 ≤ op ∧ op ≤ 3 then s.nzStart op (some seq)
        else if op = 4 ∨ op = 5 then (s.nzSwap (op = 5) (some seq)).swapNames seq (d.drop 24)
        else s, false)
  | 3 => (s.writeNow (leAt d 0 8) (d.drop 8), true)
  | 4 =>
    let v := leAt d 0 8
    match s.armFault (v / 65536) (v.testBit 4) true with
    | some _ => (s, false)
    | none => (s.armAccept (v / 65536) (v.testBit 3) s.now, true)
  | 5 =>
    let k := leAt d 1 1
    if s.flag F.CFG_PROMPT_STATUS_IMPORTED ∧ s.get F.CFG_PROMPT_STATUS_SLOT = k then (s, false)
    else match leAt d 0 1 with
      | 0 => (s.store (.norErase (slotBase k) (slotBase k + 0x4000000)), true)
      | 1 => (s.store (.nor (slotBase k + leAt d 4 4) ((d.drop 16).take (leAt d 8 4))), true)
      | _ => (s, true)
  | 6 =>
    match leAt d 0 1, s.cfg.stage with
    | 0, none =>
      if !s.stageFree ∨ (s.plane s.stageTarget).state = 7 then (s, false)
      else
        let s : State := { s with scene := some { box := 16 } }
        (s.stageBegin { plane := s.stageTarget, box := some 16 }, true)
    | 1, some g =>
      if g.box ≠ some 16 then (s, false) else
      (s.modStage (fun (g : Stage) => { g with image := memWrite .flash g.image (leAt d 4 4) ((d.drop 16).take (leAt d 8 4)) }), true)
    | 2, some g =>
      if g.box ≠ some 16 then (s, false) else
      ((({ s with scene := none } : State).modStage (fun (g : Stage) => { g with step := 3 })).planeState g.plane 3, true)
    | _, _ => (s, false)
  | _ => (s, false)

/-- A sound C frame is applied (R429). -/
def State.commitApply (s : State) (op : Nat) (payload : List Byte) : State :=
  let v := leAt payload 0 8
  let q := bits v 63 32
  let n := bits v 23 20
  let l := payload.drop 16
  let s : State := { s with dpx := { s.dpx with applying := s.dpx.applying ++ [⟨q, op, n, s.now⟩] } }
  match op with
  | 0x03 => s.mirrorItem (l.take 64) ((l.drop 64).take 32) 0 (some q)
  | 0x05 =>
    match readSlot (l.take 32) with
    | .entry (.accession i _ t o) => s.ldgRequest (.accession i true t o) (.mirror q)
    | _ => s.raise Ev.LDG_LOG_FAULT
  | 0x06 =>
    if !(leaseSound (l.take 64)) then s.raise Ev.CMP_LEASE_FAULT else
    let x := leaseOf l true
    (s.putLease x).ldgRequest x.entry (.mirror q)
  | 0x07 =>
    let (s, done) := s.configApply q l
    if done then s.dpxAck q op n else s
  | 0x08 => (s.flush (leAt l 0 1) (leAt l 1 1) []).dpxAck q op n
  | _ => s

/-- NAK, at most once per 1 µs (R426). -/
def State.dpxNak (s : State) : State :=
  let s := s.addSat F.DPX_RETRY 1
  let soon : Bool := match s.dpx.nakAt with | some a => decide (s.now < a + 1000000) | none => false
  if soon then s else
  ({ s with dpx := { s.dpx with nakAt := some s.now } } : State).dpxSend 0x0F
    (leBytes 4 ((s.dpx.rxSeq + 1) % 2 ^ 32) ++ leBytes 4 0)

/-- A C frame arrives in its turn (R428 to R431, R452): one whose record's halves disagree, or whose KIND is not its opcode, is
not accepted; frames before the end record of a resynchronisation wait for it. -/
def State.commitFrame (s : State) (op : Nat) (payload : List Byte) : State :=
  let v := leAt payload 0 8
  if v + leAt payload 8 8 ≠ 2 ^ 64 - 1 ∨ bits v 31 24 ≠ op then
    let s : State := { s with dpx := { s.dpx with rxSeq := (s.dpx.rxSeq + 2 ^ 32 - 1) % 2 ^ 32, faults := s.dpx.faults + 1 } }
    let s := (s.raise Ev.DPX_COMMIT_FAULT).dpxNak
    if 3 ≤ s.dpx.faults then s.syncLost else s
  else
    let s : State := { s with dpx := { s.dpx with faults := 0 } }
    if s.role ≠ 2 then s
    else if !s.dpx.synced then { s with dpx := { s.dpx with heldC := s.dpx.heldC ++ [(op, payload)] } }
    else s.commitApply op payload

/-- A snapshot part is applied (R452); the end record releases the commits from S on. -/
def State.syncPart (s : State) (x : Sync) : State :=
  if s.role ≠ 2 then s else
  match x with
  | .queue n acc fired _ items =>
    let q := s.queue n
    let s := (s.setQueue n { q with items := [], held := [] }).put F.DPX_STATUS_SYNC 1
    let s := (s.put (F.WQ_ACC_HWM n) acc).put (F.WQ_FIRED_HWM n) fired
    (items.foldl (fun s y => s.syncItem n y) s).wqShow n
  | .series accs leases cnts =>
    let s := s.put F.DPX_STATUS_SYNC 2
    let s := accs.foldl (fun s a => s.journalOnce (.accession a.1 true a.2.1 a.2.2)) s
    let s := leases.foldl (fun s p =>
      if !(leaseSound p.2) then s.raise Ev.CMP_LEASE_FAULT
      else if p.1 then
        let l := leaseOf p.2 true
        (s.putLease l).journalOnce l.entry
      else s) s
    cnts.foldl (fun s p => s.setCntWord p.1 p.2) s
  | .config layouts maps =>
    let s := s.put F.DPX_STATUS_SYNC 3
    let s := layouts.foldl (fun s p => s.syncLayout p.1 p.2.1 p.2.2.1 p.2.2.2) s
    maps.foldl (fun s p => s.putPage p.1 p.2.1 p.2.2.1 p.2.2.2) s
  | .finish q =>
    let s := s.put F.DPX_STATUS_SYNC 0
    let held := s.dpx.heldC.filter (fun p => (bits (leAt p.2 0 8) 63 32 + 2 ^ 32 - q) % 2 ^ 32 < 2 ^ 31)
    let s : State := { s with dpx := { s.dpx with synced := true, heldC := [] } }
    held.foldl (fun s p => s.commitApply p.1 p.2) s

/-! ### Receiving a frame (R425, R426) -/

/-- Every held frame from a SEQ on is sent again. -/
def State.dpxResend (s : State) (start : Nat) : State :=
  let l := s.dpx.unacked.filter (fun f => (f.1 + 2 ^ 32 - start) % 2 ^ 32 < 2 ^ 31)
  let s := l.foldl (fun s f => s.emit (.dpx f.1 s.dpx.rxSeq f.2.1 f.2.2)) s
  let s : State := { s with dpx := { s.dpx with ackAt := s.now, sentAt := if l = [] then s.dpx.sentAt else s.now } }
  s.addSat F.DPX_RETRY l.length

/-- Frames acknowledged leave, and waiting ones go out. -/
def State.dpxAcked (s : State) (ack : Nat) : State :=
  let rest := s.dpx.unacked.filter (fun f => 2 ^ 31 ≤ (ack + 2 ^ 32 - f.1) % 2 ^ 32)
  if rest.length = s.dpx.unacked.length then s else
  let k := 256 - rest.length
  let go := s.dpx.waiting.take k
  let s : State := { s with dpx := { s.dpx with unacked := rest, ackAt := s.now, waiting := s.dpx.waiting.drop k } }
  go.foldl (fun s f => s.dpxPut f.1 f.2) s

/-- How long the timer of R432 has been paused: while port D retrains, at most 500 µs (R424). -/
def State.ackPaused (s : State) : Nat := match s.dpx.retrain with | some a => min 500000000 (s.now - a) | none => 0

/-- Port D has retrained: the timers of commits go on from where they were paused (R424). -/
def State.retrained (s : State) : State :=
  let p := s.ackPaused
  { s with dpx := { s.dpx with
    retrain := none, commits := if p = 0 then s.dpx.commits else s.dpx.commits.map (fun c => { c with at_ := c.at_ + p }) } }

/-- Frames pass again: SEQ 1 says that the port has trained anew, and held frames are numbered from 1 again (R424, R425). -/
def State.dpxLinkUp (s : State) (seq : Nat) : State :=
  let s := (s.put F.DPX_STATUS_LINK_UP 1).put F.DPX_STATUS_CUE_OK 1
  let s := s.retrained
  if seq = 1 then
    let l := s.dpx.unacked.map Prod.snd
    let u := (List.range l.length).map (fun i => (i + 1, l.getD i (0, [])))
    let s : State := { s with dpx := { s.dpx with rxSeq := 0, unacked := u, txSeq := u.length } }
    s.dpxResend 1
  else s

/-- Isolation ends when port D passes a frame (R433). -/
def State.isolationEnd (s : State) : State :=
  if !(s.flag F.DPX_STATUS_ISOLATED) then s else
  let s := s.put F.DPX_STATUS_ISOLATED 0
  if s.role = 1 then s.syncSend else if s.role = 2 then s.syncLost else s

/-- A frame of a good CRC arrives on port D (R422, R426): it is accepted, its ACK with it, when its SEQ is the next. -/
def State.dpxRx (s : State) (seq ack : Nat) (act : State → State) : State :=
  if !s.dpx.configured ∨ !(s.phaseDone 4) then s else
  let s : State := { s with dpx := { s.dpx with frameAt := some s.now } }
  let s := (if s.flag F.DPX_STATUS_LINK_UP then s.retrained else s.dpxLinkUp seq).isolationEnd
  let s := if seq = (s.dpx.rxSeq + 1) % 2 ^ 32 then
      let s := s.dpxAcked ack
      act ({ s with dpx := { s.dpx with rxSeq := seq } } : State)
    else s.dpxNak
  s.dpxReadyCheck

/-- A NAK names the SEQ to send again from (R426). Three on the same C frame: the understudy resynchronises (R431, log entry
32). -/
def State.dpxNaked (s : State) (start : Nat) : State :=
  let n := if s.dpx.nakSeq = start then s.dpx.faults + 1 else 1
  let c : Bool := s.dpx.unacked.any (fun f => f.1 = start && [3, 5, 6, 7, 8].contains f.2.1)
  let s : State := { s with dpx := { s.dpx with nakSeq := start, faults := n } }
  let s := s.dpxResend start
  if s.role = 1 ∧ c ∧ n = 3 then s.syncSend else s

/-! ### Roles (R448, R449) -/

/-- A digest that eight registers show. -/
def State.digestOf (s : State) (f : Nat → Fld) : List Byte := (List.range 8).flatMap (fun k => leBytes 4 (s.get (f k)))

/-- The HELLO of this device. -/
def State.hello (s : State) : List Byte :=
  leBytes 8 Config.deviceId ++ leBytes 8 s.dpx.partnerReq ++ leBytes 1 s.mode ++ leBytes 1 s.dpx.prefer ++ leBytes 6 0 ++
    s.digestOf F.CFG_SCENE_DIGEST ++ s.digestOf F.CFG_PROMPT_DIGEST

/-- Rank of a PREFER value: lead beats any beats understudy. -/
def preferRank (p : Nat) : Nat := if p = 1 then 2 else if p = 2 then 0 else 1

/-- The role that a HELLO resolves (R448). -/
def State.helloRole (s : State) (dev mode prefer : Nat) : Nat :=
  if mode = 2 ∨ mode = 3 then 2
  else if 4 ≤ mode ∧ mode ≤ 7 then 1
  else
    let a := preferRank s.dpx.prefer
    let b := preferRank prefer
    if b < a then 1 else if a < b then 2 else if Config.deviceId < dev then 1 else 2

/-- Role resolution runs (R448). -/
def State.resolving (s : State) : Bool := s.mode = 1 && s.phaseDone 7 && s.ldg.scanned && !s.phaseDone 8 && !s.sys.roleDone

/-- A HELLO arrives (R448, R450); outside phase JOIN it is answered with this device's own. -/
def State.helloRx (s : State) (l : List Byte) : State :=
  let dev := leAt l 0 8
  let pid := leAt l 8 8
  let s := s.put F.DPX_PARTNER_ID dev
  let same : Bool := (l.drop 24).take 64 = s.digestOf F.CFG_SCENE_DIGEST ++ s.digestOf F.CFG_PROMPT_DIGEST
  let s : State := { s with dpx := { s.dpx with digestsOk := same, resolved := true } }
  let s := if same then s else s.raise Ev.DPX_VERSION_MISMATCH
  let wrong : Bool := (pid ≠ 0 && pid ≠ Config.deviceId) || (s.dpx.partnerReq ≠ 0 && s.dpx.partnerReq ≠ dev)
  let s := if wrong then s.raise Ev.DPX_PARTNER_WRONG else s
  let s : State := { s with dpx := { s.dpx with wrong } }
  if s.resolving then s.roleSettle (if wrong then 3 else s.helloRole dev (leAt l 16 1) (leAt l 17 1))
  else if s.phaseDone 8 then s.dpxSend 0x01 s.hello
  else s

/-- HELLO is sent once per 100 µs in phase JOIN until one is received (R448). -/
def State.helloSend (s : State) : State :=
  if s.dpx.configured ∧ s.resolving ∧ !s.dpx.resolved then s.dpxPut 0x01 s.hello else s

/-- A STATE frame (R427, R449). -/
def State.stateRx (s : State) (l : List Byte) : State :=
  let m := leAt l 0 1
  let f := leAt l 1 1
  let was := s.dpx.partnerMode
  let s : State := { s with dpx := { s.dpx with
    partnerMode := m, partnerReady := f.testBit 0, partnerHold := f.testBit 1, partnerRehearse := leAt l 2 2
    partnerHouse := leAt l 8 8 } }
  let s := s.put F.DPX_STATUS_PARTNER_MODE m
  if s.dpx.wrong then s
  else if s.role = 1 ∧ m ≠ 4 ∧ s.phaseDone 9 then (s.setRole 3).commitsLose s.dpx.commits
  else if s.role = 3 ∧ m = 4 ∧ s.phaseDone 9 then (s.setRole 1).syncSend
  else if s.role = 1 ∧ m = 4 ∧ was ≠ 4 then s.syncSend
  else s

/-! ### Positions (R437, R438) -/

/-- A lead's POS frame of an armed track: the last P_e, the age of its edge, and H. -/
def State.posSend (s : State) (n : Nat) : State :=
  let s := s.settle n s.now
  let x := s.track n
  if s.role ≠ 1 ∨ !x.armed then s else
  let age := match x.lastEdge with | some a => (s.now - a) / 625 | none => 2 ^ 32 - 1
  s.dpxSend 0x0C (leBytes 1 n ++ leBytes 3 0 ++ leBytes 4 (min age (2 ^ 32 - 1)) ++ leBytes 8 x.pe.toNat ++ leBytes 8 x.h.toNat)

/-- The offset of a sample, when it is usable. -/
def State.posOffset (s : State) (n age : Nat) (pe : Pos) : Option Pos :=
  let x := s.track n
  let t : Int := (s.now : Int) - s.get F.DPX_LINK_LATENCY * 625 - age * 625
  let near : List (Ps × Pos) := x.edges.filter (fun e => decide (-10000 ≤ (e.1 : Int) - t) && decide ((e.1 : Int) - t ≤ 10000))
  let still : Bool := decide (1000000000 ≤ age * 625) && (match x.lastEdge with | some a => decide (a + 1000000000 ≤ s.now) | none => true)
  match near with
  | [e] => some (pe - e.2)
  | _ => if still then some (pe - x.pe) else none

/-- A track that is not aligned composes no line, and its lanes carry only FENCE frames (R438): its lines and their frames go. -/
def State.trackSilent (s : State) (n : Nat) : State :=
  let s := (s.setLines (s.frg.lines.filter (fun l => l.track ≠ n))).linesShow
  (List.range 32).foldl (fun s k =>
    let x := s.lane k
    let rest := x.buf.filter (fun f => f.fence ∨ f.track ≠ n)
    if rest.length = x.buf.length then s else (s.setLane k { x with buf := rest }).laneShow k) s

/-- A POS sample is used. -/
def State.posRx (s : State) (n age : Nat) (pe h : Pos) : State :=
  if s.role ≠ 2 ∨ s.mode ≠ 4 ∨ 16 ≤ n then s else
  match s.posOffset n age pe with
  | none => s
  | some d =>
    let x := s.track n
    if x.aligned then
      if d = 0 then s else
      let s := s.setTrack n { x with aligned := false, alignRun := 1, alignOff := d }
      (s.trackSilent n).raise Ev.DPX_POS_MISMATCH
    else
      let run := if 0 < x.alignRun ∧ x.alignOff = d then x.alignRun + 1 else 1
      if run < 16 then s.setTrack n { x with alignRun := run, alignOff := d } else
      let s := s.settle n s.now
      let x := s.track n
      s.setTrack n { x with
        aligned := true, alignRun := 0, alignOff := 0, pe := x.pe + d, ps := x.ps + d, h := h
        revLow := x.revLow + d, lastBind := x.lastBind.map (· + d), unbound := x.unbound.map (fun u => (u.1, u.2 + d))
        cues := x.cues.map (fun p => (p.1, p.2.map (fun c => { c with pos := c.pos + d })))
        edges := x.edges.map (fun e => (e.1, e.2 + d)) }

/-! ### Loss of the partner (R422, R432, R433) -/

/-- Port D passes no more frames. -/
def State.dpxDown (s : State) : State :=
  let s := (s.put F.DPX_STATUS_LINK_UP 0).put F.DPX_STATUS_WIDTH 0
  if s.role = 2 then s.fwdFail else s

/-- 3 µs have passed since the last good frame on port D. -/
def State.frameSilent (s : State) : Bool :=
  match s.dpx.frameAt with | some a => decide (a + 3000000 ≤ s.now) | none => true

/-- The pair is isolated (R433). -/
def State.isolate (s : State) : State :=
  if s.flag F.DPX_STATUS_ISOLATED ∨ !(s.role = 1 ∨ s.role = 2) then s else
  (((s.put F.DPX_STATUS_ISOLATED 1).dpxDown).raise Ev.DPX_ISOLATED).dpxReadyCheck

/-- The lead is lost: CUE_B and port D have been silent for 3 µs. -/
def State.leadLost (s : State) : State :=
  if !s.dpx.configured ∨ !s.frameSilent then s else
  let s := if s.role = 2 then s.coTake 3 false else s
  let s := s.put F.DPX_STATUS_CUE_OK 0
  let s := if s.flag F.DPX_STATUS_ISOLATED ∧ s.role = 1 then
      ((s.put F.DPX_STATUS_ISOLATED 0).setRole 3).raise Ev.DPX_PARTNER_LOST
    else s
  s.dpxDown.dpxReadyCheck

/-- CUE_B is silent for 3 µs while frames arrive (R422). -/
def State.cueFault (s : State) : State :=
  if !s.dpx.configured ∨ s.frameSilent then s else (s.put F.DPX_STATUS_CUE_OK 0).raise Ev.DPX_CUE_FAULT

/-- ACK_TIMEOUT in ps. -/
def State.ackPs (s : State) : Nat := max 10 (s.get F.DPX_CFG_ACK_TIMEOUT) * 1000000

/-- An acknowledgement has not arrived in time (R432): `cueSilent` is what CUE_B shows. -/
def State.ackTimeout (s : State) (cueSilent : Bool) : State :=
  match s.dpx.commits with
  | [] => s
  | c :: _ =>
    if s.now < c.at_ + s.ackPs + s.ackPaused ∨ s.dpx.retrain.any (fun a => s.now < a + 500000000) then s else
    let late := s.dpx.commits.filter (fun x => x.track = c.track)
    let lead : Bool := s.role = 1 && !(s.flag F.DPX_STATUS_ISOLATED)
    if lead && cueSilent then
      let s := ((s.setRole 3).put F.DPX_STATUS_CUE_OK 0).raise Ev.DPX_PARTNER_LOST
      (s.commitsLose late).dpxReadyCheck
    else
      let s := s.commitsLose late
      if lead then s.isolate else s

/-- An isolated lead ends every commit with COMMIT_FAIL (R433); READY and ALIGNED follow what they show (R438, R439). -/
def State.dpxSettle (s : State) : State :=
  (if s.role = 1 ∧ s.flag F.DPX_STATUS_ISOLATED ∧ s.dpx.commits ≠ [] then s.commitsLose s.dpx.commits else s).dpxReadyCheck

/-! ### The changeover (R441 to R446) -/

/-- A CO frame: 1 HANDING, 2 TAKE_REQUEST (R441, R453). -/
def State.coFrame (s : State) (cause kind : Nat) : State :=
  if kind = 1 then s.coTake cause true
  else if kind = 2 ∧ s.role = 1 then
    if s.dpx.switch.isSome then s.dpxSend 0x0E (leBytes 1 5 ++ leBytes 1 4 ++ leBytes 6 0) else s.coTrigger 5
  else s

/-- A CO_ACK frame: a result other than 1 refuses a request under way (R441, R453). -/
def State.coAck (s : State) (result : Nat) : State :=
  if s.dpx.taking.isSome ∧ result ≠ 1 then
    ({ s with dpx := { s.dpx with taking := none } } : State).coRefuse 5 result
  else s

/-- No HANDING has come within 3 µs of a TAKE_REQUEST (R441). -/
def State.takeTimeout (s : State) : State :=
  match s.dpx.taking with
  | some a =>
    if a + 3000000 ≤ s.now ∧ s.dpx.switch.isNone then
      ({ s with dpx := { s.dpx with taking := none } } : State).coRefuse 5 5
    else s
  | none => s

/-- The cues of its own that no BIND frame named are bound, or starve, at their own positions, the oldest first (R444). -/
def State.unboundCues (s : State) (n : Nat) : State :=
  let l := ((s.track n).unbound.filter (fun u => s.now ≤ u.1 + 16000000)).reverse
  let s := s.setTrack n { s.track n with unbound := [] }
  l.foldl (fun s u => (s.fillHead n).productCue n u.2 u.1 false) s

/-- The items with a line whose fire instant lies in a span, as (track, item). -/
def State.firedIn (s : State) (lo hi : Ps) : List (Nat × Nat) :=
  ((List.range 32).flatMap (fun k => ((s.lane k).fires.filter (fun f =>
    decide (lo ≤ f.tf) && decide (f.tf < hi) && decide (f.item ≠ 0))).map (fun f => (f.track, f.item)))).eraseDups

/-- Marks items with bit [15] and counts them in DPX_CO_LAST.MARKED (R445). -/
def State.missedMark (s : State) (l : List (Nat × Nat)) : State :=
  if l = [] then s else
  let s := l.foldl (fun s p => s.mark p.1 p.2 15) s
  (s.addSat F.DPX_CO_LAST_MARKED l.length).raise Ev.DPX_MISSED_LINES

/-- From t_s the new lead drives gate `g`: a pulse under way goes on for the rest of its span, and one that began and ended in
the gap is given now (R446). -/
def State.gateTake (s : State) (g : Nat) (gap : Ps) : State :=
  let x := s.gate g
  let n := s.act (F.INS_GATE_CFG_TRACK g)
  if !(s.perfNow n) then s
  else if x.endPos.isSome ∨ x.endAt.isSome then (s.addSat (F.INS_GATE_PULSES g) 1).gateOut g true
  else if gap < s.now ∧ gap ≤ x.startedAt ∧ 0 < x.startedAt then s.gatePulse g n false
  else s

/-- The taking twin at t_s (R442 to R446). The gap of trigger 0x1 is taken from 300 ns before its own t_c, the longest that a burst
takes (R443; log entry 104). -/
def State.switchTake (s : State) (w : Switch) : State :=
  let gap := if w.cause = 1 then w.tc - 300000 else if w.cause = 3 then w.tc - 3000000 else s.now
  let heads := (List.range 256).filter (fun h => s.headValid h)
  let s : State := { s with dpx := { s.dpx with
    switch := none, taking := none, synced := false
    missed := heads.foldl (fun m h => tblPut 0 m h ((s.headRun h).missed + 1)) []
    keys := heads.foldl (fun m h => tblPut 0 m h (s.get (F.STG_HEAD_FENCE_LINE_KEY h))) [] } }
  let s := (((s.transitionDrop).setRole 3).setMode 3 4).fwdFail
  let s := (List.range 16).foldl (fun s n =>
    if s.dpx.partnerRehearse.testBit n ∧ (s.track n).perf then
      ((s.setTrack n { s.track n with perf := false }).gatesCancel n).fenceRoles
    else s) s
  let s := (List.range 16).foldl (fun s n => s.unboundCues n) s
  let s := (s.fillHeads).seriesAll
  let s := (s.coDone w.cause 1).put F.DPX_CO_LAST_MARKED 0
  let s := s.missedMark (s.firedIn gap s.now)
  (List.range 32).foldl (fun s g => s.gateTake g gap) s

/-- The handing twin at its switch instant becomes the understudy (R442); commits not acknowledged end with COMMIT_FAIL
(R447). -/
def State.switchHand (s : State) (w : Switch) : State :=
  let s : State := { s with dpx := { s.dpx with switch := none } }
  let s := (s.commitsLose s.dpx.commits)
  let s := (List.range 16).foldl (fun s n =>
    match (s.queue n).items.find? Item.committing with
    | some x => s.commitFail n x.id
    | none => s) s
  ((s.transitionDrop).understudyEnter 4).coDone w.cause 2

/-- The switch instant has come (R442, R443). -/
def State.switchNow (s : State) : State :=
  match s.dpx.switch with
  | none => s
  | some w => if s.now < w.at_ then s else if w.primary then s.switchTake w else s.switchHand w

/-- The switch instant: an acknowledgement, a BIND frame or a scene change of the same instant goes before it (R453). -/
def State.switchAt (s : State) : State := if s.more then s.defer .switch else s.switchNow

/-- A head's first FENCE_UP after a changeover reports more lines missed than before it: items with a line after the last key
reported before t_c are marked (R445). -/
def State.missedCheck (s : State) (h n missed : Nat) : State :=
  let before := tblGet 0 s.dpx.missed h
  if before = 0 then s else
  let key := tblGet 0 s.dpx.keys h
  let s : State := { s with dpx := { s.dpx with missed := tblDel s.dpx.missed h, keys := tblDel s.dpx.keys h } }
  if missed + 1 ≤ before then s else
  let k := (s.headRun h).lane
  let l := ((s.lane k).fires.filter (fun f => decide (f.track = n) && decide (f.item ≠ 0) && keyAfter (lineKey f.fire) key)).map
    (fun f => (f.track, f.item))
  let l := l.eraseDups.filter (fun p => (s.item? p.1 p.2).any (fun x => !(x.marks.testBit 15)))
  s.missedMark l

/-! ### Heartbeat -/

/-- The heartbeat runs (R420): from the start of phase JOIN, but not in DARK or after a wake failure. -/
def State.beats (s : State) : Bool :=
  s.dpx.configured && s.ldg.scanned && s.mode ≠ 0 && s.get F.PWR_STATUS_STATE ≠ 4

/-- CUE_A toggles. -/
def State.beat (s : State) : State :=
  if !s.beats then s else
  let b := !s.dpx.beatLevel
  ({ s with dpx := { s.dpx with beatLevel := b, beating := true } } : State).emit (.cueA b)

end Sys2Proof.Machine
end

