-- ==== Sys2Proof/Machine/Ring.lean ====
section
/-! DEFINITION. Ledger entries taking effect (R467 to R472) and the company's frames and timers (R474 to R497). -/

namespace Sys2Proof.Machine

/-! ### Ledger entries (R467) -/

/-- LEASE_TIMEOUT in ps. -/
def State.leasePs (s : State) : Nat := s.cmp.leaseMs * 1000000000

/-- An entry that has taken effect completes what it was requested for. -/
def State.entryEffect (s : State) (r : LdgReq) : State :=
  let s := match r.entry, r.copy with | .fired n sub _ c, false => s.markWritten n sub c | _, _ => s
  match r.purpose with
  | .plain => s
  | .accession i =>
    if s.mirrors then s.dpxCommit 0x05 0 (.accession i) r.entry.bytes else s.accessionUse i
  | .propose txn holder => s.proposed txn holder
  | .accept e i nx txn =>
    s.ringSend 0x09 (s.get F.CMP_KEEPER_KEEPER) (leBytes 4 e ++ leBytes 1 i ++ leBytes 3 0 ++ leBytes 4 nx ++ leBytes 4 txn)
  | .recall e c => s.recallReply e c
  | .elected e => (s.becomeKeeper e).companyTry
  | .held l => s.leaseHeld l
  | .resealDone =>
    let s : State := { s with ldg := { s.ldg with resealing := false, resealed := true } }
    let s := (s.put F.LDG_STATUS_LOG_FAULT 0).raise Ev.LDG_RESEALED
    if s.mode = 1 ∧ s.phaseDone 8 ∧ !s.sys.armStarted then (s.put F.SYS_CALL_STATUS_WAITING 0).armStart true else s
  | .mirror q => s.dpxAck q (match r.entry with | .lease .. => 0x06 | _ => 0x05) 0

/-- The entry at the front of the queue has been written after `fails` failed verifies, fewer than three with every failed slot
made void; otherwise the ledger gives up, a HOLD cause (R168, R467). -/
def State.entryWritten (s : State) (fails : Nat) (voidOk : Bool) : State :=
  if fails < 3 ∧ voidOk then
    match s.ldgWrite fails with
    | (s, some r) => s.entryEffect r
    | (s, none) => s
  else
    match s.ldgGiveUp (min 3 (max 1 fails)) voidOk with
    | (s, some r) =>
      let s := match r.entry with
        | .fired n _ _ _ =>
          (s.wqShow n).raise Ev.WQ_JOURNAL_FAULT n
        | _ => s.raise Ev.LDG_WRITE_FAIL
      s.holdEnter 3
    | (s, none) => s

/-- A compaction's erase ends once no copy of the sector is still to be written (R468). -/
def State.eraseDone (s : State) : State := if !(s.ldg.queue.any LdgReq.copy) ∧ !s.sys.earlyWarning then s.ldgErased else s

/-! ### Membership (R476 to R481) -/

/-- This device stops acting as keeper (R481). -/
def State.keeperStop (s : State) : State :=
  if !s.cmp.keeper then s else
  (({ s with cmp := { s.cmp with keeper := false, proposals := [], castAt := some s.now } } : State).put F.CMP_STATUS_KEEPER 0)

/-- Quorum as it stands now (R479, R497). -/
def State.quorumCheck (s : State) : State :=
  let s := s.setQuorum s.hasQuorum
  if s.flag F.CMP_STATUS_QUORUM then s.seriesAll else s

/-- The BEACON of this device (R476). -/
def State.beacon (s : State) : List Byte :=
  let fl := bit (s.flag F.CMP_STATUS_QUORUM) + 2 * bit s.cmp.keeper + 4 * bit s.cmp.holdoverAt.isSome + 8 * bit (s.role = 2)
  leBytes 8 Config.deviceId ++ leBytes 1 fl ++ leBytes 1 (s.priority s.seat) ++ leBytes 2 s.vote ++ leBytes 4 s.promised ++
    s.cmp.digest ++ s.digestOf F.CFG_PROMPT_DIGEST ++ s.digestOf F.CFG_SCENE_DIGEST

/-- The ring runs: phase PROMPT has given the roster, and the device is not a company of one (R477). -/
def State.onRing (s : State) : Bool := !s.sole && s.phaseDone 7 && s.ldg.scanned && s.mode ≠ 0 && s.mode ≠ 5

/-- A BEACON of seat `x` (R478, R480, R481, R497). -/
def State.beaconRx (s : State) (l : List Byte) : State :=
  let bad : Bool := (l.drop 16).take 32 ≠ s.cmp.digest
  match s.rosterSeat (leAt l 0 8), bad with
  | some x, false =>
    let b : BeaconInfo := { at_ := s.now, deviceId := leAt l 0 8, priority := leAt l 9 1, vote := leAt l 10 2
                            promised := leAt l 12 4, admitted := true }
    let s : State := { s with cmp := { s.cmp with beacons := tblPut {} s.cmp.beacons x b } }
    let s := if s.promised < b.promised then s.keeperStop else s
    let diff : Bool := (l.drop 48).take 64 ≠ s.digestOf F.CFG_PROMPT_DIGEST ++ s.digestOf F.CFG_SCENE_DIGEST
    let s := if x ≠ s.get F.CMP_KEEPER_KEEPER ∨ s.flag F.CMP_STATUS_VERSION_DIFF = diff then s
      else if diff then (s.put F.CMP_STATUS_VERSION_DIFF 1).raise Ev.CMP_VERSION_DIFF
      else s.put F.CMP_STATUS_VERSION_DIFF 0
    let s := if s.cmp.keeper then s.quorumCheck else s
    s.electionCheck
  | _, _ => if s.cmp.keeper then s.raise Ev.CMP_JOIN_REFUSED else s

/-- A CAST of the keeper (R478, R479, R481). -/
def State.castRx (s : State) (l : List Byte) : State :=
  let e := leAt l 0 4
  let k := leAt l 4 2
  let map := leAt l 8 64
  if e < s.promised then s else
  let s := if s.promised < e then s.keeperStop else s
  if s.cmp.keeper then s else
  let s : State := { s with cmp := { s.cmp with castAt := some s.now, election := none } }
  let s := if s.get F.CMP_KEEPER_KEEPER = k then s else
    (s.put F.CMP_KEEPER_KEEPER k).raise Ev.CMP_KEEPER_CHANGED
  let s := (List.range 16).foldl (fun s w => s.put (F.CMP_CAST w) (map / 2 ^ (32 * w) % 2 ^ 32)) s
  let n := popCount map 512
  let s := s.put F.CMP_KEEPER_PRESENT n
  let own := map.testBit s.seat
  let s := if own then s.joined else s
  let s : State := if own ∧ s.quorumSize ≤ n then { s with cmp := { s.cmp with quorumAt := some s.now } } else s
  (s.quorumCheck).companyTry

/-- A CATALOGUE part is compared with the local series digests (R497). -/
def State.catalogueRx (s : State) (l : List Byte) : State :=
  let p := leAt l 0 1
  (List.range 8).foldl (fun s j =>
    let i := 8 * p + j
    let r := (l.drop (8 + 40 * j)).take 40
    let d := s.sdef i
    let f := F.CMP_NOT_CAST (i / 32)
    let differs : Bool := d.defined && (leAt r 36 4 % 2 = 0 || r.take 32 ≠ d.digest)
    if differs = s.notCast i then s
    else if differs then (s.put f (s.get f ||| 2 ^ (i % 32))).raise Ev.CMP_NOT_CAST
    else (s.put f (s.get f &&& (0xFFFFFFFF - 2 ^ (i % 32)))).seriesTop i) s

/-- One part of the keeper's catalogue: eight series (R476). -/
def State.catalogueSend (s : State) : State :=
  if !s.cmp.keeper ∨ !s.onRing then s else
  let p := s.cmp.part
  let s : State := { s with cmp := { s.cmp with part := (p + 1) % 32 } }
  let rec' (i : Nat) : List Byte :=
    (((s.sdef i).digest ++ List.replicate 32 0).take 32) ++ leBytes 4 (s.catTop i) ++ leBytes 4 (bit (s.sdef i).defined)
  s.ringSend 0x03 0xFFFF (leBytes 1 p ++ leBytes 7 0 ++ (List.range 8).flatMap (fun j => rec' (8 * p + j)))

/-- A BEACON leaves every 1 ms (R476); the votes it shows may complete an election of this device. -/
def State.beaconSend (s : State) : State :=
  if !s.onRing then s else
  let s := s.ringSend 0x01 0xFFFF s.beacon
  (if s.cmp.keeper then s.quorumCheck else s).electionCheck

/-- The keeper's CAST every 1 ms (R476). -/
def State.castTick (s : State) : State := if s.cmp.keeper ∧ s.onRing then (s.castSend.quorumCheck).companyTry else s

/-! ### Time (R482 to R489) -/

/-- Holdover begins where a cause of R486 stands now. -/
def State.holdoverNow (s : State) : State :=
  match s.holdoverCause with
  | some c => s.enterHoldover c
  | none => s

/-- Whether a cause of holdover stands is seen once every mark of the instant has been taken: a STEPPED one steps house time
first (R498). -/
def State.holdoverCheck (s : State) : State := if s.more then s.defer .holdover else s.holdoverNow

/-- A TIME mark (R481, R482, R486). -/
def State.timeRx (s : State) (p hops : Nat) (l : List Byte) : State :=
  if leAt l 16 4 < s.promised then s else
  let fl := leAt l 20 1
  let s := s.timeMark p hops (leAt l 0 8) (leAt l 8 8) (fl.testBit 0) (fl.testBit 1)
  (s.holdoverCheck).companyTry

/-- The payload of a TIME frame that goes on: CORRECTION grows by the link delay of the arrival port and the residence time, both
in 2^-16 ns (R482). -/
def State.timeNext (s : State) (p residence : Nat) (l : List Byte) : List Byte :=
  let m := s.marks p
  let d := m.delays.foldl (· + ·) 0 / max 1 m.delays.length
  l.take 8 ++ leBytes 8 (leAt l 8 8 + d * 625 * 65536 / 1000 + residence) ++ l.drop 16

/-- The keeper's TIME mark every 125 µs (R476, R485). -/
def State.timeSend (s : State) : State :=
  if !s.cmp.keeper ∨ !s.onRing then s else
  let fl := bit (!s.house.set) + 2 * bit (s.now < s.cmp.steppedUntil)
  s.ringSend 0x04 0xFFFF (leBytes 8 s.houseNs ++ leBytes 8 0 ++ leBytes 4 s.promised ++ leBytes 1 fl ++ leBytes 3 0)

/-- A PDELAY_REQ is answered on its port with T2 and T3 (R482). -/
def State.pdelayReq (s : State) (p t1 : Nat) : State :=
  let t := s.now / 625
  s.ringPort p 0x06 0xFFFF (leBytes 8 t1 ++ leBytes 8 t ++ leBytes 8 t)

/-- A PDELAY_RESP gives one measurement of the port's link delay, in 625 ps steps, averaged over the last 64 (R482, R503). -/
def State.pdelayResp (s : State) (p t1 t2 t3 : Nat) : State :=
  let d := ((s.now / 625 - t1) - (t3 - t2)) / 2
  let m := s.marks p
  let l := (d :: m.delays).take 64
  s.setMarks p { m with delays := l }

/-- Each port sends a PDELAY_REQ every 1 ms (R476). -/
def State.pdelaySend (s : State) (p : Nat) : State :=
  if s.onRing then s.ringPort p 0x05 0xFFFF (leBytes 8 (s.now / 625)) else s

/-- The holdover bound exceeds HOLD_LIMIT (R487). -/
def State.holdLimit (s : State) : State :=
  if s.cmp.holdoverAt.isSome ∧ !s.cmp.holdLimitRaised ∧ s.get F.CMP_HOLD_LIMIT * 1000000 < s.timeBound then
    ({ s with cmp := { s.cmp with holdLimitRaised := true } } : State).raise Ev.CMP_HOLD_LIMIT
  else s

/-! ### Leases (R490 to R496) -/

/-- A record whose halves disagree is discarded (R490). -/
def State.leaseRx (s : State) (l : List Byte) (act : State → Lease → State) : State :=
  if leaseSound l then act s (leaseOf l false) else s.raise Ev.CMP_LEASE_FAULT

/-- The keeper serves a LEASE_REQ (R493). -/
def State.leaseServe (s : State) (src : Nat) (l : List Byte) : State :=
  if s.cmp.keeper then s.keeperPropose (leAt l 0 1) (leAt l 2 2) (leAt l 4 4) src (fun s _ => s) else s

/-- LEASE_REQ at the keeper: of those of one instant the lower seat's is served first (R493, R498). -/
def State.leaseReqRx (s : State) (src : Nat) (l : List Byte) : State :=
  if s.more then s.defer (.lease src l) else s.leaseServe src l

/-- A member takes a PROPOSE (R481, R490, R493). -/
def State.proposeTake (s : State) (src : Nat) (l : List Byte) : State :=
  if leAt l 0 4 < s.promised then s
  else s.leaseRx ((l.drop 16).take 64) (fun s x => s.memberPropose src (leAt l 0 4) (leAt l 4 1) (leAt l 8 4) x)

/-- PROPOSE at a member: a RECALL of its instant is taken first (R498). -/
def State.proposeRx (s : State) (src : Nat) (l : List Byte) : State :=
  if s.more then s.defer (.propose src l) else s.proposeTake src l

/-- ACCEPT at the keeper (R493): it names the proposal by series, NEXT and TXN. -/
def State.acceptRx (s : State) (src : Nat) (l : List Byte) : State :=
  if !s.cmp.keeper ∨ leAt l 0 4 ≠ s.promised then s else
  match s.cmp.proposals.find? (fun p => p.sent ∧ p.lease.txn = leAt l 12 4 ∧ p.lease.series = leAt l 4 1 ∧ p.next = leAt l 8 4) with
  | some p => s.proposalCount p.lease.txn p.lease.holder (some src)
  | none => s

/-- GRANT at the requester (R493): ignored unless its TXN is outstanding. -/
def State.grantRx (s : State) (l : List Byte) : State :=
  s.leaseRx (l.take 64) (fun s x =>
    if (s.leaseWait x.series).map LeaseWait.txn = some x.txn ∧ x.holder = s.seat then
      let h := { x with state := 2 }
      (s.setLeaseWait x.series none).ldgRequest h.entry (.held h)
    else s)

/-- PREPARED leases of a series whose exchange is no longer outstanding are abandoned (R493). -/
def State.leasesStale (s : State) (i : Nat) : State :=
  let live := (s.leaseWait i).map LeaseWait.txn
  let old := s.leases.filter (fun l => l.series = i ∧ !l.partner ∧ l.state = 1 ∧ live ≠ some l.txn)
  old.foldl (fun s l => (s.leaseState l 4).raise Ev.LDG_LEASE_ABANDONED) s

/-- REFUSE at the requester (R493, R496). -/
def State.refuseRx (s : State) (l : List Byte) : State :=
  let i := leAt l 4 1
  let s := s.leasesStale i
  if (s.leaseWait i).map LeaseWait.txn = some (leAt l 0 4) then
    let s := s.leaseRefused i (leAt l 5 1)
    if leAt l 5 1 = 4 then s.leaseCheck i s.drawn else s
  else s

/-- RECALL at a member (R480): a member whose promised epoch is E or higher does not reply, nor a candidate that counts itself for E
or a later epoch (DEDUCED; log entry 105). -/
def State.recallRx (s : State) (src : Nat) (l : List Byte) : State :=
  let e := leAt l 0 4
  if e ≤ s.promised ∨ s.cmp.election.any (fun x => decide (e ≤ x)) then s else
  let s : State := { s with cmp := { s.cmp with election := none } }
  (s.keeperStop.put F.CMP_EPOCH e).ldgRequest (.epoch e src) (.recall e src)

/-- RECALL_REPLY at the candidate (R480, R497). -/
def State.recallReplyRx (s : State) (src : Nat) (l : List Byte) : State :=
  s.electionReply src (leAt l 0 4) (leAt l 4 1) ((List.range 64).map (fun j => leAt l (8 + 4 * j) 4))

/-- The keeper is lost: votes go to the best candidate (R480). An election that has found no quorum of replies starts again (log
entry 105). -/
def State.keeperLoss (s : State) : State :=
  if s.onRing ∧ s.keeperLost then ({ s with cmp := { s.cmp with election := none } } : State).electionCheck else s

/-- Quorum is lost (R479, R497). -/
def State.quorumLoss (s : State) : State := if s.onRing ∧ !s.hasQuorum then s.setQuorum false else s

/-- The keeper gets no quorum of ACCEPTs within LT (R493). -/
def State.proposalTimeout (s : State) : State :=
  match s.cmp.proposals.find? (fun p => p.sent ∧ p.at_ + s.leasePs ≤ s.now) with
  | none => s
  | some p =>
    let s : State := { s with cmp := { s.cmp with proposals := s.cmp.proposals.filter (fun q => q ≠ p) } }
    if p.lease.holder = s.seat then
      let s := s.leaseRefused p.lease.series 4
      s.leaseCheck p.lease.series s.drawn
    else s.ringSend 0x0B p.lease.holder (leBytes 4 p.lease.txn ++ leBytes 1 p.lease.series ++ leBytes 1 4 ++ leBytes 2 0)

/-- 2 × LT pass with no GRANT and no REFUSE (R493): a PREPARED lease is abandoned, and the request is made again. -/
def State.requestTimeout (s : State) (i : Nat) : State :=
  let s := s.leasesStale i
  match s.leaseWait i with
  | none => s
  | some w =>
    if s.now < w.at_ + 2 * s.leasePs then s else
    let s := (s.setLeaseWait i none).leasesStale i
    s.leaseCheck i s.drawn

/-- A malformed or unknown frame is discarded and counted (R476, R503). -/
def State.ringBad (s : State) : State := s.addSat F.CMP_RX_ERR 1

end Sys2Proof.Machine
end

