-- ==== Sys2Proof/Machine/LinkOps.lean ====
section
/-! DEFINITION. Training and loss of the lanes of port D, of the ring ports and of the Izrex ports (R346, R367, R423, R424, R473,
R505, R507, R508). -/

namespace Sys2Proof.Machine

/-- The links run from t3 of CALL on (R73), but for what INTERVAL puts to idle. -/
def State.linksOn (s : State) : Bool := s.phaseDone 4

/-- What UP lanes of port D make of it (R424, R456, R459): a change of W retrains the port, frames are numbered from 1 again and
those held leave again (log entry 27); the timer of R432 is paused until a frame arrives, at most 500 µs. -/
def State.duplexShow (s : State) : State :=
  let m := s.linkMask 0 4
  let was := s.get F.DPX_STATUS_WIDTH
  let s := (s.put F.DPX_LINK_LANES_UP m).put F.DPX_STATUS_WIDTH (portWidth m)
  if m = 0 then s.dpxDown
  else if was = portWidth m then s
  else
    let cue := s.get F.DPX_STATUS_CUE_OK
    let s := (s.dpxLinkUp 1).put F.DPX_STATUS_CUE_OK cue
    { s with dpx := { s.dpx with retrain := some s.now } }

/-- What UP lanes of an Izrex port make of it (R508). -/
def State.izrexShow (s : State) (p cause : Nat) : State :=
  let m := s.linkMask (6 + 4 * p) 4
  if m ≠ 0 then s.portUp p m
  else if s.get (F.IZX_PORT_STATUS_STATE p) = 4 then s.portDown p cause
  else s.portShow p

/-- A ring port leaves UP (R505). -/
def State.ringDown (s : State) (p : Nat) : State :=
  (s.put (if p = 0 then F.CMP_STATUS_PORT0_UP else F.CMP_STATUS_PORT1_UP) 0).raise Ev.CMP_PORT_DOWN p

/-- What follows from a change of a lane, with the cause of a loss. -/
def State.linkShow (s : State) (x : LaneId) (cause : Nat) : State :=
  match x with
  | .stage _ => s
  | .duplex _ => s.duplexShow
  | .ring p =>
    if (s.link (4 + p.val)).state = 4 then s.put (if p.val = 0 then F.CMP_STATUS_PORT0_UP else F.CMP_STATUS_PORT1_UP) 1
    else if s.portTrained p.val then s.ringDown p.val
    else s
  | .izrex p _ => s.izrexShow p.val cause

/-- The port of a lane was taken down (R508), or is a ring port of a company of one, which is idle (R477). -/
def State.linkBarred (s : State) (x : LaneId) : Bool :=
  match x with | .izrex p _ => (s.port p.val).takenDown | .ring _ => s.sole | _ => false

/-- A lane moves on from a training state (R346). -/
def State.linkMove (s : State) (x : LaneId) (a b : Nat) : State :=
  if s.linksOn ∧ !s.linkBarred x ∧ (s.link x.ix).state = a then (s.linkTo x.ix b).linkShow x 0 else s

/-- READY to UP; on port D with the one-way latency measured in training, in 625 ps steps (R423). -/
def State.linkUp (s : State) (x : LaneId) (latency : Nat) : State :=
  let ready : Bool := (s.link x.ix).state = 3
  let s := match x with
    | .duplex _ => if ready then s.put F.DPX_LINK_LATENCY latency else s
    | _ => s
  s.linkMove x 3 4

/-- A training state has lasted its limit (R346). -/
def State.linkLate (s : State) (x : LaneId) : State :=
  let l := s.link x.ix
  let late (us : Nat) : Bool := decide (l.since + us * 1000000 ≤ s.now)
  let fail (s : State) (cause : Nat) : State :=
    let s := (s.linkTo x.ix 6).linkShow x cause
    match x with
    | .izrex p _ => if s.get (F.IZX_PORT_STATUS_STATE p.val) = 6 then s.put (F.IZX_PORT_STATUS_CAUSE p.val) cause else s
    | _ => s
  if !s.linksOn then s else
  match l.state with
  | 1 => if late 200 then fail s 1 else s
  | 2 => if late 200 then fail s 2 else s
  | 3 => if late 50 then fail s 5 else s
  | _ => s

/-- A lane that is DOWN or FAILED trains again after 10 ms with AUTO_RETRAIN set (R346, R508). -/
def State.linkAgain (s : State) (x : LaneId) : State :=
  let l := s.link x.ix
  let auto : Bool := match x with
    | .izrex .. => s.flag F.IZX_CTRL_AUTO_RETRAIN
    | _ => s.flag F.STG_CTRL_AUTO_RETRAIN
  if s.linksOn ∧ auto ∧ !s.linkBarred x ∧ (l.state = 5 ∨ l.state = 6) ∧ l.since + 10000000000 ≤ s.now then
    (s.linkTo x.ix 1).linkShow x 0
  else s

/-- A loss condition of an UP lane (R367, R507). -/
def State.linkLoss (s : State) (x : LaneId) (cause : Nat) : State :=
  if (s.link x.ix).state = 4 then (s.linkTo x.ix 5).linkShow x (8 + cause) else s

/-- An Izrex port has retrained with `lanes` UP (R508): the lanes of a retrain are the outcome of the command. -/
def State.portRetrained (s : State) (p lanes : Nat) : State :=
  if !s.linksOn ∨ (s.port p).takenDown ∨ s.get (F.IZX_PORT_STATUS_STATE p) = 0 then s else
  let s := (List.range 4).foldl (fun s k => s.linkTo (6 + 4 * p + k) (if lanes.testBit k then 4 else 5)) s
  s.izrexShow p 8

/-- A DOWN port trains again every 10 ms with AUTO_RETRAIN set (R508). -/
def State.portAgain (s : State) (p : Nat) : State :=
  let x := s.port p
  if s.linksOn ∧ s.flag F.IZX_CTRL_AUTO_RETRAIN ∧ !x.takenDown ∧ (s.get (F.IZX_PORT_STATUS_STATE p) = 5 ∨
      s.get (F.IZX_PORT_STATUS_STATE p) = 6) ∧ x.since + 10000000000 ≤ s.now then s.portTrain p
  else s

end Sys2Proof.Machine
end

