-- ==== Sys2Proof/Machine/Prompter.lean ====
section
/-! DEFINITION. The fabric control port (R552 to R556), the Prompter (R721 to R725), and what stalled accesses do when a wake
makes their target ready or fails (R669, R670). -/

namespace Sys2Proof.Machine

/-! ### The fabric control port -/

/-- A DRAM range lies in one region that the fabric master may write (R554). -/
def State.cpMayWrite (s : State) (a n : Nat) : Bool :=
  !(s.inLog a n) && s.regions.any (fun r => r.kind ≠ 1 && decide (r.base ≤ a) && decide (a + n ≤ r.base + r.size))

/-- The access waits for its turn at class 5 (R35, R554). -/
def State.cpDramRun (s : State) (a : Nat) (wide : Bool) (data : Option Nat) : State :=
  let n := if wide then 8 else 4
  { s with dreq := s.dreq ++ [{ cls := 5, addr := a, len := n, data := data.map (leBytes n), who := .cp wide, since := s.now }] }

/-- A DRAM access by the fabric master (R554, R669, R670). -/
def State.cpDram (s : State) (a : Nat) (wide : Bool) (data : Option Nat) : State :=
  let n := if wide then 8 else 4
  let ok : Bool := match data with | none => decide (a + n ≤ s.dramSize) | some _ => s.cpMayWrite a n
  if !ok then (s.cpDenied a).emit (.cp 0 3) else
  let s := s.wakeSource 0
  if s.get F.PWR_STATUS_STATE = 4 then (s.raise Ev.PWR_ACCESS_FAIL).emit (.cp 0 1)
  else if s.get F.PWR_STATUS_STATE = 0 ∨ (s.get F.PWR_STATUS_STATE = 1 ∧ s.pwr.step < 5) then
    s.cpDramRun a wide data
  else { s with pwr := { s.pwr with stalls := s.pwr.stalls ++ [{ at_ := s.now, what := .cpDram a wide data }] } }

/-- FAB_RSTIN_N takes a level; the trees named assert while it is low (R550). -/
def State.rstPin (s : State) (high : Bool) (trees : Nat) : State :=
  ({ s with rstIn := high, grstPin := if high then 0 else trees } : State).fabSettle

/-! ### The Prompter: what a command does (R723) -/

/-- A register's present value, read with no effect. -/
def State.peek (s : State) (f : Fld) : Nat :=
  match findReg f.addr with
  | some r => (s.readWhole r).2
  | none => 0

/-- The scene record of a plane passes checks 0x01 to 0x03 of R576 (R725). -/
def State.recordSound (s : State) (p : Nat) : Bool :=
  let h := (s.plane p).record.header
  sceneHeaderOk h 50331648 && decide (leAt h 0xC 2 = 0x8400) && decide (leAt h 0xE 1 ≤ Config.speedGrade)

/-- An answer of a command that a block judged: OK, or REFUSED with the block's code (R724). -/
def State.judged (s : State) (ok : Bool) (code : Nat) : State := s.emit (.monitor (if ok then 0 else errRefused) [code])

/-- A command that its class allows runs (R723, R725). -/
def State.promptRun (s : State) (c : PCmd) : State :=
  match c with
  | .id => s.emit (.monitor 0 [Config.deviceId % 2 ^ 64, s.peek F.SYS_ID, s.lcyState])
  | .status => s.emit (.monitor 0 [s.peek F.SYS_MODE, s.peek F.SYS_CALL_STATUS, s.peek F.SYS_RESET_CAUSE, s.peek F.LCY_STATUS,
      s.peek F.PWR_STATUS])
  | .read a n =>
    if n = 0 ∨ 64 < n then s.emit (.monitor errSyntax [])
    else s.prompterRegs [] ((List.range n).map (fun i => { master := .prompter, addr := a + 4 * i, wide := false, data := none }))
  | .read64 a => s.prompterRegs [] [{ master := .prompter, addr := a, wide := true, data := none }]
  | .write a v => s.prompterRegs [] [{ master := .prompter, addr := a, wide := false, data := some v }]
  | .write64 a v => s.prompterRegs [] [{ master := .prompter, addr := a, wide := true, data := some v }]
  | .mode m =>
    if !([2, 3, 4, 5, 7].contains m) then s.emit (.monitor errSyntax []) else
    let s := s.modeReq m
    let r := s.get F.SYS_MODE_REQ_RESULT
    s.judged (!([3, 4, 5].contains r)) r
  | .reset k =>
    if k = 0 then s.emit (.monitor errSyntax []) else (s.emit (.monitor 0 [])).resetReq k
  | .log n =>
    if n = 0 ∨ 64 < n then s.emit (.monitor errSyntax [])
    else s.emit (.monitor 0 ((s.cue.log.take n).map (fun r => leNat r.bytes)))
  | .select p =>
    if s.sys.earlyWarning ∨ !(s.recordSound p) then s.judged false (s.peek F.CFG_STATUS)
    else (s.selectPut p).emit (.monitor 0 [])
  | .lcy t =>
    let bad := s.lcyFault t (s.flag F.LCY_STATUS_HOLDUP)
    let s := s.lcyTransition t (s.flag F.LCY_STATUS_HOLDUP)
    match bad with
    | some c => s.judged false c
    | none => s.emit (.monitor 0 [])
  | .challenge =>
    let s := s.challenge
    if s.get F.LCY_RESULT_CODE = 1 then
      s.emit (.monitor 0 [(match s.lcy.nonce with | some (b, _) => leNat b | none => 0), Config.deviceId % 2 ^ 64])
    else s.judged false (s.get F.LCY_RESULT_CODE)
  | .respond l =>
    let s := (List.range 16).foldl (fun s k => s.put (F.LCY_RESP k) (leAt l (4 * k) 4)) s
    let s := s.verifyStart
    if s.lcy.op = some .verify then { s with lcy := { s.lcy with respond := true } }
    else s.judged false (s.get F.LCY_RESULT_CODE)
  | .bad => s.emit (.monitor errSyntax [])

/-! ### Access classes (R722) -/

/-- READ class. -/
def PCmd.reads : PCmd → Bool
  | .id => true
  | .status => true
  | .read _ _ => true
  | .read64 _ => true
  | .log _ => true
  | _ => false

/-- Why the mode's class refuses a command: an error of R724, none when it runs. -/
def State.promptClass (s : State) (c : PCmd) : Option Nat :=
  if c = .bad then none
  else if s.lcyState = 7 then
    (if c = .id ∨ c = .lcy 6 then none else some errNotAllowed)
  else match s.mode with
    | 3 => if c.reads then none else some errNotAllowed
    | 4 => if c.reads then none else some errNotAllowed
    | 5 => match c with
      | .status => none
      | .reset _ => none
      | _ => some errNotReady
    | 6 =>
      match c with
      | .reset _ => none
      | .challenge => none
      | .respond _ => none
      | .mode m => if m = 7 then none else some errNotAllowed
      | _ => if c.reads then none else some errNotAllowed
    | m =>
      match c with
      | .select _ => if m = 0 ∨ m = 7 then none else some errNotAllowed
      | _ => none

/-- A response of the Prompter has yet to begin (R721). -/
def State.promptBusy (s : State) : Bool :=
  s.lcy.respond ||
  s.pwr.stalls.any (fun x => match x.what with | .line _ => true | .reg (.prompter _ _) _ => true | _ => false) ||
  s.window.any (fun x => match x.who with | .prompter _ _ => true | _ => false)

/-- A command executes under the class of the mode in effect. -/
def State.promptNow (s : State) (c : PCmd) : State :=
  match s.promptClass c with
  | some e => s.emit (.monitor e [])
  | none => s.promptRun c

/-- A command arrives (R667, R669, R670, R715, R721): a sleeping device answers it after the wake; in SCRAP MON_RX is ignored. -/
def State.promptCmd (s : State) (c : PCmd) : State :=
  if s.sys.held ∨ (!(s.phaseDone 1) ∧ s.mode = 1) ∨ s.lcyState = 6 then s
  else if s.promptBusy then s.emit (.monitor errBusy [])
  else
    let st := s.get F.PWR_STATUS_STATE
    if st = 2 ∨ st = 3 ∨ (st = 1 ∧ s.pwr.step = 5) then
      let s := s.wakeSource 3
      { s with pwr := { s.pwr with stalls := s.pwr.stalls ++ [{ at_ := s.now, what := .line c }] } }
    else (s.wakeSource 3).promptNow c

/-! ### Lines (R721) -/

/-- The words of a line, separated by spaces. -/
def wordsOf (l : List Nat) : List (List Nat) :=
  (l.foldr (fun (c : Nat) (r : List (List Nat)) =>
    if c = 0x20 then [] :: r else match r with | [] => [[c]] | w :: r => (c :: w) :: r) [[]]).filter (· ≠ [])

/-- The value of a hexadecimal digit. -/
def hexVal (c : Nat) : Option Nat :=
  if 0x30 ≤ c ∧ c ≤ 0x39 then some (c - 0x30)
  else if 0x41 ≤ c ∧ c ≤ 0x46 then some (c - 0x37)
  else if 0x61 ≤ c ∧ c ≤ 0x66 then some (c - 0x57)
  else none

/-- A number: hexadecimal with the 0x prefix and optional underscores, or decimal. -/
def numOf (w : List Nat) : Option Nat :=
  match w with
  | 0x30 :: 0x78 :: l =>
    let d := l.filter (· ≠ 0x5F)
    if d = [] then none else d.foldl (fun n c => match n, hexVal c with | some n, some v => some (16 * n + v) | _, _ => none) (some 0)
  | [] => none
  | l => if l.all isDigit then some (l.foldl (fun n c => 10 * n + (c - 0x30)) 0) else none

/-- A word spells a name. -/
def spells (w : List Nat) (name : String) : Bool := w = name.toList.map Char.toNat

/-- 128 hexadecimal digits as 64 bytes. -/
def sigOf (w : List Nat) : Option (List Byte) :=
  let d := w.map hexVal
  if w.length ≠ 128 ∨ d.contains none then none
  else some ((List.range 64).map (fun i => BitVec.ofNat 8 (16 * (d.getD (2 * i) none).getD 0 + (d.getD (2 * i + 1) none).getD 0)))

/-- The life-cycle state that a word names (R706). -/
def lcyNamed (w : List Nat) : Option Nat :=
  (["RAW", "FACTORY_TEST", "PROVISIONED", "FIELD", "FIELD_TEST", "ANALYSIS", "SCRAP"]).findIdx? (fun n => spells w n)

/-- The mode that a word names, of those MODE takes (R55, R723). -/
def modeNamed (w : List Nat) : Option Nat :=
  if spells w "REHEARSAL" then some 2 else if spells w "PERFORMANCE" then some 3 else if spells w "UNDERSTUDY" then some 4
  else if spells w "INTERVAL" then some 5 else if spells w "SERVICE" then some 7 else none

/-- The command of one word. -/
def plainCmd (w : List Nat) : PCmd :=
  if spells w "ID" then .id else if spells w "STATUS" then .status else if spells w "CHALLENGE" then .challenge
  else if spells w "RESET" then .reset 2 else .bad

/-- A command with one argument. -/
def argCmd (w x : List Nat) : PCmd :=
  if spells w "READ64" then (match numOf x with | some a => .read64 a | none => .bad)
  else if spells w "MODE" then (match modeNamed x with | some m => .mode m | none => .bad)
  else if spells w "RESET" then
    (if spells x "WARM" then .reset 2 else if spells x "COLD" then .reset 3 else if spells x "PRINT" then .reset 1 else .bad)
  else if spells w "LOG" then (match numOf x with | some n => .log n | none => .bad)
  else if spells w "SELECT" then (if spells x "A" then .select 0 else if spells x "B" then .select 1 else .bad)
  else if spells w "LCY" then (match lcyNamed x with | some t => .lcy t | none => .bad)
  else if spells w "RESPOND" then (match sigOf x with | some l => .respond l | none => .bad)
  else .bad

/-- A command with two arguments. -/
def pairCmd (w x y : List Nat) : PCmd :=
  match numOf x, numOf y with
  | some a, some b =>
    if spells w "READ" then .read a b else if spells w "WRITE" then .write a b
    else if spells w "WRITE64" then .write64 a b else .bad
  | _, _ => .bad

/-- The command that a line spells, CR not counted. -/
def lineCmd (l : List Nat) : PCmd :=
  if 128 < l.length then .bad else
  match wordsOf l with
  | [w] => plainCmd w
  | [w, x] => argCmd w x
  | [w, x, y] => pairCmd w x y
  | _ => .bad

/-- The verification of a RESPOND has ended: its answer leaves (R723). -/
def State.respondEnd (s : State) : State :=
  if !s.lcy.respond then s else
  let s : State := { s with lcy := { s.lcy with respond := false } }
  let c := s.get F.LCY_RESULT_CODE
  s.judged (c = 1) c

/-! ### Stalled accesses (R669, R670) -/

/-- The target of a stalled access is ready. -/
def State.stallReady (s : State) (x : Stall) : Bool :=
  match x.what with
  | .reg _ a => s.awakeFor a.addr
  | .izx _ _ op _ _ => s.izxReady op
  | .cpDram _ _ _ =>
    s.get F.PWR_STATUS_STATE = 0 || (s.get F.PWR_STATUS_STATE = 3 && decide (7 ≤ s.pwr.wake))
  | .line _ => s.get F.PWR_STATUS_STATE = 0

/-- A stalled access completes. -/
def State.stallRun (s : State) (x : Stall) : State :=
  let s := s.atLeast F.PWR_STALL_MAX ((s.now - x.at_) / 1000000)
  match x.what with
  | .reg w a => s.accRun w a
  | .izx _ b op seq l => s.izxBody b op seq l none
  | .cpDram a wide data => s.cpDramRun a wide data
  | .line c => s.promptNow c

/-- A stalled access of a wake that failed completes as R12 states. -/
def State.stallFail (s : State) (x : Stall) : State :=
  let s := (s.atLeast F.PWR_STALL_MAX ((s.now - x.at_) / 1000000)).raise Ev.PWR_ACCESS_FAIL
  match x.what with
  | .reg (.izx b seq _ _ _) _ => s.izxEnd b seq { status := 6 }
  | .reg (.prompter _ _) _ => s.emit (.monitor errNotReady [])
  | .reg w a => (s.raise Ev.SYS_DECODE_FAULT).accDone w a 0 1
  | .izx _ b _ seq _ => s.izxEnd b seq { status := 6 }
  | .cpDram _ _ _ => s.emit (.cp 0 1)
  | .line c => s.promptNow c

/-- Stalled accesses whose target has become ready complete in the order in which they came; a failed wake ends them all. -/
def State.stallsRun (s : State) : State :=
  if s.pwr.stalls = [] then s
  else if s.get F.PWR_STATUS_STATE = 4 then
    let l := s.pwr.stalls
    l.foldl (fun s x => s.stallFail x) { s with pwr := { s.pwr with stalls := [] } }
  else
    let go := s.pwr.stalls.filter s.stallReady
    go.foldl (fun s x => s.stallRun x) { s with pwr := { s.pwr with stalls := s.pwr.stalls.filter (fun x => !(s.stallReady x)) } }

/-! ### The wrapper of a meaning -/

/-- A DRAM request of classes 2 to 6 that comes before abort point A4 of an entry to INTERVAL is a wake event (R665). -/
def State.dramWakes (s : State) : State :=
  if s.entering ∧ s.dreq.any (fun r => decide (2 ≤ r.cls) && decide (r.since = s.now)) then s.wakeSource 0 else s

/-- A happening that waited for the end of its instant takes place. -/
def State.laterRun (s : State) (l : Later) : State :=
  match l with
  | .fail n id station grade => s.verdictNow n id station true grade
  | .close n id => s.windowShut n id
  | .pulse g => s.gateReach g
  | .switch => s.switchNow
  | .holdover => s.holdoverNow
  | .lease src l => s.leaseServe src l
  | .propose src l => s.proposeTake src l
  | .command p b op seq l => s.izxCommand p b op seq l

/-- The order of such happenings among themselves; LEASE_REQ frames by their seats (R498). -/
def Later.rank : Later → Nat
  | .fail _ _ _ _ => 0
  | .close _ _ => 1
  | .pulse _ => 2
  | .switch => 3
  | .holdover => 4
  | .propose _ _ => 5
  | .command _ _ _ _ _ => 6
  | .lease src _ => 7 + src

/-- Where no further command of the instant waits, what was to come after them takes place. -/
def State.instantEnd (s : State) : State :=
  if s.later.isEmpty ∨ s.more then s else
  (s.later.mergeSort (fun a b => decide (a.rank ≤ b.rank))).foldl State.laterRun { s with later := [] }

/-- What the device does by itself at once after a command: DRAM requests, serials, queues, lines and layouts, an isolated lead's
commits, boxes, and stalled accesses. -/
def State.settleAll (s : State) : State :=
  ((((((s.instantEnd.dramWakes.dramSettle).serialsResume).printRun).dpxSettle).izxSettle).stallsRun).dramWakes.dramSettle

/-- Runs the body of a command and what follows from it at once. -/
def runW (t : Ps) (s : State) (f : State → State) : Host.Outcome State Fault Refusal := run t s (fun s => (f s).settleAll)

end Sys2Proof.Machine
end

