-- ==== Sys2Proof/Machine/Rows.lean ====
section
/-! DEFINITION. What the meanings of the commands share: the wrapper that a held reset closes, and a register access by one
master. -/

namespace Sys2Proof.Machine

/-- Runs the body of a command unless a reset is held, when everything but AON is held with it (R59), and a part in its
held reset sees no command. -/
def runU (t : Ps) (s : State) (f : State → State) : Host.Outcome State Fault Refusal :=
  runW t s (fun s => when (!s.sys.held) f s)

/-- A write of a guarded register by a master: the pair of its value (R15 to R18). -/
def State.guardWrite (s : State) (m : Master) (f : Fld) (v : Nat) : State :=
  s.accRun (.bare m) { master := m, addr := f.addr, wide := true, data := some (guardPair (v % 2 ^ 32)) }

/-- A 32-bit write by a master. -/
def State.busWrite (s : State) (m : Master) (f : Fld) (v : Nat) : State :=
  s.accRun (.bare m) { master := m, addr := f.addr, wide := false, data := some (v % 2 ^ 32) }

/-- A 64-bit write by a master. -/
def State.busWrite64 (s : State) (m : Master) (f : Fld) (v : Nat) : State :=
  s.accRun (.bare m) { master := m, addr := f.addr, wide := true, data := some (v % 2 ^ 64) }

/-- A 32-bit read by a master. -/
def State.busRead (s : State) (m : Master) (f : Fld) : State :=
  s.accRun (.bare m) { master := m, addr := f.addr, wide := false, data := none }

end Sys2Proof.Machine
end

