-- ==== Sys2Proof/Machine/RowsCfg.lean ====
section
/-! DEFINITION. The meanings of the commands of the fabric ports, the configuration planes and user flash. -/

namespace Sys2Proof.Machine

/-- CP_MASTER_REGISTER_ACCESS: a register access of the fabric control-port master (R553, R554). -/
def execCpMasterRegisterAccess (addr : Nat) (wide : Bool) (data : Option Nat) (t : Nat) (s : State) :
    Host.Outcome State Fault Refusal :=
  runU t s (fun s => when s.cfg.swap.isNone (fun s => s.accRun .cp { master := .fabric, addr, wide, data }) s)

/-- CP_MASTER_DRAM_ACCESS: a DRAM access of the fabric control-port master (R554). -/
def execCpMasterDramAccess (addr : Nat) (wide : Bool) (data : Option Nat) (t : Nat) (s : State) :
    Host.Outcome State Fault Refusal :=
  runU t s (fun s => when s.cfg.swap.isNone (fun s => s.cpDram addr wide data) s)

/-- SLAVE_WINDOW_ACCESS: an access in the slave window; an access elsewhere is not this command's (R555). -/
def execSlaveWindowAccess (a : Access) (t : Nat) (s : State) : Host.Outcome State Fault Refusal :=
  runU t s (fun s => when (inWindow a.addr) (fun s => s.accRun (.bare a.master) a) s)

/-- SLAVE_WINDOW_ACK: the fabric answers the oldest access with data, two beats of a wide one, and a status of R552
(R555). -/
def execSlaveWindowAck (data : Nat) (status : Fin 4) (t : Nat) (s : State) : Host.Outcome State Fault Refusal :=
  runU t s (fun s => s.windowAck (data % 2 ^ 64) status.val)

/-- PRB_SLAVE_TIMEOUT: the fabric has not answered within SLAVE_TIMEOUT (R556). -/
def execPrbSlaveTimeout (t : Nat) (s : State) : Host.Outcome State Fault Refusal :=
  runU t s (fun s => s.windowTimeout)

/-- PRB_USER: a rising edge on FAB_EVT_IN_k (R561). -/
def execPrbUser (k : Fin 32) (t : Nat) (s : State) : Host.Outcome State Fault Refusal :=
  runU t s (fun s => when (s.phaseDone 5) (fun s => s.raise Ev.PRB_USER k.val) s)

/-- PRB_SEL_WRITE: a write of PRB_SEL_k (R562, R565). -/
def execPrbSelWrite (m : Master) (n : Fin 16) (v : Nat) (t : Nat) (s : State) : Host.Outcome State Fault Refusal :=
  runU t s (fun s => s.busWrite m (F.PRB_SEL n.val) v)

/-- FAB_RSTIN_N_CHANGE: FAB_RSTIN_N takes a level; `trees` are those that name PIN (R550). -/
def execFabRstinNChange (high : Bool) (trees : Fin 16) (t : Nat) (s : State) : Host.Outcome State Fault Refusal :=
  runU t s (fun s => s.rstPin high trees.val)

/-- CFG_PLANE_SEL_WRITE: a guarded write of CFG_PLANE_SEL (R572, R600). -/
def execCfgPlaneSelWrite (m : Master) (plane : Fin 4) (t : Nat) (s : State) : Host.Outcome State Fault Refusal :=
  runU t s (fun s => s.guardWrite m F.CFG_PLANE_SEL plane.val)

/-- CFG_SELECT_WRITTEN: the program pulse of the select record completes (R572). -/
def execCfgSelectWritten (t : Nat) (s : State) : Host.Outcome State Fault Refusal :=
  runU t s (fun s => s.selectWritten)

/-- CFG_STAGE_LOAD: a guarded write of OP LOAD (R574, R577, R600). -/
def execCfgStageLoad (m : Master) (t : Nat) (s : State) : Host.Outcome State Fault Refusal :=
  runU t s (fun s => s.guardWrite m F.CFG_STAGE_OP 1)

/-- CFG_STAGE_ERASE: a guarded write of OP ERASE (R574, R577, R600). -/
def execCfgStageErase (m : Master) (t : Nat) (s : State) : Host.Outcome State Fault Refusal :=
  runU t s (fun s => s.guardWrite m F.CFG_STAGE_OP 2)

/-- CFG_STAGE_ABORT: a guarded write of OP ABORT (R574, R577, R600). -/
def execCfgStageAbort (m : Master) (t : Nat) (s : State) : Host.Outcome State Fault Refusal :=
  runU t s (fun s => s.guardWrite m F.CFG_STAGE_OP 3)

/-- STAGE_ERASE_DONE: the target is erased, after `pulses` pulses on the sector that took most (R574, R594). -/
def execStageEraseDone (pulses : Nat) (t : Nat) (s : State) : Host.Outcome State Fault Refusal :=
  runU t s (fun s => s.stageErased pulses)

/-- STAGE_CHECKS_DONE: the checks finish: rows repaired with spares, a sector that could not be, a wire with two
drivers, and whether every carried location is a flip-flop of the new scene (R576, R593 to R596). -/
def execStageChecksDone (repaired : Nat) (bad : Option Nat) (drivers : Option Contend) (carryOk : Bool) (t : Nat) (s : State) :
    Host.Outcome State Fault Refusal :=
  runU t s (fun s => s.stageChecked { repaired, bad, drivers, carryOk })

/-- CFG_SCENE_ARM: a guarded write of OP ARM with TRACKS, FORCE and TRIAL (R582, R589, R600). -/
def execCfgSceneArm (m : Master) (tracks : Nat) (force : Bool) (trial : Bool) (t : Nat) (s : State) :
    Host.Outcome State Fault Refusal :=
  runU t s (fun s => s.guardWrite m F.CFG_SCENE_OP (65536 * (tracks % 65536) + 16 * bit force + 8 * bit trial + 1))

/-- CFG_SCENE_DISARM: a guarded write of OP DISARM (R583, R600). -/
def execCfgSceneDisarm (m : Master) (t : Nat) (s : State) : Host.Outcome State Fault Refusal :=
  runU t s (fun s => s.guardWrite m F.CFG_SCENE_OP 2)

/-- CFG_SCENE_FIRE_NOW: a guarded write of OP FIRE_NOW with TRIAL (R583, R600). -/
def execCfgSceneFireNow (m : Master) (trial : Bool) (t : Nat) (s : State) : Host.Outcome State Fault Refusal :=
  runU t s (fun s => s.guardWrite m F.CFG_SCENE_OP (8 * bit trial + 3))

/-- SCENE_FIRE: every armed track in TRACKS is in a curtain window (R583, R584). -/
def execSceneFire (t : Nat) (s : State) : Host.Outcome State Fault Refusal :=
  runU t s (fun s => s.armCurtain)

/-- CFG_ARM_TIMEOUT: an arm has not fired within CFG_ARM_TIMEOUT (R583). -/
def execCfgArmTimeout (t : Nat) (s : State) : Host.Outcome State Fault Refusal :=
  runU t s (fun s => s.armTimeout)

/-- CFG_SCENE_CHANGED: t4 of the swap, with the PLL of each clock tree of the new scene, 14 FRG_TAP_CLK, 15 none (R584
to R588). -/
def execCfgSceneChanged (trees : List Nat) (t : Nat) (s : State) : Host.Outcome State Fault Refusal :=
  runU t s (fun s => when s.cfg.swap.isSome (fun s => (s.sceneChanged trees).windowResume) s)

/-- SCENE_SELECT_RECORD: t5 of the swap (R584, R588). -/
def execSceneSelectRecord (t : Nat) (s : State) : Host.Outcome State Fault Refusal :=
  runU t s (fun s => s.sceneRecord)

/-- FLC_READ: a guarded write of OP READ (R597, R602). -/
def execFlcRead (m : Master) (t : Nat) (s : State) : Host.Outcome State Fault Refusal :=
  runU t s (fun s => s.guardWrite m F.FLC_CMD 1)

/-- FLC_PROGRAM: a guarded write of OP PROGRAM (R597, R602). -/
def execFlcProgram (m : Master) (t : Nat) (s : State) : Host.Outcome State Fault Refusal :=
  runU t s (fun s => s.guardWrite m F.FLC_CMD 2)

/-- FLC_ERASE: a guarded write of OP ERASE (R597, R602). -/
def execFlcErase (m : Master) (t : Nat) (s : State) : Host.Outcome State Fault Refusal :=
  runU t s (fun s => s.guardWrite m F.FLC_CMD 3)

/-- FLC_QUERY: a guarded write of OP QUERY (R597, R602). -/
def execFlcQuery (m : Master) (t : Nat) (s : State) : Host.Outcome State Fault Refusal :=
  runU t s (fun s => s.guardWrite m F.FLC_CMD 4)

/-- FLC_OP_DONE: a command of user flash ends: whether a read was corrected (1) or uncorrectable (2), the pulses of an
erase, and whether its verify failed (R592 to R597). -/
def execFlcOpDone (ecc : Fin 3) (pulses : Nat) (fail : Bool) (t : Nat) (s : State) : Host.Outcome State Fault Refusal :=
  runU t s (fun s => s.flcDone ecc.val pulses fail)

end Sys2Proof.Machine
end

