-- ==== Sys2Proof/Machine/RowsCmp.lean ====
section
/-! DEFINITION. The meanings of the commands of the ledger and the company. -/

namespace Sys2Proof.Machine

/-- A ring frame of opcode `op` and payload size `n` arrives (R474 to R476): one of another size is discarded and counted (log
entry 37). -/
def State.ringFrame (s : State) (p op n src dest seq hops : Nat) (l : List Byte) (next : State → List Byte)
    (act : State → State) : State :=
  if !s.onRing ∨ !s.portTrained p then s
  else if l.length ≠ n then s.ringBad
  else s.ringRx p op (src % 2 ^ 16) (dest % 2 ^ 16) (seq % 2 ^ 32) (hops % 2 ^ 16) l (next s) act

/-- LEDGER_ENTRY_WRITTEN: the write and verify of the entry at the front end after `fails` failed verifies; `voidOk`
says that failed slots could be made void (R465, R467). -/
def execLedgerEntryWritten (fails : Nat) (voidOk : Bool) (t : Nat) (s : State) : Host.Outcome State Fault Refusal :=
  runU t s (fun s => s.entryWritten fails voidOk)

/-- LEDGER_ERASE_DONE: the erase for compaction completes (R468). -/
def execLedgerEraseDone (t : Nat) (s : State) : Host.Outcome State Fault Refusal :=
  runU t s (fun s => s.eraseDone)

/-- LDG_RESEAL: a guarded write of KEY 0x5EA1 (R472, R500). -/
def execLdgReseal (m : Master) (t : Nat) (s : State) : Host.Outcome State Fault Refusal :=
  runU t s (fun s => s.guardWrite m F.LDG_RESEAL 0x5EA1)

/-- BEACON: a BEACON frame; its port, SOURCE, DEST, SEQ, HOPS and payload (R478, R480, R481). -/
def execBeacon (p : Fin 2) (src : Nat) (dest : Nat) (seq : Nat) (hops : Nat) (payload : List Byte) (t : Nat) (s : State) :
    Host.Outcome State Fault Refusal :=
  runU t s (fun s =>
    s.ringFrame p.val 0x01 112 src dest seq hops payload (fun _ => payload) (fun s => s.beaconRx payload))

/-- CAST: a CAST frame; its port, SOURCE, DEST, SEQ, HOPS and payload (R478, R479, R481). -/
def execCastFrame (p : Fin 2) (src : Nat) (dest : Nat) (seq : Nat) (hops : Nat) (payload : List Byte) (t : Nat) (s : State) :
    Host.Outcome State Fault Refusal :=
  runU t s (fun s => s.ringFrame p.val 0x02 72 src dest seq hops payload (fun _ => payload) (fun s => s.castRx payload))

/-- CATALOGUE: a CATALOGUE part; its port, SOURCE, DEST, SEQ, HOPS and payload (R497). -/
def execCatalogue (p : Fin 2) (src : Nat) (dest : Nat) (seq : Nat) (hops : Nat) (payload : List Byte) (t : Nat) (s : State) :
    Host.Outcome State Fault Refusal :=
  runU t s (fun s =>
    s.ringFrame p.val 0x03 328 src dest seq hops payload (fun _ => payload) (fun s => s.catalogueRx payload))

/-- TIME: a TIME mark, which goes on with its CORRECTION grown by link delay and `residence`; its port, SOURCE, DEST,
SEQ, HOPS and payload (R482 to R488). -/
def execTimeFrame (p : Fin 2) (src : Nat) (dest : Nat) (seq : Nat) (hops : Nat) (payload : List Byte) (residence : Nat) (t : Nat) (s : State) :
    Host.Outcome State Fault Refusal :=
  runU t s (fun s =>
    s.ringFrame p.val 0x04 24 src dest seq hops payload (fun s => s.timeNext p.val residence payload) (fun s => s.timeRx p.val hops payload))

/-- PDELAY_REQ: a PDELAY_REQ with its T1 on a port (R482). -/
def execPdelayReq (p : Fin 2) (t1 : Nat) (t : Nat) (s : State) : Host.Outcome State Fault Refusal :=
  runU t s (fun s => when (s.onRing && s.portTrained p.val) (fun s => s.pdelayReq p.val t1) s)

/-- PDELAY_RESP: a PDELAY_RESP on a port (R482, R503). -/
def execPdelayResp (p : Fin 2) (t1 : Nat) (t2 : Nat) (t3 : Nat) (t : Nat) (s : State) :
    Host.Outcome State Fault Refusal :=
  runU t s (fun s => when (s.onRing && s.portTrained p.val) (fun s => s.pdelayResp p.val t1 t2 t3) s)

/-- LEASE_REQ: a lease request; its port, SOURCE, DEST, SEQ, HOPS and payload (R493). -/
def execLeaseReq (p : Fin 2) (src : Nat) (dest : Nat) (seq : Nat) (hops : Nat) (payload : List Byte) (t : Nat) (s : State) :
    Host.Outcome State Fault Refusal :=
  runU t s (fun s =>
    s.ringFrame p.val 0x07 8 src dest seq hops payload (fun _ => payload) (fun s => s.leaseReqRx (src % 2 ^ 16) payload))

/-- PROPOSE: a proposal; its port, SOURCE, DEST, SEQ, HOPS and payload (R481, R490, R493). -/
def execPropose (p : Fin 2) (src : Nat) (dest : Nat) (seq : Nat) (hops : Nat) (payload : List Byte) (t : Nat) (s : State) :
    Host.Outcome State Fault Refusal :=
  runU t s (fun s =>
    s.ringFrame p.val 0x08 80 src dest seq hops payload (fun _ => payload) (fun s => s.proposeRx (src % 2 ^ 16) payload))

/-- ACCEPT: an ACCEPT; its port, SOURCE, DEST, SEQ, HOPS and payload (R493). -/
def execAccept (p : Fin 2) (src : Nat) (dest : Nat) (seq : Nat) (hops : Nat) (payload : List Byte) (t : Nat) (s : State) :
    Host.Outcome State Fault Refusal :=
  runU t s (fun s =>
    s.ringFrame p.val 0x09 16 src dest seq hops payload (fun _ => payload) (fun s => s.acceptRx (src % 2 ^ 16) payload))

/-- GRANT: a GRANT; its port, SOURCE, DEST, SEQ, HOPS and payload (R490, R493). -/
def execGrant (p : Fin 2) (src : Nat) (dest : Nat) (seq : Nat) (hops : Nat) (payload : List Byte) (t : Nat) (s : State) :
    Host.Outcome State Fault Refusal :=
  runU t s (fun s => s.ringFrame p.val 0x0A 64 src dest seq hops payload (fun _ => payload) (fun s => s.grantRx payload))

/-- REFUSE: a REFUSE; its port, SOURCE, DEST, SEQ, HOPS and payload (R493, R496). -/
def execRefuse (p : Fin 2) (src : Nat) (dest : Nat) (seq : Nat) (hops : Nat) (payload : List Byte) (t : Nat) (s : State) :
    Host.Outcome State Fault Refusal :=
  runU t s (fun s => s.ringFrame p.val 0x0B 8 src dest seq hops payload (fun _ => payload) (fun s => s.refuseRx payload))

/-- RECALL: a RECALL; its port, SOURCE, DEST, SEQ, HOPS and payload (R480). -/
def execRecall (p : Fin 2) (src : Nat) (dest : Nat) (seq : Nat) (hops : Nat) (payload : List Byte) (t : Nat) (s : State) :
    Host.Outcome State Fault Refusal :=
  runU t s (fun s =>
    s.ringFrame p.val 0x0C 8 src dest seq hops payload (fun _ => payload) (fun s => s.recallRx (src % 2 ^ 16) payload))

/-- RECALL_REPLY: a RECALL_REPLY part; its port, SOURCE, DEST, SEQ, HOPS and payload (R480, R497). -/
def execRecallReply (p : Fin 2) (src : Nat) (dest : Nat) (seq : Nat) (hops : Nat) (payload : List Byte) (t : Nat) (s : State) :
    Host.Outcome State Fault Refusal :=
  runU t s (fun s =>
    s.ringFrame p.val 0x0D 264 src dest seq hops payload (fun _ => payload) (fun s => s.recallReplyRx (src % 2 ^ 16) payload))

/-- BEACON_SEND: 1 ms has passed since the last BEACON (R476). -/
def execBeaconSend (t : Nat) (s : State) : Host.Outcome State Fault Refusal :=
  runU t s (fun s => s.beaconSend)

/-- CAST_SEND: 1 ms has passed since the keeper's last CAST (R476). -/
def execCastSend (t : Nat) (s : State) : Host.Outcome State Fault Refusal :=
  runU t s (fun s => s.castTick)

/-- CATALOGUE_SEND: 4 ms have passed since the keeper's last catalogue part (R476). -/
def execCatalogueSend (t : Nat) (s : State) : Host.Outcome State Fault Refusal :=
  runU t s (fun s => s.catalogueSend)

/-- TIME_SEND: 125 µs have passed since the keeper's last TIME mark (R476, R485). -/
def execTimeSend (t : Nat) (s : State) : Host.Outcome State Fault Refusal :=
  runU t s (fun s => s.timeSend)

/-- PDELAY_SEND: 1 ms has passed since the last PDELAY_REQ of a port (R476). -/
def execPdelaySend (p : Fin 2) (t : Nat) (s : State) : Host.Outcome State Fault Refusal :=
  runU t s (fun s => s.pdelaySend p.val)

/-- KEEPER_LOST: 10 ms have passed with no CAST (R480). -/
def execKeeperLost (t : Nat) (s : State) : Host.Outcome State Fault Refusal :=
  runU t s (fun s => s.keeperLoss)

/-- CMP_QUORUM_LOST: 5 ms have passed with no qualifying CAST, or set of BEACONs at the keeper (R479, R497). -/
def execCmpQuorumLost (t : Nat) (s : State) : Host.Outcome State Fault Refusal :=
  runU t s (fun s => s.quorumLoss)

/-- LEASE_PROPOSAL_TIMEOUT: LT has passed since a proposal of the keeper (R493). -/
def execLeaseProposalTimeout (t : Nat) (s : State) : Host.Outcome State Fault Refusal :=
  runU t s (fun s => s.proposalTimeout)

/-- LEASE_REQUEST_TIMEOUT: 2 × LT have passed since the request of a series (R493). -/
def execLeaseRequestTimeout (k : Fin 256) (t : Nat) (s : State) : Host.Outcome State Fault Refusal :=
  runU t s (fun s => s.requestTimeout k.val)

/-- CMP_HOLDOVER: a cause of holdover stands (R486). -/
def execCmpHoldover (t : Nat) (s : State) : Host.Outcome State Fault Refusal :=
  runU t s (fun s => s.holdoverCheck)

/-- CMP_HOLD_LIMIT: the holdover bound passes HOLD_LIMIT (R487). -/
def execCmpHoldLimit (t : Nat) (s : State) : Host.Outcome State Fault Refusal :=
  runU t s (fun s => s.holdLimit)

/-- CMP_TIME_OP_SET: a guarded write of OP SET (R485, R504). -/
def execCmpTimeOpSet (m : Master) (t : Nat) (s : State) : Host.Outcome State Fault Refusal :=
  runU t s (fun s => s.guardWrite m F.CMP_TIME_OP 1)

/-- CMP_TIME_OP_STEP: a guarded write of OP STEP (R485, R504). -/
def execCmpTimeOpStep (m : Master) (t : Nat) (s : State) : Host.Outcome State Fault Refusal :=
  runU t s (fun s => s.guardWrite m F.CMP_TIME_OP 2)

end Sys2Proof.Machine
end

