-- ==== Sys2Proof/Machine/RowsDmc.lean ====
section
/-! DEFINITION. The meanings of the commands of the memory controllers and the clocks. -/

namespace Sys2Proof.Machine

/-- A PLL has lost lock (R642 to R645, R650 to R654): the loss is counted, its domains follow their policies, and a new attempt
starts, or the VCO runs free while there is no REF. -/
def State.lockLost (s : State) (k : Nat) : State :=
  if s.get (F.CLK_PLL_STATUS_STATE k) ≠ 3 then s else
  let s := (s.addSat (F.CLK_PLL_LOSSES k) 1).put F.CLK_STATUS_LOCKED (s.get F.CLK_STATUS_LOCKED &&& (255 - 2 ^ k))
  let s := (s.raise Ev.CLK_LOCK_LOST k).domainsLose k
  let s := if s.onRef k ∧ s.clk.refLostAt.isSome then s.put (F.CLK_PLL_STATUS_STATE k) 4 else s.pllAttempt k false
  let s := if k = 4 then s.dmcPllLost 0 else if k = 5 then s.dmcPllLost 1 else s
  if s.mode = 1 ∧ !s.phaseDone 6 ∧ k ≤ 5 then
    ({ s with sys := { s.sys with clkFail := true } } : State).raise Ev.CLK_LOCK_FAIL k
  else if k = 1 ∨ k = 2 ∨ k = 3 then s.holdEnter 3
  else s

/-- 1 µs has passed with no REF edge (R638, R639, R654): the AON timer carries house time, within 1 %. -/
def State.refLost (s : State) : State :=
  if !s.flag F.CLK_STATUS_REF_OK then s else
  let s : State := { s with clk := { s.clk with refLostAt := some s.now } }
  let s := (((s.put F.CLK_STATUS_REF_OK 0).raise Ev.CLK_REF_LOST).enterHoldover 5).put F.CMP_STATUS_HOLD_CAUSE 5
  let s := s.houseDrift (10000000 + s.get F.CMP_TIME_CFG_HOLD_PPB)
  (List.range 8).foldl (fun s k => if s.onRef k then s.lockLost k else s) s

/-- 1,024 REF edges have arrived (R638, R639): the holdover bound has grown by 1 % of the time without REF, and the PLLs on REF
start their attempts. -/
def State.refBack (s : State) : State :=
  match s.clk.refLostAt with
  | none => s
  | some a =>
    let s : State := { s with
      clk := { s.clk with refLostAt := none }, cmp := { s.cmp with holdE := s.cmp.holdE + (s.now - a) / 100000, returnRun := 0 } }
    let s := s.houseDrift (s.get F.CMP_TIME_CFG_HOLD_PPB)
    let s := (s.put F.CLK_STATUS_REF_OK 1).raise Ev.CLK_REF_RESTORED
    (List.range 8).foldl (fun s k =>
      if s.onRef k ∧ s.get (F.CLK_PLL_STATUS_STATE k) = 4 then s.pllAttempt k false else s) s

/-- A PLL declares lock, with the band and trim that a search found (R642, R643, R653). -/
def State.lockDeclared (s : State) (k band trim : Nat) : State :=
  let st := s.get (F.CLK_PLL_STATUS_STATE k)
  if !(st = 1 ∨ st = 2) ∨ (s.onRef k ∧ s.clk.refLostAt.isSome) then s else
  let s := s.pllLock k band trim
  if k = 4 then s.dmcPllBack 0 else if k = 5 then s.dmcPllBack 1 else s

/-- A relock from band memory has not come within 20 µs (R643, R655): the entry is invalid, and a full search follows. -/
def State.bandStale (s : State) (k : Nat) : State :=
  if (k = 4 ∨ k = 5) ∧ s.ctlState (k - 4) = 4 then s.freqStale (k - 4) else
  let p := s.pll k
  if s.get (F.CLK_PLL_STATUS_STATE k) ≠ 2 ∨ s.now < p.since + 20000000 then s else
  let e := s.get (F.CLK_PLL_STATUS_ENTRY k)
  let s := s.setPll k { p with bands := tblPut {} p.bands e { tblGet {} p.bands e with valid := false } }
  (s.raise Ev.CLK_BAND_STALE k).pllAttempt k true

/-- A request abandons a self-refresh entry before its abort point (R619, R665): an entry to INTERVAL ends, that of a frequency
change starts again. -/
def State.srAbandon (s : State) (c : Nat) : State :=
  if s.pwr.step = 4 then (s.wakeSource 0).entrySelfRefresh else
  match s.freq with
  | none => s
  | some o =>
    match o.started with
    | none => s
    | some a =>
      if a + 3000000 < s.now ∨ s.ctlState 0 ≠ 4 ∨ s.ctlState 1 ≠ 4 then s else
      let s : State := { s with freq := some { o with started := none, again := true } }
      let s := [0, 1].foldl (fun s c => (s.srExit c).put (F.DMC_STATUS_STATE c) 2) s
      s.raise Ev.DMC_SR_ABANDONED c

/-- TEMP_SENSOR_READ: the sensors of a module are read, or do not answer (R608, R614, R616). -/
def execTempSensorRead (c : Fin 2) (ok : Bool) (ts0 : Fin 256) (ts1 : Fin 256) (t : Nat) (s : State) :
    Host.Outcome State Fault Refusal :=
  runU t s (fun s => s.tempRead c.val ok ts0.val ts1.val)

/-- REFRESH_INTERVAL: a refresh interval elapses (R614, R615). -/
def execRefreshInterval (c : Fin 2) (t : Nat) (s : State) : Host.Outcome State Fault Refusal :=
  runU t s (fun s => s.refreshInterval c.val)

/-- IDLE_REFRESH: no request has waited for 100 ns while the debt is at least 1 (R615). -/
def execIdleRefresh (c : Fin 2) (t : Nat) (s : State) : Host.Outcome State Fault Refusal :=
  runU t s (fun s => s.idleRefresh c.val)

/-- DMC_REFRESH_RECOVER: a recovery stall ends (R617). -/
def execDmcRefreshRecover (c : Fin 2) (t : Nat) (s : State) : Host.Outcome State Fault Refusal :=
  runU t s (fun s => s.recoverEnd c.val)

/-- DMC_FREQ_CHANGE: a guarded write of OP CHANGE with FGR and TARGET (R620, R631). -/
def execDmcFreqChange (m : Master) (fgr : Bool) (target : Fin 16) (t : Nat) (s : State) :
    Host.Outcome State Fault Refusal :=
  runU t s (fun s => s.guardWrite m F.DMC_FREQ_OP (256 * bit fgr + 16 * target.val + 1))

/-- FREQ_CHANGE_START: the change may start (R620, R621). -/
def execFreqChangeStart (t : Nat) (s : State) : Host.Outcome State Fault Refusal :=
  runU t s (fun s => s.freqStart)

/-- DMC_FREQ_DONE: the change reaches READY, or its retraining fails: controller, step, cause and lane (R621). -/
def execDmcFreqDone (fail : Option (Nat × Nat × Nat × Nat)) (t : Nat) (s : State) : Host.Outcome State Fault Refusal :=
  runU t s (fun s => s.freqDone fail)

/-- FREQ_CHANGE_TIMEOUT: 1,000 ms have passed with no curtain instant (R620). -/
def execFreqChangeTimeout (t : Nat) (s : State) : Host.Outcome State Fault Refusal :=
  runU t s (fun s => s.freqTimeout)

/-- DMC_ECC_CORRECTED: a beat with a single-bit error is corrected (R623). -/
def execDmcEccCorrected (c : Fin 2) (t : Nat) (s : State) : Host.Outcome State Fault Refusal :=
  runU t s (fun s => s.eccCorrected c.val)

/-- DMC_UNCORRECTABLE: an uncorrectable beat, as captured (R624 to R627). -/
def execDmcUncorrectable (c : Fin 2) (fault : DramFault) (t : Nat) (s : State) : Host.Outcome State Fault Refusal :=
  runU t s (fun s => s.dramFault c.val false fault)

/-- DMC_CA_PARITY: ALERT_N asserts for a parity error, as captured (R624 to R627). -/
def execDmcCaParity (c : Fin 2) (fault : DramFault) (t : Nat) (s : State) : Host.Outcome State Fault Refusal :=
  runU t s (fun s => s.dramFault c.val true fault)

/-- DMC_SR_ABANDONED: a request reaches a controller before the abort point of a self-refresh entry, of classes 1 to 3
in a frequency change (R619, R665). -/
def execDmcSrAbandoned (c : Fin 2) (t : Nat) (s : State) : Host.Outcome State Fault Refusal :=
  runU t s (fun s => s.srAbandon c.val)

/-- DMC_PLL_RELOCK_TIMEOUT: the PLL of a controller has not relocked within 1 ms (R653). -/
def execDmcPllRelockTimeout (c : Fin 2) (t : Nat) (s : State) : Host.Outcome State Fault Refusal :=
  runU t s (fun s => s.dmcPllTimeout c.val)

/-- CLK_REF_LOST: 1 µs has passed with no REF edge (R638, R639, R654). -/
def execClkRefLost (t : Nat) (s : State) : Host.Outcome State Fault Refusal :=
  runU t s (fun s => s.refLost)

/-- CLK_REF_RESTORED: 1,024 REF edges have arrived with no gap (R638, R639). -/
def execClkRefRestored (t : Nat) (s : State) : Host.Outcome State Fault Refusal :=
  runU t s (fun s => s.refBack)

/-- CLK_LOCKED: a PLL declares lock, with the band and trim it ran to (R642, R643). -/
def execClkLocked (k : Fin 8) (band : Fin 64) (trim : Fin 1024) (t : Nat) (s : State) :
    Host.Outcome State Fault Refusal :=
  runU t s (fun s => s.lockDeclared k.val band.val trim.val)

/-- CLK_LOCK_LOST: a PLL loses lock (R642, R645, R650 to R654). -/
def execClkLockLost (k : Fin 8) (t : Nat) (s : State) : Host.Outcome State Fault Refusal :=
  runU t s (fun s => s.lockLost k.val)

/-- CLK_BAND_STALE: a relock from band memory has not come within 20 µs (R643). -/
def execClkBandStale (k : Fin 8) (t : Nat) (s : State) : Host.Outcome State Fault Refusal :=
  runU t s (fun s => s.bandStale k.val)

/-- CLK_PLL_RELOCK: a guarded write of OP RELOCK for a PLL (R658). -/
def execClkPllRelock (m : Master) (k : Fin 8) (t : Nat) (s : State) : Host.Outcome State Fault Refusal :=
  runU t s (fun s => s.guardWrite m (F.CLK_PLL_OP k.val) 1)

/-- CLK_PLL_FULL_SEARCH: a guarded write of OP FULL_SEARCH for a PLL (R658). -/
def execClkPllFullSearch (m : Master) (k : Fin 8) (t : Nat) (s : State) : Host.Outcome State Fault Refusal :=
  runU t s (fun s => s.guardWrite m (F.CLK_PLL_OP k.val) 2)

/-- CLK_PLL_CLEAR_BAND: a guarded write of OP CLEAR_BAND for a PLL (R658). -/
def execClkPllClearBand (m : Master) (k : Fin 8) (t : Nat) (s : State) : Host.Outcome State Fault Refusal :=
  runU t s (fun s => s.guardWrite m (F.CLK_PLL_OP k.val) 3)

/-- CLK_DOM_RESTORE: a guarded write of OP RESTORE for a domain (R651, R659). -/
def execClkDomRestore (m : Master) (d : Fin 64) (t : Nat) (s : State) : Host.Outcome State Fault Refusal :=
  runU t s (fun s => s.guardWrite m F.CLK_DOM_OP (256 * d.val + 1))

/-- CLK_DOM_WRITE: a write of CLK_DOM_d (R651, R655, R659). -/
def execClkDomWrite (m : Master) (d : Fin 64) (v : Nat) (t : Nat) (s : State) : Host.Outcome State Fault Refusal :=
  runU t s (fun s => s.busWrite m (F.CLK_DOM d.val) v)

end Sys2Proof.Machine
end

