-- ==== Sys2Proof/Machine/RowsDpx.lean ====
section
/-! DEFINITION. The meanings of the commands of the duplex pair. -/

namespace Sys2Proof.Machine

/-- A cue burst on CUE_B (R421, R442). -/
def State.burstIn (s : State) : State :=
  if !s.dpx.configured then s else
  let s : State := { s with dpx := { s.dpx with cueAt := some s.now } }
  (s.put F.DPX_STATUS_CUE_OK 1).coTake 1 false

/-- Port D has been silent for 3 µs while CUE_B toggles (R422, R433). -/
def State.isolatedIn (s : State) : State :=
  if !s.dpx.configured ∨ !s.frameSilent then s else (s.put F.DPX_STATUS_CUE_OK 1).isolate

/-- A MARK frame (R436): the marks join those of the understudy's copy. -/
def State.markRx (s : State) (l : List Byte) : State :=
  if s.role ≠ 2 then s else
  s.modItem (leAt l 0 1 % 16) (leAt l 8 8) (fun x => { x with marks := x.marks ||| leAt l 6 2 })

/-- A HEAD frame (R435). -/
def State.headRx (s : State) (l : List Byte) : State :=
  if s.role ≠ 2 then s else
  let n := leAt l 0 1 % 16
  s.mirrorHead n (leAt l 8 8) (leAt l 16 8) (s.headWords n (leAt l 8 8) l)

/-- A BIND frame (R435). -/
def State.bindRx (s : State) (l : List Byte) : State :=
  if s.role ≠ 2 then s else s.mirrorBind (leAt l 0 1 % 16) (leAt l 8 8) (BitVec.ofNat 60 (leAt l 16 8)) ((leAt l 1 1).testBit 0)

/-- ACK has not advanced for 4 µs while frames are held (R426). -/
def State.resendTimer (s : State) : State :=
  match s.dpx.unacked with
  | [] => s
  | f :: _ => if s.dpx.ackAt + 4000000 ≤ s.now ∧ s.flag F.DPX_STATUS_LINK_UP then s.dpxResend f.1 else s

/-- No frame has been sent for 1 µs (R426). -/
def State.idleSend (s : State) : State :=
  if s.flag F.DPX_STATUS_LINK_UP ∧ s.dpx.sentAt + 1000000 ≤ s.now then s.dpxState else s

/-- HEARTBEAT_TOGGLE: CUE_A toggles (R420). -/
def execHeartbeatToggle (t : Nat) (s : State) : Host.Outcome State Fault Refusal :=
  runU t s (fun s => s.beat)

/-- CUE_BURST_RECOGNISED: the fourth edge of a burst on CUE_B (R421, R442). -/
def execCueBurstRecognised (t : Nat) (s : State) : Host.Outcome State Fault Refusal :=
  runU t s (fun s => s.burstIn)

/-- LEAD_LOST: CUE_B and port D have been silent for 3 µs (R422, R442). -/
def execLeadLost (t : Nat) (s : State) : Host.Outcome State Fault Refusal :=
  runU t s (fun s => s.leadLost)

/-- DPX_CUE_FAULT: CUE_B is silent for 3 µs while frames arrive (R422). -/
def execDpxCueFault (t : Nat) (s : State) : Host.Outcome State Fault Refusal :=
  runU t s (fun s => s.cueFault)

/-- DPX_ISOLATED: port D is silent for 3 µs while CUE_B toggles (R433). -/
def execDpxIsolated (t : Nat) (s : State) : Host.Outcome State Fault Refusal :=
  runU t s (fun s => s.isolatedIn)

/-- DPX_HELLO: a HELLO arrives; SEQ and ACK of the frame and its payload (R448, R450). -/
def execDpxHello (seq : Nat) (ack : Nat) (payload : List Byte) (t : Nat) (s : State) : Host.Outcome State Fault Refusal :=
  runU t s (fun s => s.dpxRx (seq % 2 ^ 32) (ack % 2 ^ 32) (fun s => s.helloRx payload))

/-- DPX_STATE: a STATE frame; SEQ and ACK of the frame and its payload (R427, R449). -/
def execDpxState (seq : Nat) (ack : Nat) (payload : List Byte) (t : Nat) (s : State) : Host.Outcome State Fault Refusal :=
  runU t s (fun s => s.dpxRx (seq % 2 ^ 32) (ack % 2 ^ 32) (fun s => s.stateRx payload))

/-- DPX_ITEM: a mirrored item; SEQ and ACK of the frame and its payload (R429, R431). -/
def execDpxItem (seq : Nat) (ack : Nat) (payload : List Byte) (t : Nat) (s : State) : Host.Outcome State Fault Refusal :=
  runU t s (fun s => s.dpxRx (seq % 2 ^ 32) (ack % 2 ^ 32) (fun s => s.commitFrame 0x03 payload))

/-- DPX_ACCESSION: a mirrored accession; SEQ and ACK of the frame and its payload (R430, R431). -/
def execDpxAccession (seq : Nat) (ack : Nat) (payload : List Byte) (t : Nat) (s : State) :
    Host.Outcome State Fault Refusal :=
  runU t s (fun s => s.dpxRx (seq % 2 ^ 32) (ack % 2 ^ 32) (fun s => s.commitFrame 0x05 payload))

/-- DPX_LEASE: a mirrored lease; SEQ and ACK of the frame and its payload (R494, R431). -/
def execDpxLease (seq : Nat) (ack : Nat) (payload : List Byte) (t : Nat) (s : State) : Host.Outcome State Fault Refusal :=
  runU t s (fun s => s.dpxRx (seq % 2 ^ 32) (ack % 2 ^ 32) (fun s => s.commitFrame 0x06 payload))

/-- DPX_CONFIG: a mirrored configuration operation; SEQ and ACK of the frame and its payload (R428, R431). -/
def execDpxConfig (seq : Nat) (ack : Nat) (payload : List Byte) (t : Nat) (s : State) :
    Host.Outcome State Fault Refusal :=
  runU t s (fun s => s.dpxRx (seq % 2 ^ 32) (ack % 2 ^ 32) (fun s => s.commitFrame 0x07 payload))

/-- DPX_FLUSH: a mirrored flush; SEQ and ACK of the frame and its payload (R428, R431). -/
def execDpxFlush (seq : Nat) (ack : Nat) (payload : List Byte) (t : Nat) (s : State) : Host.Outcome State Fault Refusal :=
  runU t s (fun s => s.dpxRx (seq % 2 ^ 32) (ack % 2 ^ 32) (fun s => s.commitFrame 0x08 payload))

/-- DPX_COMMIT_ACK: an acknowledgement names its commit by the record; SEQ and ACK of the frame and its payload
(R429). -/
def execDpxCommitAck (seq : Nat) (ack : Nat) (payload : List Byte) (t : Nat) (s : State) :
    Host.Outcome State Fault Refusal :=
  runU t s (fun s => s.dpxRx (seq % 2 ^ 32) (ack % 2 ^ 32) (fun s => s.commitAck (payload.take 16)))

/-- DPX_HEAD: an item enters HEAD on the understudy; SEQ and ACK of the frame and its payload (R435). -/
def execDpxHead (seq : Nat) (ack : Nat) (payload : List Byte) (t : Nat) (s : State) : Host.Outcome State Fault Refusal :=
  runU t s (fun s => s.dpxRx (seq % 2 ^ 32) (ack % 2 ^ 32) (fun s => s.headRx payload))

/-- DPX_BIND: the understudy binds an item; SEQ and ACK of the frame and its payload (R435). -/
def execDpxBind (seq : Nat) (ack : Nat) (payload : List Byte) (t : Nat) (s : State) : Host.Outcome State Fault Refusal :=
  runU t s (fun s => s.dpxRx (seq % 2 ^ 32) (ack % 2 ^ 32) (fun s => s.bindRx payload))

/-- DPX_MARK: the lead's marks; SEQ and ACK of the frame and its payload (R436). -/
def execDpxMark (seq : Nat) (ack : Nat) (payload : List Byte) (t : Nat) (s : State) : Host.Outcome State Fault Refusal :=
  runU t s (fun s => s.dpxRx (seq % 2 ^ 32) (ack % 2 ^ 32) (fun s => s.markRx payload))

/-- DPX_POS: a POS sample; SEQ and ACK of the frame and its payload (R437, R438). -/
def execDpxPos (seq : Nat) (ack : Nat) (payload : List Byte) (t : Nat) (s : State) : Host.Outcome State Fault Refusal :=
  runU t s (fun s =>
    s.dpxRx (seq % 2 ^ 32) (ack % 2 ^ 32) (fun s => s.posRx (leAt payload 0 1) (leAt payload 4 4) (BitVec.ofNat 60 (leAt payload 8 8)) (BitVec.ofNat 60 (leAt payload 16 8))))

/-- DPX_CO: a CO frame; SEQ and ACK of the frame and its payload (R441, R442). -/
def execDpxCo (seq : Nat) (ack : Nat) (payload : List Byte) (t : Nat) (s : State) : Host.Outcome State Fault Refusal :=
  runU t s (fun s => s.dpxRx (seq % 2 ^ 32) (ack % 2 ^ 32) (fun s => s.coFrame (leAt payload 0 1) (leAt payload 1 1)))

/-- DPX_CO_ACK: a CO_ACK frame; SEQ and ACK of the frame and its payload (R442). -/
def execDpxCoAck (seq : Nat) (ack : Nat) (payload : List Byte) (t : Nat) (s : State) : Host.Outcome State Fault Refusal :=
  runU t s (fun s => s.dpxRx (seq % 2 ^ 32) (ack % 2 ^ 32) (fun s => s.coAck (leAt payload 1 1)))

/-- DPX_NAK: a NAK; SEQ and ACK of the frame and its payload (R426). -/
def execDpxNak (seq : Nat) (ack : Nat) (payload : List Byte) (t : Nat) (s : State) : Host.Outcome State Fault Refusal :=
  runU t s (fun s => s.dpxRx (seq % 2 ^ 32) (ack % 2 ^ 32) (fun s => s.dpxNaked (leAt payload 0 4)))

/-- DPX_SUBMIT_FWD: a submission forwarded by the understudy; SEQ and ACK of the frame and its payload (R434). -/
def execDpxSubmitFwd (seq : Nat) (ack : Nat) (payload : List Byte) (t : Nat) (s : State) :
    Host.Outcome State Fault Refusal :=
  runU t s (fun s => s.dpxRx (seq % 2 ^ 32) (ack % 2 ^ 32) (fun s => s.submitFwd payload))

/-- DPX_OUTCOME_FWD: the outcome of a forwarded submission; SEQ and ACK of the frame and its payload (R434). -/
def execDpxOutcomeFwd (seq : Nat) (ack : Nat) (payload : List Byte) (t : Nat) (s : State) :
    Host.Outcome State Fault Refusal :=
  runU t s (fun s => s.dpxRx (seq % 2 ^ 32) (ack % 2 ^ 32) (fun s => s.outcomeFwd payload))

/-- DPX_SYNC_DATA: a part of a resynchronisation snapshot (log entry 33) (R452). -/
def execDpxSyncData (seq : Nat) (ack : Nat) (part : Sync) (t : Nat) (s : State) : Host.Outcome State Fault Refusal :=
  runU t s (fun s => s.dpxRx (seq % 2 ^ 32) (ack % 2 ^ 32) (fun s => s.syncPart part))

/-- DPX_RESEND_TIMER: ACK has not advanced for 4 µs (R426). -/
def execDpxResendTimer (t : Nat) (s : State) : Host.Outcome State Fault Refusal :=
  runU t s (fun s => s.resendTimer)

/-- DPX_IDLE_STATE_SEND: no frame has been sent for 1 µs (R426). -/
def execDpxIdleStateSend (t : Nat) (s : State) : Host.Outcome State Fault Refusal :=
  runU t s (fun s => s.idleSend)

/-- DPX_POS_SEND: 10 µs have passed since the last POS frame of an armed track (R437). -/
def execDpxPosSend (n : Fin 16) (t : Nat) (s : State) : Host.Outcome State Fault Refusal :=
  runU t s (fun s => s.posSend n.val)

/-- DPX_ACK_TIMEOUT: a commit has not been acknowledged within ACK_TIMEOUT; `cueSilent` is what CUE_B shows (R432). -/
def execDpxAckTimeout (cueSilent : Bool) (t : Nat) (s : State) : Host.Outcome State Fault Refusal :=
  runU t s (fun s => s.ackTimeout cueSilent)

/-- DPX_CO_HAND_OVER: a guarded write of HAND_OVER (R441, R458). -/
def execDpxCoHandOver (m : Master) (t : Nat) (s : State) : Host.Outcome State Fault Refusal :=
  runU t s (fun s => s.guardWrite m F.DPX_CO_REQ 1)

/-- DPX_CO_TAKE: a guarded write of TAKE (R441, R458). -/
def execDpxCoTake (m : Master) (t : Nat) (s : State) : Host.Outcome State Fault Refusal :=
  runU t s (fun s => s.guardWrite m F.DPX_CO_REQ 2)

/-- TAKE_REQUEST_TIMEOUT: no HANDING has come within 3 µs (R441). -/
def execTakeRequestTimeout (t : Nat) (s : State) : Host.Outcome State Fault Refusal :=
  runU t s (fun s => s.takeTimeout)

/-- SWITCH_AT: the switch instant (R442 to R447). -/
def execSwitchAt (t : Nat) (s : State) : Host.Outcome State Fault Refusal :=
  runU t s (fun s => s.switchAt)

/-- HELLO_SEND: 100 µs have passed in phase JOIN with no HELLO received (R448). -/
def execHelloSend (t : Nat) (s : State) : Host.Outcome State Fault Refusal :=
  runU t s (fun s => s.helloSend)

end Sys2Proof.Machine
end

