-- ==== Sys2Proof/Machine/RowsFrg.lean ====
section
/-! DEFINITION. The meanings of the commands of the forge, of layouts and of variable data. -/

namespace Sys2Proof.Machine

/-- The FORGE domain is on (R661). -/
def State.forgeOn (s : State) : Bool := (s.get F.PWR_STATUS_ON).testBit 6

/-- A value of FRG_LAYOUT_OP (R248). -/
def layoutValue (op track id : Nat) : Nat := op * 2 ^ 20 + track * 2 ^ 16 + id % 2 ^ 16

/-- A value of FRG_VD_OP (R304). -/
def vdValue (op vector : Nat) : Nat := vector % 128 * 256 + op

/-- A parity error in pipeline `k` (R238): with too few pipelines left it is a HOLD cause. -/
def State.forgeParity (s : State) (k : Nat) : State :=
  let (s, past) := s.pipeParity k
  if past then s.holdEnter 3 else s

/-- FORGE_LINE_START: pipeline `k` is free and takes a line (R195). -/
def execForgeLineStart (k : Fin 8) (t : Nat) (s : State) : Host.Outcome State Fault Refusal :=
  runU t s (fun s => s.lineStart k.val)

/-- LINE_COMPOSED: the line of pipeline `k` is complete: the groups that the fabric returned for the lines that leave
now, and the bad map entries, bad curves (false) and weight sets (true), bad delay store lines and corrected words met
in conditioning (R196, R197, R233, R312 to R319, R331). -/
def execLineComposed (k : Fin 8) (back : List TapReturn) (badEntries : List Nat) (badSets : List (Bool × Nat)) (badDelay : List Nat) (corrected : Nat) (t : Nat) (s : State) :
    Host.Outcome State Fault Refusal :=
  runU t s (fun s => s.lineComposed k.val back badEntries badSets badDelay corrected)

/-- LINE_HANDED: the head lines of the earliest line that has left the forge are written into their lanes (R356,
R383). -/
def execLineHanded (n : Fin 16) (t : Nat) (s : State) : Host.Outcome State Fault Refusal :=
  runU t s (fun s => s.lineHanded n.val)

/-- FORGE_PARITY_ERROR: a parity error in pipeline `k` (R238). -/
def execForgeParityError (k : Fin 8) (t : Nat) (s : State) : Host.Outcome State Fault Refusal :=
  runU t s (fun s => s.forgeParity k.val)

/-- FRG_CACHE_PARITY: a cache unit fails parity and is fetched again, which counts as a miss (R218). -/
def execFrgCacheParity (t : Nat) (s : State) : Host.Outcome State Fault Refusal :=
  runU t s (fun s => when s.forgeOn (fun s => (s.addSat F.FRG_CACHE_MISSES 1).raise Ev.FRG_CACHE_PARITY) s)

/-- LINE_DEADLINE: the earliest line of the track past its deadline is judged; `read` says that an artwork read was
outstanding (R384). -/
def execLineDeadline (n : Fin 16) (read : Bool) (t : Nat) (s : State) : Host.Outcome State Fault Refusal :=
  runU t s (fun s => s.lineDeadline n.val read)

/-- FRG_DL_POP: a write of 1 to FRG_DL_POP (R412). -/
def execFrgDlPop (m : Master) (t : Nat) (s : State) : Host.Outcome State Fault Refusal :=
  runU t s (fun s => s.busWrite m F.FRG_DL_POP 1)

/-- LAYOUT_INSTALL: a guarded write of OP 1, a track and an ID (R227, R248). -/
def execLayoutInstall (m : Master) (track : Fin 16) (id : Nat) (t : Nat) (s : State) : Host.Outcome State Fault Refusal :=
  runU t s (fun s => s.guardWrite m F.FRG_LAYOUT_OP (layoutValue 1 track.val id))

/-- LAYOUT_REPLACE: a guarded write of OP 2, a track and an ID (R227, R248). -/
def execLayoutReplace (m : Master) (track : Fin 16) (id : Nat) (t : Nat) (s : State) : Host.Outcome State Fault Refusal :=
  runU t s (fun s => s.guardWrite m F.FRG_LAYOUT_OP (layoutValue 2 track.val id))

/-- LAYOUT_REMOVE: a guarded write of OP 3, a track and an ID (R227, R248). -/
def execLayoutRemove (m : Master) (track : Fin 16) (id : Nat) (t : Nat) (s : State) : Host.Outcome State Fault Refusal :=
  runU t s (fun s => s.guardWrite m F.FRG_LAYOUT_OP (layoutValue 3 track.val id))

/-- LAYOUT_OP_COMPLETE: the running layout operation ends (R227 to R229). -/
def execLayoutOpComplete (t : Nat) (s : State) : Host.Outcome State Fault Refusal :=
  runU t s (fun s => s.layoutComplete)

/-- FRG_BUDGET_WRITE: a write of FRG_BUDGET (R245). -/
def execFrgBudgetWrite (m : Master) (v : Nat) (t : Nat) (s : State) : Host.Outcome State Fault Refusal :=
  runU t s (fun s => s.busWrite m F.FRG_BUDGET v)

/-- FRG_CTRL_WRITE: a write of FRG_CTRL (R243). -/
def execFrgCtrlWrite (m : Master) (v : Nat) (t : Nat) (s : State) : Host.Outcome State Fault Refusal :=
  runU t s (fun s => s.busWrite m F.FRG_CTRL v)

/-- FRG_CACHE_CFG_WRITE: a write of FRG_CACHE_CFG (R251). -/
def execFrgCacheCfgWrite (m : Master) (v : Nat) (t : Nat) (s : State) : Host.Outcome State Fault Refusal :=
  runU t s (fun s => s.busWrite m F.FRG_CACHE_CFG v)

/-- FRG_TAP_CTRL_WRITE: a write of FRG_TAP_CTRL_k (R234, R254). -/
def execFrgTapCtrlWrite (m : Master) (k : Fin 8) (v : Nat) (t : Nat) (s : State) : Host.Outcome State Fault Refusal :=
  runU t s (fun s => s.busWrite m (F.FRG_TAP_CTRL k.val) v)

/-- LAYOUT_REBUILD_DONE: the layout table has been rebuilt after a wake (R242). -/
def execLayoutRebuildDone (t : Nat) (s : State) : Host.Outcome State Fault Refusal :=
  runU t s (fun s => when s.frg.rebuilding State.layoutRebuild s)

/-- VD_OP_TO_WORD: a write of OP 1 with a vector (R266, R267). -/
def execVdOpToWord (m : Master) (vector : Fin 128) (t : Nat) (s : State) : Host.Outcome State Fault Refusal :=
  runU t s (fun s => s.busWrite m F.FRG_VD_OP (vdValue 1 vector.val))

/-- VD_OP_TO_BIN: a write of OP 2 with a vector (R266, R267). -/
def execVdOpToBin (m : Master) (vector : Fin 128) (t : Nat) (s : State) : Host.Outcome State Fault Refusal :=
  runU t s (fun s => s.busWrite m F.FRG_VD_OP (vdValue 2 vector.val))

/-- VD_OP_ADD: a write of OP 3 with a vector (R266, R267). -/
def execVdOpAdd (m : Master) (vector : Fin 128) (t : Nat) (s : State) : Host.Outcome State Fault Refusal :=
  runU t s (fun s => s.busWrite m F.FRG_VD_OP (vdValue 3 vector.val))

/-- VD_OP_COMPARE: a write of OP 4 with a vector (R266, R267). -/
def execVdOpCompare (m : Master) (vector : Fin 128) (t : Nat) (s : State) : Host.Outcome State Fault Refusal :=
  runU t s (fun s => s.busWrite m F.FRG_VD_OP (vdValue 4 vector.val))

/-- VD_OP_DONE: the host operation completes (R263 to R267). -/
def execVdOpDone (t : Nat) (s : State) : Host.Outcome State Fault Refusal :=
  runU t s (fun s => s.vdDone)

/-- FRG_VD_CNT_WRITE: a write of word `w` of counter `k` (R306). -/
def execFrgVdCntWrite (m : Master) (k : Fin 64) (w : Fin 3) (v : Nat) (t : Nat) (s : State) :
    Host.Outcome State Fault Refusal :=
  runU t s (fun s => s.busWrite64 m (F.FRG_VD_CNT_VAL k.val w.val) v)

end Sys2Proof.Machine
end

