-- ==== Sys2Proof/Machine/RowsIzx.lean ====
section
/-! DEFINITION. The meanings of the commands of the Izrex link. -/

namespace Sys2Proof.Machine

/-- A COMMAND frame: one that breaks R510 is discarded, and its blocks count as freed (R511). -/
def State.izxFrame (s : State) (p b op seq : Nat) (l : List Byte) : State :=
  if 4160 < l.length then
    when (decide (s.get (F.IZX_PORT_STATUS_STATE p) = 4)) (fun s => (s.izxBadFrame p).izxFree b (frameBlocks l)) s
  else s.izxCommand p b op (seq % 2 ^ 32) l

/-- IZX_PORT_RETRAIN: a port has retrained after a lane left or returned, with the lanes that are UP (R508). -/
def execIzxPortRetrain (p : Fin 2) (lanes : Fin 16) (t : Nat) (s : State) : Host.Outcome State Fault Refusal :=
  runU t s (fun s => s.portRetrained p.val lanes.val)

/-- IZX_PORT_AUTO_RETRAIN: a DOWN port has waited 10 ms with AUTO_RETRAIN set (R508). -/
def execIzxPortAutoRetrain (p : Fin 2) (t : Nat) (s : State) : Host.Outcome State Fault Refusal :=
  runU t s (fun s => s.portAgain p.val)

/-- IZX_PORT_OP_RETRAIN: a guarded write of OP RETRAIN for a port (R508, R533). -/
def execIzxPortOpRetrain (m : Master) (p : Fin 2) (t : Nat) (s : State) : Host.Outcome State Fault Refusal :=
  runU t s (fun s => s.guardWrite m F.IZX_PORT_OP (256 * p.val + 1))

/-- IZX_PORT_OP_TAKE_DOWN: a guarded write of OP TAKE_DOWN for a port (R508, R533). -/
def execIzxPortOpTakeDown (m : Master) (p : Fin 2) (t : Nat) (s : State) : Host.Outcome State Fault Refusal :=
  runU t s (fun s => s.guardWrite m F.IZX_PORT_OP (256 * p.val + 2))

/-- IZX_BOX_OP_CLOSE: a guarded write of OP CLOSE for a box (R512, R533). -/
def execIzxBoxOpClose (m : Master) (b : Fin 16) (t : Nat) (s : State) : Host.Outcome State Fault Refusal :=
  runU t s (fun s => s.guardWrite m F.IZX_BOX_OP (256 * b.val + 1))

/-- IZX_RX_CRC: a frame of `blocks` frame blocks that fails its checks or is cut by a retrain; `command` says that it
was a COMMAND of box `b`, whose blocks count as freed (R511, R516). -/
def execIzxRxCrc (p : Fin 2) (command : Bool) (b : Fin 16) (blocks : Nat) (t : Nat) (s : State) :
    Host.Outcome State Fault Refusal :=
  runU t s (fun s =>
    when (decide (s.get (F.IZX_PORT_STATUS_STATE p.val) = 4)) (fun s =>
      when command (fun s => s.izxFree b.val blocks) (s.izxBadFrame p.val)) s)

/-- OPEN: a LINK_REQ OPEN with HOST_ID, START_SEQ and FORCE (R512). -/
def execOpenBox (p : Fin 2) (b : Fin 16) (host : Nat) (start : Nat) (force : Bool) (t : Nat) (s : State) :
    Host.Outcome State Fault Refusal :=
  runU t s (fun s => s.izxOpen p.val b.val (host % 2 ^ 64) (start % 2 ^ 32) force)

/-- CLOSE: a LINK_REQ CLOSE (R512). -/
def execCloseBox (p : Fin 2) (b : Fin 16) (t : Nat) (s : State) : Host.Outcome State Fault Refusal :=
  runU t s (fun s => s.izxClose p.val b.val)

/-- NOP: a LINK_REQ NOP (R516). -/
def execNop (p : Fin 2) (b : Fin 16) (t : Nat) (s : State) : Host.Outcome State Fault Refusal :=
  runU t s (fun s => s.izxNop p.val b.val)

/-- BOX_HOLD_EXPIRY: a box has been held for BOX_HOLD seconds (R513). -/
def execBoxHoldExpiry (b : Fin 16) (t : Nat) (s : State) : Host.Outcome State Fault Refusal :=
  runU t s (fun s => s.boxHoldEnd b.val)

/-- REG_READ: an Izrex register read; the SEQ and payload of the COMMAND frame (R518, R519). -/
def execRegRead (p : Fin 2) (b : Fin 16) (seq : Nat) (payload : List Byte) (t : Nat) (s : State) :
    Host.Outcome State Fault Refusal :=
  runU t s (fun s => s.izxFrame p.val b.val 0x01 seq payload)

/-- REG_WRITE: an Izrex register write; the SEQ and payload of the COMMAND frame (R518, R519). -/
def execRegWrite (p : Fin 2) (b : Fin 16) (seq : Nat) (payload : List Byte) (t : Nat) (s : State) :
    Host.Outcome State Fault Refusal :=
  runU t s (fun s => s.izxFrame p.val b.val 0x02 seq payload)

/-- DRAM_WRITE: a bulk write; the SEQ and payload of the COMMAND frame (R518, R520). -/
def execDramWrite (p : Fin 2) (b : Fin 16) (seq : Nat) (payload : List Byte) (t : Nat) (s : State) :
    Host.Outcome State Fault Refusal :=
  runU t s (fun s => s.izxFrame p.val b.val 0x10 seq payload)

/-- DRAM_WRITE_DONE: the bulk write of a SEQ is visible to every user (R520). -/
def execDramWriteDone (b : Fin 16) (seq : Nat) (t : Nat) (s : State) : Host.Outcome State Fault Refusal :=
  runU t s (fun s => s.dramBulk b.val (seq % 2 ^ 32))

/-- DRAM_READ: a DRAM read; the SEQ and payload of the COMMAND frame (R518, R520). -/
def execDramRead (p : Fin 2) (b : Fin 16) (seq : Nat) (payload : List Byte) (t : Nat) (s : State) :
    Host.Outcome State Fault Refusal :=
  runU t s (fun s => s.izxFrame p.val b.val 0x11 seq payload)

/-- ITEM_QUERY: a query of an item; the SEQ and payload of the COMMAND frame (R153, R518). -/
def execItemQuery (p : Fin 2) (b : Fin 16) (seq : Nat) (payload : List Byte) (t : Nat) (s : State) :
    Host.Outcome State Fault Refusal :=
  runU t s (fun s => s.izxFrame p.val b.val 0x22 seq payload)

/-- TRACK_QUERY: a query of a track; the SEQ and payload of the COMMAND frame (R518). -/
def execTrackQuery (p : Fin 2) (b : Fin 16) (seq : Nat) (payload : List Byte) (t : Nat) (s : State) :
    Host.Outcome State Fault Refusal :=
  runU t s (fun s => s.izxFrame p.val b.val 0x23 seq payload)

/-- SCENE_DATA_BEGIN: the begin of a scene; the SEQ and payload of the COMMAND frame after its PHASE byte (R526,
R574). -/
def execSceneDataBegin (p : Fin 2) (b : Fin 16) (seq : Nat) (payload : List Byte) (t : Nat) (s : State) :
    Host.Outcome State Fault Refusal :=
  runU t s (fun s => s.izxFrame p.val b.val 0x30 seq (leBytes 1 0 ++ payload))

/-- SCENE_DATA_CHUNK: a chunk of a scene; the SEQ and payload of the COMMAND frame after its PHASE byte (R526, R574). -/
def execSceneDataChunk (p : Fin 2) (b : Fin 16) (seq : Nat) (payload : List Byte) (t : Nat) (s : State) :
    Host.Outcome State Fault Refusal :=
  runU t s (fun s => s.izxFrame p.val b.val 0x30 seq (leBytes 1 1 ++ payload))

/-- SCENE_DATA_END: the end of a scene; the SEQ and payload of the COMMAND frame after its PHASE byte (R526, R574,
R576). -/
def execSceneDataEnd (p : Fin 2) (b : Fin 16) (seq : Nat) (payload : List Byte) (t : Nat) (s : State) :
    Host.Outcome State Fault Refusal :=
  runU t s (fun s => s.izxFrame p.val b.val 0x30 seq (leBytes 1 2 ++ payload))

/-- PROMPT_DATA_BEGIN: the begin of a prompt book; the SEQ and payload of the COMMAND frame after its PHASE byte
(R526). -/
def execPromptDataBegin (p : Fin 2) (b : Fin 16) (seq : Nat) (payload : List Byte) (t : Nat) (s : State) :
    Host.Outcome State Fault Refusal :=
  runU t s (fun s => s.izxFrame p.val b.val 0x31 seq (leBytes 1 0 ++ payload))

/-- PROMPT_DATA_CHUNK: a chunk of a prompt book; the SEQ and payload of the COMMAND frame after its PHASE byte (R526). -/
def execPromptDataChunk (p : Fin 2) (b : Fin 16) (seq : Nat) (payload : List Byte) (t : Nat) (s : State) :
    Host.Outcome State Fault Refusal :=
  runU t s (fun s => s.izxFrame p.val b.val 0x31 seq (leBytes 1 1 ++ payload))

/-- PROMPT_DATA_END: the end of a prompt book; the SEQ and payload of the COMMAND frame after its PHASE byte (R526). -/
def execPromptDataEnd (p : Fin 2) (b : Fin 16) (seq : Nat) (payload : List Byte) (t : Nat) (s : State) :
    Host.Outcome State Fault Refusal :=
  runU t s (fun s => s.izxFrame p.val b.val 0x31 seq (leBytes 1 2 ++ payload))

/-- PROMPT_SLOT_ERASE_DONE: the erase of the NOR slot completes (R526). -/
def execPromptSlotEraseDone (t : Nat) (s : State) : Host.Outcome State Fault Refusal :=
  runU t s (fun s => s.promptErased)

/-- SUBSCRIBE: a subscription; the SEQ and payload of the COMMAND frame (R518, R524). -/
def execSubscribe (p : Fin 2) (b : Fin 16) (seq : Nat) (payload : List Byte) (t : Nat) (s : State) :
    Host.Outcome State Fault Refusal :=
  runU t s (fun s => s.izxFrame p.val b.val 0x40 seq payload)

/-- SERIES_QUERY: a query of a series; the SEQ and payload of the COMMAND frame (R518, R525). -/
def execSeriesQuery (p : Fin 2) (b : Fin 16) (seq : Nat) (payload : List Byte) (t : Nat) (s : State) :
    Host.Outcome State Fault Refusal :=
  runU t s (fun s => s.izxFrame p.val b.val 0x50 seq payload)

end Sys2Proof.Machine
end

