-- ==== Sys2Proof/Machine/RowsLcy.lean ====
section
/-! DEFINITION. The meanings of the commands of the life cycle and debug. -/

namespace Sys2Proof.Machine

/-- LCY_TO_FACTORY_TEST: a guarded write of TARGET 1, with the level of LCY_HOLDUP (R708 to R712, R727). -/
def execLcyToFactoryTest (m : Master) (holdup : Bool) (t : Nat) (s : State) : Host.Outcome State Fault Refusal :=
  runU t s (fun s => (s.put F.LCY_STATUS_HOLDUP (bit holdup)).guardWrite m F.LCY_TRANSITION 1)

/-- LCY_TO_PROVISIONED: a guarded write of TARGET 2, with the level of LCY_HOLDUP (R708 to R712, R727). -/
def execLcyToProvisioned (m : Master) (holdup : Bool) (t : Nat) (s : State) : Host.Outcome State Fault Refusal :=
  runU t s (fun s => (s.put F.LCY_STATUS_HOLDUP (bit holdup)).guardWrite m F.LCY_TRANSITION 2)

/-- LCY_TO_FIELD: a guarded write of TARGET 3, with the level of LCY_HOLDUP (R708 to R712, R727). -/
def execLcyToField (m : Master) (holdup : Bool) (t : Nat) (s : State) : Host.Outcome State Fault Refusal :=
  runU t s (fun s => (s.put F.LCY_STATUS_HOLDUP (bit holdup)).guardWrite m F.LCY_TRANSITION 3)

/-- LCY_TO_FIELD_TEST: a guarded write of TARGET 4, with the level of LCY_HOLDUP (R708 to R712, R727). -/
def execLcyToFieldTest (m : Master) (holdup : Bool) (t : Nat) (s : State) : Host.Outcome State Fault Refusal :=
  runU t s (fun s => (s.put F.LCY_STATUS_HOLDUP (bit holdup)).guardWrite m F.LCY_TRANSITION 4)

/-- LCY_TO_ANALYSIS: a guarded write of TARGET 5, with the level of LCY_HOLDUP (R708 to R712, R727). -/
def execLcyToAnalysis (m : Master) (holdup : Bool) (t : Nat) (s : State) : Host.Outcome State Fault Refusal :=
  runU t s (fun s => (s.put F.LCY_STATUS_HOLDUP (bit holdup)).guardWrite m F.LCY_TRANSITION 5)

/-- LCY_TO_SCRAP: a guarded write of TARGET 6, with the level of LCY_HOLDUP (R708 to R712, R727). -/
def execLcyToScrap (m : Master) (holdup : Bool) (t : Nat) (s : State) : Host.Outcome State Fault Refusal :=
  runU t s (fun s => (s.put F.LCY_STATUS_HOLDUP (bit holdup)).guardWrite m F.LCY_TRANSITION 6)

/-- LCY_TRANSITION_DONE: the last fuse of a transition is blown (R708, R710, R712). -/
def execLcyTransitionDone (t : Nat) (s : State) : Host.Outcome State Fault Refusal :=
  runU t s (fun s => s.lcyDone)

/-- LCY_CHALLENGE: a guarded write of OP CHALLENGE (R718, R720, R727). -/
def execLcyChallenge (m : Master) (t : Nat) (s : State) : Host.Outcome State Fault Refusal :=
  runU t s (fun s => s.guardWrite m F.LCY_DEBUG_OP 1)

/-- LCY_VERIFY: a guarded write of OP VERIFY (R719, R720, R727). -/
def execLcyVerify (m : Master) (t : Nat) (s : State) : Host.Outcome State Fault Refusal :=
  runU t s (fun s => s.guardWrite m F.LCY_DEBUG_OP 2)

/-- LCY_VERIFY_DONE: verification completes; a Prompter RESPOND that waits for it is answered (R719, R723). -/
def execLcyVerifyDone (t : Nat) (s : State) : Host.Outcome State Fault Refusal :=
  runU t s (fun s => (s.verifyDone).respondEnd)

/-- NONCE_EXPIRY: 600 s have passed since the CHALLENGE (R719). -/
def execNonceExpiry (t : Nat) (s : State) : Host.Outcome State Fault Refusal :=
  runU t s (fun s => s.nonceExpire)

/-- KEY_AES_SCENE: a guarded write of LCY_KEY_OP with KIND 1 and a slot (R716, R717, R727). -/
def execKeyAesScene (m : Master) (slot : Fin 256) (t : Nat) (s : State) : Host.Outcome State Fault Refusal :=
  runU t s (fun s => s.guardWrite m F.LCY_KEY_OP (256 * slot.val + 1))

/-- KEY_AES_PROMPT: a guarded write of LCY_KEY_OP with KIND 2 and a slot (R716, R717, R727). -/
def execKeyAesPrompt (m : Master) (slot : Fin 256) (t : Nat) (s : State) : Host.Outcome State Fault Refusal :=
  runU t s (fun s => s.guardWrite m F.LCY_KEY_OP (256 * slot.val + 2))

/-- KEY_SCENE_PUB_X: a guarded write of LCY_KEY_OP with KIND 3 (R716, R717, R727). -/
def execKeyScenePubX (m : Master) (t : Nat) (s : State) : Host.Outcome State Fault Refusal :=
  runU t s (fun s => s.guardWrite m F.LCY_KEY_OP 3)

/-- KEY_SCENE_PUB_Y: a guarded write of LCY_KEY_OP with KIND 4 (R716, R717, R727). -/
def execKeyScenePubY (m : Master) (t : Nat) (s : State) : Host.Outcome State Fault Refusal :=
  runU t s (fun s => s.guardWrite m F.LCY_KEY_OP 4)

/-- KEY_PROMPT_PUB_X: a guarded write of LCY_KEY_OP with KIND 5 (R716, R717, R727). -/
def execKeyPromptPubX (m : Master) (t : Nat) (s : State) : Host.Outcome State Fault Refusal :=
  runU t s (fun s => s.guardWrite m F.LCY_KEY_OP 5)

/-- KEY_PROMPT_PUB_Y: a guarded write of LCY_KEY_OP with KIND 6 (R716, R717, R727). -/
def execKeyPromptPubY (m : Master) (t : Nat) (s : State) : Host.Outcome State Fault Refusal :=
  runU t s (fun s => s.guardWrite m F.LCY_KEY_OP 6)

/-- LCY_KEY_WRITTEN: the key store has been programmed (R717). -/
def execLcyKeyWritten (t : Nat) (s : State) : Host.Outcome State Fault Refusal :=
  runU t s (fun s => s.keyWritten)

end Sys2Proof.Machine
end

