-- ==== Sys2Proof/Machine/RowsMon.lean ====
section
/-! DEFINITION. The meanings of the commands of the Prompter. -/

namespace Sys2Proof.Machine

/-- PROMPTER_LINE: a command line on MON_RX, its character codes without the CR (R721 to R725). -/
def execPrompterLine (chars : List Nat) (t : Nat) (s : State) : Host.Outcome State Fault Refusal :=
  runU t s (fun s => s.promptCmd (lineCmd chars))

/-- PROMPTER_ID: the Prompter command ID arrives (R722, R723). -/
def execPrompterId (t : Nat) (s : State) : Host.Outcome State Fault Refusal :=
  runU t s (fun s => s.promptCmd .id)

/-- PROMPTER_STATUS: the Prompter command STATUS arrives (R722, R723). -/
def execPrompterStatus (t : Nat) (s : State) : Host.Outcome State Fault Refusal :=
  runU t s (fun s => s.promptCmd .status)

/-- PROMPTER_READ: the Prompter command READ arrives (R722, R723). -/
def execPrompterRead (addr : Nat) (count : Nat) (t : Nat) (s : State) : Host.Outcome State Fault Refusal :=
  runU t s (fun s => s.promptCmd (.read addr count))

/-- PROMPTER_READ64: the Prompter command READ64 arrives (R722, R723). -/
def execPrompterRead64 (addr : Nat) (t : Nat) (s : State) : Host.Outcome State Fault Refusal :=
  runU t s (fun s => s.promptCmd (.read64 addr))

/-- PROMPTER_WRITE: the Prompter command WRITE arrives (R722, R723). -/
def execPrompterWrite (addr : Nat) (value : Nat) (t : Nat) (s : State) : Host.Outcome State Fault Refusal :=
  runU t s (fun s => s.promptCmd (.write addr value))

/-- PROMPTER_WRITE64: the Prompter command WRITE64 arrives (R722, R723). -/
def execPrompterWrite64 (addr : Nat) (value : Nat) (t : Nat) (s : State) : Host.Outcome State Fault Refusal :=
  runU t s (fun s => s.promptCmd (.write64 addr value))

/-- PROMPTER_MODE: the Prompter command MODE arrives (R59 to R62, R722, R723). -/
def execPrompterMode (mode : Fin 8) (t : Nat) (s : State) : Host.Outcome State Fault Refusal :=
  runU t s (fun s => s.promptCmd (.mode mode.val))

/-- PROMPTER_RESET: the Prompter command RESET arrives (R87, R722, R723). -/
def execPrompterReset (kind : Fin 4) (t : Nat) (s : State) : Host.Outcome State Fault Refusal :=
  runU t s (fun s => s.promptCmd (.reset kind.val))

/-- PROMPTER_LOG: the Prompter command LOG arrives (R722, R723, R737). -/
def execPrompterLog (count : Nat) (t : Nat) (s : State) : Host.Outcome State Fault Refusal :=
  runU t s (fun s => s.promptCmd (.log count))

/-- PROMPTER_SELECT: the Prompter command SELECT arrives (R572, R722, R725). -/
def execPrompterSelect (plane : Fin 2) (t : Nat) (s : State) : Host.Outcome State Fault Refusal :=
  runU t s (fun s => s.promptCmd (.select plane.val))

/-- PROMPTER_LCY: the Prompter command LCY arrives (R708, R722, R723). -/
def execPrompterLcy (target : Fin 8) (t : Nat) (s : State) : Host.Outcome State Fault Refusal :=
  runU t s (fun s => s.promptCmd (.lcy target.val))

/-- PROMPTER_CHALLENGE: the Prompter command CHALLENGE arrives (R718, R722, R723). -/
def execPrompterChallenge (t : Nat) (s : State) : Host.Outcome State Fault Refusal :=
  runU t s (fun s => s.promptCmd .challenge)

/-- PROMPTER_RESPOND: the Prompter command RESPOND arrives (R719, R722, R723). -/
def execPrompterRespond (sig : List Byte) (t : Nat) (s : State) : Host.Outcome State Fault Refusal :=
  runU t s (fun s => s.promptCmd (.respond (sig.take 64)))

end Sys2Proof.Machine
end

