-- ==== Sys2Proof/Machine/RowsNzc.lean ====
section
/-! DEFINITION. The meanings of the commands of nozzle conditioning. -/

namespace Sys2Proof.Machine

/-- An operation of the map ends by `f`, once the understudy has acknowledged it; one applied for a lead is acknowledged when
it has ended (R330, R428). -/
def State.nzFinish (s : State) (may : Nat → Bool) (f : State → State) : State :=
  match s.nzc.op with
  | none => s
  | some o =>
    if !(may o.op) ∨ o.waiting then s else
    let s := f s
    match s.nzc.op, o.mirror with
    | none, some q => s.dpxAck q 0x07 0
    | _, _ => s

/-- A LOAD ends: one with a range to read once the controllers serve its read, of class 4 (R36, log 92). -/
def State.nzServed (s : State) : State :=
  if s.nzLoadRange ∧ !(s.dramMay 4 (s.get F.NZC_LOAD_ADDR_ADDR) 64) then s
  else s.nzFinish (fun o => o = 2) State.nzLoaded

/-- A line of track `n` before the one that the lead named has still to leave the forge (R330). -/
def State.beforeNamed (s : State) (w : NzSwap) (n : Nat) : Bool :=
  !(w.switched.testBit n) && (w.named.filter (fun x => x.1 = n)).any (fun x =>
    s.composes n && (s.firstToLeave n).any (fun p => decide (posDiff p x.2 < 0)))

/-- Every track has switched and no line runs on the old page: the pages exchange roles (R328). -/
def State.nzSwapEnd (s : State) : State :=
  match s.nzc.swap with
  | none => s
  | some w =>
    if s.swapDone w ∧ (List.range 16).all (fun n => !(s.beforeNamed w n)) then (s.nzExchange).nzEnd 0 0xFFFFF else s

/-- The prompt book section of a type, as the slot in use holds it now. -/
def State.bookSection (s : State) (ty : Nat) : List Byte :=
  let k := s.get F.CFG_PROMPT_STATUS_SLOT
  let h := s.norBytes (slotBase k) 256
  let secs := sectionsOf (s.norBytes (slotBase k + leAt h 0x24 4) (32 * leAt h 0x1E 2)) (leAt h 0x1E 2)
  let key := if leAt h 0x21 1 = 1 then s.aesKey (leAt h 0x20 1) 2 else none
  (secs.filter (fun x => x.type = ty)).flatMap (fun x =>
    (State.plainOf key x (s.norBytes (slotBase k + x.off) x.len)).getD [])

/-- On wake the map is read again from the NOZZLES section (R333). -/
def State.mapRestored (s : State) : State :=
  if !s.nzc.restoring then s else
  let s := s.importNozzles (s.bookSection 9)
  let s : State := { s with nzc := { s.nzc with restoring := false } }
  let s : State := { s with frg := { s.frg with layouts := s.frg.layouts.map s.formsMade } }
  ((s.put F.NZC_STATUS_SHADOW 0).put F.NZC_STATUS_MAP_SOURCE 1).raise Ev.NZC_MAP_RESTORED

/-- NZC_OP_COPY: a guarded write of OP 1 (R325 to R330). -/
def execNzcOpCopy (m : Master) (t : Nat) (s : State) : Host.Outcome State Fault Refusal :=
  runU t s (fun s => s.guardWrite m F.NZC_OP 1)

/-- NZC_OP_LOAD: a guarded write of OP 2 (R325 to R330). -/
def execNzcOpLoad (m : Master) (t : Nat) (s : State) : Host.Outcome State Fault Refusal :=
  runU t s (fun s => s.guardWrite m F.NZC_OP 2)

/-- NZC_OP_PREPARE: a guarded write of OP 3 (R325 to R330). -/
def execNzcOpPrepare (m : Master) (t : Nat) (s : State) : Host.Outcome State Fault Refusal :=
  runU t s (fun s => s.guardWrite m F.NZC_OP 3)

/-- NZC_OP_SWAP_LINE: a guarded write of OP 4 (R325 to R330). -/
def execNzcOpSwapLine (m : Master) (t : Nat) (s : State) : Host.Outcome State Fault Refusal :=
  runU t s (fun s => s.guardWrite m F.NZC_OP 4)

/-- NZC_OP_SWAP_CURTAIN: a guarded write of OP 5 (R325 to R330). -/
def execNzcOpSwapCurtain (m : Master) (t : Nat) (s : State) : Host.Outcome State Fault Refusal :=
  runU t s (fun s => s.guardWrite m F.NZC_OP 5)

/-- NZC_COPY_DONE: a COPY completes (R325). -/
def execNzcCopyDone (t : Nat) (s : State) : Host.Outcome State Fault Refusal :=
  runU t s (fun s => s.nzFinish (fun o => o = 1) State.nzCopied)

/-- NZC_LOAD_DONE: a LOAD completes (R326). -/
def execNzcLoadDone (t : Nat) (s : State) : Host.Outcome State Fault Refusal :=
  runU t s (fun s => s.nzServed)

/-- NZC_PREPARE_DONE: PREPARE ends; `ecc` is an uncorrectable error met at an index (R327, R331). -/
def execNzcPrepareDone (ecc : Option Nat) (t : Nat) (s : State) : Host.Outcome State Fault Refusal :=
  runU t s (fun s => s.nzFinish (fun o => o = 3) (fun s => s.nzPrepared ecc))

/-- NZC_SWAPPED: every track has switched (R328). -/
def execNzcSwapped (t : Nat) (s : State) : Host.Outcome State Fault Refusal :=
  runU t s (fun s => s.nzFinish (fun o => o = 4 || o = 5) State.nzSwapEnd)

/-- NZC_PATCH_ENTRY: a write of NZC_PATCH_ENTRY (R326). -/
def execNzcPatchEntry (m : Master) (v : Nat) (t : Nat) (s : State) : Host.Outcome State Fault Refusal :=
  runU t s (fun s => s.busWrite m F.NZC_PATCH_ENTRY v)

/-- NZC_MAP_RESTORED: the map has been read again after a wake (R333). -/
def execNzcMapRestored (t : Nat) (s : State) : Host.Outcome State Fault Refusal :=
  runU t s (fun s => s.mapRestored)

end Sys2Proof.Machine
end

