-- ==== Sys2Proof/Machine/RowsPer.lean ====
section
/-! DEFINITION. The meanings of the commands of the user pins and the peripherals. -/

namespace Sys2Proof.Machine

/-- GPIO_PIN_WRITE: a write of GPIO_PIN_p (R686, R688, R698). -/
def execGpioPinWrite (m : Master) (pin : Fin 640) (v : Nat) (t : Nat) (s : State) : Host.Outcome State Fault Refusal :=
  runU t s (fun s => s.busWrite m (F.GPIO_PIN pin.val) v)

/-- PIN_HAND_OVER: cycle 2 of a hand-over (R688). -/
def execPinHandOver (pin : Fin 640) (t : Nat) (s : State) : Host.Outcome State Fault Refusal :=
  runU t s (fun s => s.handOver pin.val)

/-- GPIO_MWR_WRITE: a masked write of GPIO_OUT_n (R690, R698). -/
def execGpioMwrWrite (m : Master) (h : Fin 40) (v : Nat) (t : Nat) (s : State) : Host.Outcome State Fault Refusal :=
  runU t s (fun s => s.busWrite m (F.GPIO_MWR h.val) v)

/-- GPIO_MOE_WRITE: a masked write of GPIO_OE_n (R690, R698). -/
def execGpioMoeWrite (m : Master) (h : Fin 40) (v : Nat) (t : Nat) (s : State) : Host.Outcome State Fault Refusal :=
  runU t s (fun s => s.busWrite m (F.GPIO_MOE h.val) v)

/-- GPIO_PATTERN: the accepted levels of the window of a unit, and the pins whose accepted change has just come (R691,
R692). -/
def execGpioPattern (u : Fin 8) (levels : Nat) (changed : Nat) (t : Nat) (s : State) : Host.Outcome State Fault Refusal :=
  runU t s (fun s => s.pattern u.val (levels % 2 ^ 32) (changed % 2 ^ 32))

/-- GPIO_BANK_FAULT: the supply code of a bank changes (R681). -/
def execGpioBankFault (n : Fin 16) (code : Fin 8) (t : Nat) (s : State) : Host.Outcome State Fault Refusal :=
  runU t s (fun s => s.bankCode n.val code.val)

/-- UART_RX_BYTE: a UART receives a byte; whether its parity or stop bit is wrong (R693). -/
def execUartRxByte (u : Fin 4) (byte : Fin 256) (parityBad : Bool) (framingBad : Bool) (t : Nat) (s : State) :
    Host.Outcome State Fault Refusal :=
  runU t s (fun s => s.uartRx u.val byte.val parityBad framingBad)

/-- UART_DATA_WRITE: a write of UART_k_DATA (R693, R701). -/
def execUartDataWrite (m : Master) (u : Fin 4) (v : Nat) (t : Nat) (s : State) : Host.Outcome State Fault Refusal :=
  runU t s (fun s => s.busWrite m (F.UART_DATA u.val) v)

/-- UART_DATA_READ: a read of UART_k_DATA (R693, R701). -/
def execUartDataRead (m : Master) (u : Fin 4) (t : Nat) (s : State) : Host.Outcome State Fault Refusal :=
  runU t s (fun s => s.busRead m (F.UART_DATA u.val))

/-- UART_TX_DONE: FIFO and shifter are empty (R693, R704). -/
def execUartTxDone (u : Fin 4) (t : Nat) (s : State) : Host.Outcome State Fault Refusal :=
  runU t s (fun s => s.uartDone u.val)

/-- UART_CTS_N_CHANGE: CTS_N takes a level (R693). -/
def execUartCtsNChange (u : Fin 4) (high : Bool) (t : Nat) (s : State) : Host.Outcome State Fault Refusal :=
  runU t s (fun s => s.uartCts u.val high)

/-- UART_BREAK: RXD has been low for twelve bit times (R693, R704). -/
def execUartBreak (u : Fin 4) (t : Nat) (s : State) : Host.Outcome State Fault Refusal :=
  runU t s (fun s => s.uartBreak u.val)

/-- SPI_DATA_WRITE: a write of SPI_k_DATA (R694, R702). -/
def execSpiDataWrite (m : Master) (u : Fin 4) (v : Nat) (t : Nat) (s : State) : Host.Outcome State Fault Refusal :=
  runU t s (fun s => s.busWrite m (F.SPI_DATA u.val) v)

/-- SPI_DATA_READ: a read of SPI_k_DATA (R694, R702). -/
def execSpiDataRead (m : Master) (u : Fin 4) (t : Nat) (s : State) : Host.Outcome State Fault Refusal :=
  runU t s (fun s => s.busRead m (F.SPI_DATA u.val))

/-- SPI_FRAME_DONE: a frame completes with the byte received (R694). -/
def execSpiFrameDone (u : Fin 4) (byte : Fin 256) (t : Nat) (s : State) : Host.Outcome State Fault Refusal :=
  runU t s (fun s => s.spiFrame u.val byte.val)

/-- PER_SPI_DONE: CS_N rises (R694, R704). -/
def execPerSpiDone (u : Fin 4) (t : Nat) (s : State) : Host.Outcome State Fault Refusal :=
  runU t s (fun s => s.spiDone u.val)

/-- I2C_START: a write of I2C_k_CMD with OP START (R695, R702). -/
def execI2cStart (m : Master) (u : Fin 4) (t : Nat) (s : State) : Host.Outcome State Fault Refusal :=
  runU t s (fun s => s.busWrite m (F.I2C_CMD u.val) 256)

/-- I2C_READ_ACK: a write of I2C_k_CMD with OP READ_ACK (R695, R702). -/
def execI2cReadAck (m : Master) (u : Fin 4) (t : Nat) (s : State) : Host.Outcome State Fault Refusal :=
  runU t s (fun s => s.busWrite m (F.I2C_CMD u.val) 768)

/-- I2C_READ_NACK: a write of I2C_k_CMD with OP READ_NACK (R695, R702). -/
def execI2cReadNack (m : Master) (u : Fin 4) (t : Nat) (s : State) : Host.Outcome State Fault Refusal :=
  runU t s (fun s => s.busWrite m (F.I2C_CMD u.val) 1024)

/-- I2C_STOP: a write of I2C_k_CMD with OP STOP (R695, R702). -/
def execI2cStop (m : Master) (u : Fin 4) (t : Nat) (s : State) : Host.Outcome State Fault Refusal :=
  runU t s (fun s => s.busWrite m (F.I2C_CMD u.val) 1280)

/-- I2C_WRITE: a write of I2C_k_CMD with OP WRITE and its byte (R695, R702). -/
def execI2cWrite (m : Master) (u : Fin 4) (byte : Fin 256) (t : Nat) (s : State) : Host.Outcome State Fault Refusal :=
  runU t s (fun s => s.busWrite m (F.I2C_CMD u.val) (512 + byte.val))

/-- I2C_RXDATA_READ: a read of I2C_k_RXDATA (R695, R702). -/
def execI2cRxdataRead (m : Master) (u : Fin 4) (t : Nat) (s : State) : Host.Outcome State Fault Refusal :=
  runU t s (fun s => s.busRead m (F.I2C_RXDATA u.val))

/-- I2C_COMMAND_DONE: the command at the front ends: 0 complete, 1 NACK, 2 arbitration lost, with the byte a read
received (R695, R704). -/
def execI2cCommandDone (u : Fin 4) (res : Fin 3) (byte : Fin 256) (t : Nat) (s : State) :
    Host.Outcome State Fault Refusal :=
  runU t s (fun s => s.i2cDone u.val res.val byte.val)

/-- I2C_STRETCH_TIMEOUT: a clock stretch has lasted longer than 25 ms (R695). -/
def execI2cStretchTimeout (u : Fin 4) (t : Nat) (s : State) : Host.Outcome State Fault Refusal :=
  runU t s (fun s => s.i2cStretch u.val)

/-- PER_TIMER: a timer wraps or stops at PERIOD (R696). -/
def execPerTimer (k : Fin 8) (t : Nat) (s : State) : Host.Outcome State Fault Refusal :=
  runU t s (fun s => s.timerEnd k.val)

/-- PER_TIMER_CAP: a CAP edge of the selected polarity (R696, R703). -/
def execPerTimerCap (k : Fin 8) (t : Nat) (s : State) : Host.Outcome State Fault Refusal :=
  runU t s (fun s => s.timerCap k.val)

/-- TIMER_CAPTURE_READ: a read of TIMER_k_CAPTURE (R703). -/
def execTimerCaptureRead (m : Master) (k : Fin 8) (t : Nat) (s : State) : Host.Outcome State Fault Refusal :=
  runU t s (fun s => s.busRead m (F.TIMER_CAPTURE k.val))

end Sys2Proof.Machine
end

