-- ==== Sys2Proof/Machine/RowsPwr.lean ====
section
/-! DEFINITION. The meanings of the commands of the power domains and the interval. -/

namespace Sys2Proof.Machine

/-- AON_TIMER stands at AON_ALARM, which is not 0 (R667, R678). -/
def State.alarm (s : State) : Bool := decide (s.get F.AON_ALARM ≠ 0) && decide (s.aonTimer = s.get F.AON_ALARM)

/-- A BIND cue on a track kept on (R667). -/
def State.wakeTrack (s : State) (n : Nat) : State :=
  if s.act (F.TRK_CTRL_KEEP_IN_INTERVAL n) = 1 ∧ (s.track n).armed then s.wakeSource 4 else s

/-- A rising edge on FAB_EVT_IN_k from quadrant `q`, kept on (R561, R667). -/
def State.wakeEdge (s : State) (k q : Nat) : State :=
  if (s.get F.PWR_INTERVAL_CFG_FQ_KEEP).testBit q ∧ s.phaseDone 5 then (s.wakeSource 5).raise Ev.PRB_USER k else s

/-- ENTRY_CURTAIN_REACHED: step 1 completes: every armed track is in its curtain window and no item is committing
(R664). -/
def execEntryCurtainReached (t : Nat) (s : State) : Host.Outcome State Fault Refusal :=
  runU t s (fun s => s.entryCurtain)

/-- ENTRY_CHECKPOINTS_DONE: step 2 completes (R664). -/
def execEntryCheckpointsDone (t : Nat) (s : State) : Host.Outcome State Fault Refusal :=
  runU t s (fun s => s.entryCheckpoints)

/-- ENTRY_RETENTION_WRITTEN: step 3 completes (R664, R671). -/
def execEntryRetentionWritten (t : Nat) (s : State) : Host.Outcome State Fault Refusal :=
  runU t s (fun s => s.entryRetention)

/-- ENTRY_SELF_REFRESH: step 4 completes (R664). -/
def execEntrySelfRefresh (t : Nat) (s : State) : Host.Outcome State Fault Refusal :=
  runU t s (fun s => s.entrySelfRefresh)

/-- PWR_ENTERED: step 5 completes (R664, R666). -/
def execPwrEntered (t : Nat) (s : State) : Host.Outcome State Fault Refusal :=
  runU t s (fun s => s.entryDone)

/-- ENTRY_TIMEOUT: step 1 has not completed within TIMEOUT_MS (R664). -/
def execEntryTimeout (t : Nat) (s : State) : Host.Outcome State Fault Refusal :=
  runU t s (fun s => s.entryTimeout)

/-- WAKE_ACCESS: an access to what AON does not serve reaches a device that sleeps or enters INTERVAL (R667, R669). -/
def execWakeAccess (a : Access) (t : Nat) (s : State) : Host.Outcome State Fault Refusal :=
  runU t s (fun s =>
    when (!aonServed a.addr && decide (s.get F.PWR_STATUS_STATE ≠ 0)) (fun s => s.accRun (.bare a.master) a) s)

/-- WAKE_TIMER: AON_TIMER reaches AON_ALARM (R667, R678). -/
def execWakeTimer (t : Nat) (s : State) : Host.Outcome State Fault Refusal :=
  runU t s (fun s => when s.alarm (fun s => (s.wakeSource 1).raise Ev.AON_ALARM) s)

/-- WAKE_PIN: PWR_WAKE_N has been low for 1 µs (R667). -/
def execWakePin (t : Nat) (s : State) : Host.Outcome State Fault Refusal :=
  runU t s (fun s => s.wakeSource 2)

/-- WAKE_MONITOR: a start bit on MON_RX (R667). -/
def execWakeMonitor (t : Nat) (s : State) : Host.Outcome State Fault Refusal :=
  runU t s (fun s => s.wakeSource 3)

/-- WAKE_TRACK_CUE: a BIND cue on a kept track (R667). -/
def execWakeTrackCue (n : Fin 16) (t : Nat) (s : State) : Host.Outcome State Fault Refusal :=
  runU t s (fun s => s.wakeTrack n.val)

/-- WAKE_FABRIC: a rising edge on FAB_EVT_IN_k of quadrant `q` (R561, R667). -/
def execWakeFabric (k : Fin 32) (q : Fin 4) (t : Nat) (s : State) : Host.Outcome State Fault Refusal :=
  runU t s (fun s => s.wakeEdge k.val q.val)

/-- PWR_OP_WAKE: a guarded write of OP WAKE (R667, R677). -/
def execPwrOpWake (m : Master) (t : Nat) (s : State) : Host.Outcome State Fault Refusal :=
  runU t s (fun s => s.guardWrite m F.PWR_OP 1)

/-- PWR_OP_RETRY: a guarded write of OP RETRY (R670, R677). -/
def execPwrOpRetry (m : Master) (t : Nat) (s : State) : Host.Outcome State Fault Refusal :=
  runU t s (fun s => s.guardWrite m F.PWR_OP 2)

/-- WAKE_DOMAIN_READY: the domains of a wake step are ready; `bad` names the banks whose CRC or complement fails at t5
(R668 to R674). -/
def execWakeDomainReady (bad : Fin 256) (t : Nat) (s : State) : Host.Outcome State Fault Refusal :=
  runU t s (fun s => s.wakeReady bad.val)

/-- WAKE_READY_TIMEOUT: a ready report has not come within 2 ms: cause, domain and PLL (R670). -/
def execWakeReadyTimeout (cause : Fin 6) (domain : Fin 20) (pll : Fin 8) (t : Nat) (s : State) :
    Host.Outcome State Fault Refusal :=
  runU t s (fun s => s.wakeLate cause.val domain.val pll.val)

/-- PWR_STALL_LONG: a stalled access has waited longer than LIMIT_US (R669). -/
def execPwrStallLong (t : Nat) (s : State) : Host.Outcome State Fault Refusal :=
  runU t s (fun s => s.stallLong)

/-- PWR_RET_RELEASE: a guarded write of BANKS (R675, R677). -/
def execPwrRetRelease (m : Master) (banks : Fin 256) (t : Nat) (s : State) : Host.Outcome State Fault Refusal :=
  runU t s (fun s => s.guardWrite m F.PWR_RET_RELEASE banks.val)

end Sys2Proof.Machine
end

