-- ==== Sys2Proof/Machine/RowsStg.lean ====
section
/-! DEFINITION. The meanings of the commands of the stage lanes. -/

namespace Sys2Proof.Machine

/-- An upstream block on lane `k`. -/
def State.laneHeard (s : State) (k : Nat) : State := s.setLane k { s.lane k with lastUp := s.now }

/-- A sound upstream frame on lane `k` ends a run of bad ones (R367). -/
def State.laneFrame (s : State) (k : Nat) : State := (s.laneHeard k).setLane k { (s.laneHeard k).lane k with crcRun := 0 }

/-- Block lock in DETECT (R346): a quad PLL that is not locked gives none. -/
def State.laneDetect (s : State) (k : Nat) : State :=
  if s.laneState k = 1 ∧ s.flag (F.STG_QUAD_PLL_LOCKED (k / 4)) then s.setLaneState k 2 0 else s

/-- STEP 2 in ALIGN (R346): `window` in units of 256 blocks. -/
def State.laneAlign (s : State) (k board window : Nat) : State :=
  if s.laneState k ≠ 2 then s else
  let x := s.lane k
  let s := s.put (F.STG_LANE_BOARD k) board
  if x.expected ≠ 0 ∧ x.expected ≠ board then s.laneFail k 3
  else if window < 2 then s
  else (s.setLane k { x with window := 256 * window }).setLaneState k 3 0

/-- A training state has lasted its limit (R346). -/
def State.laneLate (s : State) (k : Nat) : State :=
  let late (us : Nat) : Bool := decide ((s.lane k).since + us * 1000000 ≤ s.now)
  match s.laneState k with
  | 1 => if late 200 then s.laneFail k (if s.flag (F.STG_QUAD_PLL_LOCKED (k / 4)) then 1 else 4) else s
  | 2 => if late 200 then s.laneFail k 2 else s
  | 3 => if late 50 then s.laneFail k 5 else s
  | _ => s

/-- AUTO_RETRAIN after 10 ms (R346). -/
def State.laneAgain (s : State) (k : Nat) : State :=
  let x := s.lane k
  if (s.laneState k = 5 ∨ s.laneState k = 6) ∧ !x.takenDown ∧ s.flag F.STG_CTRL_AUTO_RETRAIN ∧ s.laneNamed k ∧
      x.since + 10000000000 ≤ s.now ∧ s.mode ≠ 0 ∧ s.mode ≠ 5 then s.laneTrain k
  else s

/-- A loss condition of an UP lane (R367): 0 block lock lost, 1 silent for 2 µs, 2 eight bad frames in a run. `last` is the
instant of the last upstream block. -/
def State.laneLoss (s : State) (k cause : Nat) (last : Ps) : State :=
  let x := s.lane k
  let s := s.setLane k { x with lastUp := max x.lastUp (min last s.now) }
  if !(s.laneUp k) then s
  else if cause = 0 then s.laneDown k 8
  else if cause = 1 then (if (s.lane k).lastUp + 2000000 ≤ s.now then s.laneDown k 9 else s)
  else if 8 ≤ x.crcRun then s.laneDown k 0xA else s

/-- No frame could start for 10 µs while frames waited (R360). -/
def State.creditStall (s : State) (k : Nat) : State :=
  match (s.lane k).stalled with
  | some a =>
    if s.laneUp k ∧ a + 10000000 ≤ s.now ∧ !s.flag (F.STG_LANE_STATUS_CREDIT_STALL k) then
      (s.put (F.STG_LANE_STATUS_CREDIT_STALL k) 1).raise Ev.STG_CREDIT_STALL k
    else s
  | none => s

/-- A CREDIT block (R360). -/
def State.creditIn (s : State) (k total : Nat) : State :=
  if !(s.laneUp k) then s else
  let s := s.laneHeard k
  (s.setLane k { s.lane k with credit := total % 2 ^ 32 }).laneShow k

/-- Lines of track `n` whose PRIMARY FIRE blocks were sent after the line of a key, on any lane. -/
def State.linesAfter (s : State) (n key : Nat) : Nat :=
  (((List.range 32).flatMap (fun k => (s.lane k).fires.filter (fun f =>
    decide (f.track = n) && decide (f.role = 0) && keyAfter (lineKey f.fire) key))).map (fun f => lineKey f.fire)).eraseDups.length

/-- A FENCE_UP frame (R364, R440, R445): the fence, the lag, and the lines missed after a changeover. -/
def State.fenceUp (s : State) (k h : Nat) (port : Bool) (key missed : Nat) : State :=
  if !(s.laneUp k) ∨ !(s.headValid h) then s else
  let s := s.laneFrame k
  let n := s.get (F.NZC_HEAD_A_TRACK h)
  let s := s.missedCheck h n missed
  let s := (s.put (F.STG_HEAD_FENCE_PORT h) (bit port)).put (F.STG_HEAD_FENCE_LINE_KEY h) key
  let lag := s.linesAfter n key
  let s := s.put (F.STG_HEAD_LAG h) lag
  let was := (s.headRun h).lagging
  let s := s.setHeadRun h { s.headRun h with missed, lagging := decide (2 < lag) }
  if 2 < lag ∧ !was then
    let s := s.raise Ev.STG_FENCE_LAG n
    if s.role = 1 ∧ s.coEnabled 4 then s.coTrigger 4 else s
  else s

/-- An ERROR frame (R364): the item of a line whose PRIMARY FIRE block this device sent is marked. -/
def State.boardError (s : State) (k n key : Nat) : State :=
  if !(s.laneUp k) then s else
  let s := s.laneFrame k
  let sent := (List.range 32).flatMap (fun j => (s.lane j).fires)
  let s := match sent.find? (fun f => decide (f.track = n) && decide (f.role = 0) && decide (lineKey f.fire = key)) with
    | some f => s.mark n f.item 15
    | none => s
  s.raise Ev.STG_BOARD_ERROR k

/-- A VERDICT frame (R365, R398). -/
def State.verdictFrame (s : State) (k n id blocks verdict grade station : Nat) : State :=
  if !(s.laneUp k) then s else
  let s := s.laneFrame k
  if blocks ≠ 1 ∨ !(s.get (F.STG_LANE_CFG_VISION_TRACKS k)).testBit n ∨ verdict > 1 ∨ (41 ≤ grade ∧ grade ≤ 254) then
    s.raise Ev.STG_VERDICT_FORMAT k
  else s.verdictFor n id station (verdict = 1) grade

/-- A coding error, or a frame that fails R352 (R348, R366). -/
def State.laneBad (s : State) (k : Nat) (frame : Bool) : State :=
  if s.laneState k = 0 then s else
  let s := (s.laneHeard k).addSat (F.STG_LANE_RX_ERR k) 1
  if frame then
    (s.setLane k { s.lane k with crcRun := (s.lane k).crcRun + 1 }).raise Ev.STG_RX_CRC k
  else s

/-- LANE_DETECT: 64 consecutive blocks with valid sync headers on a lane (R346, R423, R473, R507). -/
def execLaneDetect (x : LaneId) (t : Nat) (s : State) : Host.Outcome State Fault Refusal :=
  runU t s (fun s =>
    match x with
    | .stage k => s.laneDetect k.val
    | _ => s.linkMove x 1 2)

/-- LANE_ALIGN: a TRAIN block of STEP 2 with its BOARD_ID and WINDOW, which only a stage lane looks at (R346, R423). -/
def execLaneAlign (x : LaneId) (board : Nat) (window : Nat) (t : Nat) (s : State) : Host.Outcome State Fault Refusal :=
  runU t s (fun s =>
    match x with
    | .stage k => s.laneAlign k.val (board % 2 ^ 32) (window % 256)
    | _ => s.linkMove x 2 3)

/-- STG_LANE_UP: 16 STEP 3 blocks sent and one received; on port D with the latency that training measured (R346,
R368, R370, R423, R424, R473). -/
def execStgLaneUp (x : LaneId) (latency : Nat) (t : Nat) (s : State) : Host.Outcome State Fault Refusal :=
  runU t s (fun s =>
    match x with
    | .stage k => when (s.laneState k.val = 3) (fun s => s.laneComesUp k.val) s
    | _ => s.linkUp x latency)

/-- LANE_TRAIN_TIMEOUT: a training state has lasted its limit (R346). -/
def execLaneTrainTimeout (x : LaneId) (t : Nat) (s : State) : Host.Outcome State Fault Refusal :=
  runU t s (fun s =>
    match x with
    | .stage k => s.laneLate k.val
    | _ => s.linkLate x)

/-- LANE_AUTO_RETRAIN: 10 ms have passed with AUTO_RETRAIN set (R346). -/
def execLaneAutoRetrain (x : LaneId) (t : Nat) (s : State) : Host.Outcome State Fault Refusal :=
  runU t s (fun s =>
    match x with
    | .stage k => s.laneAgain k.val
    | _ => s.linkAgain x)

/-- STG_LANE_DOWN: a loss condition, with the instant of the last upstream block of a stage lane (R367 to R369, R424,
R505, R507). -/
def execStgLaneDown (x : LaneId) (cause : Fin 3) (last : Nat) (t : Nat) (s : State) : Host.Outcome State Fault Refusal :=
  runU t s (fun s =>
    match x with
    | .stage k => s.laneLoss k.val cause.val last
    | _ => s.linkLoss x cause.val)

/-- STG_LANE_OP_RETRAIN: a guarded write of OP 1 for a lane (R346, R370, R376, R377). -/
def execStgLaneOpRetrain (m : Master) (k : Fin 32) (t : Nat) (s : State) : Host.Outcome State Fault Refusal :=
  runU t s (fun s => s.guardWrite m F.STG_LANE_OP (256 * k.val + 1))

/-- STG_LANE_OP_TAKE_DOWN: a guarded write of OP 2 for a lane (R346, R370, R376, R377). -/
def execStgLaneOpTakeDown (m : Master) (k : Fin 32) (t : Nat) (s : State) : Host.Outcome State Fault Refusal :=
  runU t s (fun s => s.guardWrite m F.STG_LANE_OP (256 * k.val + 2))

/-- STG_LANE_OP_RETURN: a guarded write of OP 3 for a lane (R346, R370, R376, R377). -/
def execStgLaneOpReturn (m : Master) (k : Fin 32) (t : Nat) (s : State) : Host.Outcome State Fault Refusal :=
  runU t s (fun s => s.guardWrite m F.STG_LANE_OP (256 * k.val + 3))

/-- FRAME_SEND: the frame at the front of a lane buffer may start (R357, R360). -/
def execFrameSend (k : Fin 32) (t : Nat) (s : State) : Host.Outcome State Fault Refusal :=
  runU t s (fun s => s.frameSend k.val)

/-- FIRE_BLOCK_SLOT: the block slot of the next FIRE block of a track on a lane (R358, R359). -/
def execFireBlockSlot (k : Fin 32) (n : Fin 16) (t : Nat) (s : State) : Host.Outcome State Fault Refusal :=
  runU t s (fun s => s.fireBlock k.val n.val)

/-- STG_CREDIT_STALL: no frame has started for 10 µs (R360). -/
def execStgCreditStall (k : Fin 32) (t : Nat) (s : State) : Host.Outcome State Fault Refusal :=
  runU t s (fun s => s.creditStall k.val)

/-- FENCE_PERIOD: FENCE_PERIOD expires (R361). -/
def execFencePeriod (t : Nat) (s : State) : Host.Outcome State Fault Refusal :=
  runU t s (fun s => (List.range 32).foldl (fun s k => s.fenceSend k) s)

/-- CREDIT_BLOCK: a CREDIT block arrives (R360). -/
def execCreditBlock (k : Fin 32) (total : Nat) (t : Nat) (s : State) : Host.Outcome State Fault Refusal :=
  runU t s (fun s => s.creditIn k.val total)

/-- FENCE_UP_FRAME: a FENCE_UP frame of head `h`: PORT, LINE_KEY and MISSED (R364, R440, R445). -/
def execFenceUpFrame (k : Fin 32) (h : Fin 256) (port : Bool) (key : Nat) (missed : Nat) (t : Nat) (s : State) :
    Host.Outcome State Fault Refusal :=
  runU t s (fun s => s.fenceUp k.val h.val port (key % 2 ^ 40) (missed % 2 ^ 32))

/-- ERROR_FRAME: an ERROR frame names a line of a track (R364). -/
def execErrorFrame (k : Fin 32) (n : Fin 16) (key : Nat) (t : Nat) (s : State) : Host.Outcome State Fault Refusal :=
  runU t s (fun s => s.boardError k.val n.val (key % 2 ^ 40))

/-- VERDICT_FRAME: a VERDICT frame: ITEM_ID, BLOCKS, VERDICT, GRADE and STATION (R365, R398 to R401). -/
def execVerdictFrame (k : Fin 32) (n : Fin 16) (id : Nat) (blocks : Nat) (verdict : Nat) (grade : Nat) (station : Nat) (t : Nat) (s : State) :
    Host.Outcome State Fault Refusal :=
  runU t s (fun s => s.verdictFrame k.val n.val (id % 2 ^ 64) blocks (verdict % 256) (grade % 256) (station % 256))

/-- STG_RX_CRC: a received frame fails its checks; with `frame` false, a coding error outside a frame. Port D answers
a frame not accepted with a NAK (R348, R352, R366, R426, R503, R511). -/
def execStgRxCrc (x : LaneId) (frame : Bool) (t : Nat) (s : State) : Host.Outcome State Fault Refusal :=
  runU t s (fun s =>
    match x with
    | .stage k => s.laneBad k.val frame
    | .duplex _ => when (frame && s.flag F.DPX_STATUS_LINK_UP) State.dpxNak s
    | .ring p => when (s.portTrained p.val) State.ringBad s
    | .izrex p _ => when (frame && decide (s.get (F.IZX_PORT_STATUS_STATE p.val) = 4)) (fun s => s.izxBadFrame p.val) s)

/-- VERDICT_WINDOW_CLOSE: the verdict window of an item closes (R400, R401). -/
def execVerdictWindowClose (n : Fin 16) (id : Nat) (t : Nat) (s : State) : Host.Outcome State Fault Refusal :=
  runU t s (fun s => s.windowClose n.val id)

/-- REJECT_DECISION_TIMER: 4 µs have passed since an item entered FIRED (R401). -/
def execRejectDecisionTimer (n : Fin 16) (id : Nat) (t : Nat) (s : State) : Host.Outcome State Fault Refusal :=
  runU t s (fun s =>
    match s.item? n.val id with
    | some x => s.decideClear n.val x
    | none => s)

/-- GATE_PULSE_START: H reaches the position of the next pulse of a gate (R403 to R407). -/
def execGatePulseStart (g : Fin 32) (t : Nat) (s : State) : Host.Outcome State Fault Refusal :=
  runU t s (fun s => s.gateStart g.val)

/-- GATE_PULSE_END: the width of a pulse expires (R403). -/
def execGatePulseEnd (g : Fin 32) (t : Nat) (s : State) : Host.Outcome State Fault Refusal :=
  runU t s (fun s => s.gateEnd g.val)

/-- INS_CFG_WRITE: a write of an inspection register: 0 CFG or 1 WINDOW of track `k`, 2 CFG or 3 OFFSET of gate `k`
(R408). -/
def execInsCfgWrite (m : Master) (r : Fin 4) (k : Fin 32) (v : Nat) (t : Nat) (s : State) :
    Host.Outcome State Fault Refusal :=
  runU t s (fun s =>
    let f := match r.val with
      | 0 => F.INS_TRK_CFG (k.val % 16)
      | 1 => F.INS_TRK_WINDOW (k.val % 16)
      | 2 => F.INS_GATE_CFG k.val
      | _ => F.INS_GATE_OFFSET k.val
    s.busWrite m f v)

end Sys2Proof.Machine
end

