-- ==== Sys2Proof/Machine/RowsSys.lean ====
section
/-! DEFINITION. The meanings of the commands of start-up, modes and resets, and of registers without a row of their own. -/

namespace Sys2Proof.Machine

/-- REGISTER_WRITE: one register access by a master, with the access codes of the register it meets (R14). -/
def execRegisterWrite (a : Access) (t : Nat) (s : State) : Host.Outcome State Fault Refusal :=
  runU t s (fun s => s.accRun (.bare a.master) a)

/-- SYS_DECODE_FAULT: an access at an address that holds no register; another address is not this command's (R12). -/
def execSysDecodeFault (a : Access) (t : Nat) (s : State) : Host.Outcome State Fault Refusal :=
  runU t s (fun s => when ((findReg a.addr).isNone && !inWindow a.addr) (fun s => s.accRun (.bare a.master) a) s)

/-- EVT_PIN_PULSE_END: the width of event pin `k` expires (R735). -/
def execEvtPinPulseEnd (k : Fin 8) (t : Nat) (s : State) : Host.Outcome State Fault Refusal :=
  runU t s (fun s =>
    let e := tblGet 0 s.cue.pinEnd k.val
    when (decide (0 < e) && decide (e ≤ s.now)) (fun s =>
      { s with cue := { s.cue with pinEnd := tblPut 0 s.cue.pinEnd k.val 0 } }) s)

/-- POWER_ON: rails up and SYS_RST_N high, with the straps of REF_SEL and per bank the strap and the supply code, and
LCY_HOLDUP (R747). -/
def execPowerOn (refSel : Nat) (banks : List (Nat × Nat)) (holdup : Bool) (t : Nat) (s : State) :
    Host.Outcome State Fault Refusal :=
  runW t s (fun s => s.powerOn refSel banks holdup)

/-- BROWN_OUT: a rail falls; `aonKept` says that VCC_AON stayed above its falling trip point (R749). -/
def execBrownOut (aonKept : Bool) (t : Nat) (s : State) : Host.Outcome State Fault Refusal :=
  runW t s (fun s => s.brownOut aonKept)

/-- PIN_RESET: SYS_RST_N goes low (R78). -/
def execPinReset (t : Nat) (s : State) : Host.Outcome State Fault Refusal :=
  runW t s (fun s => s.pinReset)

/-- STAGE_MANAGER_WATCHDOG: the watchdog of the stage manager expires (R78). -/
def execStageManagerWatchdog (t : Nat) (s : State) : Host.Outcome State Fault Refusal :=
  runU t s (fun s => s.coldReset F.SYS_RESET_CAUSE_WATCHDOG)

/-- SUPPLY_EARLY_WARNING: the early-warning asserts; `cut` says that it fell into a pulse on a plane or on the select
record (R171, R593, R748). -/
def execSupplyEarlyWarning (cut : Bool) (t : Nat) (s : State) : Host.Outcome State Fault Refusal :=
  runW t s (fun s =>
    when (!s.sys.earlyWarning) (fun s => (((if s.entering then s.entryAbandon 2 s.pwr.step else s).earlyWarn).flashWarn cut).put F.LCY_STATUS_EARLY_WARNING 1) s)

/-- EARLY_WARNING_CLEAR: the early-warning clears (R171, R588, R748). -/
def execEarlyWarningClear (t : Nat) (s : State) : Host.Outcome State Fault Refusal :=
  runW t s (fun s => when s.sys.earlyWarning (fun s => ((s.earlyClear).selectResume).put F.LCY_STATUS_EARLY_WARNING 0) s)

/-- PHASE_TRIM: phase TRIM ends: whether a trim word disagrees, the keys whose CRC fails, whether a bad-sector entry
disagrees, and whether REF is an external clock (R64). -/
def execPhaseTrim (fault : Bool) (keyBad : Nat) (tableBad : Bool) (ext : Bool) (t : Nat) (s : State) :
    Host.Outcome State Fault Refusal :=
  runU t s (fun s => s.phaseTrim fault keyBad tableBad ext)

/-- PHASE_LIFE: phase LIFE ends (R706). -/
def execPhaseLife (t : Nat) (s : State) : Host.Outcome State Fault Refusal :=
  runU t s (fun s => s.phaseLifeEnd)

/-- PHASE_SELECT: phase SELECT ends (R570). -/
def execPhaseSelect (t : Nat) (s : State) : Host.Outcome State Fault Refusal :=
  runU t s (fun s => s.phaseSelectEnd)

/-- PHASE_CLOCKS: PLL_0 to PLL_3 have locked (R64, R645). -/
def execPhaseClocks (t : Nat) (s : State) : Host.Outcome State Fault Refusal :=
  runU t s (fun s => s.phaseClocks)

/-- CLK_LOCK_FAIL: PLL `k` has not locked within its bound (R645). -/
def execClkLockFail (k : Fin 8) (t : Nat) (s : State) : Host.Outcome State Fault Refusal :=
  runU t s (fun s => s.clkLockFail k.val)

/-- PHASE_PLANE: phase PLANE ends: whether the record reads back sound, a wire with two drivers, and the PLL of each
clock tree of the scene (R64, R543, R570). -/
def execPhasePlane (valid : Bool) (drivers : Option Contend) (trees : List Nat) (t : Nat) (s : State) :
    Host.Outcome State Fault Refusal :=
  runU t s (fun s => s.phasePlaneEnd valid drivers trees)

/-- PHASE_DRAM: training ends on both controllers with what it found (R622). -/
def execPhaseDram (m0 : Dimm) (m1 : Dimm) (t : Nat) (s : State) : Host.Outcome State Fault Refusal :=
  runU t s (fun s => s.phaseDram m0 m1)

/-- PHASE_PROMPT: phase PROMPT ends; `mute` names the slots at which the NOR does not answer (R183). -/
def execPhasePrompt (mute : Nat) (t : Nat) (s : State) : Host.Outcome State Fault Refusal :=
  runU t s (fun s => s.phasePromptEnd mute)

/-- PHASE_JOIN: the ledger is scanned and JOIN begins; `aonBad` names tracks whose AON record has lost a bit (R469,
R477). -/
def execPhaseJoin (aonBad : Nat) (t : Nat) (s : State) : Host.Outcome State Fault Refusal :=
  runU t s (fun s => s.phaseJoin aonBad)

/-- CMP_JOIN_LATE: the join timeout expires (R67). -/
def execCmpJoinLate (t : Nat) (s : State) : Host.Outcome State Fault Refusal :=
  runU t s (fun s => when (decide (s.sys.promptAt + s.sys.joinMs * 1000000000 ≤ s.now)) State.joinLate s)

/-- DUPLEX_ROLE_TIMEOUT: 10 ms from t6 pass with no HELLO (R448). -/
def execDuplexRoleTimeout (t : Nat) (s : State) : Host.Outcome State Fault Refusal :=
  runU t s (fun s => when (decide (s.sys.promptAt + 10000000000 ≤ s.now)) State.roleTimeout s)

/-- PHASE_ARM: phase ARM ends once lanes have trained and the CHECKPOINT entries are written (R64). -/
def execPhaseArm (t : Nat) (s : State) : Host.Outcome State Fault Refusal :=
  runU t s (fun s => s.phaseArm)

/-- CALL_CONTINUE: a write of CONTINUE, with the STOP_BEFORE_ARM bit that goes with it (R68, R85). -/
def execCallContinue (m : Master) (stop : Bool) (t : Nat) (s : State) : Host.Outcome State Fault Refusal :=
  runU t s (fun s => s.busWrite m F.SYS_CALL_CTRL (4 + bit stop))

/-- RETRY_PROMPT: a write of RETRY_PROMPT, with the STOP_BEFORE_ARM bit that goes with it (R76, R85). -/
def execRetryPrompt (m : Master) (stop : Bool) (t : Nat) (s : State) : Host.Outcome State Fault Refusal :=
  runU t s (fun s => s.busWrite m F.SYS_CALL_CTRL (2 + bit stop))

/-- MODE_REQ_REHEARSAL: a guarded write of TARGET 2 (R59 to R62, R83). -/
def execModeReqRehearsal (m : Master) (t : Nat) (s : State) : Host.Outcome State Fault Refusal :=
  runU t s (fun s => s.guardWrite m F.SYS_MODE_REQ 2)

/-- MODE_REQ_PERFORMANCE: a guarded write of TARGET 3 (R59 to R62, R83). -/
def execModeReqPerformance (m : Master) (t : Nat) (s : State) : Host.Outcome State Fault Refusal :=
  runU t s (fun s => s.guardWrite m F.SYS_MODE_REQ 3)

/-- MODE_REQ_UNDERSTUDY: a guarded write of TARGET 4 (R59 to R62, R83). -/
def execModeReqUnderstudy (m : Master) (t : Nat) (s : State) : Host.Outcome State Fault Refusal :=
  runU t s (fun s => s.guardWrite m F.SYS_MODE_REQ 4)

/-- MODE_REQ_INTERVAL: a guarded write of TARGET 5 (R59 to R62, R83). -/
def execModeReqInterval (m : Master) (t : Nat) (s : State) : Host.Outcome State Fault Refusal :=
  runU t s (fun s => s.guardWrite m F.SYS_MODE_REQ 5)

/-- MODE_REQ_SERVICE: a guarded write of TARGET 7 (R59 to R62, R83). -/
def execModeReqService (m : Master) (t : Nat) (s : State) : Host.Outcome State Fault Refusal :=
  runU t s (fun s => s.guardWrite m F.SYS_MODE_REQ 7)

/-- RESET_REQ_PRINT_PATH: a guarded write of KIND 1 (R87). -/
def execResetReqPrintPath (m : Master) (t : Nat) (s : State) : Host.Outcome State Fault Refusal :=
  runU t s (fun s => s.guardWrite m F.SYS_RESET_REQ 1)

/-- RESET_REQ_WARM: a guarded write of KIND 2 (R87). -/
def execResetReqWarm (m : Master) (t : Nat) (s : State) : Host.Outcome State Fault Refusal :=
  runU t s (fun s => s.guardWrite m F.SYS_RESET_REQ 2)

/-- RESET_REQ_COLD: a guarded write of KIND 3 (R87). -/
def execResetReqCold (m : Master) (t : Nat) (s : State) : Host.Outcome State Fault Refusal :=
  runU t s (fun s => s.guardWrite m F.SYS_RESET_REQ 3)

/-- PRINT_PATH_RESET: the print-path reset requested begins; `aonBad` as in phase JOIN (R80, R87). -/
def execPrintPathReset (aonBad : Nat) (t : Nat) (s : State) : Host.Outcome State Fault Refusal :=
  runU t s (fun s => when (s.resetDue 1) (fun s => (s.resetTaken).printPathReset aonBad) s)

/-- WARM_RESET: the warm reset requested begins (R78, R79, R87). -/
def execWarmReset (t : Nat) (s : State) : Host.Outcome State Fault Refusal :=
  runU t s (fun s => when (s.resetDue 2) State.warmReset s)

/-- COLD_RESET: the cold reset that was requested, or that a life-cycle transition brings, begins (R78, R79, R87,
R710). -/
def execColdReset (t : Nat) (s : State) : Host.Outcome State Fault Refusal :=
  runU t s (fun s =>
    let lcy : Bool := match s.lcy.resetAt with | some a => decide (a ≤ s.now) | none => false
    when (s.resetDue 3 || lcy) (fun s => s.coldReset F.SYS_RESET_CAUSE_REQUEST_COLD) s)

end Sys2Proof.Machine
end

