-- ==== Sys2Proof/Machine/RowsTrk.lean ====
section
/-! DEFINITION. The meanings of the commands of the tracks and of position synthesis. -/

namespace Sys2Proof.Machine

/-- The track sees its inputs: the TRACKS domain is on (R661). -/
def State.tracksOn (s : State) : Bool := (s.get F.PWR_STATUS_ON).testBit 7

/-- The registers of a track whose writes are staged, in the order of R123. -/
def stagedTrk (n : Nat) : List Fld :=
  [F.TRK_CTRL n, F.TRK_INPUT n, F.TRK_PITCH n, F.TRK_LOCK n, F.TRK_COAST n, F.TRK_DECEL n, F.TRK_REJOIN n, F.TRK_REV n,
    F.TRK_SCHED n, F.TRK_CUE n, F.TRK_CUE_CFG n, F.TRK_Z n]

/-- The 64-bit position registers of a track (R131). -/
def posTrk (n : Nat) : List Fld := [F.TRK_POS n, F.TRK_HWM n, F.TRK_CUE_POS n]

/-- A level change accepted on track `n` (R90). -/
def State.takes (s : State) (c : Sampled) : Bool := s.tracksOn && s.persisted c

/-- An accepted edge of track `n` (R75, R91): `aLeads` says that A leads B. What waited for it follows (R122). -/
def State.edgeIn (s : State) (n : Nat) (aLeads : Bool) : State :=
  if !(s.track n).armed then s.earlyMotion n else
  (s.edge n (s.stamp n) (aLeads = (s.act (F.TRK_INPUT_DIR_INVERT n) = 1)) 1 true).lateRun n

/-- An illegal transition of track `n` (R75, R92). -/
def State.quadErr (s : State) (n : Nat) : State :=
  if !(s.track n).armed then s.earlyMotion n else
  let ids := s.printingIds n
  let s := s.edge n (s.stamp n) (s.track n).back 2 false
  let x := s.track n
  let s := if x.st = .acquire then s.setTrack n { x with acq := [], acqEdges := 0 } else s
  ((s.markAll n ids 7).raise Ev.TRK_QUAD_ERR n).lateRun n

/-- CURTAIN_WINDOW: track `n` is in its curtain window, and what waits for it is applied (R60, R123, R234, R328, R370,
R408). -/
def execCurtainWindow (n : Fin 16) (t : Nat) (s : State) : Host.Outcome State Fault Refusal :=
  runU t s (fun s => s.curtain n.val)

/-- TRK_CONFIG_WRITE: a write of staged register `r` of track `n`, in the order of R123 (R123). -/
def execTrkConfigWrite (m : Master) (n : Fin 16) (r : Fin 12) (v : Nat) (t : Nat) (s : State) :
    Host.Outcome State Fault Refusal :=
  runU t s (fun s => s.busWrite m ((stagedTrk n.val).getD r.val (F.TRK_CTRL n.val)) v)

/-- TRK_SCHED_WRITE: a write of TRK_SCHED_n (R222, R239). -/
def execTrkSchedWrite (m : Master) (n : Fin 16) (v : Nat) (t : Nat) (s : State) : Host.Outcome State Fault Refusal :=
  runU t s (fun s => s.busWrite m (F.TRK_SCHED n.val) v)

/-- POSITION_LOW_HALF_READ: a read of the lower half of TRK_POS_n, TRK_HWM_n or TRK_CUE_POS_n (R131). -/
def execPositionLowHalfRead (m : Master) (n : Fin 16) (r : Fin 3) (t : Nat) (s : State) :
    Host.Outcome State Fault Refusal :=
  runU t s (fun s => s.busRead m ((posTrk n.val).getD r.val (F.TRK_POS n.val)))

/-- ENCODER_EDGE: a level change of A or B; `aLeads` says that A leads B. It is accepted at the FILTER-th sample, now,
and discarded before (R90, R91). -/
def execEncoderEdge (n : Sampled) (aLeads : Bool) (t : Nat) (s : State) : Host.Outcome State Fault Refusal :=
  runU t s (fun s => when (s.takes n) (fun s => s.edgeIn n.track.val aLeads) s)

/-- ILLEGAL_QUAD_TRANSITION: A and B change within one filtered sample (R90, R92). -/
def execIllegalQuadTransition (n : Sampled) (t : Nat) (s : State) : Host.Outcome State Fault Refusal :=
  runU t s (fun s => when (s.takes n) (fun s => s.quadErr n.track.val) s)

/-- Z_EDGE: a rising Z edge; an A or B edge of the same step goes first (R90, R93, R122). -/
def execZEdge (n : Sampled) (t : Nat) (s : State) : Host.Outcome State Fault Refusal :=
  runU t s (fun s => when (s.takes n) (fun s => s.afterEdge n.track.val (.z (s.stamp n.track.val))) s)

/-- SYNTH_TIMEOUT: no edge has arrived within TIMEOUT (R101). -/
def execSynthTimeout (n : Fin 16) (t : Nat) (s : State) : Host.Outcome State Fault Refusal :=
  runU t s (fun s => when s.tracksOn (fun s => s.synthTimeout n.val) s)

/-- TRK_COAST_END: the coast budget is spent, or v has fallen to 1 kHz (R101). -/
def execTrkCoastEnd (n : Fin 16) (t : Nat) (s : State) : Host.Outcome State Fault Refusal :=
  runU t s (fun s => when s.tracksOn (fun s => s.coastEnd n.val) s)

/-- CUE_TRANSITION: cue input `k` takes a level; an encoder edge of the same step goes first (R90, R95, R122). -/
def execCueTransition (n : Sampled) (k : Fin 8) (level : Bool) (t : Nat) (s : State) : Host.Outcome State Fault Refusal :=
  runU t s (fun s => when (s.takes n) (fun s => s.afterEdge n.track.val (.cue k.val level (s.stamp n.track.val))) s)

/-- CUE_EVENT_RECOGNISED: cue input `k` has held its level for DEBOUNCE (R94, R95, R96, R119). -/
def execCueEventRecognised (n : Fin 16) (k : Fin 8) (t : Nat) (s : State) : Host.Outcome State Fault Refusal :=
  runU t s (fun s => when s.tracksOn (fun s => s.cueEvent n.val k.val) s)

/-- LINE_ANNOUNCE: the next line of the track is due for composition (R115, R194). -/
def execLineAnnounce (n : Fin 16) (t : Nat) (s : State) : Host.Outcome State Fault Refusal :=
  runU t s (fun s => s.announce n.val)

/-- FIRE_INSTANT: H reaches the fire position of the next line (R105, R113, R116). -/
def execFireInstant (n : Fin 16) (t : Nat) (s : State) : Host.Outcome State Fault Refusal :=
  runU t s (fun s => (s.linesJudge n.val 4096).fireInstant n.val)

/-- HELD_LINE_FIRE: the line that MIN_SPACING held fires (R116). -/
def execHeldLineFire (n : Fin 16) (t : Nat) (s : State) : Host.Outcome State Fault Refusal :=
  runU t s (fun s => (s.linesJudge n.val 4096).heldFire n.val)

end Sys2Proof.Machine
end

