-- ==== Sys2Proof/Machine/RowsWq.lean ====
section
/-! DEFINITION. The meanings of the commands of items and work queues. -/

namespace Sys2Proof.Machine

/-- The item of track `n` that waits longest in commit step 2, once it has waited SERIES_WAIT ms (R276). -/
def State.serialLate (s : State) (n : Nat) : Option Item :=
  (s.queue n).items.find? (fun x => match x.phase with
    | .serial a => decide (a + s.get F.FRG_VD_CTRL_SERIES_WAIT * 1000000000 ≤ s.now)
    | _ => false)

/-- Commit step 2 has waited past SERIES_WAIT (R157, R276). -/
def State.serialWait (s : State) (n : Nat) : State :=
  match s.serialLate n with
  | some x => (s.commitFail n x.id).raise Ev.FRG_VD_SERIAL_WAIT
  | none => s

/-- The retry hold of track `n` has lasted RETRY_HOLD ms (R158). -/
def State.holdExpire (s : State) (n : Nat) : State :=
  match (s.queue n).holdAt with
  | some a => if a + s.act (F.WQ_CFG_RETRY_HOLD n) * 1000000000 ≤ s.now then s.holdEnd n else s
  | none => s

/-- ITEM_SUBMIT: an ITEM_SUBMIT command of box `b` arrives on port `p` (R39, R149, R518). -/
def execItemSubmit (p : Fin 2) (b : Fin 15) (seq : Nat) (payload : List Byte) (t : Nat) (s : State) :
    Host.Outcome State Fault Refusal :=
  runU t s (fun s => s.izxCommand p.val b.val 0x20 (seq % 2 ^ 32) payload)

/-- ITEM_BATCH: an ITEM_BATCH command of box `b` arrives on port `p` (R159, R518). -/
def execItemBatch (p : Fin 2) (b : Fin 15) (seq : Nat) (payload : List Byte) (t : Nat) (s : State) :
    Host.Outcome State Fault Refusal :=
  runU t s (fun s => s.izxCommand p.val b.val 0x21 (seq % 2 ^ 32) payload)

/-- ITEM_PORT_RECORD: a record comes through the fabric item port (R557, R558). -/
def execItemPortRecord (seq : Nat) (payload : List Byte) (t : Nat) (s : State) : Host.Outcome State Fault Refusal :=
  runU t s (fun s => s.itemPort (seq % 2 ^ 32) payload)

/-- FRG_VD_SERIAL_WAIT: commit step 2 has waited past SERIES_WAIT (R157, R276). -/
def execFrgVdSerialWait (n : Fin 16) (t : Nat) (s : State) : Host.Outcome State Fault Refusal :=
  runU t s (fun s => s.serialWait n.val)

/-- QUEUE_RECORD_WRITTEN: the record of the oldest item being written stands in the queue ring (R39). -/
def execQueueRecordWritten (n : Fin 16) (t : Nat) (s : State) : Host.Outcome State Fault Refusal :=
  runU t s (fun s => s.recordWritten n.val)

/-- RETRY_HOLD_EXPIRY: RETRY_HOLD ms have passed since the hold began (R158). -/
def execRetryHoldExpiry (n : Fin 16) (t : Nat) (s : State) : Host.Outcome State Fault Refusal :=
  runU t s (fun s => s.holdExpire n.val)

/-- PRE_COMPOSE_DONE: an engine delivers the fields of item `id`, or with `id` 0 of the oldest starvation print
(R297). -/
def execPreComposeDone (n : Fin 16) (id : Nat) (t : Nat) (s : State) : Host.Outcome State Fault Refusal :=
  runU t s (fun s => s.preComposed n.val id)

/-- FLUSH_AFTER_HEAD: a guarded write of SCOPE 1 (R165). -/
def execFlushAfterHead (m : Master) (n : Fin 16) (t : Nat) (s : State) : Host.Outcome State Fault Refusal :=
  runU t s (fun s => s.guardWrite m (F.WQ_FLUSH n.val) 1)

/-- FLUSH_INCLUDING_HEAD: a guarded write of SCOPE 2 (R165). -/
def execFlushIncludingHead (m : Master) (n : Fin 16) (t : Nat) (s : State) : Host.Outcome State Fault Refusal :=
  runU t s (fun s => s.guardWrite m (F.WQ_FLUSH n.val) 2)

/-- RETRY_HOLD_RELEASE: a guarded write of SCOPE RELEASE (R158). -/
def execRetryHoldRelease (m : Master) (n : Fin 16) (t : Nat) (s : State) : Host.Outcome State Fault Refusal :=
  runU t s (fun s => s.guardWrite m (F.WQ_FLUSH n.val) 3)

end Sys2Proof.Machine
end

