-- ==== Sys2Proof/Machine/Dispatch.lean ====
section
/-! DEFINITION. Dispatch: one arm per constructor of `Instr`, each one direct call of a meaning. -/

namespace Sys2Proof.Machine

def exec (i : Instr) (s : State) : Host.Outcome State Fault Refusal :=
  match i with
  | .registerWrite a t => Sys2Proof.Machine.execRegisterWrite a t s
  | .sysDecodeFault a t => Sys2Proof.Machine.execSysDecodeFault a t s
  | .evtPinPulseEnd k t => Sys2Proof.Machine.execEvtPinPulseEnd k t s
  | .powerOn refSel banks holdup t => Sys2Proof.Machine.execPowerOn refSel banks holdup t s
  | .brownOut aonKept t => Sys2Proof.Machine.execBrownOut aonKept t s
  | .pinReset t => Sys2Proof.Machine.execPinReset t s
  | .stageManagerWatchdog t => Sys2Proof.Machine.execStageManagerWatchdog t s
  | .supplyEarlyWarning cut t => Sys2Proof.Machine.execSupplyEarlyWarning cut t s
  | .earlyWarningClear t => Sys2Proof.Machine.execEarlyWarningClear t s
  | .phaseTrim fault keyBad tableBad ext t => Sys2Proof.Machine.execPhaseTrim fault keyBad tableBad ext t s
  | .phaseLife t => Sys2Proof.Machine.execPhaseLife t s
  | .phaseSelect t => Sys2Proof.Machine.execPhaseSelect t s
  | .phaseClocks t => Sys2Proof.Machine.execPhaseClocks t s
  | .clkLockFail k t => Sys2Proof.Machine.execClkLockFail k t s
  | .phasePlane valid drivers trees t => Sys2Proof.Machine.execPhasePlane valid drivers trees t s
  | .phaseDram m0 m1 t => Sys2Proof.Machine.execPhaseDram m0 m1 t s
  | .phasePrompt mute t => Sys2Proof.Machine.execPhasePrompt mute t s
  | .phaseJoin aonBad t => Sys2Proof.Machine.execPhaseJoin aonBad t s
  | .cmpJoinLate t => Sys2Proof.Machine.execCmpJoinLate t s
  | .duplexRoleTimeout t => Sys2Proof.Machine.execDuplexRoleTimeout t s
  | .phaseArm t => Sys2Proof.Machine.execPhaseArm t s
  | .callContinue m stop t => Sys2Proof.Machine.execCallContinue m stop t s
  | .retryPrompt m stop t => Sys2Proof.Machine.execRetryPrompt m stop t s
  | .modeReqRehearsal m t => Sys2Proof.Machine.execModeReqRehearsal m t s
  | .modeReqPerformance m t => Sys2Proof.Machine.execModeReqPerformance m t s
  | .modeReqUnderstudy m t => Sys2Proof.Machine.execModeReqUnderstudy m t s
  | .modeReqInterval m t => Sys2Proof.Machine.execModeReqInterval m t s
  | .modeReqService m t => Sys2Proof.Machine.execModeReqService m t s
  | .resetReqPrintPath m t => Sys2Proof.Machine.execResetReqPrintPath m t s
  | .resetReqWarm m t => Sys2Proof.Machine.execResetReqWarm m t s
  | .resetReqCold m t => Sys2Proof.Machine.execResetReqCold m t s
  | .printPathReset aonBad t => Sys2Proof.Machine.execPrintPathReset aonBad t s
  | .warmReset t => Sys2Proof.Machine.execWarmReset t s
  | .coldReset t => Sys2Proof.Machine.execColdReset t s
  | .curtainWindow n t => Sys2Proof.Machine.execCurtainWindow n t s
  | .trkConfigWrite m n r v t => Sys2Proof.Machine.execTrkConfigWrite m n r v t s
  | .trkSchedWrite m n v t => Sys2Proof.Machine.execTrkSchedWrite m n v t s
  | .positionLowHalfRead m n r t => Sys2Proof.Machine.execPositionLowHalfRead m n r t s
  | .encoderEdge n aLeads t => Sys2Proof.Machine.execEncoderEdge n aLeads t s
  | .illegalQuadTransition n t => Sys2Proof.Machine.execIllegalQuadTransition n t s
  | .zEdge n t => Sys2Proof.Machine.execZEdge n t s
  | .synthTimeout n t => Sys2Proof.Machine.execSynthTimeout n t s
  | .trkCoastEnd n t => Sys2Proof.Machine.execTrkCoastEnd n t s
  | .cueTransition n k level t => Sys2Proof.Machine.execCueTransition n k level t s
  | .cueEventRecognised n k t => Sys2Proof.Machine.execCueEventRecognised n k t s
  | .lineAnnounce n t => Sys2Proof.Machine.execLineAnnounce n t s
  | .fireInstant n t => Sys2Proof.Machine.execFireInstant n t s
  | .itemSubmit p b seq payload t => Sys2Proof.Machine.execItemSubmit p b seq payload t s
  | .itemBatch p b seq payload t => Sys2Proof.Machine.execItemBatch p b seq payload t s
  | .itemPortRecord seq payload t => Sys2Proof.Machine.execItemPortRecord seq payload t s
  | .frgVdSerialWait n t => Sys2Proof.Machine.execFrgVdSerialWait n t s
  | .queueRecordWritten n t => Sys2Proof.Machine.execQueueRecordWritten n t s
  | .retryHoldExpiry n t => Sys2Proof.Machine.execRetryHoldExpiry n t s
  | .preComposeDone n id t => Sys2Proof.Machine.execPreComposeDone n id t s
  | .flushAfterHead m n t => Sys2Proof.Machine.execFlushAfterHead m n t s
  | .flushIncludingHead m n t => Sys2Proof.Machine.execFlushIncludingHead m n t s
  | .retryHoldRelease m n t => Sys2Proof.Machine.execRetryHoldRelease m n t s
  | .forgeLineStart k t => Sys2Proof.Machine.execForgeLineStart k t s
  | .lineComposed k back badEntries badSets badDelay corrected t => Sys2Proof.Machine.execLineComposed k back badEntries badSets badDelay corrected t s
  | .lineHanded n t => Sys2Proof.Machine.execLineHanded n t s
  | .forgeParityError k t => Sys2Proof.Machine.execForgeParityError k t s
  | .frgCacheParity t => Sys2Proof.Machine.execFrgCacheParity t s
  | .lineDeadline n read t => Sys2Proof.Machine.execLineDeadline n read t s
  | .frgDlPop m t => Sys2Proof.Machine.execFrgDlPop m t s
  | .layoutInstall m track id t => Sys2Proof.Machine.execLayoutInstall m track id t s
  | .layoutReplace m track id t => Sys2Proof.Machine.execLayoutReplace m track id t s
  | .layoutRemove m track id t => Sys2Proof.Machine.execLayoutRemove m track id t s
  | .layoutOpComplete t => Sys2Proof.Machine.execLayoutOpComplete t s
  | .frgBudgetWrite m v t => Sys2Proof.Machine.execFrgBudgetWrite m v t s
  | .frgCtrlWrite m v t => Sys2Proof.Machine.execFrgCtrlWrite m v t s
  | .frgCacheCfgWrite m v t => Sys2Proof.Machine.execFrgCacheCfgWrite m v t s
  | .frgTapCtrlWrite m k v t => Sys2Proof.Machine.execFrgTapCtrlWrite m k v t s
  | .layoutRebuildDone t => Sys2Proof.Machine.execLayoutRebuildDone t s
  | .vdOpToWord m vector t => Sys2Proof.Machine.execVdOpToWord m vector t s
  | .vdOpToBin m vector t => Sys2Proof.Machine.execVdOpToBin m vector t s
  | .vdOpAdd m vector t => Sys2Proof.Machine.execVdOpAdd m vector t s
  | .vdOpCompare m vector t => Sys2Proof.Machine.execVdOpCompare m vector t s
  | .vdOpDone t => Sys2Proof.Machine.execVdOpDone t s
  | .frgVdCntWrite m k w v t => Sys2Proof.Machine.execFrgVdCntWrite m k w v t s
  | .nzcOpCopy m t => Sys2Proof.Machine.execNzcOpCopy m t s
  | .nzcOpLoad m t => Sys2Proof.Machine.execNzcOpLoad m t s
  | .nzcLoadDone t => Sys2Proof.Machine.execNzcLoadDone t s
  | .nzcOpPrepare m t => Sys2Proof.Machine.execNzcOpPrepare m t s
  | .nzcPrepareDone ecc t => Sys2Proof.Machine.execNzcPrepareDone ecc t s
  | .nzcOpSwapLine m t => Sys2Proof.Machine.execNzcOpSwapLine m t s
  | .nzcOpSwapCurtain m t => Sys2Proof.Machine.execNzcOpSwapCurtain m t s
  | .nzcSwapped t => Sys2Proof.Machine.execNzcSwapped t s
  | .nzcPatchEntry m v t => Sys2Proof.Machine.execNzcPatchEntry m v t s
  | .nzcMapRestored t => Sys2Proof.Machine.execNzcMapRestored t s
  | .laneDetect x t => Sys2Proof.Machine.execLaneDetect x t s
  | .laneAlign x board window t => Sys2Proof.Machine.execLaneAlign x board window t s
  | .stgLaneUp x latency t => Sys2Proof.Machine.execStgLaneUp x latency t s
  | .laneTrainTimeout x t => Sys2Proof.Machine.execLaneTrainTimeout x t s
  | .laneAutoRetrain x t => Sys2Proof.Machine.execLaneAutoRetrain x t s
  | .stgLaneDown x cause last t => Sys2Proof.Machine.execStgLaneDown x cause last t s
  | .stgLaneOpRetrain m k t => Sys2Proof.Machine.execStgLaneOpRetrain m k t s
  | .stgLaneOpTakeDown m k t => Sys2Proof.Machine.execStgLaneOpTakeDown m k t s
  | .stgLaneOpReturn m k t => Sys2Proof.Machine.execStgLaneOpReturn m k t s
  | .frameSend k t => Sys2Proof.Machine.execFrameSend k t s
  | .fireBlockSlot k n t => Sys2Proof.Machine.execFireBlockSlot k n t s
  | .stgCreditStall k t => Sys2Proof.Machine.execStgCreditStall k t s
  | .fencePeriod t => Sys2Proof.Machine.execFencePeriod t s
  | .creditBlock k total t => Sys2Proof.Machine.execCreditBlock k total t s
  | .fenceUpFrame k h port key missed t => Sys2Proof.Machine.execFenceUpFrame k h port key missed t s
  | .errorFrame k n key t => Sys2Proof.Machine.execErrorFrame k n key t s
  | .verdictFrame k n id blocks verdict grade station t => Sys2Proof.Machine.execVerdictFrame k n id blocks verdict grade station t s
  | .stgRxCrc x frame t => Sys2Proof.Machine.execStgRxCrc x frame t s
  | .verdictWindowClose n id t => Sys2Proof.Machine.execVerdictWindowClose n id t s
  | .rejectDecisionTimer n id t => Sys2Proof.Machine.execRejectDecisionTimer n id t s
  | .gatePulseStart g t => Sys2Proof.Machine.execGatePulseStart g t s
  | .gatePulseEnd g t => Sys2Proof.Machine.execGatePulseEnd g t s
  | .insCfgWrite m r k v t => Sys2Proof.Machine.execInsCfgWrite m r k v t s
  | .heartbeatToggle t => Sys2Proof.Machine.execHeartbeatToggle t s
  | .cueBurstRecognised t => Sys2Proof.Machine.execCueBurstRecognised t s
  | .leadLost t => Sys2Proof.Machine.execLeadLost t s
  | .dpxCueFault t => Sys2Proof.Machine.execDpxCueFault t s
  | .dpxIsolated t => Sys2Proof.Machine.execDpxIsolated t s
  | .dpxHello seq ack payload t => Sys2Proof.Machine.execDpxHello seq ack payload t s
  | .dpxState seq ack payload t => Sys2Proof.Machine.execDpxState seq ack payload t s
  | .dpxItem seq ack payload t => Sys2Proof.Machine.execDpxItem seq ack payload t s
  | .dpxCommitAck seq ack payload t => Sys2Proof.Machine.execDpxCommitAck seq ack payload t s
  | .dpxAccession seq ack payload t => Sys2Proof.Machine.execDpxAccession seq ack payload t s
  | .dpxLease seq ack payload t => Sys2Proof.Machine.execDpxLease seq ack payload t s
  | .dpxConfig seq ack payload t => Sys2Proof.Machine.execDpxConfig seq ack payload t s
  | .dpxFlush seq ack payload t => Sys2Proof.Machine.execDpxFlush seq ack payload t s
  | .dpxHead seq ack payload t => Sys2Proof.Machine.execDpxHead seq ack payload t s
  | .dpxBind seq ack payload t => Sys2Proof.Machine.execDpxBind seq ack payload t s
  | .dpxMark seq ack payload t => Sys2Proof.Machine.execDpxMark seq ack payload t s
  | .dpxPos seq ack payload t => Sys2Proof.Machine.execDpxPos seq ack payload t s
  | .dpxCo seq ack payload t => Sys2Proof.Machine.execDpxCo seq ack payload t s
  | .dpxCoAck seq ack payload t => Sys2Proof.Machine.execDpxCoAck seq ack payload t s
  | .dpxNak seq ack payload t => Sys2Proof.Machine.execDpxNak seq ack payload t s
  | .dpxSubmitFwd seq ack payload t => Sys2Proof.Machine.execDpxSubmitFwd seq ack payload t s
  | .dpxOutcomeFwd seq ack payload t => Sys2Proof.Machine.execDpxOutcomeFwd seq ack payload t s
  | .dpxSyncData seq ack part t => Sys2Proof.Machine.execDpxSyncData seq ack part t s
  | .dpxResendTimer t => Sys2Proof.Machine.execDpxResendTimer t s
  | .dpxIdleStateSend t => Sys2Proof.Machine.execDpxIdleStateSend t s
  | .dpxPosSend n t => Sys2Proof.Machine.execDpxPosSend n t s
  | .dpxAckTimeout cueSilent t => Sys2Proof.Machine.execDpxAckTimeout cueSilent t s
  | .dpxCoHandOver m t => Sys2Proof.Machine.execDpxCoHandOver m t s
  | .dpxCoTake m t => Sys2Proof.Machine.execDpxCoTake m t s
  | .takeRequestTimeout t => Sys2Proof.Machine.execTakeRequestTimeout t s
  | .switchAt t => Sys2Proof.Machine.execSwitchAt t s
  | .ledgerEntryWritten fails voidOk t => Sys2Proof.Machine.execLedgerEntryWritten fails voidOk t s
  | .ledgerEraseDone t => Sys2Proof.Machine.execLedgerEraseDone t s
  | .ldgReseal m t => Sys2Proof.Machine.execLdgReseal m t s
  | .beacon p src dest seq hops payload t => Sys2Proof.Machine.execBeacon p src dest seq hops payload t s
  | .castFrame p src dest seq hops payload t => Sys2Proof.Machine.execCastFrame p src dest seq hops payload t s
  | .catalogue p src dest seq hops payload t => Sys2Proof.Machine.execCatalogue p src dest seq hops payload t s
  | .timeFrame p src dest seq hops payload residence t => Sys2Proof.Machine.execTimeFrame p src dest seq hops payload residence t s
  | .pdelayReq p t1 t => Sys2Proof.Machine.execPdelayReq p t1 t s
  | .pdelayResp p t1 t2 t3 t => Sys2Proof.Machine.execPdelayResp p t1 t2 t3 t s
  | .leaseReq p src dest seq hops payload t => Sys2Proof.Machine.execLeaseReq p src dest seq hops payload t s
  | .propose p src dest seq hops payload t => Sys2Proof.Machine.execPropose p src dest seq hops payload t s
  | .accept p src dest seq hops payload t => Sys2Proof.Machine.execAccept p src dest seq hops payload t s
  | .grant p src dest seq hops payload t => Sys2Proof.Machine.execGrant p src dest seq hops payload t s
  | .refuse p src dest seq hops payload t => Sys2Proof.Machine.execRefuse p src dest seq hops payload t s
  | .ringRecall p src dest seq hops payload t => Sys2Proof.Machine.execRecall p src dest seq hops payload t s
  | .recallReply p src dest seq hops payload t => Sys2Proof.Machine.execRecallReply p src dest seq hops payload t s
  | .beaconSend t => Sys2Proof.Machine.execBeaconSend t s
  | .castSend t => Sys2Proof.Machine.execCastSend t s
  | .catalogueSend t => Sys2Proof.Machine.execCatalogueSend t s
  | .timeSend t => Sys2Proof.Machine.execTimeSend t s
  | .pdelaySend p t => Sys2Proof.Machine.execPdelaySend p t s
  | .keeperLost t => Sys2Proof.Machine.execKeeperLost t s
  | .cmpQuorumLost t => Sys2Proof.Machine.execCmpQuorumLost t s
  | .leaseProposalTimeout t => Sys2Proof.Machine.execLeaseProposalTimeout t s
  | .leaseRequestTimeout k t => Sys2Proof.Machine.execLeaseRequestTimeout k t s
  | .cmpHoldover t => Sys2Proof.Machine.execCmpHoldover t s
  | .cmpHoldLimit t => Sys2Proof.Machine.execCmpHoldLimit t s
  | .cmpTimeOpSet m t => Sys2Proof.Machine.execCmpTimeOpSet m t s
  | .cmpTimeOpStep m t => Sys2Proof.Machine.execCmpTimeOpStep m t s
  | .izxPortRetrain p lanes t => Sys2Proof.Machine.execIzxPortRetrain p lanes t s
  | .izxPortAutoRetrain p t => Sys2Proof.Machine.execIzxPortAutoRetrain p t s
  | .izxPortOpRetrain m p t => Sys2Proof.Machine.execIzxPortOpRetrain m p t s
  | .izxPortOpTakeDown m p t => Sys2Proof.Machine.execIzxPortOpTakeDown m p t s
  | .izxBoxOpClose m b t => Sys2Proof.Machine.execIzxBoxOpClose m b t s
  | .izxRxCrc p command b blocks t => Sys2Proof.Machine.execIzxRxCrc p command b blocks t s
  | .openBox p b host start force t => Sys2Proof.Machine.execOpenBox p b host start force t s
  | .closeBox p b t => Sys2Proof.Machine.execCloseBox p b t s
  | .nop p b t => Sys2Proof.Machine.execNop p b t s
  | .boxHoldExpiry b t => Sys2Proof.Machine.execBoxHoldExpiry b t s
  | .regRead p b seq payload t => Sys2Proof.Machine.execRegRead p b seq payload t s
  | .regWrite p b seq payload t => Sys2Proof.Machine.execRegWrite p b seq payload t s
  | .dramWrite p b seq payload t => Sys2Proof.Machine.execDramWrite p b seq payload t s
  | .dramWriteDone b seq t => Sys2Proof.Machine.execDramWriteDone b seq t s
  | .dramRead p b seq payload t => Sys2Proof.Machine.execDramRead p b seq payload t s
  | .itemQuery p b seq payload t => Sys2Proof.Machine.execItemQuery p b seq payload t s
  | .trackQuery p b seq payload t => Sys2Proof.Machine.execTrackQuery p b seq payload t s
  | .sceneDataBegin p b seq payload t => Sys2Proof.Machine.execSceneDataBegin p b seq payload t s
  | .sceneDataChunk p b seq payload t => Sys2Proof.Machine.execSceneDataChunk p b seq payload t s
  | .sceneDataEnd p b seq payload t => Sys2Proof.Machine.execSceneDataEnd p b seq payload t s
  | .promptDataBegin p b seq payload t => Sys2Proof.Machine.execPromptDataBegin p b seq payload t s
  | .promptDataChunk p b seq payload t => Sys2Proof.Machine.execPromptDataChunk p b seq payload t s
  | .promptDataEnd p b seq payload t => Sys2Proof.Machine.execPromptDataEnd p b seq payload t s
  | .subscribe p b seq payload t => Sys2Proof.Machine.execSubscribe p b seq payload t s
  | .seriesQuery p b seq payload t => Sys2Proof.Machine.execSeriesQuery p b seq payload t s
  | .cpMasterRegisterAccess addr wide data t => Sys2Proof.Machine.execCpMasterRegisterAccess addr wide data t s
  | .cpMasterDramAccess addr wide data t => Sys2Proof.Machine.execCpMasterDramAccess addr wide data t s
  | .slaveWindowAccess a t => Sys2Proof.Machine.execSlaveWindowAccess a t s
  | .prbSlaveTimeout t => Sys2Proof.Machine.execPrbSlaveTimeout t s
  | .prbUser k t => Sys2Proof.Machine.execPrbUser k t s
  | .prbSelWrite m n v t => Sys2Proof.Machine.execPrbSelWrite m n v t s
  | .cfgPlaneSelWrite m plane t => Sys2Proof.Machine.execCfgPlaneSelWrite m plane t s
  | .cfgSelectWritten t => Sys2Proof.Machine.execCfgSelectWritten t s
  | .cfgStageLoad m t => Sys2Proof.Machine.execCfgStageLoad m t s
  | .cfgStageErase m t => Sys2Proof.Machine.execCfgStageErase m t s
  | .cfgStageAbort m t => Sys2Proof.Machine.execCfgStageAbort m t s
  | .stageEraseDone pulses t => Sys2Proof.Machine.execStageEraseDone pulses t s
  | .stageChecksDone repaired bad drivers carryOk t => Sys2Proof.Machine.execStageChecksDone repaired bad drivers carryOk t s
  | .cfgSceneArm m tracks force trial t => Sys2Proof.Machine.execCfgSceneArm m tracks force trial t s
  | .cfgSceneDisarm m t => Sys2Proof.Machine.execCfgSceneDisarm m t s
  | .cfgSceneFireNow m trial t => Sys2Proof.Machine.execCfgSceneFireNow m trial t s
  | .sceneFire t => Sys2Proof.Machine.execSceneFire t s
  | .cfgArmTimeout t => Sys2Proof.Machine.execCfgArmTimeout t s
  | .cfgSceneChanged trees t => Sys2Proof.Machine.execCfgSceneChanged trees t s
  | .sceneSelectRecord t => Sys2Proof.Machine.execSceneSelectRecord t s
  | .flcRead m t => Sys2Proof.Machine.execFlcRead m t s
  | .flcProgram m t => Sys2Proof.Machine.execFlcProgram m t s
  | .flcErase m t => Sys2Proof.Machine.execFlcErase m t s
  | .flcQuery m t => Sys2Proof.Machine.execFlcQuery m t s
  | .flcOpDone ecc pulses fail t => Sys2Proof.Machine.execFlcOpDone ecc pulses fail t s
  | .tempSensorRead c ok ts0 ts1 t => Sys2Proof.Machine.execTempSensorRead c ok ts0 ts1 t s
  | .refreshInterval c t => Sys2Proof.Machine.execRefreshInterval c t s
  | .dmcRefreshRecover c t => Sys2Proof.Machine.execDmcRefreshRecover c t s
  | .dmcFreqChange m fgr target t => Sys2Proof.Machine.execDmcFreqChange m fgr target t s
  | .freqChangeStart t => Sys2Proof.Machine.execFreqChangeStart t s
  | .dmcFreqDone fail t => Sys2Proof.Machine.execDmcFreqDone fail t s
  | .freqChangeTimeout t => Sys2Proof.Machine.execFreqChangeTimeout t s
  | .dmcEccCorrected c t => Sys2Proof.Machine.execDmcEccCorrected c t s
  | .dmcUncorrectable c fault t => Sys2Proof.Machine.execDmcUncorrectable c fault t s
  | .dmcCaParity c fault t => Sys2Proof.Machine.execDmcCaParity c fault t s
  | .dmcSrAbandoned c t => Sys2Proof.Machine.execDmcSrAbandoned c t s
  | .dmcPllRelockTimeout c t => Sys2Proof.Machine.execDmcPllRelockTimeout c t s
  | .clkRefLost t => Sys2Proof.Machine.execClkRefLost t s
  | .clkRefRestored t => Sys2Proof.Machine.execClkRefRestored t s
  | .clkLocked k band trim t => Sys2Proof.Machine.execClkLocked k band trim t s
  | .clkLockLost k t => Sys2Proof.Machine.execClkLockLost k t s
  | .clkBandStale k t => Sys2Proof.Machine.execClkBandStale k t s
  | .clkPllRelock m k t => Sys2Proof.Machine.execClkPllRelock m k t s
  | .clkPllFullSearch m k t => Sys2Proof.Machine.execClkPllFullSearch m k t s
  | .clkPllClearBand m k t => Sys2Proof.Machine.execClkPllClearBand m k t s
  | .clkDomRestore m d t => Sys2Proof.Machine.execClkDomRestore m d t s
  | .clkDomWrite m d v t => Sys2Proof.Machine.execClkDomWrite m d v t s
  | .entryCurtainReached t => Sys2Proof.Machine.execEntryCurtainReached t s
  | .entryCheckpointsDone t => Sys2Proof.Machine.execEntryCheckpointsDone t s
  | .entryRetentionWritten t => Sys2Proof.Machine.execEntryRetentionWritten t s
  | .entrySelfRefresh t => Sys2Proof.Machine.execEntrySelfRefresh t s
  | .pwrEntered t => Sys2Proof.Machine.execPwrEntered t s
  | .entryTimeout t => Sys2Proof.Machine.execEntryTimeout t s
  | .wakeAccess a t => Sys2Proof.Machine.execWakeAccess a t s
  | .wakeTimer t => Sys2Proof.Machine.execWakeTimer t s
  | .wakePin t => Sys2Proof.Machine.execWakePin t s
  | .wakeMonitor t => Sys2Proof.Machine.execWakeMonitor t s
  | .wakeTrackCue n t => Sys2Proof.Machine.execWakeTrackCue n t s
  | .wakeFabric k q t => Sys2Proof.Machine.execWakeFabric k q t s
  | .pwrOpWake m t => Sys2Proof.Machine.execPwrOpWake m t s
  | .pwrOpRetry m t => Sys2Proof.Machine.execPwrOpRetry m t s
  | .wakeDomainReady bad t => Sys2Proof.Machine.execWakeDomainReady bad t s
  | .wakeReadyTimeout cause domain pll t => Sys2Proof.Machine.execWakeReadyTimeout cause domain pll t s
  | .pwrStallLong t => Sys2Proof.Machine.execPwrStallLong t s
  | .pwrRetRelease m banks t => Sys2Proof.Machine.execPwrRetRelease m banks t s
  | .gpioPinWrite m pin v t => Sys2Proof.Machine.execGpioPinWrite m pin v t s
  | .pinHandOver pin t => Sys2Proof.Machine.execPinHandOver pin t s
  | .gpioMwrWrite m h v t => Sys2Proof.Machine.execGpioMwrWrite m h v t s
  | .gpioMoeWrite m h v t => Sys2Proof.Machine.execGpioMoeWrite m h v t s
  | .gpioPattern u levels changed t => Sys2Proof.Machine.execGpioPattern u levels changed t s
  | .gpioBankFault n code t => Sys2Proof.Machine.execGpioBankFault n code t s
  | .uartRxByte u byte parityBad framingBad t => Sys2Proof.Machine.execUartRxByte u byte parityBad framingBad t s
  | .uartDataWrite m u v t => Sys2Proof.Machine.execUartDataWrite m u v t s
  | .uartDataRead m u t => Sys2Proof.Machine.execUartDataRead m u t s
  | .uartTxDone u t => Sys2Proof.Machine.execUartTxDone u t s
  | .spiDataWrite m u v t => Sys2Proof.Machine.execSpiDataWrite m u v t s
  | .spiDataRead m u t => Sys2Proof.Machine.execSpiDataRead m u t s
  | .spiFrameDone u byte t => Sys2Proof.Machine.execSpiFrameDone u byte t s
  | .perSpiDone u t => Sys2Proof.Machine.execPerSpiDone u t s
  | .i2cStart m u t => Sys2Proof.Machine.execI2cStart m u t s
  | .i2cWrite m u byte t => Sys2Proof.Machine.execI2cWrite m u byte t s
  | .i2cReadAck m u t => Sys2Proof.Machine.execI2cReadAck m u t s
  | .i2cReadNack m u t => Sys2Proof.Machine.execI2cReadNack m u t s
  | .i2cStop m u t => Sys2Proof.Machine.execI2cStop m u t s
  | .i2cRxdataRead m u t => Sys2Proof.Machine.execI2cRxdataRead m u t s
  | .i2cCommandDone u res byte t => Sys2Proof.Machine.execI2cCommandDone u res byte t s
  | .i2cStretchTimeout u t => Sys2Proof.Machine.execI2cStretchTimeout u t s
  | .perTimer k t => Sys2Proof.Machine.execPerTimer k t s
  | .perTimerCap k t => Sys2Proof.Machine.execPerTimerCap k t s
  | .timerCaptureRead m k t => Sys2Proof.Machine.execTimerCaptureRead m k t s
  | .lcyToFactoryTest m holdup t => Sys2Proof.Machine.execLcyToFactoryTest m holdup t s
  | .lcyToProvisioned m holdup t => Sys2Proof.Machine.execLcyToProvisioned m holdup t s
  | .lcyToField m holdup t => Sys2Proof.Machine.execLcyToField m holdup t s
  | .lcyToFieldTest m holdup t => Sys2Proof.Machine.execLcyToFieldTest m holdup t s
  | .lcyToAnalysis m holdup t => Sys2Proof.Machine.execLcyToAnalysis m holdup t s
  | .lcyToScrap m holdup t => Sys2Proof.Machine.execLcyToScrap m holdup t s
  | .lcyTransitionDone t => Sys2Proof.Machine.execLcyTransitionDone t s
  | .lcyChallenge m t => Sys2Proof.Machine.execLcyChallenge m t s
  | .lcyVerify m t => Sys2Proof.Machine.execLcyVerify m t s
  | .lcyVerifyDone t => Sys2Proof.Machine.execLcyVerifyDone t s
  | .nonceExpiry t => Sys2Proof.Machine.execNonceExpiry t s
  | .keyAesScene m slot t => Sys2Proof.Machine.execKeyAesScene m slot t s
  | .keyAesPrompt m slot t => Sys2Proof.Machine.execKeyAesPrompt m slot t s
  | .keyScenePubX m t => Sys2Proof.Machine.execKeyScenePubX m t s
  | .keyScenePubY m t => Sys2Proof.Machine.execKeyScenePubY m t s
  | .keyPromptPubX m t => Sys2Proof.Machine.execKeyPromptPubX m t s
  | .keyPromptPubY m t => Sys2Proof.Machine.execKeyPromptPubY m t s
  | .prompterLine chars t => Sys2Proof.Machine.execPrompterLine chars t s
  | .prompterId t => Sys2Proof.Machine.execPrompterId t s
  | .prompterStatus t => Sys2Proof.Machine.execPrompterStatus t s
  | .prompterRead addr count t => Sys2Proof.Machine.execPrompterRead addr count t s
  | .prompterRead64 addr t => Sys2Proof.Machine.execPrompterRead64 addr t s
  | .prompterWrite addr value t => Sys2Proof.Machine.execPrompterWrite addr value t s
  | .prompterWrite64 addr value t => Sys2Proof.Machine.execPrompterWrite64 addr value t s
  | .prompterMode mode t => Sys2Proof.Machine.execPrompterMode mode t s
  | .prompterReset kind t => Sys2Proof.Machine.execPrompterReset kind t s
  | .prompterLog count t => Sys2Proof.Machine.execPrompterLog count t s
  | .prompterSelect plane t => Sys2Proof.Machine.execPrompterSelect plane t s
  | .prompterLcy target t => Sys2Proof.Machine.execPrompterLcy target t s
  | .prompterChallenge t => Sys2Proof.Machine.execPrompterChallenge t s
  | .prompterRespond sig t => Sys2Proof.Machine.execPrompterRespond sig t s
  | .slaveWindowAck data status t => Sys2Proof.Machine.execSlaveWindowAck data status t s
  | .fabRstinNChange high trees t => Sys2Proof.Machine.execFabRstinNChange high trees t s
  | .idleRefresh c t => Sys2Proof.Machine.execIdleRefresh c t s
  | .heldLineFire n t => Sys2Proof.Machine.execHeldLineFire n t s
  | .lcyKeyWritten t => Sys2Proof.Machine.execLcyKeyWritten t s
  | .promptSlotEraseDone t => Sys2Proof.Machine.execPromptSlotEraseDone t s
  | .nzcCopyDone t => Sys2Proof.Machine.execNzcCopyDone t s
  | .uartCtsNChange u high t => Sys2Proof.Machine.execUartCtsNChange u high t s
  | .uartBreak u t => Sys2Proof.Machine.execUartBreak u t s
  | .helloSend t => Sys2Proof.Machine.execHelloSend t s

end Sys2Proof.Machine
end

