-- ==== Sys2Proof/Safety.lean ====
section
/-! DEFINITION. The terms in which statements speak of a run: how a command ends, that it completes with an effect, that an
access is granted, and what holds in every state of a run. -/

namespace Sys2Proof.Machine

/-- What a command at instant `t`, taken in state `s`, leaves when its own effect left `b`: the blocks do at once what the
effect set going, event records leave on the ports, and the queue and the instant are the command's (R524). -/
def settled (t : Ps) (s b : State) : State := finish t s (b.settleAll).eventsSend

/-- Command `c` completes: in every state in which no reset is held and where `G` holds as it begins, exec answers a next
state, and the command's own effect on the state it begins in is `E`. -/
def Runs (c : Instr) (G : State → Prop) (E : State → State) : Prop :=
  ∀ s : State, s.sys.held = false → G (begin c.time s) → exec c s = .next (settled c.time s (E (begin c.time s)))

/-- As `Runs`, of the few commands that a held reset does not close: supply and reset pins. -/
def RunsHeld (c : Instr) (G : State → Prop) (E : State → State) : Prop :=
  ∀ s : State, G (begin c.time s) → exec c s = .next (settled c.time s (E (begin c.time s)))

/-- Rights of a master over a register (R13, R70, R528, R554). -/
def State.mayReg (u : State) (m : Master) (a : Nat) (write : Bool) : Bool :=
  match m with
  | .prompter => true
  | .fabric => !write || (u.get F.PRB_CP_WMASK).testBit (blockOf a)
  | .box b => u.boxMayReg b a write

/-- An access to the register of a field reaches it at once: the master may make it, the life cycle is neither SCRAP nor
LIMBO, and the device neither sleeps nor wakes, or the register is one that is always on (R554, R668, R711). -/
def State.granted (u : State) (m : Master) (f : Fld) (write : Bool) : Bool :=
  u.mayReg m f.addr write && u.lcyState != 6 && u.lcyState != 7 && (aonServed f.addr || u.get F.PWR_STATUS_STATE == 0)

/-- The state once a guarded register of no reserved bits holds a value (R18). -/
def State.withReg (u : State) (f : Fld) (v : Nat) : State := u.setRegAt f.addr f.rst v

/-- The value that a write of `v` leaves in a register whose read-write bits are those of the mask `rw` (R14). -/
def State.rwValue (u : State) (f : Fld) (rw v : Nat) : Nat := clearBits (u.regAt f.addr f.rst) rw ||| (v &&& rw)

/-- The state once such a write has stored its value. -/
def State.withRW (u : State) (f : Fld) (rw v : Nat) : State := u.withReg f (u.rwValue f rw v)

/-- An access by master `m` has ended with status OK, and with the data read (R552). -/
def State.answered (u : State) (m : Master) (v : Nat) : State := u.emit (.reg m v 0)

/-- The state once a port D frame has been heard: the link is up, and isolation has ended (R425, R433). -/
def State.dpxHeard (u : State) (seq : Nat) : State :=
  let a : State := { u with dpx := { u.dpx with frameAt := some u.now } }
  (if a.flag F.DPX_STATUS_LINK_UP then a.retrained else a.dpxLinkUp seq).isolationEnd

/-- A ring frame is new to this device: from another seat, not seen before, and not past its hops (R474 to R476). -/
def State.ringFresh (u : State) (op src seq hops : Nat) (payload : List Byte) : Bool :=
  let who := u.ringSender op src payload
  decide (who ≠ u.seat) && !(tblGet [] u.cmp.seen who).contains seq && decide (hops < u.cmp.seats)

/-- The state once its SEQ has been noted. -/
def State.ringNoted (u : State) (op src seq : Nat) (payload : List Byte) : State :=
  let who := u.ringSender op src payload
  { u with cmp := { u.cmp with seen := tblPut [] u.cmp.seen who ((seq :: tblGet [] u.cmp.seen who).take 64) } }

/-- A box may send a command of `n` blocks on a port: it is open there, not held or closing, and has credit (R512 to
R516). -/
def State.izxMay (u : State) (p b n : Nat) : Bool :=
  let x := u.box b
  decide (b < 15) && x.isOpen && !x.held && decide (x.port = p) && !x.closing && decide (x.outstanding + n ≤ u.boxCredits b)

/-- The Prompter takes a command now: TRIM is over, no command of its own waits, the life cycle is not SCRAP, and
the device is awake (R721, R724). -/
def State.promptMay (u : State) : Bool :=
  !u.sys.held && (u.phaseDone 1 || decide (u.mode ≠ 1)) && decide (u.lcyState ≠ 6) && !u.promptBusy &&
    decide (u.get F.PWR_STATUS_STATE = 0)

/-- The line of a track that composition takes next, with its layout version, once its predicted fire instant is near
(R115, R194). -/
def State.lineDue (a : State) (n : Nat) : Option (NextLine × Nat × Nat) :=
  match (a.toAnnounce n).foldl (fun b x => match b with
    | none => some x
    | some (y : NextLine × Nat × Nat) => if posDiff x.1.fire y.1.fire < 0 then some x else some y) none with
  | none => none
  | some (l, id, ver) =>
    match a.predict n l.fire with
    | none => none
    | some t =>
      if t ≤ a.now + (a.tLead n + max 8 (a.act (F.TRK_SCHED_COMPOSE_AHEAD n))) * 1000000 ∧ a.composes n ∧
        a.frg.lines.length < 4096 then some (l, id, ver) else none

/-- A line of an item, or of a starvation print, has been announced. -/
def State.announceMark (a : State) (n : Nat) (l : NextLine) : State :=
  if l.item = 0 then
    a.setTrack n { a.track n with
      starves := (a.track n).starves.map (fun v => if v.c = l.c then { v with announced := l.index + 1 } else v) }
  else a.modItem n l.item (fun y => { y with announced := l.index + 1 })

/-- The layout of an item failed its check at load (R202). -/
def State.itemCorrupt (a : State) (n i : Nat) : Bool :=
  match a.item? n i with
  | some y => y.corrupt
  | none => false

/-- The duplex registers show what holds: no twin is configured, or the device is no understudy and ALIGNED and READY are the
tracks' and the partner's (R438, R439). -/
def State.dpxSteady (u : State) : Bool :=
  !u.dpx.configured || (u.get F.SYS_MODE_MODE != 4 && u.get F.DPX_STATUS_ALIGNED == u.alignedMask &&
    u.get F.DPX_STATUS_READY == bit (decide (u.get F.DPX_STATUS_ROLE = 1) && u.dpx.partnerReady))

/-- Nothing waits for its turn: no item, held submission or line is under way, no ceiling wait shows, no layout is being
retired or read late, no duplex commit is open and the duplex registers show what holds, no box has a response, a retry or a
close to come, no scene is staged, no access is stalled, no DRAM request waits and nothing is put off to the end of its instant. In such a state the blocks have nothing to
do of themselves. -/
def State.still (u : State) : Bool :=
  (List.range 16).all (fun n => (u.queue n).items.isEmpty && (u.queue n).held.isEmpty && (u.track n).starves.isEmpty &&
    !u.flag (F.WQ_STATUS_CEILING_WAIT n)) &&
  u.frg.lines.isEmpty && u.frg.layouts.all (fun l => !l.retiring) && u.dpx.commits.isEmpty &&
  (List.range 16).all (fun b => (u.box b).due.isEmpty && (u.box b).retries.isEmpty && !(u.box b).closing) &&
  u.cfg.stage.isNone && u.pwr.stalls.isEmpty && u.dreq.isEmpty && !u.frg.opLate && u.dpxSteady && u.later.isEmpty

/-- Nothing waits, and no event record is queued for a box. -/
def State.calm (u : State) : Bool := u.still && (List.range 16).all (fun b => (u.box b).events.isEmpty)

/-- Track `n` where a fire instant of it is judged: its late lines have been dealt with, and its position stands at now. -/
def State.atFire (u : State) (n : Nat) : State := (u.linesJudge n 4096).settle n (u.linesJudge n 4096).now

/-- `n` steps one after another, as far as each answers a next state. -/
def stepMany : Nat → State → Host.Outcome State Fault Refusal
  | 0, s => .next s
  | n + 1, s =>
    match step s with
    | .next t => stepMany n t
    | o => o

/-- A memory operation touches a byte of DRAM. -/
def Store.dramHit (x : Store) (a : Nat) : Bool :=
  match x with
  | .dram b l => decide (b ≤ a) && decide (a < b + l.length)
  | .dramLost => true
  | _ => false

/-- A memory operation touches a byte of flash. -/
def Store.flashHit (x : Store) (a : Nat) : Bool :=
  match x with
  | .flash b l => decide (b ≤ a) && decide (a < b + l.length)
  | .flashErase lo hi => decide (lo ≤ a) && decide (a < hi)
  | _ => false

/-- A memory operation touches a byte of the prompt book NOR. -/
def Store.norHit (x : Store) (a : Nat) : Bool :=
  match x with
  | .nor b l => decide (b ≤ a) && decide (a < b + l.length)
  | .norErase lo hi => decide (lo ≤ a) && decide (a < hi)
  | _ => false

/-- The three memories are in their canonical form. -/
def State.memOk (s : State) : Bool := s.dram.wf .dram && s.flash.wf .flash && s.nor.wf .flash

end Sys2Proof.Machine
end

