-- ==== Sys2Proof/Certificates/Slice0/Obligations.lean ====
section
/-! DEFINITION. The statements about the model, for the provers. -/

open Sys2Proof Sys2Proof.Machine

/-- For every command c, every rest of the queue and every state: with c at the front, a step is exec of c on the state
whose queue is the rest. That commands wait in one queue and are taken from its front is the model's own frame (log
3), not a rule of the spec. (R30) -/
def Obligations.StepRunsTheFrontCommand : Prop :=
  ∀ (c : Instr) (rest : List Instr) (s : State), step { s with pending := c :: rest } = exec c { s with pending := rest }

/-- In every state whose queue is empty and whose fabric does not run a step answers that very state. Where the fabric
runs and nothing waits, a step answers a next state that differs from it in the fabric, in the counter of free values
and in what is shown only. That such a step is an event of the fabric's clocks, and that what falls due at an instant
is left to the next command or to a command of its own, is the model's choice (log 3). (R30, R538, R550) -/
def Obligations.EmptyQueueIdles : Prop :=
  ∀ s : State, s.pending = [] →
    (s.fabRuns = false → step s = .next s) ∧
    (s.fabRuns = true → s.calm = true → ∃ t : State, step s = .next t ∧
      ({ t with fab := s.fab, freeIx := s.freeIx, out := s.out, stores := s.stores } : State) = s)

/-- For every command and every state, exec answers a next state: no command faults and none is refused. The next state's
queue is the one exec was given, its instant is the later of the state's and the command's, and no memory store is
left waiting. That a command whose conditions do not hold leaves the state's own effect out follows R30; that time
never runs back is the model's (log 1). (R30) -/
def Obligations.EveryCommandEndsInANextState : Prop :=
  ∀ (c : Instr) (s : State), ∃ t : State,
    exec c s = .next t ∧ t.pending = s.pending ∧ t.now = max s.now c.time ∧ t.stores = []

/-- In State.reset every field of every register reads as its slice of the register's reset value in the register map, the
three memories are in their canonical form, the queue is empty and the instant is 0. (R14, R79, R738) -/
def Obligations.ResetHoldsTheResetValues : Prop :=
  State.reset.memOk = true ∧ State.reset.pending = [] ∧ State.reset.now = 0 ∧
  ∀ f : Fld, f.hi < 64 → State.reset.get f = bits f.rst f.hi f.lo

/-- For every state whose DRAM, flash and NOR lists are in canonical form (addresses strictly rising, no entry equal to
what an unlisted address reads as), every next state that a step answers has them in canonical form too, whichever
command it ran. The form itself is the model's. (R597, R554, R176) -/
def Obligations.EveryStepKeepsTheMemoryForm : Prop :=
  ∀ s t : State, s.memOk = true → step s = .next t → t.memOk = true

/-- From every state with well-formed memories and for every n up to the length of its queue, n steps one after another
all answer a next state; exactly the first n commands have left the queue, the memories are still well formed, the
instant has not run back, and it is no earlier than that of any command that ran. That no command ends a run is what
the model makes of R30 (log 3). (R30) -/
def Obligations.AnyRunOfCommandsCompletes : Prop :=
  ∀ (s : State) (n : Nat), s.memOk = true → n ≤ s.pending.length → ∃ t : State,
    stepMany n s = .next t ∧ t.pending = s.pending.drop n ∧ t.memOk = true ∧ s.now ≤ t.now ∧
    ∀ c ∈ s.pending.take n, c.time ≤ t.now

/-- For what any command leaves (its own effect b settled on the state s it began in) and for every address: if none of
the stores that the effect and the blocks' own work collected touches the byte in DRAM, the byte reads as before; the
same for flash and for the prompt book NOR. In a still state the blocks' own work collects no store, so the stores are
those of the effect alone. How stores are collected is the model's. (R597, R554, R176) -/
def Obligations.BytesOutsideTheStoresKeepTheirValue : Prop :=
  ∀ (t : Ps) (s b : State) (a : Nat),
    ((∀ x ∈ b.settleAll.eventsSend.stores, x.dramHit a = false) →
      memGet .dram (settled t s b).dram a = memGet .dram s.dram a) ∧
    ((∀ x ∈ b.settleAll.eventsSend.stores, x.flashHit a = false) →
      memGet .flash (settled t s b).flash a = memGet .flash s.flash a) ∧
    ((∀ x ∈ b.settleAll.eventsSend.stores, x.norHit a = false) →
      memGet .flash (settled t s b).nor a = memGet .flash s.nor a) ∧
    (b.still = true → b.settleAll.eventsSend.stores = b.stores)

/-- Every PHASE command, and each bound of CALL, takes its effect in any state in which CALL runs, no reset is held and
the phases it depends on have completed: what each phase shows and starts, and the phase recorded as complete; a trim
word that disagrees, a life cycle in LIMBO, a torn select record or a plane with no scene stops CALL in DARK. (R59,
R64, R67, R72, R448, R543, R570, R645, R706) -/
def Obligations.PhasesOfCallComplete : Prop :=
  (∀ (fault : Bool) (keyBad : Nat) (tableBad ext : Bool) (t : Nat), Runs (.phaseTrim fault keyBad tableBad ext t)
    (fun u => u.phaseMay 1 [] ∧ !(u.trimDamage fault).trimSound)
    (fun u => ((u.trimDamage fault).raise Ev.SYS_TRIM_FAULT).goDark 7)) ∧
  (∀ (fault : Bool) (keyBad : Nat) (tableBad ext : Bool) (t : Nat), Runs (.phaseTrim fault keyBad tableBad ext t)
    (fun u => u.phaseMay 1 [] ∧ (u.trimDamage fault).trimSound)
    (fun u => (let k := (((u.trimDamage fault).put F.CLK_REF_EXT (bit ext)).keptShow).keysCheck keyBad;
               let k := when tableBad (fun s => ({ s with cfg := { s.cfg with tableFault := true } } : State).raise
                   Ev.FLC_TABLE_FAULT) k;
               let k := when k.cfg.cutPulse (fun s => ({ s with cfg := { s.cfg with cutPulse := false } } : State).raise
                   Ev.FLC_INTERRUPTED) k;
               ((when k.wipeDue (fun s => s.put F.LCY_STATUS_WIPE_PENDING 1) k).clocksBegin).phaseEnd 1))) ∧
  (∀ (t : Nat), Runs (.phaseLife t)
    (fun u => u.phaseMay 2 [1] ∧ u.phaseLife.2 ∧ u.phaseLife.1.lcyState ≠ 6)
    (fun u => u.phaseLife.1.phaseEnd 2)) ∧
  (∀ (t : Nat), Runs (.phaseLife t)
    (fun u => u.phaseMay 2 [1] ∧ !u.phaseLife.2)
    (fun u => u.phaseLife.1.goDark 7)) ∧
  (∀ (t : Nat), Runs (.phaseSelect t)
    (fun u => u.phaseMay 3 [1, 2] ∧ u.selectRead = none)
    (fun u => (u.raise Ev.CFG_SELECT_FAULT).goDark 7)) ∧
  (∀ (t v : Nat), Runs (.phaseSelect t)
    (fun u => u.phaseMay 3 [1, 2] ∧ u.selectRead = some v)
    (fun u => (u.put F.CFG_STATUS_SELECT_NONE (bit (decide (v = 0)))).phaseEnd 3)) ∧
  (∀ (t : Nat), Runs (.phaseClocks t)
    (fun u => u.mode = 1 ∧ u.phaseDone 1 ∧ !u.phaseDone 4 ∧ !u.sys.held ∧ [0, 1, 2, 3].all (fun k => (u.get
      F.CLK_STATUS_LOCKED).testBit k))
    (fun u => ((u.put F.PWR_STATUS_ON 0xFFFFF).phaseEnd 4).linksTrain)) ∧
  (∀ (k : Fin 8) (t : Nat), Runs (.clkLockFail k t)
    (fun u => u.mode = 1 ∧ k.val ≤ 5 ∧ !u.phaseDone 6 ∧ (u.get (F.CLK_PLL_STATUS_STATE k.val) = 1 ∨ u.get
      (F.CLK_PLL_STATUS_STATE k.val) = 2) ∧ (u.pll k.val).since + 300000000 ≤ u.now)
    (fun u => (({ u with sys := { u.sys with clkFail := true } } : State).put (F.CLK_PLL_STATUS_STATE k.val) 4).raise
      Ev.CLK_LOCK_FAIL k.val)) ∧
  (∀ (valid : Bool) (drivers : Option Contend) (trees : List Nat) (t : Nat), Runs (.phasePlane valid drivers trees t)
    (fun u => u.phaseMay 5 [3, 4] ∧ (u.phasePlane valid drivers trees).2)
    (fun u => let s := (u.phasePlane valid drivers trees).1;
              (s.phaseEnd 5).fabStart (planeBase (s.get F.CFG_STATUS_ACTIVE)))) ∧
  (∀ (valid : Bool) (drivers : Option Contend) (trees : List Nat) (t : Nat), Runs (.phasePlane valid drivers trees t)
    (fun u => u.phaseMay 5 [3, 4] ∧ u.selectRead = some 0)
    (fun u => (u.raise Ev.CFG_NO_SCENE).goDark 6)) ∧
  (∀ (m0 m1 : Dimm) (t : Nat), Runs (.phaseDram m0 m1 t)
    (fun u => u.phaseMay 6 [4] ∧ !u.sys.dramFail ∧ (u.dramTrain m0 m1).flag F.SYS_CALL_STATUS_DRAM_OK_0 ∧ (u.dramTrain m0
      m1).flag F.SYS_CALL_STATUS_DRAM_OK_1)
    (fun u => (u.dramTrain m0 m1).phaseEnd 6)) ∧
  (∀ (mute t : Nat), Runs (.phasePrompt mute t)
    (fun u => u.phaseMay 7 [5, 6] ∧ !u.flag F.SYS_CALL_STATUS_PROMPT_BAD)
    (fun u => let q := u.phasePrompt mute;
              if q.2 then ({ q.1 with sys := { q.1.sys with promptAt := q.1.now } } : State).phaseEnd 7 else (q.1.put
                F.SYS_CALL_STATUS_PROMPT_BAD 1).raise Ev.CFG_PROMPT_BAD)) ∧
  (∀ (aonBad t : Nat), Runs (.phaseJoin aonBad t)
    (fun u => u.phaseMay 8 [7] ∧ !u.ldg.scanned)
    (fun u => u.phaseJoin aonBad)) ∧
  (∀ (t : Nat), Runs (.cmpJoinLate t)
    (fun u => u.mode = 1 ∧ u.phaseDone 7 ∧ !u.phaseDone 8 ∧ u.ldg.scanned ∧ !u.sys.companyDone ∧ u.sys.promptAt +
      u.sys.joinMs * 1000000000 ≤ u.now)
    (fun u => (let x := (u.put F.SYS_CALL_STATUS_JOIN_LATE 1).raise Ev.CMP_JOIN_LATE;
               ({ x with sys := { x.sys with companyDone := true } } : State).joinTry))) ∧
  (∀ (t : Nat), Runs (.duplexRoleTimeout t)
    (fun u => u.mode = 1 ∧ u.phaseDone 7 ∧ !u.phaseDone 8 ∧ u.ldg.scanned ∧ u.dpx.configured ∧ !u.sys.roleDone ∧
      u.sys.promptAt + 10000000000 ≤ u.now)
    (fun u => (((({ u with sys := { u.sys with roleDone := true } } : State).setRole 3).put F.SYS_CALL_STATUS_SOLO
      1).earlySettle).joinTry)) ∧
  (∀ (t : Nat), Runs (.phaseArm t)
    (fun u => !u.lanesBusy ∧ u.marksWritten ∧ !u.sys.held ∧ !u.sys.armFail ∧ !u.sys.printReset ∧ u.mode = 1 ∧
      u.sys.armStarted ∧ !u.phaseDone 9 ∧ u.headsPlace.2 ∧ ((u.headsPlace.1.tracksArm.phaseEnd 9).put
      F.SYS_CALL_STATUS_DONE 1).role ≠ 2)
    (fun u => (let x := ((u.headsPlace.1.tracksArm).phaseEnd 9).put F.SYS_CALL_STATUS_DONE 1;
               x.setMode (if x.sys.startPerf then 3 else 2) 0)))

/-- A granted request for a mode starts or makes the transition that the table of modes allows, and is refused with its
code otherwise; CONTINUE starts phase ARM, RETRY_PROMPT runs phase PROMPT again; a reset request begins its reset 1 us
later, or is refused. (R59, R60, R61, R62, R68, R76, R80, R83, R85, R87) -/
def Obligations.ModeRequestsComplete : Prop :=
  (∀ (m : Master) (t : Nat), Runs (.modeReqRehearsal m t)
    (fun u => u.granted m F.SYS_MODE_REQ true ∧ !(u.withReg F.SYS_MODE_REQ 2).flag F.SYS_MODE_BUSY ∧ (u.withReg
      F.SYS_MODE_REQ 2).mode = 3)
    (fun u => let w := u.withReg F.SYS_MODE_REQ 2;
              (w.modeStart 2).answered m 0)) ∧
  (∀ (m : Master) (t : Nat), Runs (.modeReqRehearsal m t)
    (fun u => u.granted m F.SYS_MODE_REQ true ∧ !(u.withReg F.SYS_MODE_REQ 2).flag F.SYS_MODE_BUSY ∧ (u.withReg
      F.SYS_MODE_REQ 2).mode = 4)
    (fun u => let w := u.withReg F.SYS_MODE_REQ 2;
              ((((w.put F.SYS_MODE_REQ_RESULT 1).setRole 3).setMode 2 1).dpxState).answered m 0)) ∧
  (∀ (m : Master) (t : Nat), Runs (.modeReqRehearsal m t)
    (fun u => u.granted m F.SYS_MODE_REQ true ∧ !(u.withReg F.SYS_MODE_REQ 2).flag F.SYS_MODE_BUSY ∧ ((u.withReg
      F.SYS_MODE_REQ 2).mode = 1 ∨ (u.withReg F.SYS_MODE_REQ 2).mode = 2 ∨ (u.withReg F.SYS_MODE_REQ 2).mode = 6))
    (fun u => let w := u.withReg F.SYS_MODE_REQ 2;
              (w.modeRefuse 3).answered m 0)) ∧
  (∀ (m : Master) (t : Nat), Runs (.modeReqPerformance m t)
    (fun u => u.granted m F.SYS_MODE_REQ true ∧ !(u.withReg F.SYS_MODE_REQ 3).flag F.SYS_MODE_BUSY ∧ (u.withReg
      F.SYS_MODE_REQ 3).mode = 2)
    (fun u => let w := u.withReg F.SYS_MODE_REQ 3;
              (if w.role = 2 then w.modeRefuse 5 else w.modeStart 3).answered m 0)) ∧
  (∀ (m : Master) (t : Nat), Runs (.modeReqPerformance m t)
    (fun u => u.granted m F.SYS_MODE_REQ true ∧ (u.withReg F.SYS_MODE_REQ 3).flag F.SYS_MODE_BUSY)
    (fun u => let w := u.withReg F.SYS_MODE_REQ 3;
              (if w.perTrackTo.isSome ∧ 3 = w.mode then w.modeCancel else w.modeRefuse 4).answered m 0)) ∧
  (∀ (m : Master) (t : Nat), Runs (.modeReqUnderstudy m t)
    (fun u => u.granted m F.SYS_MODE_REQ true ∧ !(u.withReg F.SYS_MODE_REQ 4).flag F.SYS_MODE_BUSY ∧ (u.withReg
      F.SYS_MODE_REQ 4).mode = 2)
    (fun u => let w := u.withReg F.SYS_MODE_REQ 4;
              (if w.flag F.DPX_STATUS_LINK_UP ∧ w.dpx.partnerMode = 3 then (w.put F.SYS_MODE_REQ_RESULT 1).understudyEnter
                1 else w.modeRefuse 5).answered m 0)) ∧
  (∀ (m : Master) (t : Nat), Runs (.modeReqInterval m t)
    (fun u => u.granted m F.SYS_MODE_REQ true ∧ !(u.withReg F.SYS_MODE_REQ 5).flag F.SYS_MODE_BUSY ∧ (u.withReg
      F.SYS_MODE_REQ 5).mode = 2)
    (fun u => let w := u.withReg F.SYS_MODE_REQ 5;
              (w.entryBegin).answered m 0)) ∧
  (∀ (m : Master) (t : Nat), Runs (.modeReqService m t)
    (fun u => u.granted m F.SYS_MODE_REQ true ∧ !(u.withReg F.SYS_MODE_REQ 7).flag F.SYS_MODE_BUSY ∧ ((u.withReg
      F.SYS_MODE_REQ 7).mode = 0 ∨ (u.withReg F.SYS_MODE_REQ 7).mode = 2 ∨ (u.withReg F.SYS_MODE_REQ 7).mode = 6))
    (fun u => let w := u.withReg F.SYS_MODE_REQ 7;
              (if w.debugOpen then w.serviceEnter else w.modeRefuse 5).answered m 0)) ∧
  (∀ (m : Master) (stop : Bool) (t : Nat), Runs (.callContinue m stop t)
    (fun u => u.granted m F.SYS_CALL_CTRL true)
    (fun u => let w := u.withRW F.SYS_CALL_CTRL 1 (bit stop);
              (if w.flag F.SYS_CALL_STATUS_WAITING ∧ !w.flag F.LDG_STATUS_LOG_FAULT then w.armStart w.ldg.resealed else
                w).answered m 0)) ∧
  (∀ (m : Master) (stop : Bool) (t : Nat), Runs (.retryPrompt m stop t)
    (fun u => u.granted m F.SYS_CALL_CTRL true)
    (fun u => let w := u.withRW F.SYS_CALL_CTRL 1 (bit stop);
              (if w.mode = 1 ∧ w.flag F.SYS_CALL_STATUS_PROMPT_BAD then w.put F.SYS_CALL_STATUS_PROMPT_BAD 0 else
                w).answered m 0)) ∧
  (∀ (m : Master) (t : Nat), Runs (.resetReqPrintPath m t)
    (fun u => u.granted m F.SYS_RESET_REQ true)
    (fun u => let w := u.withReg F.SYS_RESET_REQ 1;
              (if !(w.mode = 2 ∨ w.mode = 7) then w.raise Ev.SYS_RESET_FAULT else
                ({ w with sys := { w.sys with reset := some (1, w.now + 1000000) } } : State)).answered m 0)) ∧
  (∀ (m : Master) (t : Nat), Runs (.resetReqWarm m t)
    (fun u => u.granted m F.SYS_RESET_REQ true)
    (fun u => let w := u.withReg F.SYS_RESET_REQ 2;
              (({ w with sys := { w.sys with reset := some (2, w.now + 1000000) } } : State)).answered m 0)) ∧
  (∀ (m : Master) (t : Nat), Runs (.resetReqCold m t)
    (fun u => u.granted m F.SYS_RESET_REQ true)
    (fun u => let w := u.withReg F.SYS_RESET_REQ 3;
              (({ w with sys := { w.sys with reset := some (3, w.now + 1000000) } } : State)).answered m 0))

/-- Each reset source resets what its kind resets and starts CALL or holds the device, the early-warning stops binding and
its end resumes it, and a requested reset begins when it is due. (R59, R78, R79, R80, R87, R171, R710, R735, R747,
R748, R749) -/
def Obligations.ResetsComplete : Prop :=
  (∀ (k : Fin 8) (t : Nat), Runs (.evtPinPulseEnd k t)
    (fun u => 0 < tblGet 0 u.cue.pinEnd k.val ∧ tblGet 0 u.cue.pinEnd k.val ≤ u.now)
    (fun u => { u with cue := { u.cue with pinEnd := tblPut 0 u.cue.pinEnd k.val 0 } })) ∧
  (∀ (refSel : Nat) (banks : List (Nat × Nat)) (holdup : Bool) (t : Nat), RunsHeld (.powerOn refSel banks holdup t)
    (fun u => u.sys.held ∧ u.sys.por)
    (fun u => let p : State := { u with porAt := u.now, clk := { u.clk with refSel := refSel % 8 } };
              let p := (List.range 16).foldl (fun s b => s.put (F.GPIO_BANK_STRAP b) (if [0, 6, 7].contains
                  (((banks[b]?).getD (0, 0)).2 % 8) then 0 else ((banks[b]?).getD (0, 0)).1)) ((p.put F.CLK_REF_SEL
                  refSel).put F.CLK_REF_FREQ (refFreq (refSel % 8)));
              let p := (List.range 16).foldl (fun s b => s.put (F.GPIO_BANK_VCCIO b) (if ((banks[b]?).getD (0, 0)).2 % 8 =
                  6 then 7 else ((banks[b]?).getD (0, 0)).2 % 8)) p;
              (p.put F.LCY_STATUS_HOLDUP (bit holdup)).callStart)) ∧
  (∀ (refSel : Nat) (banks : List (Nat × Nat)) (holdup : Bool) (t : Nat), RunsHeld (.powerOn refSel banks holdup t)
    (fun u => u.sys.held ∧ !u.sys.por)
    (fun u => let p := (List.range 16).foldl (fun s b => s.put (F.GPIO_BANK_VCCIO b) (if ((banks[b]?).getD (0, 0)).2 % 8 =
                  6 then 7 else ((banks[b]?).getD (0, 0)).2 % 8)) u;
              (p.put F.LCY_STATUS_HOLDUP (bit holdup)).callStart)) ∧
  (∀ (aonKept : Bool) (t : Nat), RunsHeld (.brownOut aonKept t)
    (fun _ => True)
    (fun u => let p := ((u.deviceReset 0 true).put F.SYS_RESET_CAUSE 0).setFlags F.SYS_RESET_CAUSE_POWER_ON 1;
              if aonKept then p.setFlags F.SYS_RESET_CAUSE_BROWN_OUT 1 else p)) ∧
  (∀ (t : Nat), RunsHeld (.pinReset t)
    (fun u => !u.sys.held)
    (fun u => (u.deviceReset 1 true).setFlags F.SYS_RESET_CAUSE_PIN 1)) ∧
  (∀ (t : Nat), Runs (.stageManagerWatchdog t)
    (fun _ => True)
    (fun u => ((u.deviceReset 1 false).setFlags F.SYS_RESET_CAUSE_WATCHDOG 1).callStart)) ∧
  (∀ (cut : Bool) (t : Nat), RunsHeld (.supplyEarlyWarning cut t)
    (fun u => !u.sys.earlyWarning)
    (fun u => (((if u.entering then u.entryAbandon 2 u.pwr.step else u).earlyWarn).flashWarn cut).put
      F.LCY_STATUS_EARLY_WARNING 1)) ∧
  (∀ (t : Nat), RunsHeld (.earlyWarningClear t)
    (fun u => u.sys.earlyWarning)
    (fun u => ((u.earlyClear).selectResume).put F.LCY_STATUS_EARLY_WARNING 0)) ∧
  (∀ (aonBad t : Nat), Runs (.printPathReset aonBad t)
    (fun u => u.resetDue 1 ∧ (u.resetTaken.mode = 2 ∨ u.resetTaken.mode = 7))
    (fun u => let p := (List.range 16).foldl (fun s n => s.markRequest n 2) u.resetTaken;
              let p := (((p.setFlags F.SYS_RESET_CAUSE_PRINT_PATH 1).transitionDrop).put F.SYS_MODE_BUSY 1).printClear;
              let p := p.put F.PWR_RET_STATUS_HELD (p.get F.PWR_RET_STATUS_HELD &&& (255 - 4));
              (((({ p with sys := { p.sys with printReset := true, armStarted := false, armFail := false } } :
                State).fabSettle).aonDamage aonBad).lanesReset).armStart false)) ∧
  (∀ (t : Nat), Runs (.warmReset t)
    (fun u => u.resetDue 2)
    (fun u => ((u.deviceReset 2 false).setFlags F.SYS_RESET_CAUSE_WARM 1).warmStart)) ∧
  (∀ (t : Nat), Runs (.coldReset t)
    (fun u => u.resetDue 3)
    (fun u => ((u.deviceReset 1 false).setFlags F.SYS_RESET_CAUSE_REQUEST_COLD 1).callStart)) ∧
  (∀ (t a : Nat), Runs (.coldReset t)
    (fun u => u.lcy.resetAt = some a ∧ a ≤ u.now)
    (fun u => ((u.deviceReset 1 false).setFlags F.SYS_RESET_CAUSE_REQUEST_COLD 1).callStart))

/-- A granted access reads or writes the register that its address holds and is answered; a box without the right is
denied; an empty address is a decode fault; an access in the slave window waits for the fabric, whose answer or
silence ends it. (R12, R13, R14, R528, R550, R553, R554, R555, R556, R561) -/
def Obligations.RegisterAccessesComplete : Prop :=
  (∀ (t : Nat) (m : Master) (addr : Nat) (wide : Bool) (data : Option Nat), Runs (.registerWrite
    { master := m, addr, wide, data } t)
    (fun u => !inWindow addr ∧ u.granted m ⟨addr, 0, 0, 0⟩ data.isSome)
    (fun u => let q := if wide then u.access64 m addr data else u.access32 m addr data;
              q.1.emit (.reg m q.2.1 q.2.2))) ∧
  (∀ (t b addr : Nat) (wide : Bool) (data : Option Nat), Runs (.registerWrite { master := .box b, addr, wide, data } t)
    (fun u => !u.boxMayReg b addr data.isSome)
    (fun u => ((u.addSat (F.IZX_BOX_DENIED b) 1).raise Ev.IZX_DENIED b).emit (.reg (.box b) 0 3))) ∧
  (∀ (t : Nat) (m : Master) (addr : Nat) (data : Option Nat), Runs (.sysDecodeFault { master := m, addr, wide := false, data }
    t)
    (fun u => findReg addr = none ∧ !inWindow addr ∧ u.granted m ⟨addr, 0, 0, 0⟩ data.isSome)
    (fun u => (u.raise Ev.SYS_DECODE_FAULT).emit (.reg m 0 1))) ∧
  (∀ (addr : Nat) (wide : Bool) (data : Option Nat) (t : Nat), Runs (.cpMasterRegisterAccess addr wide data t)
    (fun u => u.cfg.swap = none ∧ !inWindow addr ∧ u.granted .fabric ⟨addr, 0, 0, 0⟩ data.isSome)
    (fun u => let q := if wide then u.access64 .fabric addr data else u.access32 .fabric addr data;
              if q.1.cfg.swap.isSome then q.1 else q.1.emit (.cp q.2.1 q.2.2))) ∧
  (∀ (addr : Nat) (wide : Bool) (data : Option Nat) (t : Nat), Runs (.cpMasterRegisterAccess addr wide data t)
    (fun u => u.cfg.swap = none ∧ data.isSome ∧ !(u.get F.PRB_CP_WMASK).testBit (blockOf addr))
    (fun u => ((u.put F.PRB_CP_FAULT_ADDR addr).raise Ev.PRB_CP_DENIED).emit (.cp 0 3))) ∧
  (∀ (addr : Nat) (wide : Bool) (t : Nat), Runs (.cpMasterDramAccess addr wide none t)
    (fun u => u.cfg.swap = none ∧ addr + (if wide then 8 else 4) ≤ u.dramSize ∧ u.get F.PWR_STATUS_STATE = 0)
    (fun u => { u with dreq := u.dreq ++ [{ cls := 5, addr, len := if wide then 8 else 4, who := .cp wide, since := u.now
                                               }] })) ∧
  (∀ (addr : Nat) (wide : Bool) (t v : Nat), Runs (.cpMasterDramAccess addr wide (some v) t)
    (fun u => u.cfg.swap = none ∧ u.cpMayWrite addr (if wide then 8 else 4) ∧ u.get F.PWR_STATUS_STATE = 0)
    (fun u => { u with dreq := u.dreq ++ [{ cls := 5, addr, len := if wide then 8 else 4, data := some (leBytes (if wide
                                               then 8 else 4) v), who := .cp wide, since := u.now }] })) ∧
  (∀ (t : Nat) (m : Master) (addr : Nat) (wide : Bool) (data : Option Nat), Runs (.slaveWindowAccess
    { master := m, addr, wide, data } t)
    (fun u => inWindow addr ∧ u.granted m ⟨addr, 0, 0, 0⟩ data.isSome ∧ u.cfg.swap = none ∧ u.flag F.PRB_CP_STATUS_SLAVE)
    (fun u => let q := u.emit (.window addr wide data);
              { q with window := q.window ++ [⟨.bare m, { master := m, addr, wide, data }, q.now⟩] })) ∧
  (∀ (data : Nat) (status : Fin 4) (t : Nat) (x : RegWait) (l : List RegWait), Runs (.slaveWindowAck data status t)
    (fun u => u.window = x :: l ∧ u.cfg.swap = none)
    (fun u => ({ u with window := l } : State).accDone x.who x.acc (if x.acc.data.isNone then data % 2 ^ 64 % (if
      x.acc.wide then 2 ^ 64 else 2 ^ 32) else 0) status.val)) ∧
  (∀ (t : Nat) (x : RegWait) (l : List RegWait), Runs (.prbSlaveTimeout t)
    (fun u => u.window = x :: l ∧ u.cfg.swap = none ∧ x.at_ + max 1 (u.get F.PRB_CP_CFG_SLAVE_TIMEOUT) * 10000 ≤ u.now)
    (fun u => let q : State := { u with window := l };
              (((q.addSat F.PRB_SLAVE_TIMEOUTS 1).raise Ev.SYS_DECODE_FAULT).raise Ev.PRB_SLAVE_TIMEOUT).accDone x.who
                x.acc 0 1)) ∧
  (∀ (k : Fin 32) (t : Nat), Runs (.prbUser k t)
    (fun u => u.phaseDone 5)
    (fun u => u.raise Ev.PRB_USER k.val)) ∧
  (∀ (m : Master) (n : Fin 16) (v t : Nat), Runs (.prbSelWrite m n v t)
    (fun u => u.granted m (F.PRB_SEL n.val) true ∧ tblGet none u.hits (F.PRB_SEL n.val).addr = none)
    (fun u => (u.withRW (F.PRB_SEL n.val) 0xBF v).answered m 0)) ∧
  (∀ (high : Bool) (trees : Fin 16) (t : Nat), Runs (.fabRstinNChange high trees t)
    (fun _ => True)
    (fun u => ({ u with rstIn := high, grstPin := if high then 0 else trees.val } : State).fabSettle))

/-- A write of a staged track register is stored and applied in a curtain window, reads of a 64-bit position latch its
upper half, and the edges, cues and bounds of an armed or disarmed track move it as the synthesis rules say. (R75,
R91, R92, R93, R94, R95, R101, R123, R131, R222) -/
def Obligations.TrackCommandsComplete : Prop :=
  (∀ (n : Fin 16) (t : Nat), Runs (.curtainWindow n t)
    (fun u => u.inCurtain n.val)
    (fun u => u.curtainWork n.val)) ∧
  (∀ (m : Master) (n : Fin 16) (r : Fin 12) (v t : Nat), Runs (.trkConfigWrite m n r v t)
    (fun u => u.granted m ((stagedTrk n.val).getD r.val (F.TRK_CTRL n.val)) true ∧ r ≠ 8)
    (fun u => let w := u.withRW ((stagedTrk n.val).getD r.val (F.TRK_CTRL n.val)) (([0x7, 0xFF0305, 0xFFFFFFFF,
                  0xFFFF0FFF, 0xFFFF80FF, 0xFFFFFFFF, 0xFFFF0FFF, 0xFFFF, 0xFFFFFFFF, 0xFFFFFFF7, 0xFFFFFFFF, 0xFFFFFFFF]
                  : List Nat).getD r.val 0) v;
              ((w.setTrack n.val { w.track n.val with cfgPending := true }).curtain n.val).answered m 0)) ∧
  (∀ (m : Master) (n : Fin 16) (v t : Nat), Runs (.trkSchedWrite m n v t)
    (fun u => u.granted m (F.TRK_SCHED n.val) true)
    (fun u => (u.schedWrite n.val (u.rwValue (F.TRK_SCHED n.val) 0xFFFFFFFF v)).answered m 0)) ∧
  (∀ (m : Master) (n : Fin 16) (r : Fin 3) (t : Nat), Runs (.positionLowHalfRead m n r t)
    (fun u => u.granted m ((posTrk n.val).getD r.val (F.TRK_POS n.val)) false)
    (fun u => let f := (posTrk n.val).getD r.val (F.TRK_POS n.val);
              let v := ([(u.psAt n.val u.now).toNat, ((u.settle n.val u.now).track n.val).h.toNat, u.regAt f.addr 0] :
                  List Nat).getD r.val 0;
              ({ u with latch := tblPut none u.latch (m.code * 2 ^ 32 + f.addr) (some (BitVec.ofNat 32 (v / 2 ^ 32))) } :
                State).answered m (v % 2 ^ 32))) ∧
  (∀ (n : Sampled) (aLeads : Bool) (t : Nat), Runs (.encoderEdge n aLeads t)
    (fun u => u.takes n ∧ (u.track n.track.val).armed)
    (fun u => (u.edge n.track.val (u.stamp n.track.val) (decide (aLeads = (u.act (F.TRK_INPUT_DIR_INVERT n.track.val) =
      1))) 1 true).lateRun n.track.val)) ∧
  (∀ (n : Sampled) (aLeads : Bool) (t : Nat), Runs (.encoderEdge n aLeads t)
    (fun u => u.takes n ∧ !(u.track n.track.val).armed)
    (fun u => u.earlyMotion n.track.val)) ∧
  (∀ (n : Sampled) (t : Nat), Runs (.illegalQuadTransition n t)
    (fun u => u.takes n ∧ (u.track n.track.val).armed)
    (fun u => let e := u.edge n.track.val (u.stamp n.track.val) (u.track n.track.val).back 2 false;
              let e := if (e.track n.track.val).st = .acquire then e.setTrack n.track.val
                  { e.track n.track.val with acq := [], acqEdges := 0 } else e;
              ((e.markAll n.track.val (u.printingIds n.track.val) 7).raise Ev.TRK_QUAD_ERR n.track.val).lateRun
                n.track.val)) ∧
  (∀ (n : Sampled) (t : Nat), Runs (.zEdge n t)
    (fun u => u.takes n ∧ !(u.edgeComes n.track.val) ∧ (u.track n.track.val).late = [] ∧ (u.track n.track.val).armed ∧
      u.act (F.TRK_INPUT_Z_MODE n.track.val) = 1 ∧ !(u.track n.track.val).back)
    (fun u => let x := u.track n.track.val;
              let want := u.act (F.TRK_Z n.track.val);
              let e := if x.zValid ∧ want ≠ 0 ∧ x.zCount ≠ want then (u.markAll n.track.val x.firedZ 9).raise
                  Ev.TRK_Z_MISMATCH n.track.val else u;
              e.setTrack n.track.val { e.track n.track.val with zCount := 0, zValid := true, firedZ := [] })) ∧
  (∀ (n : Fin 16) (t : Nat) (e : Ps), Runs (.synthTimeout n t)
    (fun u => u.tracksOn ∧ (u.track n.val).armed ∧ (u.track n.val).lastEdge = some e ∧ e + u.timeoutPs n.val ≤ u.now ∧
      !(u.edgeComes n.val) ∧ ((u.track n.val).st = .rejoin ∨ ((u.track n.val).st = .locked ∧ 0 < u.act
      (F.TRK_COAST_DISTANCE n.val))))
    (fun u => let a := u.settle n.val u.now;
              let x := a.track n.val;
              (a.setTrack n.val
                { x with st := .coast, ps := a.psAt n.val a.now, psTime := a.now, lossCause := 1, coastUsed := if x.st =
                           .locked then 0 else x.coastUsed }).raise Ev.TRK_LOST n.val)) ∧
  (∀ (n : Fin 16) (t : Nat) (e : Ps), Runs (.synthTimeout n t)
    (fun u => u.tracksOn ∧ (u.track n.val).armed ∧ (u.track n.val).lastEdge = some e ∧ e + u.timeoutPs n.val ≤ u.now ∧
      !(u.edgeComes n.val) ∧ (u.track n.val).st = .locked ∧ u.act (F.TRK_COAST_DISTANCE n.val) = 0)
    (fun u => (u.settle n.val u.now).toAcquire n.val u.now 1)) ∧
  (∀ (n : Fin 16) (t : Nat), Runs (.trkCoastEnd n t)
    (fun u => u.tracksOn ∧ (u.track n.val).armed ∧ (u.track n.val).st = .coast ∧ !(u.edgeComes n.val) ∧ u.coastLeft n.val
      ≤ u.psMove n.val u.now)
    (fun u => ((u.settle n.val u.now).toAcquire n.val u.now 3).raise Ev.TRK_COAST_END n.val)) ∧
  (∀ (n : Sampled) (k : Fin 8) (level : Bool) (t : Nat), Runs (.cueTransition n k level t)
    (fun u => u.takes n ∧ !(u.edgeComes n.track.val) ∧ (u.track n.track.val).late = [] ∧ (u.track
      n.track.val).cueLevel.testBit k.val ≠ level ∧ tblGet none (u.track n.track.val).cues k.val = none ∧ u.cueEn
      n.track.val k.val ∧ u.act (F.TRK_CTRL_ENABLE n.track.val) = 1 ∧ level ≠ (u.track n.track.val).cueStable.testBit
      k.val)
    (fun u => let x := u.track n.track.val;
              let a := (u.setTrack n.track.val
                  { x with cueLevel := (if level then x.cueLevel ||| 2 ^ k.val else x.cueLevel &&& (255 - 2 ^ k.val))
                             }).settle n.track.val u.now;
              let y := a.track n.track.val;
              a.setTrack n.track.val
                { y with cues := tblPut none y.cues k.val (some { level, at_ := u.stamp n.track.val, pos := a.psAt n.track.val (u.stamp n.track.val), st := y.st, lockedOnce := y.lockedOnce,
                                                                            reverse := y.reverse, inhibited := a.inhibited n.track.val, inCall := decide (a.mode = 1) })
                           })) ∧
  (∀ (n : Sampled) (k : Fin 8) (level : Bool) (t : Nat) (c : CuePending), Runs (.cueTransition n k level t)
    (fun u => u.takes n ∧ !(u.edgeComes n.track.val) ∧ (u.track n.track.val).late = [] ∧ (u.track
      n.track.val).cueLevel.testBit k.val ≠ level ∧ tblGet none (u.track n.track.val).cues k.val = some c ∧ u.stamp
      n.track.val < c.at_ + u.act (F.TRK_CUE_DEBOUNCE n.track.val) * 1000000 ∧ u.cueEn n.track.val k.val ∧ u.act
      (F.TRK_CTRL_ENABLE n.track.val) = 1 ∧ level = (u.track n.track.val).cueStable.testBit k.val)
    (fun u => let x := u.track n.track.val;
              let a := u.setTrack n.track.val
                  { x with cueLevel := (if level then x.cueLevel ||| 2 ^ k.val else x.cueLevel &&& (255 - 2 ^ k.val)) };
              a.setTrack n.track.val
                { a.track n.track.val with cues := tblPut none (a.track n.track.val).cues k.val none })) ∧
  (∀ (n : Fin 16) (k : Fin 8) (t : Nat) (c : CuePending), Runs (.cueEventRecognised n k t)
    (fun u => u.tracksOn ∧ tblGet none (u.track n.val).cues k.val = some c ∧ c.at_ + u.act (F.TRK_CUE_DEBOUNCE n.val) *
      1000000 ≤ u.now ∧ (let x := (u.settle n.val u.now).track n.val;
                         let a := (u.settle n.val u.now).setTrack n.val
                             { x with cues := tblPut none x.cues k.val none, cueStable := if c.level then x.cueStable |||
                                        2 ^ k.val else x.cueStable &&& (255 - 2 ^ k.val) };
                         (c.level = a.cueEdge n.val k.val ∨ !(a.cueEn n.val k.val))))
    (fun u => let x := (u.settle n.val u.now).track n.val;
              let a := (u.settle n.val u.now).setTrack n.val
                  { x with cues := tblPut none x.cues k.val none, cueStable := if c.level then x.cueStable ||| 2 ^ k.val
                             else x.cueStable &&& (255 - 2 ^ k.val) };
              a.flushLate n.val)) ∧
  (∀ (n : Fin 16) (k : Fin 8) (t : Nat) (c : CuePending), Runs (.cueEventRecognised n k t)
    (fun u => u.tracksOn ∧ tblGet none (u.track n.val).cues k.val = some c ∧ c.at_ + u.act (F.TRK_CUE_DEBOUNCE n.val) *
      1000000 ≤ u.now ∧ (let x := (u.settle n.val u.now).track n.val;
                         let a := (u.settle n.val u.now).setTrack n.val
                             { x with cues := tblPut none x.cues k.val none, cueStable := if c.level then x.cueStable |||
                                        2 ^ k.val else x.cueStable &&& (255 - 2 ^ k.val) };
                         c.level ≠ a.cueEdge n.val k.val ∧ a.cueEn n.val k.val ∧ (a.track n.val).armed ∧ a.act
                           (F.TRK_CUE_BIND_SEL n.val) ≠ k.val ∧ !(a.cueInhibits n.val k.val)))
    (fun u => let x := (u.settle n.val u.now).track n.val;
              let a := (u.settle n.val u.now).setTrack n.val
                  { x with cues := tblPut none x.cues k.val none, cueStable := if c.level then x.cueStable ||| 2 ^ k.val
                             else x.cueStable &&& (255 - 2 ^ k.val) };
              ((a.emit (.aux n.val k.val c.pos)).raise Ev.TRK_CUE_AUX n.val).flushLate n.val)) ∧
  (∀ (n : Fin 16) (k : Fin 8) (t : Nat) (c : CuePending), Runs (.cueEventRecognised n k t)
    (fun u => u.tracksOn ∧ tblGet none (u.track n.val).cues k.val = some c ∧ c.at_ + u.act (F.TRK_CUE_DEBOUNCE n.val) *
      1000000 ≤ u.now ∧ (let x := (u.settle n.val u.now).track n.val;
                         let a := (u.settle n.val u.now).setTrack n.val
                             { x with cues := tblPut none x.cues k.val none, cueStable := if c.level then x.cueStable |||
                                        2 ^ k.val else x.cueStable &&& (255 - 2 ^ k.val) };
                         c.level ≠ a.cueEdge n.val k.val ∧ a.cueEn n.val k.val ∧ (a.track n.val).armed ∧ a.act
                           (F.TRK_CUE_BIND_SEL n.val) = k.val ∧ !c.inCall ∧ a.accepting ∧ !c.reverse ∧ !c.inhibited ∧ c.st
                           ≠ .acquire ∧ a.act (F.TRK_CUE_LOCKOUT n.val) = 0 ∧ a.mode ≠ 4))
    (fun u => let x := (u.settle n.val u.now).track n.val;
              let a := (u.settle n.val u.now).setTrack n.val
                  { x with cues := tblPut none x.cues k.val none, cueStable := if c.level then x.cueStable ||| 2 ^ k.val
                             else x.cueStable &&& (255 - 2 ^ k.val) };
              (a.productCue n.val c.pos c.at_ (decide (c.st = .coast))).flushLate n.val)) ∧
  (∀ (n : Fin 16) (k : Fin 8) (t : Nat) (c : CuePending), Runs (.cueEventRecognised n k t)
    (fun u => u.tracksOn ∧ tblGet none (u.track n.val).cues k.val = some c ∧ c.at_ + u.act (F.TRK_CUE_DEBOUNCE n.val) *
      1000000 ≤ u.now ∧ (let x := (u.settle n.val u.now).track n.val;
                         let a := (u.settle n.val u.now).setTrack n.val
                             { x with cues := tblPut none x.cues k.val none, cueStable := if c.level then x.cueStable |||
                                        2 ^ k.val else x.cueStable &&& (255 - 2 ^ k.val) };
                         c.level ≠ a.cueEdge n.val k.val ∧ a.cueEn n.val k.val ∧ (a.track n.val).armed ∧ a.act
                           (F.TRK_CUE_BIND_SEL n.val) = k.val ∧ (c.inCall ∨ !a.accepting ∨ c.reverse ∨ c.inhibited ∨ (c.st
                           = .acquire ∧ !c.lockedOnce))))
    (fun u => let x := (u.settle n.val u.now).track n.val;
              let a := (u.settle n.val u.now).setTrack n.val
                  { x with cues := tblPut none x.cues k.val none, cueStable := if c.level then x.cueStable ||| 2 ^ k.val
                             else x.cueStable &&& (255 - 2 ^ k.val) };
              (a.raise Ev.TRK_CUE_IGNORED n.val).flushLate n.val))

/-- A predicted line is announced and waits for composition or, of a corrupt item, is recorded as an understudy line; a
line whose fire position the track has reached fires, or is held back by the line spacing and fires at its end; an
item command from a box or a port record is taken into its box; a queue record that is written makes its item ready or
goes to the partner; the retry hold, the wait for a serial and pre-composition end on time; a granted flush clears the
queue or releases the hold, or goes to the partner first. (R39, R105, R113, R115, R116, R149, R157, R158, R159, R165,
R297, R518) -/
def Obligations.LinesAndItemsComplete : Prop :=
  (∀ (n : Fin 16) (t : Nat), Runs (.lineAnnounce n t)
    (fun _ => True)
    (fun u => let a := u.settle n.val u.now;
              match a.lineDue n.val with
                | none => a
                | some (l, id, ver) => let x : Line :=
                                           { track := n.val, item := l.item, c := l.c, index := l.index, fire := l.fire,
                                                  layout := id, version := ver, announced := a.now };
                                       let b := a.announceMark n.val l;
                                       if b.itemCorrupt n.val l.item then (b.formsIn x (b.headsOf n.val)).recordUnder x []
                                         else let p := b.lineFetch 4 x;
                                              (p.1.setLines (p.1.frg.lines ++ [p.2])).linesShow)) ∧
  (∀ (n : Fin 16) (t : Nat) (l : NextLine), Runs (.fireInstant n t)
    (fun u => (u.atFire n.val).fires n.val ∧ !((u.atFire n.val).reverseComes n.val) ∧ (u.atFire n.val).reached n.val =
      some l)
    (fun u => let a := u.atFire n.val;
              let k := a.track n.val;
              match k.lastFire with
                | none => a.fireLine n.val l (onGrid a.now) false
                | some b => if onGrid a.now < b + a.spacingPs n.val then a.setTrack n.val { k with overspeed := true }
                    else a.fireLine n.val l (onGrid a.now) false)) ∧
  (∀ (n : Fin 16) (t : Nat) (l : NextLine) (a : Ps), Runs (.heldLineFire n t)
    (fun u => (u.atFire n.val).fires n.val ∧ !((u.atFire n.val).reverseComes n.val) ∧ ((u.atFire n.val).track
      n.val).overspeed ∧ (u.atFire n.val).reached n.val = some l ∧ ((u.atFire n.val).track n.val).lastFire = some a ∧ a +
      (u.atFire n.val).spacingPs n.val ≤ (u.atFire n.val).now)
    (fun u => (u.atFire n.val).fireLine n.val l (a + (u.atFire n.val).spacingPs n.val) true)) ∧
  (∀ (p : Fin 2) (b : Fin 15) (seq : Nat) (payload : List Byte) (t : Nat), Runs (.itemSubmit p b seq payload t)
    (fun u => u.get (F.IZX_PORT_STATUS_STATE p.val) = 4 ∧ u.get F.PWR_STATUS_STATE = 0 ∧ u.izxMay p.val b.val (frameBlocks
      payload) ∧ u.seqDist b.val (seq % 2 ^ 32) = 1)
    (fun u => let x := u.box b.val;
              let a := (u.setBox b.val { x with slots := tblPut {} x.slots (seq % 2 ^ 32 % 256) {} }).put (F.IZX_BOX_HIGH
                  b.val) (seq % 2 ^ 32);
              a.izxStart { seq := seq % 2 ^ 32, opcode := 0x20, blocks := frameBlocks payload, port := p.val, crc :=
                              crc32c payload, payload := payload } none b.val)) ∧
  (∀ (p : Fin 2) (b : Fin 15) (seq : Nat) (payload : List Byte) (t : Nat), Runs (.itemBatch p b seq payload t)
    (fun u => u.get (F.IZX_PORT_STATUS_STATE p.val) = 4 ∧ u.get F.PWR_STATUS_STATE = 0 ∧ u.izxMay p.val b.val (frameBlocks
      payload) ∧ u.seqDist b.val (seq % 2 ^ 32) = 1)
    (fun u => let x := u.box b.val;
              let a := (u.setBox b.val { x with slots := tblPut {} x.slots (seq % 2 ^ 32 % 256) {} }).put (F.IZX_BOX_HIGH
                  b.val) (seq % 2 ^ 32);
              a.izxStart { seq := seq % 2 ^ 32, opcode := 0x21, blocks := frameBlocks payload, port := p.val, crc :=
                              crc32c payload, payload := payload } none b.val)) ∧
  (∀ (seq : Nat) (payload : List Byte) (t : Nat), Runs (.itemPortRecord seq payload t)
    (fun u => (u.box 15).isOpen ∧ (u.box 15).due.length + (u.box 15).retries.length < 16 ∧ u.cfg.swap = none ∧ u.seqDist
      15 (seq % 2 ^ 32) = 1)
    (fun u => let x := u.box 15;
              let a := (u.setBox 15 { x with slots := tblPut {} x.slots (seq % 2 ^ 32 % 256) {} }).put (F.IZX_BOX_HIGH 15)
                  (seq % 2 ^ 32);
              a.izxStart { seq := seq % 2 ^ 32, opcode := 0x20, blocks := 0, port := 0, crc := crc32c payload, payload :=
                              payload } none 15)) ∧
  (∀ (n : Fin 16) (t : Nat) (x : Item), Runs (.frgVdSerialWait n t)
    (fun u => u.serialLate n.val = some x)
    (fun u => (u.commitFail n.val x.id).raise Ev.FRG_VD_SERIAL_WAIT)) ∧
  (∀ (n : Fin 16) (t : Nat) (x : Item) (i : Nat), Runs (.queueRecordWritten n t)
    (fun u => (u.queue n.val).items.find? (fun x => x.phase = .writing) = some x ∧ u.dramOf (.record n.val x.id) = some i
      ∧ u.dramFree i)
    (fun u => let w := u.dramTake i;
              if w.mirrors then let w2 := w.modItem n.val x.id (fun y => { y with phase := .mirror w.dpx.commitSeq });
                                w2.dpxCommit 0x03 n.val (.item n.val x.id) (x.bytes n.val ++ w2.issueBytes x) else
                                  (w.modItem n.val x.id (fun y => { y with phase := .ready })).acceptReady n.val)) ∧
  (∀ (n : Fin 16) (t : Nat) (a : Ps), Runs (.retryHoldExpiry n t)
    (fun u => (u.queue n.val).holdAt = some a ∧ a + u.act (F.WQ_CFG_RETRY_HOLD n.val) * 1000000000 ≤ u.now)
    (fun u => ((u.setQueue n.val { u.queue n.val with holdAt := none }).put (F.WQ_HOLD_ID n.val) 0).put
      (F.WQ_STATUS_RETRY_HOLD n.val) 0)) ∧
  (∀ (n : Fin 16) (id t : Nat) (x : Item), Runs (.preComposeDone n id t)
    (fun u => id ≠ 0 ∧ u.item? n.val id = some x ∧ (x.phase = .head ∨ x.running) ∧ !x.delivered)
    (fun u => u.deliver n.val x)) ∧
  (∀ (n : Fin 16) (t : Nat) (v : Starve), Runs (.preComposeDone n 0 t)
    (fun u => (u.track n.val).starves.find? (fun x => !x.ready) = some v)
    (fun u => let k := u.track n.val;
              ((u.setTrack n.val
                { k with starves := k.starves.map (fun x => if x = v then { x with ready := true, readyAt := u.now } else
                           x) }).fieldEvents v.formedMarks).enginesShow)) ∧
  (∀ (m : Master) (n : Fin 16) (t : Nat), Runs (.flushAfterHead m n t)
    (fun u => u.granted m (F.WQ_FLUSH n.val) true)
    (fun u => let w := u.withReg (F.WQ_FLUSH n.val) 1;
              (let l := ((w.queue n.val).items.filter Item.committing).map Item.id;
               if w.mirrors then w.dpxCommit 0x08 n.val (.flush n.val 1 l) (leBytes 1 n.val ++ leBytes 1 1 ++ leBytes 6 0)
                 else if w.cueComes n.val then w.setQueue n.val { w.queue n.val with lateFlush := some (1, l) } else
                 w.flush n.val 1 l).answered m 0)) ∧
  (∀ (m : Master) (n : Fin 16) (t : Nat), Runs (.flushIncludingHead m n t)
    (fun u => u.granted m (F.WQ_FLUSH n.val) true)
    (fun u => let w := u.withReg (F.WQ_FLUSH n.val) 2;
              (let l := ((w.queue n.val).items.filter Item.committing).map Item.id;
               if w.mirrors then w.dpxCommit 0x08 n.val (.flush n.val 2 l) (leBytes 1 n.val ++ leBytes 1 2 ++ leBytes 6 0)
                 else if w.cueComes n.val then w.setQueue n.val { w.queue n.val with lateFlush := some (2, l) } else
                 w.flush n.val 2 l).answered m 0)) ∧
  (∀ (m : Master) (n : Fin 16) (t : Nat), Runs (.retryHoldRelease m n t)
    (fun u => u.granted m (F.WQ_FLUSH n.val) true)
    (fun u => let w := u.withReg (F.WQ_FLUSH n.val) 3;
              (((w.setQueue n.val { w.queue n.val with holdAt := none }).put (F.WQ_HOLD_ID n.val) 0).put
                (F.WQ_STATUS_RETRY_HOLD n.val) 0).answered m 0))

/-- A pipeline takes the line that comes first, its end and its handover move the line on, parity errors and deadlines
make it a fault line; a granted layout operation begins and ends; budget, pipeline, cache and tap writes are stored
and checked; the variable data engine takes an operation and ends it with its result. (R195, R197, R218, R227, R238,
R242, R243, R245, R251, R266, R267, R412) -/
def Obligations.ForgeCommandsComplete : Prop :=
  (∀ (k : Fin 8) (t : Nat) (l : Line), Runs (.forgeLineStart k t)
    (fun u => (u.get F.FRG_CTRL_PIPE_EN).testBit k.val ∧ !u.pipesBusy.testBit k.val ∧ u.accepting ∧ (u.frg.lines.filter
      u.eligible).foldl (fun b x => match b with
      | none => some x
      | some y => if u.lineBefore x y then some x else some y) none = some l)
    (fun u => (u.lineRead k.val l).linesShow)) ∧
  (∀ (k : Fin 8) (back : List TapReturn) (badEntries : List Nat) (badSets : List (Bool × Nat)) (badDelay : List Nat)
    (corrected t : Nat) (l : Line), Runs (.lineComposed k back badEntries badSets badDelay corrected t)
    (fun u => u.frg.lines.find? (fun l => match l.st with
      | .composing j _ => j = k.val
      | _ => false) = some l ∧ !u.reading l ∧ !u.lateNow l)
    (fun u => let errs := badEntries.map (fun i => (0, i)) ++ badSets.map (fun p => (if p.1 then 2 else 1, p.2)) ++
                  badDelay.map (fun i => (3, i)) ++ (List.range corrected).map (fun _ => (4, 0));
              let a := errs.foldl (fun s e => s.condError l (s.linePage l.track) e) u;
              let a : State := { a with frg := { a.frg with pipeErr := a.frg.pipeErr &&& (255 - 2 ^ (k.val % 8)) } };
              let b := a.setLine
                  { l with st := .buffered, planes := a.compose ((u.version? l.track l.layout l.version).getD {})
                             (a.printFields l).1 l.index };
              (b.linesRelease l.track back 4096).linesShow)) ∧
  (∀ (n : Fin 16) (t : Nat) (l : Line), Runs (.lineHanded n t)
    (fun u => (u.settle n.val u.now).firstLine n.val Line.out = some l ∧ !(u.settle n.val u.now).lateNow l)
    (fun u => u.lineHanded n.val)) ∧
  (∀ (k : Fin 8) (t : Nat), Runs (.forgeParityError k t)
    (fun u => (u.frg.lines.find? (fun l => match l.st with
      | .composing j _ => j = k.val
      | _ => false)).isSome)
    (fun u => let q := u.pipeParity k.val;
              if q.2 then q.1.holdEnter 3 else q.1)) ∧
  (∀ (t : Nat), Runs (.frgCacheParity t)
    (fun u => u.forgeOn)
    (fun u => (u.addSat F.FRG_CACHE_MISSES 1).raise Ev.FRG_CACHE_PARITY)) ∧
  (∀ (n : Fin 16) (read : Bool) (t : Nat) (l : Line), Runs (.lineDeadline n read t)
    (fun u => (u.settle n.val u.now).firstLine n.val (u.settle n.val u.now).lateNow = some l)
    (fun u => let a := u.settle n.val u.now;
              if a.lineDead l then a.dropLine l else a.lineFault l (a.faultCause l (a.dOf l) read) false)) ∧
  (∀ (m : Master) (t : Nat), Runs (.frgDlPop m t)
    (fun u => u.granted m F.FRG_DL_POP true)
    (fun u => (({ u with frg := { u.frg with log := u.frg.log.drop 1 } } : State).dlShow).answered m 0)) ∧
  (∀ (m : Master) (track : Fin 16) (id t : Nat), Runs (.layoutInstall m track id t)
    (fun u => u.granted m F.FRG_LAYOUT_OP true ∧ (u.withReg F.FRG_LAYOUT_OP ((layoutValue 1 track.val id))).frg.op = none
      ∧ ((u.withReg F.FRG_LAYOUT_OP ((layoutValue 1 track.val id))).accepting ∨ (u.withReg F.FRG_LAYOUT_OP ((layoutValue 1
      track.val id))).mode = 7))
    (fun u => let w := u.withReg F.FRG_LAYOUT_OP ((layoutValue 1 track.val id));
              (({ w with frg := { w.frg with op := some { op := 1, track := track.val, id := id % 2 ^ 16, addr := 256 *
                                                            w.get F.FRG_LAYOUT_ADDR, mirror := none } } } : State).put
                F.FRG_LAYOUT_RESULT_BUSY 1).answered m 0)) ∧
  (∀ (m : Master) (track : Fin 16) (id t : Nat), Runs (.layoutReplace m track id t)
    (fun u => u.granted m F.FRG_LAYOUT_OP true ∧ (u.withReg F.FRG_LAYOUT_OP ((layoutValue 2 track.val id))).frg.op = none
      ∧ ((u.withReg F.FRG_LAYOUT_OP ((layoutValue 2 track.val id))).accepting ∨ (u.withReg F.FRG_LAYOUT_OP ((layoutValue 2
      track.val id))).mode = 7))
    (fun u => let w := u.withReg F.FRG_LAYOUT_OP ((layoutValue 2 track.val id));
              (({ w with frg := { w.frg with op := some { op := 2, track := track.val, id := id % 2 ^ 16, addr := 256 *
                                                            w.get F.FRG_LAYOUT_ADDR, mirror := none } } } : State).put
                F.FRG_LAYOUT_RESULT_BUSY 1).answered m 0)) ∧
  (∀ (m : Master) (track : Fin 16) (id t : Nat), Runs (.layoutRemove m track id t)
    (fun u => u.granted m F.FRG_LAYOUT_OP true ∧ (u.withReg F.FRG_LAYOUT_OP ((layoutValue 3 track.val id))).frg.op = none)
    (fun u => let w := u.withReg F.FRG_LAYOUT_OP ((layoutValue 3 track.val id));
              (({ w with frg := { w.frg with op := some { op := 3, track := track.val, id := id % 2 ^ 16, addr := 256 *
                                                            w.get F.FRG_LAYOUT_ADDR, mirror := none } } } : State).put
                F.FRG_LAYOUT_RESULT_BUSY 1).answered m 0)) ∧
  (∀ (t : Nat) (o : LayoutOp), Runs (.layoutOpComplete t)
    (fun u => u.frg.op = some o ∧ (o.op = 3 ∨ (u.dramMay 4 o.addr 64 ∧ !u.nzc.op.any (fun p => p.op = 3))) ∧ (o.op = 1 ∨
      !u.more) ∧ o.waiting = none ∧ (o.op = 3 → u.removeFault o = none) ∧ (!u.mirrors ∨ u.layoutFails o) ∧ o.mirror =
      none)
    (fun u => (u.layoutApply o).schedHeld)) ∧
  (∀ (m : Master) (v t : Nat), Runs (.frgBudgetWrite m v t)
    (fun u => u.granted m F.FRG_BUDGET true)
    (fun u => (u.budgetWrite (u.rwValue F.FRG_BUDGET 0xFFFCFF00 v)).answered m 0)) ∧
  (∀ (m : Master) (v t : Nat), Runs (.frgCtrlWrite m v t)
    (fun u => u.granted m F.FRG_CTRL true)
    (fun u => (u.loadWrite (fun s => s.setRegAt F.FRG_CTRL.addr F.FRG_CTRL.rst (u.rwValue F.FRG_CTRL 0xFF v)) (decide
      (popCount (u.get F.FRG_CTRL_PIPE_EN) 8 ≤ popCount (u.rwValue F.FRG_CTRL 0xFF v) 8)) 4).answered m 0)) ∧
  (∀ (m : Master) (v t : Nat), Runs (.frgCacheCfgWrite m v t)
    (fun u => u.granted m F.FRG_CACHE_CFG true)
    (fun u => (u.loadWrite (fun s => s.setRegAt F.FRG_CACHE_CFG.addr F.FRG_CACHE_CFG.rst (u.rwValue F.FRG_CACHE_CFG 0xF
      v)) (decide (u.get F.FRG_CACHE_CFG_PIN_WAYS ≤ bits (u.rwValue F.FRG_CACHE_CFG 0xF v) 3 0)) 5).answered m 0)) ∧
  (∀ (m : Master) (k : Fin 8) (v t : Nat), Runs (.frgTapCtrlWrite m k v t)
    (fun u => u.granted m (F.FRG_TAP_CTRL k.val) true)
    (fun u => (u.tapWrite k.val (u.rwValue (F.FRG_TAP_CTRL k.val) 0xFFFF0003 v)).answered m 0)) ∧
  (∀ (t : Nat), Runs (.layoutRebuildDone t)
    (fun u => u.frg.rebuilding)
    (fun u => let rows := u.logRead.map (fun r => (r, u.dramBytes r.2.2.1 (min r.2.2.2 65536)));
              let good := rows.filter (fun p => descCrc p.2 = leAt p.2 32 4);
              let bad := rows.filter (fun p => descCrc p.2 ≠ leAt p.2 32 4);
              let a : State :=
                  { u with frg := { u.frg with layouts := u.frg.layouts.filter Layout.retiring, cache := [], logged := 0,
                                                 rebuilding := false } };
              let b := good.foldl (fun s p => let ly := s.measure (s.layoutAt p.1.1 p.1.2.2.1 p.2);
                                              let v := (u.frg.layouts.find? (fun l => l.track = ly.track ∧ l.id = ly.id ∧
                                                  l.addr = ly.addr ∧ !l.retiring)).map Layout.version;
                                              let ly := s.formsMade { ly with version := v.getD (s.frg.verCount + 1) };
                                              let s : State :=
                                                  { s with frg := { s.frg with layouts := s.frg.layouts ++ [ly], verCount := max s.frg.verCount ly.version }
                                                             };
                                              s.logPut (logRow 1 ly.track ly.id ly.addr ly.len)) a;
              ((bad.foldl (fun s p => s.raise Ev.FRG_LAYOUT_CORRUPT p.1.1) b).repin).frgShow)) ∧
  (∀ (m : Master) (vector : Fin 128) (t : Nat), Runs (.vdOpToWord m vector t)
    (fun u => u.granted m F.FRG_VD_OP true ∧ !u.flag F.FRG_VD_RESULT_BUSY)
    (fun u => (({ u with vd := { u.vd with op := some (1, vector.val) } } : State).put F.FRG_VD_RESULT_BUSY 1).answered m
      0)) ∧
  (∀ (m : Master) (vector : Fin 128) (t : Nat), Runs (.vdOpToBin m vector t)
    (fun u => u.granted m F.FRG_VD_OP true ∧ !u.flag F.FRG_VD_RESULT_BUSY)
    (fun u => (({ u with vd := { u.vd with op := some (2, vector.val) } } : State).put F.FRG_VD_RESULT_BUSY 1).answered m
      0)) ∧
  (∀ (m : Master) (vector : Fin 128) (t : Nat), Runs (.vdOpAdd m vector t)
    (fun u => u.granted m F.FRG_VD_OP true ∧ !u.flag F.FRG_VD_RESULT_BUSY)
    (fun u => (({ u with vd := { u.vd with op := some (3, vector.val) } } : State).put F.FRG_VD_RESULT_BUSY 1).answered m
      0)) ∧
  (∀ (m : Master) (vector : Fin 128) (t : Nat), Runs (.vdOpCompare m vector t)
    (fun u => u.granted m F.FRG_VD_OP true ∧ !u.flag F.FRG_VD_RESULT_BUSY)
    (fun u => (({ u with vd := { u.vd with op := some (4, vector.val) } } : State).put F.FRG_VD_RESULT_BUSY 1).answered m
      0)) ∧
  (∀ (t : Nat), Runs (.vdOpDone t)
    (fun u => u.vd.op.isSome)
    (fun u => u.vdDone)) ∧
  (∀ (m : Master) (k : Fin 64) (w : Fin 3) (v t : Nat), Runs (.frgVdCntWrite m k w v t)
    (fun u => u.granted m (F.FRG_VD_CNT_VAL k.val w.val) true)
    (fun u => (let f := F.FRG_VD_CNT_VAL_DIGITS k.val;
               let a := (u.keep (f w.val)).put (f w.val) (bits (u.rwValue (F.FRG_VD_CNT_VAL k.val w.val) 0xFFFFFFFFFFFF v)
                   47 0);
               if wordOk (u.vec (u.get (F.FRG_VD_CNT_CFG_VECTOR k.val))) (a.get (f 0) + 2 ^ 48 * a.get (f 1) + 2 ^ 96 *
                 a.get (f 2)) then a else u.raise Ev.FRG_VD_FIELD_FAULT).answered m 0))

/-- A granted COPY, LOAD or PREPARE begins on a shadow page that is not in use, a granted swap begins on a prepared page,
each ends with its result, a patched entry is stored and mirrored, and the map restored from the prompt book is shown.
(R325, R326, R327, R328, R330, R333) -/
def Obligations.NozzleMapCommandsComplete : Prop :=
  (∀ (m : Master) (t : Nat), Runs (.nzcOpCopy m t)
    (fun u => u.granted m F.NZC_OP true ∧ (u.withReg F.NZC_OP 1).nzc.op = none ∧ (u.withReg F.NZC_OP 1).nzReady false ∧
      (u.withReg F.NZC_OP 1).get F.NZC_STATUS_SHADOW ≠ 1 ∧ (u.withReg F.NZC_OP 1).get F.NZC_STATUS_SHADOW ≠ 3)
    (fun u => let w := u.withReg F.NZC_OP 1;
              (let x := (({ w with nzc := { w.nzc with op := some { op := 1, at_ := w.now } } } : State).put
                   F.NZC_STATUS_BUSY 1).put F.NZC_STATUS_SHADOW 0;
               if x.mirrors then x.nzMirror 1 else x).answered m 0)) ∧
  (∀ (m : Master) (t : Nat), Runs (.nzcOpLoad m t)
    (fun u => u.granted m F.NZC_OP true ∧ (u.withReg F.NZC_OP 2).nzc.op = none ∧ (u.withReg F.NZC_OP 2).nzReady false ∧
      (u.withReg F.NZC_OP 2).get F.NZC_STATUS_SHADOW ≠ 1 ∧ (u.withReg F.NZC_OP 2).get F.NZC_STATUS_SHADOW ≠ 3)
    (fun u => let w := u.withReg F.NZC_OP 2;
              (let x := (({ w with nzc := { w.nzc with op := some { op := 2, at_ := w.now } } } : State).put
                   F.NZC_STATUS_BUSY 1).put F.NZC_STATUS_SHADOW 0;
               if x.mirrors then x.nzMirror 2 else x).answered m 0)) ∧
  (∀ (m : Master) (t : Nat), Runs (.nzcOpPrepare m t)
    (fun u => u.granted m F.NZC_OP true ∧ (u.withReg F.NZC_OP 3).nzc.op = none ∧ (u.withReg F.NZC_OP 3).nzReady false ∧
      (u.withReg F.NZC_OP 3).get F.NZC_STATUS_SHADOW ≠ 1 ∧ (u.withReg F.NZC_OP 3).get F.NZC_STATUS_SHADOW ≠ 3)
    (fun u => let w := u.withReg F.NZC_OP 3;
              (let x := (({ w with nzc := { w.nzc with op := some { op := 3, at_ := w.now } } } : State).put
                   F.NZC_STATUS_BUSY 1).put F.NZC_STATUS_SHADOW 1;
               if x.mirrors then x.nzMirror 3 else x).answered m 0)) ∧
  (∀ (m : Master) (t : Nat), Runs (.nzcOpSwapLine m t)
    (fun u => u.granted m F.NZC_OP true ∧ (u.withReg F.NZC_OP 4).nzc.op = none ∧ (u.withReg F.NZC_OP 4).nzReady false ∧
      (u.withReg F.NZC_OP 4).get F.NZC_STATUS_SHADOW = 2)
    (fun u => let w := u.withReg F.NZC_OP 4;
              (let x := (({ w with nzc := { w.nzc with op := some { op := 4, at_ := w.now }, swap := some { curtain := false, switched := 0, at_ := w.now },
                                                         firstNew := 0xFFFF } } : State).put F.NZC_STATUS_BUSY 1).put
                   F.NZC_STATUS_SHADOW 3;
               let y := (List.range 16).foldl (fun s n => if s.inCurtain n then s.nzSwitch n else s) x;
               if y.nzc.op.isSome ∧ y.mirrors then y.nzMirror 4 else y).answered m 0)) ∧
  (∀ (m : Master) (t : Nat), Runs (.nzcOpSwapCurtain m t)
    (fun u => u.granted m F.NZC_OP true ∧ (u.withReg F.NZC_OP 5).nzc.op = none ∧ (u.withReg F.NZC_OP 5).nzReady false ∧
      (u.withReg F.NZC_OP 5).get F.NZC_STATUS_SHADOW = 2)
    (fun u => let w := u.withReg F.NZC_OP 5;
              (let x := (({ w with nzc := { w.nzc with op := some { op := 5, at_ := w.now }, swap := some { curtain := true, switched := 0, at_ := w.now },
                                                         firstNew := 0xFFFF } } : State).put F.NZC_STATUS_BUSY 1).put
                   F.NZC_STATUS_SHADOW 3;
               let y := (List.range 16).foldl (fun s n => if s.inCurtain n then s.nzSwitch n else s) x;
               if y.nzc.op.isSome ∧ y.mirrors then y.nzMirror 5 else y).answered m 0)) ∧
  (∀ (t : Nat) (o : NzOp), Runs (.nzcCopyDone t)
    (fun u => u.nzc.op = some o ∧ o.waiting = false ∧ o.op = 1)
    (fun u => let w := u.nzCopied;
              match w.nzc.op, o.mirror with
                | none, some q => w.dpxAck q 0x07 0
                | _, _ => w)) ∧
  (∀ (t : Nat) (o : NzOp), Runs (.nzcLoadDone t)
    (fun u => u.nzc.op = some o ∧ o.waiting = false ∧ o.op = 2 ∧ (!u.nzLoadRange ∨ u.dramMay 4 (u.get
      F.NZC_LOAD_ADDR_ADDR) 64))
    (fun u => let w := u.nzLoaded;
              match w.nzc.op, o.mirror with
                | none, some q => w.dpxAck q 0x07 0
                | _, _ => w)) ∧
  (∀ (ecc : Option Nat) (t : Nat) (o : NzOp), Runs (.nzcPrepareDone ecc t)
    (fun u => u.nzc.op = some o ∧ o.waiting = false ∧ o.op = 3)
    (fun u => let w := u.nzPrepared ecc;
              match w.nzc.op, o.mirror with
                | none, some q => w.dpxAck q 0x07 0
                | _, _ => w)) ∧
  (∀ (t : Nat) (o : NzOp), Runs (.nzcSwapped t)
    (fun u => u.nzc.op = some o ∧ o.waiting = false ∧ (o.op = 4 ∨ o.op = 5))
    (fun u => let w := u.nzSwapEnd;
              match w.nzc.op, o.mirror with
                | none, some q => w.dpxAck q 0x07 0
                | _, _ => w)) ∧
  (∀ (m : Master) (v t : Nat), Runs (.nzcPatchEntry m v t)
    (fun u => u.granted m F.NZC_PATCH_ENTRY true ∧ u.patchCode (v % 2 ^ 32) false = 0)
    (fun u => (let w := u.nzPatch (v % 2 ^ 32) false;
               let i := u.get F.NZC_PATCH_INDEX_INDEX;
               if w.mirrors then w.dpxCommit 0x07 0 (.patch i (v % 2 ^ 32)) (leBytes 1 2 ++ leBytes 7 0 ++ leBytes 4 6 ++
                 leBytes 4 i ++ leBytes 4 (v % 2 ^ 32)) else w).answered m 0)) ∧
  (∀ (t : Nat), Runs (.nzcMapRestored t)
    (fun u => u.nzc.restoring)
    (fun u => let w := u.importNozzles (u.bookSection 9);
              let w : State := { w with nzc := { w.nzc with restoring := false } };
              let w : State := { w with frg := { w.frg with layouts := w.frg.layouts.map w.formsMade } };
              ((w.put F.NZC_STATUS_SHADOW 0).put F.NZC_STATUS_MAP_SOURCE 1).raise Ev.NZC_MAP_RESTORED))

/-- A lane trains, comes up, is lost, fails or retrains by its bounds and by granted requests; a queued frame that fits
the credit leaves, FIRE blocks and FENCE frames leave, a stall is marked, and each frame from a board has its effect.
(R346, R357, R358, R360, R361, R364, R366, R368, R376, R400) -/
def Obligations.StageLanesComplete : Prop :=
  (∀ (t : Nat) (k : Fin 32), Runs (.laneDetect (.stage k) t)
    (fun u => u.laneState k.val = 1 ∧ u.flag (F.STG_QUAD_PLL_LOCKED (k.val / 4)))
    (fun u => u.setLaneState k.val 2 0)) ∧
  (∀ (board window t : Nat) (k : Fin 32), Runs (.laneAlign (.stage k) board window t)
    (fun u => u.laneState k.val = 2)
    (fun u => let x := u.lane k.val;
              let w := u.put (F.STG_LANE_BOARD k.val) (board % 2 ^ 32);
              if x.expected ≠ 0 ∧ x.expected ≠ board % 2 ^ 32 then w.laneFail k.val 3 else if window % 256 < 2 then w else
                (w.setLane k.val { x with window := 256 * (window % 256) }).setLaneState k.val 3 0)) ∧
  (∀ (latency t : Nat) (k : Fin 32), Runs (.stgLaneUp (.stage k) latency t)
    (fun u => u.laneState k.val = 3)
    (fun u => u.laneComesUp k.val)) ∧
  (∀ (t : Nat) (k : Fin 32), Runs (.laneTrainTimeout (.stage k) t)
    (fun u => u.laneState k.val = 2 ∧ (u.lane k.val).since + 200000000 ≤ u.now)
    (fun u => u.laneFail k.val 2)) ∧
  (∀ (t : Nat) (k : Fin 32), Runs (.laneAutoRetrain (.stage k) t)
    (fun u => (u.laneState k.val = 5 ∨ u.laneState k.val = 6) ∧ !(u.lane k.val).takenDown ∧ u.flag F.STG_CTRL_AUTO_RETRAIN
      ∧ u.laneNamed k.val ∧ (u.lane k.val).since + 10000000000 ≤ u.now ∧ u.mode ≠ 0 ∧ u.mode ≠ 5)
    (fun u => u.laneTrain k.val)) ∧
  (∀ (last t : Nat) (k : Fin 32), Runs (.stgLaneDown (.stage k) 0 last t)
    (fun u => u.laneUp k.val)
    (fun u => (u.setLane k.val { u.lane k.val with lastUp := max (u.lane k.val).lastUp (min last u.now) }).laneDown k.val
      8)) ∧
  (∀ (m : Master) (k : Fin 32) (t : Nat), Runs (.stgLaneOpRetrain m k t)
    (fun u => u.granted m F.STG_LANE_OP true ∧ (u.withReg F.STG_LANE_OP ((256 * k.val + 1))).laneNamed k.val ∧ (u.withReg
      F.STG_LANE_OP ((256 * k.val + 1))).mode ≠ 0 ∧ (u.withReg F.STG_LANE_OP ((256 * k.val + 1))).mode ≠ 5 ∧ (u.withReg
      F.STG_LANE_OP ((256 * k.val + 1))).mode ≠ 1)
    (fun u => let w := u.withReg F.STG_LANE_OP ((256 * k.val + 1));
              (if (w.put F.STG_OP_RESULT_CODE 0).laneState k.val = 5 ∨ (w.put F.STG_OP_RESULT_CODE 0).laneState k.val = 6
                then ((w.put F.STG_OP_RESULT_CODE 0).setLane k.val
                { (w.put F.STG_OP_RESULT_CODE 0).lane k.val with takenDown := false }).laneTrain k.val else w.put
                F.STG_OP_RESULT_CODE 0).answered m 0)) ∧
  (∀ (m : Master) (k : Fin 32) (t : Nat), Runs (.stgLaneOpTakeDown m k t)
    (fun u => u.granted m F.STG_LANE_OP true ∧ (u.withReg F.STG_LANE_OP ((256 * k.val + 2))).laneNamed k.val ∧ (u.withReg
      F.STG_LANE_OP ((256 * k.val + 2))).mode ≠ 0 ∧ (u.withReg F.STG_LANE_OP ((256 * k.val + 2))).mode ≠ 5 ∧ (u.withReg
      F.STG_LANE_OP ((256 * k.val + 2))).mode ≠ 1)
    (fun u => let w := u.withReg F.STG_LANE_OP ((256 * k.val + 2));
              (let x := (w.put F.STG_OP_RESULT_CODE 0).setLane k.val
                   { (w.put F.STG_OP_RESULT_CODE 0).lane k.val with takenDown := true };
               if x.laneUp k.val then x.laneDown k.val 0xB else x.setLaneState k.val 5 0xB).answered m 0)) ∧
  (∀ (m : Master) (k : Fin 32) (t : Nat), Runs (.stgLaneOpReturn m k t)
    (fun u => u.granted m F.STG_LANE_OP true ∧ (u.withReg F.STG_LANE_OP ((256 * k.val + 3))).laneNamed k.val ∧ (u.withReg
      F.STG_LANE_OP ((256 * k.val + 3))).mode ≠ 0 ∧ (u.withReg F.STG_LANE_OP ((256 * k.val + 3))).mode ≠ 5 ∧ (u.withReg
      F.STG_LANE_OP ((256 * k.val + 3))).mode ≠ 1)
    (fun u => let w := u.withReg F.STG_LANE_OP ((256 * k.val + 3));
              (let x := (w.put F.STG_OP_RESULT_CODE 0).setLane k.val
                   { (w.put F.STG_OP_RESULT_CODE 0).lane k.val with mayReturn := true };
               (List.range 16).foldl (fun s n => if s.inCurtain n then s.lanesReturn n else s) x).answered m 0)) ∧
  (∀ (k : Fin 32) (t : Nat) (f : Frame) (rest : List Frame), Runs (.frameSend k t)
    (fun u => (u.lane k.val).buf = f :: rest ∧ u.laneUp k.val ∧ (u.lane k.val).mayStart f ∧ u.laneRole f.track ≠ 3)
    (fun u => u.frameSend k.val)) ∧
  (∀ (k : Fin 32) (n : Fin 16) (t : Nat) (l : NextLine), Runs (.fireBlockSlot k n t)
    (fun u => u.nextFireOn k.val n.val = some l ∧ (u.predict n.val l.fire).isSome ∧ u.laneRole n.val ≠ 3 ∧ u.laneUp k.val
      ∧ (u.trackLanes n.val).contains k.val)
    (fun u => u.fireBlock k.val n.val)) ∧
  (∀ (k : Fin 32) (t : Nat) (a : Ps), Runs (.stgCreditStall k t)
    (fun u => (u.lane k.val).stalled = some a ∧ u.laneUp k.val ∧ a + 10000000 ≤ u.now ∧ !u.flag
      (F.STG_LANE_STATUS_CREDIT_STALL k.val))
    (fun u => (u.put (F.STG_LANE_STATUS_CREDIT_STALL k.val) 1).raise Ev.STG_CREDIT_STALL k.val)) ∧
  (∀ (t : Nat), Runs (.fencePeriod t)
    (fun _ => True)
    (fun u => (List.range 32).foldl (fun s k => s.fenceSend k) u)) ∧
  (∀ (k : Fin 32) (total t : Nat), Runs (.creditBlock k total t)
    (fun u => u.laneUp k.val)
    (fun u => let w := u.laneHeard k.val;
              (w.setLane k.val { w.lane k.val with credit := total % 2 ^ 32 }).laneShow k.val)) ∧
  (∀ (k : Fin 32) (h : Fin 256) (port : Bool) (key missed t : Nat), Runs (.fenceUpFrame k h port key missed t)
    (fun u => u.laneUp k.val ∧ u.headValid h.val)
    (fun u => u.fenceUp k.val h.val port (key % 2 ^ 40) (missed % 2 ^ 32))) ∧
  (∀ (k : Fin 32) (n : Fin 16) (key t : Nat), Runs (.errorFrame k n key t)
    (fun u => u.laneUp k.val)
    (fun u => let w := u.laneFrame k.val;
              let w := match ((List.range 32).flatMap (fun j => (w.lane j).fires)).find? (fun f => decide (f.track =
                  n.val) && decide (f.role = 0) && decide (lineKey f.fire = key % 2 ^ 40)) with
                  | some f => w.mark n.val f.item 15
                  | none => w;
              w.raise Ev.STG_BOARD_ERROR k.val)) ∧
  (∀ (k : Fin 32) (n : Fin 16) (id blocks verdict grade station t : Nat), Runs (.verdictFrame k n id blocks verdict grade
    station t)
    (fun u => u.laneUp k.val)
    (fun u => let w := u.laneFrame k.val;
              if blocks ≠ 1 ∨ !(w.get (F.STG_LANE_CFG_VISION_TRACKS k.val)).testBit n.val ∨ verdict % 256 > 1 ∨ (41 ≤
                grade % 256 ∧ grade % 256 ≤ 254) then w.raise Ev.STG_VERDICT_FORMAT k.val else w.verdictFor n.val (id % 2
                ^ 64) (station % 256) (verdict % 256 = 1) (grade % 256))) ∧
  (∀ (frame : Bool) (t : Nat) (k : Fin 32), Runs (.stgRxCrc (.stage k) frame t)
    (fun u => u.laneState k.val ≠ 0)
    (fun u => let w := (u.laneHeard k.val).addSat (F.STG_LANE_RX_ERR k.val) 1;
              if frame then (w.setLane k.val { w.lane k.val with crcRun := (w.lane k.val).crcRun + 1 }).raise
                Ev.STG_RX_CRC k.val else w))

/-- A lane of a link that trains moves from detection to alignment and up, is shown lost or failed with its cause, and
begins again by itself. (R346, R366, R423, R424, R426, R473, R503, R507, R511) -/
def Obligations.LinkTrainingCompletes : Prop :=
  (∀ (t : Nat) (k : Fin 4), Runs (.laneDetect (.duplex k) t)
    (fun u => u.linksOn ∧ (u.link k.val).state = 1)
    (fun u => (u.linkTo k.val 2).linkShow (.duplex k) 0)) ∧
  (∀ (board window t : Nat) (p : Fin 2), Runs (.laneAlign (.ring p) board window t)
    (fun u => u.linksOn ∧ !u.sole ∧ (u.link (4 + p.val)).state = 2)
    (fun u => (u.linkTo (4 + p.val) 3).linkShow (.ring p) 0)) ∧
  (∀ (latency t : Nat) (p : Fin 2) (k : Fin 4), Runs (.stgLaneUp (.izrex p k) latency t)
    (fun u => u.linksOn ∧ !(u.port p.val).takenDown ∧ (u.link (6 + 4 * p.val + k.val)).state = 3)
    (fun u => (u.linkTo (6 + 4 * p.val + k.val) 4).linkShow (.izrex p k) 0)) ∧
  (∀ (t : Nat) (k : Fin 4), Runs (.laneTrainTimeout (.duplex k) t)
    (fun u => u.linksOn ∧ (u.link k.val).state = 3 ∧ (u.link k.val).since + 50000000 ≤ u.now)
    (fun u => (u.linkTo k.val 6).linkShow (.duplex k) 5)) ∧
  (∀ (t : Nat) (p : Fin 2), Runs (.laneAutoRetrain (.ring p) t)
    (fun u => u.linksOn ∧ u.flag F.STG_CTRL_AUTO_RETRAIN ∧ !u.sole ∧ ((u.link (4 + p.val)).state = 5 ∨ (u.link (4 +
      p.val)).state = 6) ∧ (u.link (4 + p.val)).since + 10000000000 ≤ u.now)
    (fun u => (u.linkTo (4 + p.val) 1).linkShow (.ring p) 0)) ∧
  (∀ (cause : Fin 3) (last t : Nat) (p : Fin 2) (k : Fin 4), Runs (.stgLaneDown (.izrex p k) cause last t)
    (fun u => (u.link (6 + 4 * p.val + k.val)).state = 4)
    (fun u => (u.linkTo (6 + 4 * p.val + k.val) 5).linkShow (.izrex p k) (8 + cause.val))) ∧
  (∀ (t : Nat) (k : Fin 4), Runs (.stgRxCrc (.duplex k) true t)
    (fun u => u.flag F.DPX_STATUS_LINK_UP)
    (fun u => u.dpxNak)) ∧
  (∀ (frame : Bool) (t : Nat) (p : Fin 2), Runs (.stgRxCrc (.ring p) frame t)
    (fun u => u.portTrained p.val)
    (fun u => u.ringBad)) ∧
  (∀ (t : Nat) (p : Fin 2) (k : Fin 4), Runs (.stgRxCrc (.izrex p k) true t)
    (fun u => u.get (F.IZX_PORT_STATUS_STATE p.val) = 4)
    (fun u => (u.addSat (F.IZX_PORT_RX_ERR p.val) 1).raise Ev.IZX_RX_CRC p.val))

/-- A verdict window that closes judges the item and a reject decision is taken on time, gates start and end their pulses
at their positions and times, the staged inspection registers are written and checked, and the heartbeat toggles.
(R400, R401, R403, R408, R420) -/
def Obligations.InspectionCommandsComplete : Prop :=
  (∀ (n : Fin 16) (id t : Nat) (x : Item), Runs (.verdictWindowClose n id t)
    (fun u => u.more = false ∧ (u.settle n.val u.now).item? n.val id = some x ∧ x.phase = .fired ∧ (u.settle n.val
      u.now).awaits n.val x ∧ (u.settle n.val u.now).firedLong x ∧ posDiff ((u.settle n.val u.now).track n.val).h (x.c +
      BitVec.ofNat 60 ((u.settle n.val u.now).act (F.INS_TRK_WINDOW n.val) * 4096)) ≥ 0 ∧ !x.passedAll ((u.settle n.val
      u.now).stations n.val))
    (fun u => ((u.settle n.val u.now).closeItem n.val x true).raise Ev.INS_VERDICT_MISSING n.val)) ∧
  (∀ (n : Fin 16) (id t : Nat) (x : Item), Runs (.rejectDecisionTimer n id t)
    (fun u => u.item? n.val id = some x ∧ x.phase = .fired ∧ u.firedLong x ∧ (!u.awaits n.val x ∨ x.passedAll (u.stations
      n.val)))
    (fun u => u.closeItem n.val x false)) ∧
  (∀ (g : Fin 32) (t : Nat) (p : Pulse), Runs (.gatePulseStart g t)
    (fun u => let k := u.act (F.INS_GATE_CFG_TRACK g.val);
              let a := u.settle k u.now;
              u.more = false ∧ a.act (F.INS_GATE_CFG_EN g.val) ≠ 0 ∧ (a.undecidedAt g.val k).head? = none ∧ (a.gate
                g.val).pend.find? (fun p => posDiff (a.track k).h p.start ≥ 0) = some p)
    (fun u => let k := u.act (F.INS_GATE_CFG_TRACK g.val);
              let a := u.settle k u.now;
              let x := a.gate g.val;
              let b := a.setGate g.val
                  { x with pend := x.pend.filter (fun q => q.start ≠ p.start) ++ (x.pend.filter (fun q => q.start =
                             p.start)).drop 1 };
              if b.perfNow k ∨ b.mode = 4 then b.gatePulse g.val k (b.mode = 4) else b.addSat (F.INS_GATE_CANCELLED g.val)
                1)) ∧
  (∀ (g : Fin 32) (t : Nat) (e : Ps), Runs (.gatePulseEnd g t)
    (fun u => let a := u.settle (u.act (F.INS_GATE_CFG_TRACK g.val)) u.now;
              (a.gate g.val).endAt = some e ∧ e ≤ u.now ∧ (a.gate g.val).endPos = none)
    (fun u => let a := u.settle (u.act (F.INS_GATE_CFG_TRACK g.val)) u.now;
              (a.setGate g.val { a.gate g.val with endPos := none, endAt := none }).gateOut g.val false |>.gateApply
                g.val)) ∧
  (∀ (m : Master) (r : Fin 4) (k : Fin 32) (v t : Nat), Runs (.insCfgWrite m r k v t)
    (fun u => u.granted m (([(F.INS_TRK_CFG (k.val % 16)), (F.INS_TRK_WINDOW (k.val % 16)), (F.INS_GATE_CFG k.val),
      (F.INS_GATE_OFFSET k.val)] : List Fld).getD r.val (F.INS_TRK_CFG 0)) true)
    (fun u => let f := ([(F.INS_TRK_CFG (k.val % 16)), (F.INS_TRK_WINDOW (k.val % 16)), (F.INS_GATE_CFG k.val),
                  (F.INS_GATE_OFFSET k.val)] : List Fld).getD r.val (F.INS_TRK_CFG 0);
              let st : State → State := fun s => s.setRegAt f.addr f.rst (u.rwValue f (([0xFF0000FF, 0xFFFFFFFF,
                  0xEFFFFFFF, 0xFFFFFFFF] : List Nat).getD r.val 0) v);
              (if r.val < 2 then u.insWrite st (k.val % 16) none else u.insWrite st ((st u).get (F.INS_GATE_CFG_TRACK
                k.val)) (some k.val)).answered m 0)) ∧
  (∀ (t : Nat), Runs (.heartbeatToggle t)
    (fun u => u.beats)
    (fun u => let b := !u.dpx.beatLevel;
              ({ u with dpx := { u.dpx with beatLevel := b, beating := true } } : State).emit (.cueA b)))

/-- A HELLO, STATE or C frame of port D that comes next in order is taken: the link is up, its ACK is taken, and it has
the effect of its opcode. (R425, R426, R427, R428, R429, R431, R448) -/
def Obligations.DuplexCommitFramesComplete : Prop :=
  (∀ (seq ack : Nat) (payload : List Byte) (t : Nat), Runs (.dpxHello seq ack payload t)
    (fun u => u.dpx.configured ∧ u.phaseDone 4 ∧ seq % 2 ^ 32 = ((u.dpxHeard (seq % 2 ^ 32)).dpx.rxSeq + 1) % 2 ^ 32)
    (fun u => let a := (u.dpxHeard (seq % 2 ^ 32)).dpxAcked (ack % 2 ^ 32);
              let a : State := { a with dpx := { a.dpx with rxSeq := seq % 2 ^ 32 } };
              (a.helloRx payload).dpxReadyCheck)) ∧
  (∀ (seq ack : Nat) (payload : List Byte) (t : Nat), Runs (.dpxState seq ack payload t)
    (fun u => u.dpx.configured ∧ u.phaseDone 4 ∧ seq % 2 ^ 32 = ((u.dpxHeard (seq % 2 ^ 32)).dpx.rxSeq + 1) % 2 ^ 32)
    (fun u => let a := (u.dpxHeard (seq % 2 ^ 32)).dpxAcked (ack % 2 ^ 32);
              let a : State := { a with dpx := { a.dpx with rxSeq := seq % 2 ^ 32 } };
              (a.stateRx payload).dpxReadyCheck)) ∧
  (∀ (seq ack : Nat) (payload : List Byte) (t : Nat), Runs (.dpxItem seq ack payload t)
    (fun u => u.dpx.configured ∧ u.phaseDone 4 ∧ seq % 2 ^ 32 = ((u.dpxHeard (seq % 2 ^ 32)).dpx.rxSeq + 1) % 2 ^ 32)
    (fun u => let a := (u.dpxHeard (seq % 2 ^ 32)).dpxAcked (ack % 2 ^ 32);
              let a : State := { a with dpx := { a.dpx with rxSeq := seq % 2 ^ 32 } };
              (a.commitFrame 0x03 payload).dpxReadyCheck)) ∧
  (∀ (seq ack : Nat) (payload : List Byte) (t : Nat), Runs (.dpxAccession seq ack payload t)
    (fun u => u.dpx.configured ∧ u.phaseDone 4 ∧ seq % 2 ^ 32 = ((u.dpxHeard (seq % 2 ^ 32)).dpx.rxSeq + 1) % 2 ^ 32)
    (fun u => let a := (u.dpxHeard (seq % 2 ^ 32)).dpxAcked (ack % 2 ^ 32);
              let a : State := { a with dpx := { a.dpx with rxSeq := seq % 2 ^ 32 } };
              (a.commitFrame 0x05 payload).dpxReadyCheck)) ∧
  (∀ (seq ack : Nat) (payload : List Byte) (t : Nat), Runs (.dpxLease seq ack payload t)
    (fun u => u.dpx.configured ∧ u.phaseDone 4 ∧ seq % 2 ^ 32 = ((u.dpxHeard (seq % 2 ^ 32)).dpx.rxSeq + 1) % 2 ^ 32)
    (fun u => let a := (u.dpxHeard (seq % 2 ^ 32)).dpxAcked (ack % 2 ^ 32);
              let a : State := { a with dpx := { a.dpx with rxSeq := seq % 2 ^ 32 } };
              (a.commitFrame 0x06 payload).dpxReadyCheck)) ∧
  (∀ (seq ack : Nat) (payload : List Byte) (t : Nat), Runs (.dpxConfig seq ack payload t)
    (fun u => u.dpx.configured ∧ u.phaseDone 4 ∧ seq % 2 ^ 32 = ((u.dpxHeard (seq % 2 ^ 32)).dpx.rxSeq + 1) % 2 ^ 32)
    (fun u => let a := (u.dpxHeard (seq % 2 ^ 32)).dpxAcked (ack % 2 ^ 32);
              let a : State := { a with dpx := { a.dpx with rxSeq := seq % 2 ^ 32 } };
              (a.commitFrame 0x07 payload).dpxReadyCheck)) ∧
  (∀ (seq ack : Nat) (payload : List Byte) (t : Nat), Runs (.dpxFlush seq ack payload t)
    (fun u => u.dpx.configured ∧ u.phaseDone 4 ∧ seq % 2 ^ 32 = ((u.dpxHeard (seq % 2 ^ 32)).dpx.rxSeq + 1) % 2 ^ 32)
    (fun u => let a := (u.dpxHeard (seq % 2 ^ 32)).dpxAcked (ack % 2 ^ 32);
              let a : State := { a with dpx := { a.dpx with rxSeq := seq % 2 ^ 32 } };
              (a.commitFrame 0x08 payload).dpxReadyCheck))

/-- A port D frame without a commit record that comes next in order is taken: the link is up, its ACK is taken, and it has
the effect of its opcode. (R425, R426, R427, R434, R435, R436, R437, R452) -/
def Obligations.DuplexFramesComplete : Prop :=
  (∀ (seq ack : Nat) (payload : List Byte) (t : Nat), Runs (.dpxCommitAck seq ack payload t)
    (fun u => u.dpx.configured ∧ u.phaseDone 4 ∧ seq % 2 ^ 32 = ((u.dpxHeard (seq % 2 ^ 32)).dpx.rxSeq + 1) % 2 ^ 32)
    (fun u => let a := (u.dpxHeard (seq % 2 ^ 32)).dpxAcked (ack % 2 ^ 32);
              let a : State := { a with dpx := { a.dpx with rxSeq := seq % 2 ^ 32 } };
              (a.commitAck (payload.take 16)).dpxReadyCheck)) ∧
  (∀ (seq ack : Nat) (payload : List Byte) (t : Nat), Runs (.dpxHead seq ack payload t)
    (fun u => u.dpx.configured ∧ u.phaseDone 4 ∧ seq % 2 ^ 32 = ((u.dpxHeard (seq % 2 ^ 32)).dpx.rxSeq + 1) % 2 ^ 32)
    (fun u => let a := (u.dpxHeard (seq % 2 ^ 32)).dpxAcked (ack % 2 ^ 32);
              let a : State := { a with dpx := { a.dpx with rxSeq := seq % 2 ^ 32 } };
              (a.headRx payload).dpxReadyCheck)) ∧
  (∀ (seq ack : Nat) (payload : List Byte) (t : Nat), Runs (.dpxBind seq ack payload t)
    (fun u => u.dpx.configured ∧ u.phaseDone 4 ∧ seq % 2 ^ 32 = ((u.dpxHeard (seq % 2 ^ 32)).dpx.rxSeq + 1) % 2 ^ 32)
    (fun u => let a := (u.dpxHeard (seq % 2 ^ 32)).dpxAcked (ack % 2 ^ 32);
              let a : State := { a with dpx := { a.dpx with rxSeq := seq % 2 ^ 32 } };
              (a.bindRx payload).dpxReadyCheck)) ∧
  (∀ (seq ack : Nat) (payload : List Byte) (t : Nat), Runs (.dpxMark seq ack payload t)
    (fun u => u.dpx.configured ∧ u.phaseDone 4 ∧ seq % 2 ^ 32 = ((u.dpxHeard (seq % 2 ^ 32)).dpx.rxSeq + 1) % 2 ^ 32)
    (fun u => let a := (u.dpxHeard (seq % 2 ^ 32)).dpxAcked (ack % 2 ^ 32);
              let a : State := { a with dpx := { a.dpx with rxSeq := seq % 2 ^ 32 } };
              (a.markRx payload).dpxReadyCheck)) ∧
  (∀ (seq ack : Nat) (payload : List Byte) (t : Nat), Runs (.dpxPos seq ack payload t)
    (fun u => u.dpx.configured ∧ u.phaseDone 4 ∧ seq % 2 ^ 32 = ((u.dpxHeard (seq % 2 ^ 32)).dpx.rxSeq + 1) % 2 ^ 32)
    (fun u => let a := (u.dpxHeard (seq % 2 ^ 32)).dpxAcked (ack % 2 ^ 32);
              let a : State := { a with dpx := { a.dpx with rxSeq := seq % 2 ^ 32 } };
              (a.posRx (leAt payload 0 1) (leAt payload 4 4) (BitVec.ofNat 60 (leAt payload 8 8)) (BitVec.ofNat 60 (leAt
                payload 16 8))).dpxReadyCheck)) ∧
  (∀ (seq ack : Nat) (payload : List Byte) (t : Nat), Runs (.dpxCo seq ack payload t)
    (fun u => u.dpx.configured ∧ u.phaseDone 4 ∧ seq % 2 ^ 32 = ((u.dpxHeard (seq % 2 ^ 32)).dpx.rxSeq + 1) % 2 ^ 32)
    (fun u => let a := (u.dpxHeard (seq % 2 ^ 32)).dpxAcked (ack % 2 ^ 32);
              let a : State := { a with dpx := { a.dpx with rxSeq := seq % 2 ^ 32 } };
              (a.coFrame (leAt payload 0 1) (leAt payload 1 1)).dpxReadyCheck)) ∧
  (∀ (seq ack : Nat) (payload : List Byte) (t : Nat), Runs (.dpxCoAck seq ack payload t)
    (fun u => u.dpx.configured ∧ u.phaseDone 4 ∧ seq % 2 ^ 32 = ((u.dpxHeard (seq % 2 ^ 32)).dpx.rxSeq + 1) % 2 ^ 32)
    (fun u => let a := (u.dpxHeard (seq % 2 ^ 32)).dpxAcked (ack % 2 ^ 32);
              let a : State := { a with dpx := { a.dpx with rxSeq := seq % 2 ^ 32 } };
              (a.coAck (leAt payload 1 1)).dpxReadyCheck)) ∧
  (∀ (seq ack : Nat) (payload : List Byte) (t : Nat), Runs (.dpxNak seq ack payload t)
    (fun u => u.dpx.configured ∧ u.phaseDone 4 ∧ seq % 2 ^ 32 = ((u.dpxHeard (seq % 2 ^ 32)).dpx.rxSeq + 1) % 2 ^ 32)
    (fun u => let a := (u.dpxHeard (seq % 2 ^ 32)).dpxAcked (ack % 2 ^ 32);
              let a : State := { a with dpx := { a.dpx with rxSeq := seq % 2 ^ 32 } };
              (a.dpxNaked (leAt payload 0 4)).dpxReadyCheck)) ∧
  (∀ (seq ack : Nat) (payload : List Byte) (t : Nat), Runs (.dpxSubmitFwd seq ack payload t)
    (fun u => u.dpx.configured ∧ u.phaseDone 4 ∧ seq % 2 ^ 32 = ((u.dpxHeard (seq % 2 ^ 32)).dpx.rxSeq + 1) % 2 ^ 32)
    (fun u => let a := (u.dpxHeard (seq % 2 ^ 32)).dpxAcked (ack % 2 ^ 32);
              let a : State := { a with dpx := { a.dpx with rxSeq := seq % 2 ^ 32 } };
              (a.submitFwd payload).dpxReadyCheck)) ∧
  (∀ (seq ack : Nat) (payload : List Byte) (t : Nat), Runs (.dpxOutcomeFwd seq ack payload t)
    (fun u => u.dpx.configured ∧ u.phaseDone 4 ∧ seq % 2 ^ 32 = ((u.dpxHeard (seq % 2 ^ 32)).dpx.rxSeq + 1) % 2 ^ 32)
    (fun u => let a := (u.dpxHeard (seq % 2 ^ 32)).dpxAcked (ack % 2 ^ 32);
              let a : State := { a with dpx := { a.dpx with rxSeq := seq % 2 ^ 32 } };
              (a.outcomeFwd payload).dpxReadyCheck)) ∧
  (∀ (seq ack : Nat) (part : Sync) (t : Nat), Runs (.dpxSyncData seq ack part t)
    (fun u => u.dpx.configured ∧ u.phaseDone 4 ∧ seq % 2 ^ 32 = ((u.dpxHeard (seq % 2 ^ 32)).dpx.rxSeq + 1) % 2 ^ 32)
    (fun u => let a := (u.dpxHeard (seq % 2 ^ 32)).dpxAcked (ack % 2 ^ 32);
              let a : State := { a with dpx := { a.dpx with rxSeq := seq % 2 ^ 32 } };
              (a.syncPart part).dpxReadyCheck))

/-- The CUE pair tells of a burst, a lost lead, a fault and isolation; port D sends again, sends STATE and POS when due,
and gives up an acknowledgement that stays out; a granted request hands over or takes, and the switch happens at its
instant. (R421, R422, R426, R432, R433, R437, R441, R442, R448) -/
def Obligations.DuplexEventsComplete : Prop :=
  (∀ (t : Nat), Runs (.cueBurstRecognised t)
    (fun u => u.dpx.configured)
    (fun u => let w : State := { u with dpx := { u.dpx with cueAt := some u.now } };
              (w.put F.DPX_STATUS_CUE_OK 1).coTake 1 false)) ∧
  (∀ (t : Nat), Runs (.leadLost t)
    (fun u => u.dpx.configured ∧ u.frameSilent)
    (fun u => let s := if u.role = 2 then u.coTake 3 false else u;
              let s := s.put F.DPX_STATUS_CUE_OK 0;
              let s := if s.flag F.DPX_STATUS_ISOLATED ∧ s.role = 1 then ((s.put F.DPX_STATUS_ISOLATED 0).setRole 3).raise
                  Ev.DPX_PARTNER_LOST else s;
              s.dpxDown.dpxReadyCheck)) ∧
  (∀ (t : Nat), Runs (.dpxCueFault t)
    (fun u => u.dpx.configured ∧ !u.frameSilent)
    (fun u => (u.put F.DPX_STATUS_CUE_OK 0).raise Ev.DPX_CUE_FAULT)) ∧
  (∀ (t : Nat), Runs (.dpxIsolated t)
    (fun u => u.dpx.configured ∧ u.frameSilent)
    (fun u => (u.put F.DPX_STATUS_CUE_OK 1).isolate)) ∧
  (∀ (t : Nat) (f : Nat × Nat × List Byte) (l : List (Nat × Nat × List Byte)), Runs (.dpxResendTimer t)
    (fun u => u.dpx.unacked = f :: l ∧ u.dpx.ackAt + 4000000 ≤ u.now ∧ u.flag F.DPX_STATUS_LINK_UP)
    (fun u => u.dpxResend f.1)) ∧
  (∀ (t : Nat), Runs (.dpxIdleStateSend t)
    (fun u => u.flag F.DPX_STATUS_LINK_UP ∧ u.dpx.sentAt + 1000000 ≤ u.now)
    (fun u => u.dpxState)) ∧
  (∀ (n : Fin 16) (t : Nat), Runs (.dpxPosSend n t)
    (fun u => (u.settle n.val u.now).role = 1 ∧ ((u.settle n.val u.now).track n.val).armed)
    (fun u => let a := u.settle n.val u.now;
              let x := a.track n.val;
              let age := match x.lastEdge with
                  | some b => (a.now - b) / 625
                  | none => 2 ^ 32 - 1;
              a.dpxSend 0x0C (leBytes 1 n.val ++ leBytes 3 0 ++ leBytes 4 (min age (2 ^ 32 - 1)) ++ leBytes 8 x.pe.toNat
                ++ leBytes 8 x.h.toNat))) ∧
  (∀ (cueSilent : Bool) (t : Nat) (c : Commit) (l : List Commit), Runs (.dpxAckTimeout cueSilent t)
    (fun u => u.dpx.commits = c :: l ∧ c.at_ + u.ackPs ≤ u.now)
    (fun u => u.ackTimeout cueSilent)) ∧
  (∀ (m : Master) (t : Nat), Runs (.dpxCoHandOver m t)
    (fun u => u.granted m F.DPX_CO_REQ true ∧ (u.withReg F.DPX_CO_REQ 1).role = 1 ∧ (u.withReg F.DPX_CO_REQ 1).coEnabled 5
      ∧ (u.withReg F.DPX_CO_REQ 1).dpx.switch = none ∧ (u.withReg F.DPX_CO_REQ 1).flag F.DPX_STATUS_READY ∧ (u.withReg
      F.DPX_CO_REQ 1).mode = 3)
    (fun u => let w := u.withReg F.DPX_CO_REQ 1;
              (let x := ((w.emit .burst).dpxSend 0x0D (leBytes 1 5 ++ leBytes 1 1 ++ leBytes 6 0)).coTime;
               ({ x with dpx := { x.dpx with switch := some ⟨x.now + 2000000, false, 5, x.now⟩ } } : State).put
                 F.SYS_MODE_BUSY 1).answered m 0)) ∧
  (∀ (m : Master) (t : Nat), Runs (.dpxCoTake m t)
    (fun u => u.granted m F.DPX_CO_REQ true ∧ (u.withReg F.DPX_CO_REQ 2).role = 2 ∧ (u.withReg F.DPX_CO_REQ 2).coEnabled
      5)
    (fun u => let w := u.withReg F.DPX_CO_REQ 2;
              (let x := w.dpxSend 0x0D (leBytes 1 5 ++ leBytes 1 2 ++ leBytes 6 0);
               ({ x with dpx := { x.dpx with taking := some x.now } } : State)).answered m 0)) ∧
  (∀ (t : Nat) (a : Ps), Runs (.takeRequestTimeout t)
    (fun u => u.dpx.taking = some a ∧ a + 3000000 ≤ u.now ∧ u.dpx.switch = none)
    (fun u => ({ u with dpx := { u.dpx with taking := none } } : State).coRefuse 5 5)) ∧
  (∀ (t : Nat) (w : Switch), Runs (.switchAt t)
    (fun u => u.more = false ∧ u.dpx.switch = some w ∧ w.at_ ≤ u.now)
    (fun u => if w.primary then u.switchTake w else u.switchHand w)) ∧
  (∀ (t : Nat), Runs (.helloSend t)
    (fun u => u.dpx.configured ∧ u.resolving ∧ !u.dpx.resolved)
    (fun u => u.dpxPut 0x01 u.hello))

/-- A BEACON, CAST, CATALOGUE or TIME frame that is new, of its own size and within its hops is taken where its
destination is this seat or every seat, and passed on where it is not this seat alone; PDELAY frames are answered and
measured. (R473, R474, R475, R476, R478, R480, R482) -/
def Obligations.RingFramesComplete : Prop :=
  (∀ (p : Fin 2) (src dest seq hops : Nat) (payload : List Byte) (t : Nat), Runs (.beacon p src dest seq hops payload t)
    (fun u => u.onRing ∧ u.portTrained p.val ∧ payload.length = 112 ∧ u.ringFresh 0x01 (src % 2 ^ 16) (seq % 2 ^ 32) (hops
      % 2 ^ 16) payload)
    (fun u => let a := u.ringNoted 0x01 (src % 2 ^ 16) (seq % 2 ^ 32) payload;
              let a := if dest % 2 ^ 16 = a.seat ∨ dest % 2 ^ 16 = 0xFFFF then a.beaconRx payload else a;
              if dest % 2 ^ 16 = a.seat then a else a.ringOut (1 - p.val) 0x01 (src % 2 ^ 16) (dest % 2 ^ 16) (seq % 2 ^
                32) (hops % 2 ^ 16 + 1) (payload))) ∧
  (∀ (p : Fin 2) (src dest seq hops : Nat) (payload : List Byte) (t : Nat), Runs (.castFrame p src dest seq hops payload t)
    (fun u => u.onRing ∧ u.portTrained p.val ∧ payload.length = 72 ∧ u.ringFresh 0x02 (src % 2 ^ 16) (seq % 2 ^ 32) (hops
      % 2 ^ 16) payload)
    (fun u => let a := u.ringNoted 0x02 (src % 2 ^ 16) (seq % 2 ^ 32) payload;
              let a := if dest % 2 ^ 16 = a.seat ∨ dest % 2 ^ 16 = 0xFFFF then a.castRx payload else a;
              if dest % 2 ^ 16 = a.seat then a else a.ringOut (1 - p.val) 0x02 (src % 2 ^ 16) (dest % 2 ^ 16) (seq % 2 ^
                32) (hops % 2 ^ 16 + 1) (payload))) ∧
  (∀ (p : Fin 2) (src dest seq hops : Nat) (payload : List Byte) (t : Nat), Runs (.catalogue p src dest seq hops payload t)
    (fun u => u.onRing ∧ u.portTrained p.val ∧ payload.length = 328 ∧ u.ringFresh 0x03 (src % 2 ^ 16) (seq % 2 ^ 32) (hops
      % 2 ^ 16) payload)
    (fun u => let a := u.ringNoted 0x03 (src % 2 ^ 16) (seq % 2 ^ 32) payload;
              let a := if dest % 2 ^ 16 = a.seat ∨ dest % 2 ^ 16 = 0xFFFF then a.catalogueRx payload else a;
              if dest % 2 ^ 16 = a.seat then a else a.ringOut (1 - p.val) 0x03 (src % 2 ^ 16) (dest % 2 ^ 16) (seq % 2 ^
                32) (hops % 2 ^ 16 + 1) (payload))) ∧
  (∀ (p : Fin 2) (src dest seq hops : Nat) (payload : List Byte) (residence t : Nat), Runs (.timeFrame p src dest seq hops
    payload residence t)
    (fun u => u.onRing ∧ u.portTrained p.val ∧ payload.length = 24 ∧ u.ringFresh 0x04 (src % 2 ^ 16) (seq % 2 ^ 32) (hops
      % 2 ^ 16) payload)
    (fun u => let a := u.ringNoted 0x04 (src % 2 ^ 16) (seq % 2 ^ 32) payload;
              let a := if dest % 2 ^ 16 = a.seat ∨ dest % 2 ^ 16 = 0xFFFF then a.timeRx p.val hops payload else a;
              if dest % 2 ^ 16 = a.seat then a else a.ringOut (1 - p.val) 0x04 (src % 2 ^ 16) (dest % 2 ^ 16) (seq % 2 ^
                32) (hops % 2 ^ 16 + 1) (u.timeNext p.val residence payload))) ∧
  (∀ (p : Fin 2) (t1 t : Nat), Runs (.pdelayReq p t1 t)
    (fun u => u.onRing ∧ u.portTrained p.val)
    (fun u => let n := u.now / 625;
              u.ringPort p.val 0x06 0xFFFF (leBytes 8 t1 ++ leBytes 8 n ++ leBytes 8 n))) ∧
  (∀ (p : Fin 2) (t1 t2 t3 t : Nat), Runs (.pdelayResp p t1 t2 t3 t)
    (fun u => u.onRing ∧ u.portTrained p.val)
    (fun u => let d := ((u.now / 625 - t1) - (t3 - t2)) / 2;
              u.setMarks p.val { u.marks p.val with delays := (d :: (u.marks p.val).delays).take 64 }))

/-- A lease request, proposal, acceptance, grant, refusal, recall or reply that is new, of its own size and within its
hops is taken where its destination is this seat or every seat, and passed on where it is not this seat alone. (R474,
R475, R476, R480, R490, R493) -/
def Obligations.LeaseFramesComplete : Prop :=
  (∀ (p : Fin 2) (src dest seq hops : Nat) (payload : List Byte) (t : Nat), Runs (.leaseReq p src dest seq hops payload t)
    (fun u => u.onRing ∧ u.portTrained p.val ∧ payload.length = 8 ∧ u.ringFresh 0x07 (src % 2 ^ 16) (seq % 2 ^ 32) (hops %
      2 ^ 16) payload)
    (fun u => let a := u.ringNoted 0x07 (src % 2 ^ 16) (seq % 2 ^ 32) payload;
              let a := if dest % 2 ^ 16 = a.seat ∨ dest % 2 ^ 16 = 0xFFFF then a.leaseReqRx (src % 2 ^ 16) payload else a;
              if dest % 2 ^ 16 = a.seat then a else a.ringOut (1 - p.val) 0x07 (src % 2 ^ 16) (dest % 2 ^ 16) (seq % 2 ^
                32) (hops % 2 ^ 16 + 1) (payload))) ∧
  (∀ (p : Fin 2) (src dest seq hops : Nat) (payload : List Byte) (t : Nat), Runs (.propose p src dest seq hops payload t)
    (fun u => u.onRing ∧ u.portTrained p.val ∧ payload.length = 80 ∧ u.ringFresh 0x08 (src % 2 ^ 16) (seq % 2 ^ 32) (hops
      % 2 ^ 16) payload)
    (fun u => let a := u.ringNoted 0x08 (src % 2 ^ 16) (seq % 2 ^ 32) payload;
              let a := if dest % 2 ^ 16 = a.seat ∨ dest % 2 ^ 16 = 0xFFFF then a.proposeRx (src % 2 ^ 16) payload else a;
              if dest % 2 ^ 16 = a.seat then a else a.ringOut (1 - p.val) 0x08 (src % 2 ^ 16) (dest % 2 ^ 16) (seq % 2 ^
                32) (hops % 2 ^ 16 + 1) (payload))) ∧
  (∀ (p : Fin 2) (src dest seq hops : Nat) (payload : List Byte) (t : Nat), Runs (.accept p src dest seq hops payload t)
    (fun u => u.onRing ∧ u.portTrained p.val ∧ payload.length = 16 ∧ u.ringFresh 0x09 (src % 2 ^ 16) (seq % 2 ^ 32) (hops
      % 2 ^ 16) payload)
    (fun u => let a := u.ringNoted 0x09 (src % 2 ^ 16) (seq % 2 ^ 32) payload;
              let a := if dest % 2 ^ 16 = a.seat ∨ dest % 2 ^ 16 = 0xFFFF then a.acceptRx (src % 2 ^ 16) payload else a;
              if dest % 2 ^ 16 = a.seat then a else a.ringOut (1 - p.val) 0x09 (src % 2 ^ 16) (dest % 2 ^ 16) (seq % 2 ^
                32) (hops % 2 ^ 16 + 1) (payload))) ∧
  (∀ (p : Fin 2) (src dest seq hops : Nat) (payload : List Byte) (t : Nat), Runs (.grant p src dest seq hops payload t)
    (fun u => u.onRing ∧ u.portTrained p.val ∧ payload.length = 64 ∧ u.ringFresh 0x0A (src % 2 ^ 16) (seq % 2 ^ 32) (hops
      % 2 ^ 16) payload)
    (fun u => let a := u.ringNoted 0x0A (src % 2 ^ 16) (seq % 2 ^ 32) payload;
              let a := if dest % 2 ^ 16 = a.seat ∨ dest % 2 ^ 16 = 0xFFFF then a.grantRx payload else a;
              if dest % 2 ^ 16 = a.seat then a else a.ringOut (1 - p.val) 0x0A (src % 2 ^ 16) (dest % 2 ^ 16) (seq % 2 ^
                32) (hops % 2 ^ 16 + 1) (payload))) ∧
  (∀ (p : Fin 2) (src dest seq hops : Nat) (payload : List Byte) (t : Nat), Runs (.refuse p src dest seq hops payload t)
    (fun u => u.onRing ∧ u.portTrained p.val ∧ payload.length = 8 ∧ u.ringFresh 0x0B (src % 2 ^ 16) (seq % 2 ^ 32) (hops %
      2 ^ 16) payload)
    (fun u => let a := u.ringNoted 0x0B (src % 2 ^ 16) (seq % 2 ^ 32) payload;
              let a := if dest % 2 ^ 16 = a.seat ∨ dest % 2 ^ 16 = 0xFFFF then a.refuseRx payload else a;
              if dest % 2 ^ 16 = a.seat then a else a.ringOut (1 - p.val) 0x0B (src % 2 ^ 16) (dest % 2 ^ 16) (seq % 2 ^
                32) (hops % 2 ^ 16 + 1) (payload))) ∧
  (∀ (p : Fin 2) (src dest seq hops : Nat) (payload : List Byte) (t : Nat), Runs (.ringRecall p src dest seq hops payload t)
    (fun u => u.onRing ∧ u.portTrained p.val ∧ payload.length = 8 ∧ u.ringFresh 0x0C (src % 2 ^ 16) (seq % 2 ^ 32) (hops %
      2 ^ 16) payload)
    (fun u => let a := u.ringNoted 0x0C (src % 2 ^ 16) (seq % 2 ^ 32) payload;
              let a := if dest % 2 ^ 16 = a.seat ∨ dest % 2 ^ 16 = 0xFFFF then a.recallRx (src % 2 ^ 16) payload else a;
              if dest % 2 ^ 16 = a.seat then a else a.ringOut (1 - p.val) 0x0C (src % 2 ^ 16) (dest % 2 ^ 16) (seq % 2 ^
                32) (hops % 2 ^ 16 + 1) (payload))) ∧
  (∀ (p : Fin 2) (src dest seq hops : Nat) (payload : List Byte) (t : Nat), Runs (.recallReply p src dest seq hops payload t)
    (fun u => u.onRing ∧ u.portTrained p.val ∧ payload.length = 264 ∧ u.ringFresh 0x0D (src % 2 ^ 16) (seq % 2 ^ 32) (hops
      % 2 ^ 16) payload)
    (fun u => let a := u.ringNoted 0x0D (src % 2 ^ 16) (seq % 2 ^ 32) payload;
              let a := if dest % 2 ^ 16 = a.seat ∨ dest % 2 ^ 16 = 0xFFFF then a.recallReplyRx (src % 2 ^ 16) payload else
                  a;
              if dest % 2 ^ 16 = a.seat then a else a.ringOut (1 - p.val) 0x0D (src % 2 ^ 16) (dest % 2 ^ 16) (seq % 2 ^
                32) (hops % 2 ^ 16 + 1) (payload)))

/-- A member sends its BEACON, a keeper CAST, CATALOGUE and TIME, each port PDELAY_REQ; the bounds on the keeper, the
quorum, proposals, requests and house time take their effect; a granted time operation sets, steps or slews house
time. (R476, R479, R480, R485, R486, R487, R493) -/
def Obligations.CompanyTimersComplete : Prop :=
  (∀ (t : Nat), Runs (.beaconSend t)
    (fun u => u.onRing)
    (fun u => let w := u.ringSend 0x01 0xFFFF u.beacon;
              (if w.cmp.keeper then w.quorumCheck else w).electionCheck)) ∧
  (∀ (t : Nat), Runs (.castSend t)
    (fun u => u.cmp.keeper ∧ u.onRing)
    (fun u => (u.castSend.quorumCheck).companyTry)) ∧
  (∀ (t : Nat), Runs (.catalogueSend t)
    (fun u => u.cmp.keeper ∧ u.onRing)
    (fun u => u.catalogueSend)) ∧
  (∀ (t : Nat), Runs (.timeSend t)
    (fun u => u.cmp.keeper ∧ u.onRing)
    (fun u => let fl := bit (!u.house.set) + 2 * bit (u.now < u.cmp.steppedUntil);
              u.ringSend 0x04 0xFFFF (leBytes 8 u.houseNs ++ leBytes 8 0 ++ leBytes 4 u.promised ++ leBytes 1 fl ++
                leBytes 3 0))) ∧
  (∀ (p : Fin 2) (t : Nat), Runs (.pdelaySend p t)
    (fun u => u.onRing)
    (fun u => u.ringPort p.val 0x05 0xFFFF (leBytes 8 (u.now / 625)))) ∧
  (∀ (t : Nat), Runs (.keeperLost t)
    (fun u => u.onRing ∧ u.keeperLost)
    (fun u => ({ u with cmp := { u.cmp with election := none } } : State).electionCheck)) ∧
  (∀ (t : Nat), Runs (.cmpQuorumLost t)
    (fun u => u.onRing ∧ !u.hasQuorum)
    (fun u => u.setQuorum false)) ∧
  (∀ (t : Nat) (q : Proposal), Runs (.leaseProposalTimeout t)
    (fun u => u.cmp.proposals.find? (fun q => q.sent ∧ q.at_ + u.leasePs ≤ u.now) = some q)
    (fun u => let w : State := { u with cmp := { u.cmp with proposals := u.cmp.proposals.filter (fun r => r ≠ q) } };
              if q.lease.holder = w.seat then let x := w.leaseRefused q.lease.series 4;
                                              x.leaseCheck q.lease.series x.drawn else w.ringSend 0x0B q.lease.holder
                                                (leBytes 4 q.lease.txn ++ leBytes 1 q.lease.series ++ leBytes 1 4 ++
                                                leBytes 2 0))) ∧
  (∀ (k : Fin 256) (t : Nat) (w : LeaseWait), Runs (.leaseRequestTimeout k t)
    (fun u => u.leaseWait k.val = some w ∧ w.at_ + 2 * u.leasePs ≤ u.now)
    (fun u => u.requestTimeout k.val)) ∧
  (∀ (t c : Nat), Runs (.cmpHoldover t)
    (fun u => u.more = false ∧ u.holdoverCause = some c ∧ u.cmp.holdoverAt = none)
    (fun u => let e := if u.house.set then u.eSync else 0;
              let w : State :=
                  { u with cmp := { u.cmp with holdoverAt := some u.now, holdE := e, returnRun := 0, holdLimitRaised :=
                                                 false } };
              let w := (w.put F.CMP_STATUS_HOLDOVER 1).put F.CMP_STATUS_HOLD_CAUSE c;
              (w.houseDrift (w.get F.CMP_TIME_CFG_HOLD_PPB)).raise Ev.CMP_HOLDOVER)) ∧
  (∀ (t : Nat), Runs (.cmpHoldLimit t)
    (fun u => u.cmp.holdoverAt.isSome ∧ !u.cmp.holdLimitRaised ∧ u.get F.CMP_HOLD_LIMIT * 1000000 < u.timeBound)
    (fun u => ({ u with cmp := { u.cmp with holdLimitRaised := true } } : State).raise Ev.CMP_HOLD_LIMIT)) ∧
  (∀ (m : Master) (t : Nat), Runs (.cmpTimeOpSet m t)
    (fun u => u.granted m F.CMP_TIME_OP true ∧ (u.withReg F.CMP_TIME_OP 1).cmp.keeper)
    (fun u => let w := u.withReg F.CMP_TIME_OP 1;
              (if w.house.set then w.houseSlew (((w.get F.CMP_TIME_SET * 1000 : Nat) : Int) - w.house.at w.now) else
                w.houseStep (w.get F.CMP_TIME_SET * 1000)).answered m 0)) ∧
  (∀ (m : Master) (t : Nat), Runs (.cmpTimeOpStep m t)
    (fun u => u.granted m F.CMP_TIME_OP true ∧ (u.withReg F.CMP_TIME_OP 2).cmp.keeper)
    (fun u => let w := u.withReg F.CMP_TIME_OP 2;
              (let x := (w.houseStep (w.get F.CMP_TIME_SET * 1000)).raise Ev.CMP_TIME_STEP;
               ({ x with cmp := { x.cmp with steppedUntil := x.now + 1000000000000 } } : State)).answered m 0))

/-- An entry that is written, or given up, has its effect, an erase that ends empties the log, and a granted RESEAL clears
the fault. (R465, R467, R468, R472) -/
def Obligations.LedgerCommandsComplete : Prop :=
  (∀ (fails t : Nat) (r : LdgReq), Runs (.ledgerEntryWritten fails true t)
    (fun u => (u.ldgWrite fails).2 = some r ∧ fails < 3)
    (fun u => (u.ldgWrite fails).1.entryEffect r)) ∧
  (∀ (t : Nat), Runs (.ledgerEraseDone t)
    (fun u => u.ldg.queue = [] ∧ !u.sys.earlyWarning)
    (fun u => u.ldgErased)) ∧
  (∀ (m : Master) (t : Nat), Runs (.ldgReseal m t)
    (fun u => u.granted m F.LDG_RESEAL true ∧ (u.withReg F.LDG_RESEAL 0x5EA1).flag F.LDG_STATUS_LOG_FAULT ∧ !(u.withReg
      F.LDG_RESEAL 0x5EA1).ldg.resealing)
    (fun u => let w := u.withReg F.LDG_RESEAL 0x5EA1;
              (let own := w.leases.filter (fun l => !l.partner ∧ (l.state = 1 ∨ l.state = 2));
               let x := own.foldl (fun s l => (s.leaseState l 4).raise Ev.LDG_LEASE_ABANDONED) w;
               ({ x with ldg := { x.ldg with resealing := true } } : State).ldgRequest (.reseal own.length)
                 .resealDone).answered m 0))

/-- A port retrains or is taken down, a box opens, closes, ends its hold, answers a NOP; a bad frame is counted. (R507,
R508, R511, R512, R513, R516, R533) -/
def Obligations.IzrexLinkComplete : Prop :=
  (∀ (p : Fin 2) (lanes : Fin 16) (t : Nat), Runs (.izxPortRetrain p lanes t)
    (fun u => u.linksOn ∧ !(u.port p.val).takenDown ∧ u.get (F.IZX_PORT_STATUS_STATE p.val) ≠ 0)
    (fun u => ((List.range 4).foldl (fun s k => s.linkTo (6 + 4 * p.val + k) (if lanes.val.testBit k then 4 else 5))
      u).izrexShow p.val 8)) ∧
  (∀ (p : Fin 2) (t : Nat), Runs (.izxPortAutoRetrain p t)
    (fun u => u.linksOn ∧ u.flag F.IZX_CTRL_AUTO_RETRAIN ∧ !(u.port p.val).takenDown ∧ (u.get (F.IZX_PORT_STATUS_STATE
      p.val) = 5 ∨ u.get (F.IZX_PORT_STATUS_STATE p.val) = 6) ∧ (u.port p.val).since + 10000000000 ≤ u.now)
    (fun u => u.portTrain p.val)) ∧
  (∀ (m : Master) (p : Fin 2) (t : Nat), Runs (.izxPortOpRetrain m p t)
    (fun u => u.granted m F.IZX_PORT_OP true ∧ (u.withReg F.IZX_PORT_OP ((256 * p.val + 1))).phaseDone 4)
    (fun u => let w := u.withReg F.IZX_PORT_OP ((256 * p.val + 1));
              (let x := w.setPort p.val { w.port p.val with takenDown := false };
               if w.get (F.IZX_PORT_STATUS_STATE p.val) = 4 then (x.portDown p.val 0).portTrain p.val else x.portTrain
                 p.val).answered m 0)) ∧
  (∀ (m : Master) (p : Fin 2) (t : Nat), Runs (.izxPortOpTakeDown m p t)
    (fun u => u.granted m F.IZX_PORT_OP true ∧ (u.withReg F.IZX_PORT_OP ((256 * p.val + 2))).phaseDone 4)
    (fun u => let w := u.withReg F.IZX_PORT_OP ((256 * p.val + 2));
              (let x := (List.range 4).foldl (fun s k => s.linkTo (6 + 4 * p.val + k) 5) w;
               (x.setPort p.val { x.port p.val with takenDown := true }).portDown p.val 0xB).answered m 0)) ∧
  (∀ (m : Master) (b : Fin 16) (t : Nat), Runs (.izxBoxOpClose m b t)
    (fun u => u.granted m F.IZX_BOX_OP true ∧ b.val < 15)
    (fun u => let w := u.withReg F.IZX_BOX_OP ((256 * b.val + 1));
              (w.boxEnd b.val none).answered m 0)) ∧
  (∀ (p : Fin 2) (command : Bool) (b : Fin 16) (blocks t : Nat), Runs (.izxRxCrc p command b blocks t)
    (fun u => u.get (F.IZX_PORT_STATUS_STATE p.val) = 4)
    (fun u => let w := u.izxBadFrame p.val;
              if command ∧ (w.box b.val).isOpen then w.setBox b.val
                { w.box b.val with freed := ((w.box b.val).freed + blocks) % 2 ^ 32 } else w)) ∧
  (∀ (p : Fin 2) (b : Fin 16) (host start : Nat) (force : Bool) (t : Nat), Runs (.openBox p b host start force t)
    (fun u => u.get (F.IZX_PORT_STATUS_STATE p.val) = 4 ∧ b.val < 15 ∧ !u.boxBare b.val ∧ (u.boxPorts b.val).testBit p.val
      ∧ !(u.promptDone ∧ (u.box b.val).hostReq ≠ 0 ∧ (u.box b.val).hostReq ≠ host % 2 ^ 64) ∧ !(u.box b.val).isOpen)
    (fun u => let x := u.box b.val;
              let w := ((u.setBox b.val { hostReq := x.hostReq, isOpen := true, port := p.val }).put (F.IZX_BOX_HIGH
                  b.val) ((start % 2 ^ 32 + (2 ^ 32 - 1)) % 2 ^ 32)).put (F.IZX_BOX_EVT_SEQ b.val) 0;
              let w := (w.put (F.IZX_BOX_HOST b.val) (host % 2 ^ 64)).boxShow b.val;
              let w := w.emit (.linkResp p.val b.val 0x70 0 (w.box b.val).freed (leBytes 8 Config.deviceId ++ leBytes 4
                  (w.get F.IZX_BOOT_TAG) ++ leBytes 4 (w.get (F.IZX_BOX_HIGH b.val)) ++ leBytes 2 (w.boxCredits b.val) ++
                  leBytes 1 p.val ++ leBytes 1 0 ++ leBytes 4 0));
              w.raise Ev.IZX_BOX_OPENED b.val)) ∧
  (∀ (p : Fin 2) (b : Fin 16) (t : Nat), Runs (.closeBox p b t)
    (fun u => u.get (F.IZX_PORT_STATUS_STATE p.val) = 4 ∧ u.openOn p.val b.val)
    (fun u => u.boxEnd b.val (some p.val))) ∧
  (∀ (p : Fin 2) (b : Fin 16) (t : Nat), Runs (.nop p b t)
    (fun u => u.get (F.IZX_PORT_STATUS_STATE p.val) = 4)
    (fun u => u.emit (.linkResp p.val b.val 0x72 (if u.openOn p.val b.val then 0 else 0xB) (u.box b.val).freed []))) ∧
  (∀ (b : Fin 16) (t : Nat), Runs (.boxHoldExpiry b t)
    (fun u => (u.box b.val).isOpen ∧ (u.box b.val).held ∧ (u.box b.val).heldAt + max 1 (u.get F.IZX_CTRL_BOX_HOLD) * 10 ^
      12 ≤ u.now)
    (fun u => u.boxEnd b.val none))

/-- A command that comes next in order on an open box with credit is taken: its slot and SEQ are noted and it starts; the
completion of its DRAM write or erase ends it. (R511, R516, R517, R518, R519, R520, R524, R525, R526) -/
def Obligations.IzrexCommandsComplete : Prop :=
  (∀ (p : Fin 2) (b : Fin 16) (seq : Nat) (payload : List Byte) (t : Nat), Runs (.regRead p b seq payload t)
    (fun u => payload.length ≤ 4160 ∧ u.get (F.IZX_PORT_STATUS_STATE p.val) = 4 ∧ u.get F.PWR_STATUS_STATE = 0 ∧ u.izxMay
      p.val b.val (frameBlocks payload) ∧ u.seqDist b.val (seq % 2 ^ 32) = 1)
    (fun u => let x := u.box b.val;
              let a := (u.setBox b.val { x with slots := tblPut {} x.slots (seq % 2 ^ 32 % 256) {} }).put (F.IZX_BOX_HIGH
                  b.val) (seq % 2 ^ 32);
              a.izxStart { seq := seq % 2 ^ 32, opcode := 0x01, blocks := frameBlocks payload, port := p.val, crc :=
                              crc32c payload, payload := payload } none b.val)) ∧
  (∀ (p : Fin 2) (b : Fin 16) (seq : Nat) (payload : List Byte) (t : Nat), Runs (.regWrite p b seq payload t)
    (fun u => payload.length ≤ 4160 ∧ u.get (F.IZX_PORT_STATUS_STATE p.val) = 4 ∧ u.get F.PWR_STATUS_STATE = 0 ∧ u.izxMay
      p.val b.val (frameBlocks payload) ∧ u.seqDist b.val (seq % 2 ^ 32) = 1)
    (fun u => let x := u.box b.val;
              let a := (u.setBox b.val { x with slots := tblPut {} x.slots (seq % 2 ^ 32 % 256) {} }).put (F.IZX_BOX_HIGH
                  b.val) (seq % 2 ^ 32);
              a.izxStart { seq := seq % 2 ^ 32, opcode := 0x02, blocks := frameBlocks payload, port := p.val, crc :=
                              crc32c payload, payload := payload } none b.val)) ∧
  (∀ (p : Fin 2) (b : Fin 16) (seq : Nat) (payload : List Byte) (t : Nat), Runs (.dramWrite p b seq payload t)
    (fun u => payload.length ≤ 4160 ∧ u.get (F.IZX_PORT_STATUS_STATE p.val) = 4 ∧ u.get F.PWR_STATUS_STATE = 0 ∧ u.izxMay
      p.val b.val (frameBlocks payload) ∧ u.seqDist b.val (seq % 2 ^ 32) = 1)
    (fun u => let x := u.box b.val;
              let a := (u.setBox b.val { x with slots := tblPut {} x.slots (seq % 2 ^ 32 % 256) {} }).put (F.IZX_BOX_HIGH
                  b.val) (seq % 2 ^ 32);
              a.izxStart { seq := seq % 2 ^ 32, opcode := 0x10, blocks := frameBlocks payload, port := p.val, crc :=
                              crc32c payload, payload := payload } none b.val)) ∧
  (∀ (p : Fin 2) (b : Fin 16) (seq : Nat) (payload : List Byte) (t : Nat), Runs (.dramRead p b seq payload t)
    (fun u => payload.length ≤ 4160 ∧ u.get (F.IZX_PORT_STATUS_STATE p.val) = 4 ∧ u.get F.PWR_STATUS_STATE = 0 ∧ u.izxMay
      p.val b.val (frameBlocks payload) ∧ u.seqDist b.val (seq % 2 ^ 32) = 1)
    (fun u => let x := u.box b.val;
              let a := (u.setBox b.val { x with slots := tblPut {} x.slots (seq % 2 ^ 32 % 256) {} }).put (F.IZX_BOX_HIGH
                  b.val) (seq % 2 ^ 32);
              a.izxStart { seq := seq % 2 ^ 32, opcode := 0x11, blocks := frameBlocks payload, port := p.val, crc :=
                              crc32c payload, payload := payload } none b.val)) ∧
  (∀ (p : Fin 2) (b : Fin 16) (seq : Nat) (payload : List Byte) (t : Nat), Runs (.itemQuery p b seq payload t)
    (fun u => payload.length ≤ 4160 ∧ u.get (F.IZX_PORT_STATUS_STATE p.val) = 4 ∧ u.get F.PWR_STATUS_STATE = 0 ∧ u.izxMay
      p.val b.val (frameBlocks payload) ∧ u.seqDist b.val (seq % 2 ^ 32) = 1)
    (fun u => let x := u.box b.val;
              let a := (u.setBox b.val { x with slots := tblPut {} x.slots (seq % 2 ^ 32 % 256) {} }).put (F.IZX_BOX_HIGH
                  b.val) (seq % 2 ^ 32);
              a.izxStart { seq := seq % 2 ^ 32, opcode := 0x22, blocks := frameBlocks payload, port := p.val, crc :=
                              crc32c payload, payload := payload } none b.val)) ∧
  (∀ (p : Fin 2) (b : Fin 16) (seq : Nat) (payload : List Byte) (t : Nat), Runs (.trackQuery p b seq payload t)
    (fun u => payload.length ≤ 4160 ∧ u.get (F.IZX_PORT_STATUS_STATE p.val) = 4 ∧ u.get F.PWR_STATUS_STATE = 0 ∧ u.izxMay
      p.val b.val (frameBlocks payload) ∧ u.seqDist b.val (seq % 2 ^ 32) = 1)
    (fun u => let x := u.box b.val;
              let a := (u.setBox b.val { x with slots := tblPut {} x.slots (seq % 2 ^ 32 % 256) {} }).put (F.IZX_BOX_HIGH
                  b.val) (seq % 2 ^ 32);
              a.izxStart { seq := seq % 2 ^ 32, opcode := 0x23, blocks := frameBlocks payload, port := p.val, crc :=
                              crc32c payload, payload := payload } none b.val)) ∧
  (∀ (p : Fin 2) (b : Fin 16) (seq : Nat) (payload : List Byte) (t : Nat), Runs (.subscribe p b seq payload t)
    (fun u => payload.length ≤ 4160 ∧ u.get (F.IZX_PORT_STATUS_STATE p.val) = 4 ∧ u.get F.PWR_STATUS_STATE = 0 ∧ u.izxMay
      p.val b.val (frameBlocks payload) ∧ u.seqDist b.val (seq % 2 ^ 32) = 1)
    (fun u => let x := u.box b.val;
              let a := (u.setBox b.val { x with slots := tblPut {} x.slots (seq % 2 ^ 32 % 256) {} }).put (F.IZX_BOX_HIGH
                  b.val) (seq % 2 ^ 32);
              a.izxStart { seq := seq % 2 ^ 32, opcode := 0x40, blocks := frameBlocks payload, port := p.val, crc :=
                              crc32c payload, payload := payload } none b.val)) ∧
  (∀ (p : Fin 2) (b : Fin 16) (seq : Nat) (payload : List Byte) (t : Nat), Runs (.seriesQuery p b seq payload t)
    (fun u => payload.length ≤ 4160 ∧ u.get (F.IZX_PORT_STATUS_STATE p.val) = 4 ∧ u.get F.PWR_STATUS_STATE = 0 ∧ u.izxMay
      p.val b.val (frameBlocks payload) ∧ u.seqDist b.val (seq % 2 ^ 32) = 1)
    (fun u => let x := u.box b.val;
              let a := (u.setBox b.val { x with slots := tblPut {} x.slots (seq % 2 ^ 32 % 256) {} }).put (F.IZX_BOX_HIGH
                  b.val) (seq % 2 ^ 32);
              a.izxStart { seq := seq % 2 ^ 32, opcode := 0x50, blocks := frameBlocks payload, port := p.val, crc :=
                              crc32c payload, payload := payload } none b.val)) ∧
  (∀ (p : Fin 2) (b : Fin 16) (seq : Nat) (payload : List Byte) (t : Nat), Runs (.sceneDataBegin p b seq payload t)
    (fun u => (leBytes 1 0 ++ payload).length ≤ 4160 ∧ u.get (F.IZX_PORT_STATUS_STATE p.val) = 4 ∧ u.get
      F.PWR_STATUS_STATE = 0 ∧ u.izxMay p.val b.val (frameBlocks (leBytes 1 0 ++ payload)) ∧ u.seqDist b.val (seq % 2 ^
      32) = 1)
    (fun u => let x := u.box b.val;
              let a := (u.setBox b.val { x with slots := tblPut {} x.slots (seq % 2 ^ 32 % 256) {} }).put (F.IZX_BOX_HIGH
                  b.val) (seq % 2 ^ 32);
              a.izxStart { seq := seq % 2 ^ 32, opcode := 0x30, blocks := frameBlocks (leBytes 1 0 ++ payload), port :=
                              p.val, crc := crc32c (leBytes 1 0 ++ payload), payload := (leBytes 1 0 ++ payload) } none
                b.val)) ∧
  (∀ (p : Fin 2) (b : Fin 16) (seq : Nat) (payload : List Byte) (t : Nat), Runs (.promptDataBegin p b seq payload t)
    (fun u => (leBytes 1 0 ++ payload).length ≤ 4160 ∧ u.get (F.IZX_PORT_STATUS_STATE p.val) = 4 ∧ u.get
      F.PWR_STATUS_STATE = 0 ∧ u.izxMay p.val b.val (frameBlocks (leBytes 1 0 ++ payload)) ∧ u.seqDist b.val (seq % 2 ^
      32) = 1)
    (fun u => let x := u.box b.val;
              let a := (u.setBox b.val { x with slots := tblPut {} x.slots (seq % 2 ^ 32 % 256) {} }).put (F.IZX_BOX_HIGH
                  b.val) (seq % 2 ^ 32);
              a.izxStart { seq := seq % 2 ^ 32, opcode := 0x31, blocks := frameBlocks (leBytes 1 0 ++ payload), port :=
                              p.val, crc := crc32c (leBytes 1 0 ++ payload), payload := (leBytes 1 0 ++ payload) } none
                b.val)) ∧
  (∀ (p : Fin 2) (b : Fin 16) (seq : Nat) (payload : List Byte) (t : Nat), Runs (.sceneDataChunk p b seq payload t)
    (fun u => (leBytes 1 1 ++ payload).length ≤ 4160 ∧ u.get (F.IZX_PORT_STATUS_STATE p.val) = 4 ∧ u.get
      F.PWR_STATUS_STATE = 0 ∧ u.izxMay p.val b.val (frameBlocks (leBytes 1 1 ++ payload)) ∧ u.seqDist b.val (seq % 2 ^
      32) = 1)
    (fun u => let x := u.box b.val;
              let a := (u.setBox b.val { x with slots := tblPut {} x.slots (seq % 2 ^ 32 % 256) {} }).put (F.IZX_BOX_HIGH
                  b.val) (seq % 2 ^ 32);
              a.izxStart { seq := seq % 2 ^ 32, opcode := 0x30, blocks := frameBlocks (leBytes 1 1 ++ payload), port :=
                              p.val, crc := crc32c (leBytes 1 1 ++ payload), payload := (leBytes 1 1 ++ payload) } none
                b.val)) ∧
  (∀ (p : Fin 2) (b : Fin 16) (seq : Nat) (payload : List Byte) (t : Nat), Runs (.promptDataChunk p b seq payload t)
    (fun u => (leBytes 1 1 ++ payload).length ≤ 4160 ∧ u.get (F.IZX_PORT_STATUS_STATE p.val) = 4 ∧ u.get
      F.PWR_STATUS_STATE = 0 ∧ u.izxMay p.val b.val (frameBlocks (leBytes 1 1 ++ payload)) ∧ u.seqDist b.val (seq % 2 ^
      32) = 1)
    (fun u => let x := u.box b.val;
              let a := (u.setBox b.val { x with slots := tblPut {} x.slots (seq % 2 ^ 32 % 256) {} }).put (F.IZX_BOX_HIGH
                  b.val) (seq % 2 ^ 32);
              a.izxStart { seq := seq % 2 ^ 32, opcode := 0x31, blocks := frameBlocks (leBytes 1 1 ++ payload), port :=
                              p.val, crc := crc32c (leBytes 1 1 ++ payload), payload := (leBytes 1 1 ++ payload) } none
                b.val)) ∧
  (∀ (p : Fin 2) (b : Fin 16) (seq : Nat) (payload : List Byte) (t : Nat), Runs (.sceneDataEnd p b seq payload t)
    (fun u => (leBytes 1 2 ++ payload).length ≤ 4160 ∧ u.get (F.IZX_PORT_STATUS_STATE p.val) = 4 ∧ u.get
      F.PWR_STATUS_STATE = 0 ∧ u.izxMay p.val b.val (frameBlocks (leBytes 1 2 ++ payload)) ∧ u.seqDist b.val (seq % 2 ^
      32) = 1)
    (fun u => let x := u.box b.val;
              let a := (u.setBox b.val { x with slots := tblPut {} x.slots (seq % 2 ^ 32 % 256) {} }).put (F.IZX_BOX_HIGH
                  b.val) (seq % 2 ^ 32);
              a.izxStart { seq := seq % 2 ^ 32, opcode := 0x30, blocks := frameBlocks (leBytes 1 2 ++ payload), port :=
                              p.val, crc := crc32c (leBytes 1 2 ++ payload), payload := (leBytes 1 2 ++ payload) } none
                b.val)) ∧
  (∀ (p : Fin 2) (b : Fin 16) (seq : Nat) (payload : List Byte) (t : Nat), Runs (.promptDataEnd p b seq payload t)
    (fun u => (leBytes 1 2 ++ payload).length ≤ 4160 ∧ u.get (F.IZX_PORT_STATUS_STATE p.val) = 4 ∧ u.get
      F.PWR_STATUS_STATE = 0 ∧ u.izxMay p.val b.val (frameBlocks (leBytes 1 2 ++ payload)) ∧ u.seqDist b.val (seq % 2 ^
      32) = 1)
    (fun u => let x := u.box b.val;
              let a := (u.setBox b.val { x with slots := tblPut {} x.slots (seq % 2 ^ 32 % 256) {} }).put (F.IZX_BOX_HIGH
                  b.val) (seq % 2 ^ 32);
              a.izxStart { seq := seq % 2 ^ 32, opcode := 0x31, blocks := frameBlocks (leBytes 1 2 ++ payload), port :=
                              p.val, crc := crc32c (leBytes 1 2 ++ payload), payload := (leBytes 1 2 ++ payload) } none
                b.val)) ∧
  (∀ (b : Fin 16) (seq t i : Nat) (r : DramReq), Runs (.dramWriteDone b seq t)
    (fun u => u.dramOf (.bulk b.val (seq % 2 ^ 32)) = some i ∧ u.dreq[i]? = some r ∧ u.dramFree i ∧ !(u.dramBarred
      (u.dreq.set i { r with since := u.now }) i))
    (fun u => ({ u with dreq := u.dreq.eraseIdx i } : State).dramServe r)) ∧
  (∀ (t : Nat) (x : Transfer) (q : Nat), Runs (.promptSlotEraseDone t)
    (fun u => u.promptUp = some x ∧ x.wait = some q ∧ x.ready = false)
    (fun u => let w := u.store (.norErase (slotBase x.slot) (slotBase x.slot + 0x4000000));
              ({ w with promptUp := some { x with ready := true, wait := none } } : State).promptAnswer x.box q 0 x.slot 0
                []))

/-- A granted plane selection begins a select record and its end takes effect, staging loads, erases, aborts, is erased
and checked, a scene is armed, disarmed, fired and taken, and a flash operation begins and ends with its result.
(R572, R574, R576, R577, R582, R583, R584, R588, R597, R602) -/
def Obligations.PlaneAndFlashCommandsComplete : Prop :=
  (∀ (m : Master) (plane : Fin 4) (t : Nat), Runs (.cfgPlaneSelWrite m plane t)
    (fun u => u.granted m F.CFG_PLANE_SEL true ∧ (plane = 1 ∨ plane = 2))
    (fun u => let w := u.withReg F.CFG_PLANE_SEL plane.val;
              (let p := plane.val - 1;
               if !(w.activePlane? = some p || (w.plane p).state = 4) ∨ w.sys.earlyWarning ∨ w.cfg.selecting.isSome ∨
                 w.cfg.selDefer then w.put F.CFG_STATUS_SEL_RESULT 2 else
                 ({ w with cfg := { w.cfg with selecting := some p } } : State).put F.CFG_STATUS_SEL_RESULT 3).answered m
                0)) ∧
  (∀ (t p : Nat), Runs (.cfgSelectWritten t)
    (fun u => u.cfg.selecting = some p)
    (fun u => let w := u.selectPut p;
              if w.activePlane? = some p then w.put F.CFG_STATUS_TRIAL 0 else w)) ∧
  (∀ (m : Master) (t : Nat), Runs (.cfgStageLoad m t)
    (fun u => u.granted m F.CFG_STAGE_OP true ∧ (u.withReg F.CFG_STAGE_OP 1).stageFree ∧ ((u.withReg F.CFG_STAGE_OP
      1).plane (u.withReg F.CFG_STAGE_OP 1).stageTarget).state ≠ 7 ∧ (u.withReg F.CFG_STAGE_OP 1).get F.CFG_STAGE_ADDR %
      64 = 0 ∧ (u.withReg F.CFG_STAGE_OP 1).imageRange ((u.withReg F.CFG_STAGE_OP 1).get F.CFG_STAGE_ADDR) ((u.withReg
      F.CFG_STAGE_OP 1).get F.CFG_STAGE_LEN))
    (fun u => let w := u.withReg F.CFG_STAGE_OP 1;
              (w.stageBegin
                { plane := w.stageTarget, src := w.get F.CFG_STAGE_ADDR, len := w.get F.CFG_STAGE_LEN }).answered m 0)) ∧
  (∀ (m : Master) (t : Nat), Runs (.cfgStageErase m t)
    (fun u => u.granted m F.CFG_STAGE_OP true ∧ (u.withReg F.CFG_STAGE_OP 2).disarm.stageFree)
    (fun u => let w := u.withReg F.CFG_STAGE_OP 2;
              (w.disarm.stageBegin { plane := w.disarm.stageTarget, eraseOnly := true }).answered m 0)) ∧
  (∀ (m : Master) (t : Nat) (g : Stage), Runs (.cfgStageAbort m t)
    (fun u => u.granted m F.CFG_STAGE_OP true ∧ (u.withReg F.CFG_STAGE_OP 3).disarm.cfg.stage = some g)
    (fun u => let w := u.withReg F.CFG_STAGE_OP 3;
              (let x := w.disarm.store (.flashErase (planeBase g.plane) (planeBase g.plane + planeBytes));
               let y := (x.setPlane g.plane { x.plane g.plane with record := {} }).stageEnd 0;
               ({ y with scene := none } : State).stageAnswer g (detailResp 6 0)).answered m 0)) ∧
  (∀ (pulses t : Nat) (g : Stage), Runs (.stageEraseDone pulses t)
    (fun u => u.cfg.stage = some g ∧ g.step = 1)
    (fun u => u.stageErased pulses)) ∧
  (∀ (repaired : Nat) (bad : Option Nat) (drivers : Option Contend) (carryOk : Bool) (t : Nat) (g : Stage), Runs
    (.stageChecksDone repaired bad drivers carryOk t)
    (fun u => u.cfg.stage = some g ∧ (g.step = 3 ∨ (g.step = 2 ∧ g.box.isNone)))
    (fun u => u.stageChecked { repaired, bad, drivers, carryOk })) ∧
  (∀ (m : Master) (tracks : Nat) (force trial : Bool) (t : Nat), Runs (.cfgSceneArm m tracks force trial t)
    (fun u => u.granted m F.CFG_SCENE_OP true ∧ (u.withReg F.CFG_SCENE_OP ((65536 * (tracks % 65536) + 16 * bit force + 8
      * bit trial + 1))).armFault (tracks % 65536) force false = none ∧ !(u.withReg F.CFG_SCENE_OP ((65536 * (tracks %
      65536) + 16 * bit force + 8 * bit trial + 1))).mirrors)
    (fun u => let w := u.withReg F.CFG_SCENE_OP ((65536 * (tracks % 65536) + 16 * bit force + 8 * bit trial + 1));
              (let x : State :=
                   { w with cfg := { w.cfg with arm := some { tracks := tracks % 65536, trial := trial, at_ := w.now } }
                              };
               (((x.put F.CFG_STATUS_ARM 1).put F.CFG_ARM_STATUS_RESULT 0).put F.CFG_ARM_STATUS_TRACKS (tracks %
                 65536)).raise Ev.CFG_SCENE_ARMED).answered m 0)) ∧
  (∀ (m : Master) (tracks : Nat) (force trial : Bool) (t : Nat), Runs (.cfgSceneArm m tracks force trial t)
    (fun u => u.granted m F.CFG_SCENE_OP true ∧ (u.withReg F.CFG_SCENE_OP ((65536 * (tracks % 65536) + 16 * bit force + 8
      * bit trial + 1))).armFault (tracks % 65536) force false = none ∧ (u.withReg F.CFG_SCENE_OP ((65536 * (tracks %
      65536) + 16 * bit force + 8 * bit trial + 1))).mirrors)
    (fun u => let w := u.withReg F.CFG_SCENE_OP ((65536 * (tracks % 65536) + 16 * bit force + 8 * bit trial + 1));
              (let x : State :=
                   { w with cfg := { w.cfg with arm := some { tracks := tracks % 65536, trial := trial, at_ := w.now,
                                                                    waiting := some w.dpx.commitSeq } } };
               x.dpxCommit 0x07 0 .scene (leBytes 1 4 ++ leBytes 7 0 ++ leBytes 8 ((tracks % 65536) * 65536 + 16 * bit
                 force + 8 * bit trial + 1))).answered m 0)) ∧
  (∀ (m : Master) (t : Nat), Runs (.cfgSceneDisarm m t)
    (fun u => u.granted m F.CFG_SCENE_OP true ∧ (u.withReg F.CFG_SCENE_OP 2).cfg.arm.isSome)
    (fun u => let w := u.withReg F.CFG_SCENE_OP 2;
              (w.armEnd 6).answered m 0)) ∧
  (∀ (m : Master) (trial : Bool) (t : Nat) (a : Arm), Runs (.cfgSceneFireNow m trial t)
    (fun u => u.granted m F.CFG_SCENE_OP true ∧ (u.withReg F.CFG_SCENE_OP ((8 * bit trial + 3))).cfg.arm = some a ∧
      a.waiting = none)
    (fun u => let w := u.withReg F.CFG_SCENE_OP ((8 * bit trial + 3));
              (w.sceneFire a.trial).answered m 0)) ∧
  (∀ (t : Nat) (a : Arm), Runs (.sceneFire t)
    (fun u => u.cfg.arm = some a ∧ a.waiting = none ∧ u.mode ≠ 6 ∧ (List.range 16).all (fun n => !(a.tracks.testBit n) ||
      !(u.track n).armed || u.inCurtain n))
    (fun u => u.sceneFire a.trial)) ∧
  (∀ (t : Nat) (a : Arm), Runs (.cfgArmTimeout t)
    (fun u => u.cfg.arm = some a ∧ a.waiting.isNone ∧ a.at_ + max 1 (u.get F.CFG_ARM_TIMEOUT) * 1000000000 ≤ u.now)
    (fun u => u.armEnd 5)) ∧
  (∀ (trees : List Nat) (t : Nat), Runs (.cfgSceneChanged trees t)
    (fun u => u.cfg.swap.isSome)
    (fun u => (u.sceneChanged trees).windowResume)) ∧
  (∀ (t : Nat), Runs (.sceneSelectRecord t)
    (fun u => u.cfg.recordDue)
    (fun u => let w : State := { u with cfg := { u.cfg with recordDue := false } };
              if w.sys.earlyWarning then ({ w with cfg := { w.cfg with selDefer := true } } : State).put
                F.CFG_STATUS_SEL_RESULT 3 else w.selectPut (w.get F.CFG_STATUS_ACTIVE))) ∧
  (∀ (m : Master) (t : Nat), Runs (.flcRead m t)
    (fun u => u.granted m F.FLC_CMD true ∧ (u.withReg F.FLC_CMD 1).cfg.flc = none ∧ (u.withReg F.FLC_CMD 1).mode ≠ 5)
    (fun u => let w := u.withReg F.FLC_CMD 1;
              (let data := (List.range 4).flatMap (fun i => leBytes 4 (w.get (F.FLC_DATA i)));
               ({ w with cfg := { w.cfg with flc := some { op := 1, addr := w.get F.FLC_ADDR, data := data } } } :
                 State).put F.FLC_RESULT_BUSY 1).answered m 0)) ∧
  (∀ (m : Master) (t : Nat), Runs (.flcProgram m t)
    (fun u => u.granted m F.FLC_CMD true ∧ (u.withReg F.FLC_CMD 2).cfg.flc = none ∧ (u.withReg F.FLC_CMD 2).mode ≠ 5)
    (fun u => let w := u.withReg F.FLC_CMD 2;
              (let data := (List.range 4).flatMap (fun i => leBytes 4 (w.get (F.FLC_DATA i)));
               ({ w with cfg := { w.cfg with flc := some { op := 2, addr := w.get F.FLC_ADDR, data := data } } } :
                 State).put F.FLC_RESULT_BUSY 1).answered m 0)) ∧
  (∀ (m : Master) (t : Nat), Runs (.flcErase m t)
    (fun u => u.granted m F.FLC_CMD true ∧ (u.withReg F.FLC_CMD 3).cfg.flc = none ∧ (u.withReg F.FLC_CMD 3).mode ≠ 5)
    (fun u => let w := u.withReg F.FLC_CMD 3;
              (let data := (List.range 4).flatMap (fun i => leBytes 4 (w.get (F.FLC_DATA i)));
               ({ w with cfg := { w.cfg with flc := some { op := 3, addr := w.get F.FLC_ADDR, data := data } } } :
                 State).put F.FLC_RESULT_BUSY 1).answered m 0)) ∧
  (∀ (m : Master) (t : Nat), Runs (.flcQuery m t)
    (fun u => u.granted m F.FLC_CMD true ∧ (u.withReg F.FLC_CMD 4).cfg.flc = none ∧ (u.withReg F.FLC_CMD 4).mode ≠ 5)
    (fun u => let w := u.withReg F.FLC_CMD 4;
              (let data := (List.range 4).flatMap (fun i => leBytes 4 (w.get (F.FLC_DATA i)));
               ({ w with cfg := { w.cfg with flc := some { op := 4, addr := w.get F.FLC_ADDR, data := data } } } :
                 State).put F.FLC_RESULT_BUSY 1).answered m 0)) ∧
  (∀ (ecc : Fin 3) (pulses : Nat) (fail : Bool) (t : Nat), Runs (.flcOpDone ecc pulses fail t)
    (fun u => u.cfg.flc.isSome)
    (fun u => u.flcDone ecc.val pulses fail))

/-- Temperature reads, refresh intervals, idle refreshes and recoveries change a controller, a granted rate change is
taken, starts and ends, corrected and uncorrectable errors are counted or freeze it, and lost PLLs and abandoned
self-refresh end on time. (R614, R615, R616, R617, R620, R621, R623, R624, R619, R653) -/
def Obligations.DramCommandsComplete : Prop :=
  (∀ (c : Fin 2) (ok : Bool) (ts0 ts1 : Fin 256) (t : Nat), Runs (.tempSensorRead c ok ts0 ts1 t)
    (fun u => u.mode ≠ 0 ∧ u.mode ≠ 5 ∧ 2 ≤ u.ctlState c.val ∧ u.ctlState c.val ≠ 7)
    (fun u => u.tempRead c.val ok ts0.val ts1.val)) ∧
  (∀ (c : Fin 2) (t : Nat), Runs (.refreshInterval c t)
    (fun u => u.refreshes c.val ∧ (u.ctl c.val).since + u.interval c.val ≤ (u.now : Int) ∧ (u.ctl c.val).stall = none)
    (fun u => u.setCtl c.val
      { u.ctl c.val with since := (u.ctl c.val).since + u.interval c.val, debt := min ((u.ctl c.val).debt + 1) (u.ceiling
                           c.val), pages := if u.ceiling c.val < (u.ctl c.val).debt + 1 then [] else (u.ctl c.val).pages
                           })) ∧
  (∀ (c : Fin 2) (t : Nat), Runs (.idleRefresh c t)
    (fun u => u.refreshes c.val ∧ 1 ≤ (u.ctl c.val).debt ∧ (u.ctl c.val).stall.isNone ∧ !u.dramWaits)
    (fun u => u.setCtl c.val { u.ctl c.val with debt := (u.ctl c.val).debt - 1, pages := [] })) ∧
  (∀ (c : Fin 2) (t : Nat) (a e : Ps), Runs (.dmcRefreshRecover c t)
    (fun u => (u.ctl c.val).stall = some (a, e) ∧ e ≤ u.now)
    (fun u => u.recoverEnd c.val)) ∧
  (∀ (m : Master) (fgr : Bool) (target : Fin 16) (t : Nat), Runs (.dmcFreqChange m fgr target t)
    (fun u => u.granted m F.DMC_FREQ_OP true ∧ (u.withReg F.DMC_FREQ_OP ((256 * bit fgr + 16 * target.val + 1))).freq =
      none ∧ ((u.withReg F.DMC_FREQ_OP ((256 * bit fgr + 16 * target.val + 1))).mode ≠ 0 ∧ (u.withReg F.DMC_FREQ_OP ((256
      * bit fgr + 16 * target.val + 1))).mode ≠ 1 ∧ (u.withReg F.DMC_FREQ_OP ((256 * bit fgr + 16 * target.val + 1))).mode
      ≠ 5 ∧ (u.withReg F.DMC_FREQ_OP ((256 * bit fgr + 16 * target.val + 1))).ctlState 0 < 5 ∧ (u.withReg F.DMC_FREQ_OP
      ((256 * bit fgr + 16 * target.val + 1))).ctlState 1 < 5) ∧ ((u.withReg F.DMC_FREQ_OP ((256 * bit fgr + 16 *
      target.val + 1))).shadowBad 0 target.val = false ∧ (u.withReg F.DMC_FREQ_OP ((256 * bit fgr + 16 * target.val +
      1))).shadowBad 1 target.val = false) ∧ (target.val ≤ ((u.withReg F.DMC_FREQ_OP ((256 * bit fgr + 16 * target.val +
      1))).ctl 0).rating ∧ target.val ≤ ((u.withReg F.DMC_FREQ_OP ((256 * bit fgr + 16 * target.val + 1))).ctl 1).rating))
    (fun u => let w := u.withReg F.DMC_FREQ_OP ((256 * bit fgr + 16 * target.val + 1));
              (({ w.put F.DMC_FREQ_RESULT_CODE 9 with freq := some { fgr := fgr, target := target.val, at_ := w.now } } :
                State)).answered m 0)) ∧
  (∀ (t : Nat) (o : FreqOp), Runs (.freqChangeStart t)
    (fun u => u.freq = some o ∧ o.started = none ∧ (o.again ∨ (u.mode ≠ 3 ∧ u.mode ≠ 4)) ∧ u.dramReady ∧ u.dreq.any (fun r
      => r.cls ≤ 3) = false)
    (fun u => let w : State := { u with freq := some { o with started := some u.now } };
              (((w.put (F.DMC_STATUS_STATE 0) 4).put (F.DMC_STATUS_STATE 1) 4).srEnter 0).srEnter 1)) ∧
  (∀ (fail : Option (Nat × Nat × Nat × Nat)) (t : Nat) (o : FreqOp), Runs (.dmcFreqDone fail t)
    (fun u => u.freq = some o ∧ o.started.isSome ∧ u.ctlState 0 = 4 ∧ u.ctlState 1 = 4)
    (fun u => u.freqDone fail)) ∧
  (∀ (t : Nat) (o : FreqOp), Runs (.freqChangeTimeout t)
    (fun u => u.freq = some o ∧ o.started.isNone ∧ !o.again ∧ o.at_ + 10 ^ 12 ≤ u.now)
    (fun u => u.freqEnd 6)) ∧
  (∀ (c : Fin 2) (t : Nat), Runs (.dmcEccCorrected c t)
    (fun u => u.ctlState c.val ≠ 5 ∧ u.ctlState c.val ≠ 6)
    (fun u => (u.addSat (F.DMC_ECC_COUNT c.val) 1).raise Ev.DMC_ECC_CORRECTED c.val)) ∧
  (∀ (c : Fin 2) (fault : DramFault) (t : Nat), Runs (.dmcUncorrectable c fault t)
    (fun u => u.ctlState c.val = 2 ∧ !(u.mode = 7))
    (fun u => u.dramFault c.val false fault)) ∧
  (∀ (c : Fin 2) (fault : DramFault) (t : Nat), Runs (.dmcCaParity c fault t)
    (fun u => u.ctlState c.val = 2 ∧ !(u.mode = 7))
    (fun u => u.dramFault c.val true fault)) ∧
  (∀ (c : Fin 2) (t : Nat) (o : FreqOp) (a : Ps), Runs (.dmcSrAbandoned c t)
    (fun u => u.pwr.step ≠ 4 ∧ u.freq = some o ∧ o.started = some a ∧ u.now ≤ a + 3000000 ∧ u.ctlState 0 = 4 ∧ u.ctlState
      1 = 4)
    (fun u => let w : State := { u with freq := some { o with started := none, again := true } };
              ([0, 1].foldl (fun s c => (s.srExit c).put (F.DMC_STATUS_STATE c) 2) w).raise Ev.DMC_SR_ABANDONED c.val)) ∧
  (∀ (c : Fin 2) (t : Nat) (a : Ps), Runs (.dmcPllRelockTimeout c t)
    (fun u => (u.ctl c.val).pllLost = some a ∧ a + 1000000000 ≤ u.now)
    (fun u => (((u.setCtl c.val { u.ctl c.val with pllLost := none }).put (F.DMC_STATUS_STATE c.val) 7).frgShow).holdEnter
      3))

/-- The reference is lost and restored, a PLL locks, loses lock and finds its band stale, granted PLL and domain
operations are carried out. (R638, R639, R642, R643, R645, R651, R655, R658, R659) -/
def Obligations.ClockCommandsComplete : Prop :=
  (∀ (t : Nat), Runs (.clkRefLost t)
    (fun u => u.flag F.CLK_STATUS_REF_OK)
    (fun u => u.refLost)) ∧
  (∀ (t : Nat), Runs (.clkRefRestored t)
    (fun u => u.clk.refLostAt.isSome)
    (fun u => u.refBack)) ∧
  (∀ (k : Fin 8) (band : Fin 64) (trim : Fin 1024) (t : Nat), Runs (.clkLocked k band trim t)
    (fun u => (u.get (F.CLK_PLL_STATUS_STATE k.val) = 1 ∨ u.get (F.CLK_PLL_STATUS_STATE k.val) = 2) ∧ (u.onRef k.val =
      false ∨ u.clk.refLostAt = none))
    (fun u => let w := u.pllLock k.val band.val trim.val;
              if k.val = 4 then w.dmcPllBack 0 else if k.val = 5 then w.dmcPllBack 1 else w)) ∧
  (∀ (k : Fin 8) (t : Nat), Runs (.clkLockLost k t)
    (fun u => u.get (F.CLK_PLL_STATUS_STATE k.val) = 3)
    (fun u => u.lockLost k.val)) ∧
  (∀ (k : Fin 8) (t : Nat), Runs (.clkBandStale k t)
    (fun u => !((k.val = 4 ∨ k.val = 5) ∧ u.ctlState (k.val - 4) = 4) ∧ u.get (F.CLK_PLL_STATUS_STATE k.val) = 2 ∧ (u.pll
      k.val).since + 20000000 ≤ u.now)
    (fun u => let x := u.pll k.val;
              let e := u.get (F.CLK_PLL_STATUS_ENTRY k.val);
              ((u.setPll k.val { x with bands := tblPut {} x.bands e { tblGet {} x.bands e with valid := false } }).raise
                Ev.CLK_BAND_STALE k.val).pllAttempt k.val true)) ∧
  (∀ (m : Master) (k : Fin 8) (t : Nat), Runs (.clkPllRelock m k t)
    (fun u => u.granted m (F.CLK_PLL_OP k.val) true ∧ 6 ≤ k.val)
    (fun u => let w := u.withReg (F.CLK_PLL_OP k.val) 1;
              (let q := w.takeFree 1000000;
               q.2.pllRelock k.val q.1).answered m 0)) ∧
  (∀ (m : Master) (k : Fin 8) (t : Nat), Runs (.clkPllFullSearch m k t)
    (fun u => u.granted m (F.CLK_PLL_OP k.val) true ∧ (6 ≤ k.val ∨ (u.withReg (F.CLK_PLL_OP k.val) 2).mode = 7))
    (fun u => let w := u.withReg (F.CLK_PLL_OP k.val) 2;
              (let q := w.takeFree 1000000;
               ((q.2.domainsLose k.val).pllAttempt k.val true).put (F.CLK_PLL_STATUS_OP_RESULT k.val) 1).answered m 0)) ∧
  (∀ (m : Master) (k : Fin 8) (t : Nat), Runs (.clkPllClearBand m k t)
    (fun u => u.granted m (F.CLK_PLL_OP k.val) true ∧ (6 ≤ k.val ∨ (u.withReg (F.CLK_PLL_OP k.val) 3).mode = 7))
    (fun u => let w := u.withReg (F.CLK_PLL_OP k.val) 3;
              (let q := w.takeFree 1000000;
               (q.2.setPll k.val { q.2.pll k.val with bands := [] }).put (F.CLK_PLL_STATUS_OP_RESULT k.val) 0).answered m
                0)) ∧
  (∀ (m : Master) (d : Fin 64) (t : Nat), Runs (.clkDomRestore m d t)
    (fun u => u.granted m F.CLK_DOM_OP true ∧ 48 ≤ d.val ∧ d.val < 64 ∧ ((u.withReg F.CLK_DOM_OP ((256 * d.val + 1))).get
      (F.CLK_DOM_STATE d.val) = 3 ∨ (u.withReg F.CLK_DOM_OP ((256 * d.val + 1))).get (F.CLK_DOM_STATE d.val) = 4) ∧
      ((u.withReg F.CLK_DOM_OP ((256 * d.val + 1))).pllOf d.val = 6 ∨ (u.withReg F.CLK_DOM_OP ((256 * d.val + 1))).pllOf
      d.val = 7) ∧ ((u.withReg F.CLK_DOM_OP ((256 * d.val + 1))).get F.CLK_STATUS_LOCKED).testBit ((u.withReg F.CLK_DOM_OP
      ((256 * d.val + 1))).pllOf d.val))
    (fun u => let w := u.withReg F.CLK_DOM_OP ((256 * d.val + 1));
              (w.put (F.CLK_DOM_STATE d.val) 1).answered m 0)) ∧
  (∀ (m : Master) (d : Fin 64) (v t : Nat), Runs (.clkDomWrite m d v t)
    (fun u => u.granted m (F.CLK_DOM d.val) true ∧ 48 ≤ d.val)
    (fun u => (u.domWrite d.val (v % 2 ^ 32)).answered m 0))

/-- Each step of entering INTERVAL is taken in its order, an entry that lasts too long is abandoned, each wake source that
is enabled begins a wake in INTERVAL, each instant of a wake is taken, stalls that last are told, and retention is
released. (R664, R666, R667, R668, R669, R670, R675, R677) -/
def Obligations.PowerCommandsComplete : Prop :=
  (∀ (t : Nat), Runs (.entryCurtainReached t)
    (fun u => u.pwr.step = 1 ∧ u.pwr.due = 0 ∧ (List.range 16).all (fun n => (!(u.track n).armed || u.inCurtain n) &&
      !((u.queue n).items.any Item.committing)))
    (fun u => let w : State := { u with pwr := { u.pwr with step := 2, stepAt := u.now } };
              (List.range 16).foldl (fun s n => s.markRequest n 1) w)) ∧
  (∀ (t : Nat), Runs (.entryCheckpointsDone t)
    (fun u => u.pwr.step = 2 ∧ u.pwr.due = 0 ∧ (List.range 16).any (fun n => u.marksOut n ≠ 0) = false)
    (fun u => let w : State := { u with pwr := { u.pwr with step := 3, stepAt := u.now } };
              w.put F.AON_RET_SEQ (w.get F.AON_RET_SEQ + 1))) ∧
  (∀ (t : Nat), Runs (.entryRetentionWritten t)
    (fun u => u.pwr.step = 3 ∧ u.pwr.due = 0)
    (fun u => let w := (List.range 8).foldl State.bankWrite u;
              { w with pwr := { w.pwr with step := 4, stepAt := w.now } })) ∧
  (∀ (t : Nat), Runs (.entrySelfRefresh t)
    (fun u => u.pwr.step = 4 ∧ u.pwr.due = 0 ∧ u.dreq = [])
    (fun u => let w := (((u.srEnter 0).srEnter 1).put (F.DMC_STATUS_STATE 0) 3).put (F.DMC_STATUS_STATE 1) 3;
              ({ w with pwr := { w.pwr with step := 5, stepAt := w.now } } : State))) ∧
  (∀ (t : Nat), Runs (.pwrEntered t)
    (fun u => u.pwr.step = 5)
    (fun u => if u.pwr.due ≠ 0 then u.entered.wakeBegin else u.entered)) ∧
  (∀ (t : Nat), Runs (.entryTimeout t)
    (fun u => u.pwr.step = 1 ∧ u.pwr.stepAt + max 1 (u.get F.PWR_ENTRY_TIMEOUT_MS) * 1000000000 ≤ u.now)
    (fun u => u.entryAbandon 3 1)) ∧
  (∀ (a : Access) (t : Nat), Runs (.wakeAccess a t)
    (fun u => !aonServed a.addr ∧ u.get F.PWR_STATUS_STATE = 2 ∧ u.mayReg a.master a.addr a.data.isSome ∧ u.lcyAllows a)
    (fun u => let w := (u.setFlags F.PWR_WAKE_CAUSE_CAUSE (2 ^ 0)).wakeBegin;
              ({ w with pwr := { w.pwr with stalls := w.pwr.stalls ++ [{ at_ := w.now, what := .reg (.bare a.master) a }]
                                              } } : State))) ∧
  (∀ (t : Nat), Runs (.wakeTimer t)
    (fun u => u.get F.AON_ALARM ≠ 0 ∧ u.aonTimer = u.get F.AON_ALARM ∧ u.get F.PWR_STATUS_STATE = 2 ∧ (u.get
      F.PWR_WAKE_EN_SOURCES).testBit 0)
    (fun u => ((u.setFlags F.PWR_WAKE_CAUSE_CAUSE (2 ^ 1)).wakeBegin).raise Ev.AON_ALARM)) ∧
  (∀ (t : Nat), Runs (.wakePin t)
    (fun u => u.get F.PWR_STATUS_STATE = 2 ∧ (u.get F.PWR_WAKE_EN_SOURCES).testBit 1)
    (fun u => (u.setFlags F.PWR_WAKE_CAUSE_CAUSE (2 ^ 2)).wakeBegin)) ∧
  (∀ (t : Nat), Runs (.wakeMonitor t)
    (fun u => u.get F.PWR_STATUS_STATE = 2 ∧ (u.get F.PWR_WAKE_EN_SOURCES).testBit 2)
    (fun u => (u.setFlags F.PWR_WAKE_CAUSE_CAUSE (2 ^ 3)).wakeBegin)) ∧
  (∀ (n : Fin 16) (t : Nat), Runs (.wakeTrackCue n t)
    (fun u => u.act (F.TRK_CTRL_KEEP_IN_INTERVAL n.val) = 1 ∧ (u.track n.val).armed ∧ u.get F.PWR_STATUS_STATE = 2 ∧
      (u.get F.PWR_WAKE_EN_SOURCES).testBit 3)
    (fun u => (u.setFlags F.PWR_WAKE_CAUSE_CAUSE (2 ^ 4)).wakeBegin)) ∧
  (∀ (k : Fin 32) (q : Fin 4) (t : Nat), Runs (.wakeFabric k q t)
    (fun u => (u.get F.PWR_INTERVAL_CFG_FQ_KEEP).testBit q.val ∧ u.phaseDone 5 ∧ u.get F.PWR_STATUS_STATE = 2 ∧ (u.get
      F.PWR_WAKE_EN_SOURCES).testBit 4)
    (fun u => ((u.setFlags F.PWR_WAKE_CAUSE_CAUSE (2 ^ 5)).wakeBegin).raise Ev.PRB_USER k.val)) ∧
  (∀ (m : Master) (t : Nat), Runs (.pwrOpWake m t)
    (fun u => u.granted m F.PWR_OP true ∧ (u.withReg F.PWR_OP 1).get F.PWR_STATUS_STATE = 2)
    (fun u => let w := u.withReg F.PWR_OP 1;
              ((w.setFlags F.PWR_WAKE_CAUSE_CAUSE (2 ^ 0)).wakeBegin).answered m 0)) ∧
  (∀ (m : Master) (t : Nat), Runs (.pwrOpRetry m t)
    (fun u => u.granted m F.PWR_OP true ∧ (u.withReg F.PWR_OP 2).get F.PWR_STATUS_STATE = 4)
    (fun u => let w := u.withReg F.PWR_OP 2;
              (w.wakeBegin).answered m 0)) ∧
  (∀ (bad : Fin 256) (t : Nat), Runs (.wakeDomainReady bad t)
    (fun u => 1 ≤ u.pwr.wake ∧ u.pwr.wake ≤ 7)
    (fun u => u.wakeReady bad.val)) ∧
  (∀ (cause : Fin 6) (domain : Fin 20) (pll : Fin 8) (t : Nat), Runs (.wakeReadyTimeout cause domain pll t)
    (fun u => u.pwr.wake ≠ 0 ∧ u.get F.PWR_STATUS_STATE = 3)
    (fun u => u.wakeLate cause.val domain.val pll.val)) ∧
  (∀ (t : Nat), Runs (.pwrStallLong t)
    (fun u => u.pwr.stalls.any (fun x => !x.long ∧ x.at_ + max 1 (u.get F.PWR_STALL_CFG_LIMIT_US) * 1000000 < u.now))
    (fun u => let k := (u.pwr.stalls.filter (fun x => !x.long ∧ x.at_ + max 1 (u.get F.PWR_STALL_CFG_LIMIT_US) * 1000000 <
                  u.now)).length;
              let w : State :=
                  { u with pwr := { u.pwr with stalls := u.pwr.stalls.map (fun (x : Stall) => if x.at_ + max 1 (u.get
                                                 F.PWR_STALL_CFG_LIMIT_US) * 1000000 < u.now then { x with long := true }
                                                 else x) } };
              (List.range k).foldl (fun s _ => s.raise Ev.PWR_STALL_LONG) w)) ∧
  (∀ (m : Master) (banks : Fin 256) (t : Nat), Runs (.pwrRetRelease m banks t)
    (fun u => u.granted m F.PWR_RET_RELEASE true)
    (fun u => let w := u.withReg F.PWR_RET_RELEASE banks.val;
              (let x := w.put F.PWR_RET_STATUS_HELD (w.get F.PWR_RET_STATUS_HELD &&& (255 - (banks.val &&& 0xFB)));
               let x : State := if banks.val.testBit 7 then { x with fab := { x.fab with held := 0 } } else x;
               if !w.armsFree ∧ x.armsFree ∧ x.accepting then x.tracksArm else x).answered m 0))

/-- Pin, mask and FIFO accesses take effect, hand-overs end, patterns match, bytes and frames come and go, I2C commands
queue and end, timers end and capture. (R681, R686, R688, R690, R691, R693, R694, R695, R696, R703, R704) -/
def Obligations.PeripheralCommandsComplete : Prop :=
  (∀ (m : Master) (pin : Fin 640) (v t : Nat), Runs (.gpioPinWrite m pin v t)
    (fun u => u.granted m (F.GPIO_PIN pin.val) true)
    (fun u => (if slotsBad (u.codesTaken pin.val) (v % 2 ^ 32) then (u.put F.GPIO_MAP_FAULT_PIN_PIN pin.val).raise
      Ev.GPIO_MAP_FAULT else u.pinTake pin.val (v % 2 ^ 32)).answered m 0)) ∧
  (∀ (pin : Fin 640) (t : Nat) (a : Ps) (v : Nat), Runs (.pinHandOver pin t)
    (fun u => tblGet none u.per.handing pin.val = some (a, v) ∧ a + 20000 ≤ u.now)
    (fun u => let w := u.ctsDrop pin.val v;
              let next : Option (Ps × Nat) := (tblGet none w.per.again pin.val).map (fun x => (w.now, x));
              ({ w with per := { w.per with slots := tblPut 0 w.per.slots pin.val v, handing := tblPut none w.per.handing
                                              pin.val next, again := tblPut none w.per.again pin.val none } } : State))) ∧
  (∀ (m : Master) (v t : Nat) (k : Fin 40), Runs (.gpioMwrWrite m k v t)
    (fun u => u.granted m (F.GPIO_MWR k.val) true)
    (fun u => (u.put (F.GPIO_OUT_VALUE k.val) (masked (u.get (F.GPIO_OUT_VALUE k.val)) (v % 2 ^ 32))).answered m 0)) ∧
  (∀ (m : Master) (v t : Nat) (k : Fin 40), Runs (.gpioMoeWrite m k v t)
    (fun u => u.granted m (F.GPIO_MOE k.val) true)
    (fun u => (u.put (F.GPIO_OE_ENABLE k.val) (masked (u.get (F.GPIO_OE_ENABLE k.val)) (v % 2 ^ 32))).answered m 0)) ∧
  (∀ (levels changed t : Nat) (k : Fin 8), Runs (.gpioPattern k levels changed t)
    (fun u => u.flag (F.GPIO_PAT_CFG_EN k.val) ∧ u.mode ≠ 5)
    (fun u => let c := u.get (F.GPIO_PAT_CFG k.val);
              let a : State :=
                  { u with per := { u.per with accepted := tblPut none u.per.accepted k.val (some (levels % 2 ^ 32, bits c
                                                 21 16, bits c 15 0)) } };
              let was := a.flag (F.GPIO_PAT_CFG_MATCH k.val);
              let is := a.patMatch k.val (levels % 2 ^ 32);
              let edge := a.get (F.GPIO_PAT_EDGE k.val) &&& a.get (F.GPIO_PAT_MASK k.val);
              let w := a.put (F.GPIO_PAT_CFG_MATCH k.val) (bit is);
              if is ∧ !was ∧ (edge &&& (changed % 2 ^ 32)) = edge then w.raise Ev.GPIO_PATTERN k.val else w)) ∧
  (∀ (n : Fin 16) (code : Fin 8) (t : Nat), Runs (.gpioBankFault n code t)
    (fun u => u.get (F.GPIO_BANK_VCCIO n.val) ≠ code.val ∧ code.val ≤ 5)
    (fun u => let w := u.put (F.GPIO_BANK_VCCIO n.val) code.val;
              if w.phaseDone 5 then w.raise Ev.GPIO_BANK_FAULT n.val else w)) ∧
  (∀ (byte : Fin 256) (parityBad framingBad : Bool) (t : Nat) (k : Fin 4), Runs (.uartRxByte k byte parityBad framingBad t)
    (fun u => u.flag (F.UART_CTRL_EN k.val) ∧ u.mode ≠ 5)
    (fun u => u.uartRx k.val byte.val parityBad framingBad)) ∧
  (∀ (m : Master) (v t : Nat) (k : Fin 4), Runs (.uartDataWrite m k v t)
    (fun u => u.granted m (F.UART_DATA k.val) true)
    (fun u => (u.uartWrite k.val (bits (v % 2 ^ 32) 7 0)).answered m 0)) ∧
  (∀ (m : Master) (t : Nat) (k : Fin 4), Runs (.uartDataRead m k t)
    (fun u => u.granted m (F.UART_DATA k.val) false)
    (fun u => (u.uartRead k.val).1.answered m ((u.uartRead k.val).2 % 2 ^ 32))) ∧
  (∀ (t : Nat) (k : Fin 4), Runs (.uartTxDone k t)
    (fun u => let a := u.uartGo k.val;
              (a.uart k.val).busy ∧ (a.uart k.val).tx = [] ∧ (a.uart k.val).shifting.isNone)
    (fun u => let a := u.uartGo k.val;
              (a.setUart k.val { a.uart k.val with busy := false }).raise Ev.PER_UART_TX_EMPTY k.val)) ∧
  (∀ (high : Bool) (t : Nat) (k : Fin 4), Runs (.uartCtsNChange k high t)
    (fun _ => True)
    (fun u => let a := u.uartGo k.val;
              let x := a.uart k.val;
              (a.setUart k.val { x with cts := high, since := if x.shifting.isNone then a.now else x.since }).uartGo
                k.val)) ∧
  (∀ (t : Nat) (k : Fin 4), Runs (.uartBreak k t)
    (fun u => u.flag (F.UART_CTRL_EN k.val) ∧ u.mode ≠ 5)
    (fun u => (u.setFlags (F.UART_STATUS_BREAK k.val) 1).raise Ev.PER_UART_ERR k.val)) ∧
  (∀ (m : Master) (v t : Nat) (k : Fin 4), Runs (.spiDataWrite m k v t)
    (fun u => u.granted m (F.SPI_DATA k.val) true)
    (fun u => (u.spiWrite k.val (bits (v % 2 ^ 32) 7 0)).answered m 0)) ∧
  (∀ (m : Master) (t : Nat) (k : Fin 4), Runs (.spiDataRead m k t)
    (fun u => u.granted m (F.SPI_DATA k.val) false)
    (fun u => (u.spiRead k.val).1.answered m ((u.spiRead k.val).2 % 2 ^ 32))) ∧
  (∀ (byte : Fin 256) (t : Nat) (k : Fin 4), Runs (.spiFrameDone k byte t)
    (fun u => (u.spi k.val).shifting.isSome)
    (fun u => let x := u.spi k.val;
              (if 64 ≤ x.rx.length then ((u.setSpi k.val { x with shifting := none }).setFlags (F.SPI_STATUS_OVERRUN
                k.val) 1).raise Ev.PER_SPI_OVERRUN k.val else u.setSpi k.val
                { x with shifting := none, rx := x.rx ++ [BitVec.ofNat 8 byte.val] }).spiGo k.val)) ∧
  (∀ (t : Nat) (k : Fin 4), Runs (.perSpiDone k t)
    (fun u => u.flag (F.SPI_STATUS_BUSY k.val) ∧ (u.spi k.val).tx = [] ∧ (u.spi k.val).shifting.isNone ∧ !u.flag
      (F.SPI_CTRL_CS_HOLD k.val))
    (fun u => (u.put (F.SPI_STATUS_BUSY k.val) 0).raise Ev.PER_SPI_DONE k.val)) ∧
  (∀ (m : Master) (t : Nat) (k : Fin 4), Runs (.i2cStart m k t)
    (fun u => u.granted m (F.I2C_CMD k.val) true ∧ (u.i2c k.val).cmds.length < 32)
    (fun u => (u.setI2c k.val { u.i2c k.val with cmds := (u.i2c k.val).cmds ++ [(1, 0)] }).answered m 0)) ∧
  (∀ (m : Master) (t : Nat) (k : Fin 4), Runs (.i2cReadAck m k t)
    (fun u => u.granted m (F.I2C_CMD k.val) true ∧ (u.i2c k.val).cmds.length < 32)
    (fun u => (u.setI2c k.val { u.i2c k.val with cmds := (u.i2c k.val).cmds ++ [(3, 0)] }).answered m 0)) ∧
  (∀ (m : Master) (t : Nat) (k : Fin 4), Runs (.i2cReadNack m k t)
    (fun u => u.granted m (F.I2C_CMD k.val) true ∧ (u.i2c k.val).cmds.length < 32)
    (fun u => (u.setI2c k.val { u.i2c k.val with cmds := (u.i2c k.val).cmds ++ [(4, 0)] }).answered m 0)) ∧
  (∀ (m : Master) (t : Nat) (k : Fin 4), Runs (.i2cStop m k t)
    (fun u => u.granted m (F.I2C_CMD k.val) true ∧ (u.i2c k.val).cmds.length < 32)
    (fun u => (u.setI2c k.val { u.i2c k.val with cmds := (u.i2c k.val).cmds ++ [(5, 0)] }).answered m 0)) ∧
  (∀ (m : Master) (byte : Fin 256) (t : Nat) (k : Fin 4), Runs (.i2cWrite m k byte t)
    (fun u => u.granted m (F.I2C_CMD k.val) true ∧ (u.i2c k.val).cmds.length < 32)
    (fun u => (u.setI2c k.val { u.i2c k.val with cmds := (u.i2c k.val).cmds ++ [(2, byte.val)] }).answered m 0)) ∧
  (∀ (m : Master) (t : Nat) (k : Fin 4), Runs (.i2cRxdataRead m k t)
    (fun u => u.granted m (F.I2C_RXDATA k.val) false)
    (fun u => (u.i2cRead k.val).1.answered m ((u.i2cRead k.val).2 % 2 ^ 32))) ∧
  (∀ (res : Fin 3) (byte : Fin 256) (t : Nat) (k : Fin 4), Runs (.i2cCommandDone k res byte t)
    (fun u => (u.i2c k.val).cmds ≠ [] ∧ u.flag (F.I2C_CTRL_EN k.val) ∧ u.mode ≠ 5)
    (fun u => u.i2cDone k.val res.val byte.val)) ∧
  (∀ (t : Nat) (k : Fin 4), Runs (.i2cStretchTimeout k t)
    (fun u => (u.i2c k.val).cmds ≠ [])
    (fun u => u.i2cFault k.val (F.I2C_STATUS_TIMEOUT k.val) true)) ∧
  (∀ (k : Fin 8) (t : Nat), Runs (.perTimer k t)
    (fun u => u.flag (F.TIMER_CTRL_EN k.val) ∧ u.mode ≠ 5 ∧ (if u.get (F.TIMER_CTRL_MODE k.val) = 1 then (u.timer
      k.val).period else (u.timer k.val).period + 1) ≤ u.timerRaw k.val)
    (fun u => u.timerEnd k.val)) ∧
  (∀ (k : Fin 8) (t : Nat), Runs (.perTimerCap k t)
    (fun u => u.flag (F.TIMER_CTRL_EN k.val) ∧ u.get (F.TIMER_CTRL_MODE k.val) = 2 ∧ u.mode ≠ 5)
    (fun u => let full := u.flag (F.TIMER_CTRL_CAPTURE_FULL k.val);
              let w := u.put (F.TIMER_CAPTURE k.val) (u.timerCount k.val);
              (if full then w.setFlags (F.TIMER_CTRL_CAPTURE_LOST k.val) 1 else w.put (F.TIMER_CTRL_CAPTURE_FULL k.val)
                1).raise Ev.PER_TIMER_CAP k.val)) ∧
  (∀ (m : Master) (k : Fin 8) (t : Nat), Runs (.timerCaptureRead m k t)
    (fun u => u.granted m (F.TIMER_CAPTURE k.val) false)
    (fun u => (u.put (F.TIMER_CTRL_CAPTURE_FULL k.val) 0).answered m (u.regAt (F.TIMER_CAPTURE k.val).addr 0 % 2 ^ 32)))

/-- A granted transition that the life cycle allows begins and ends with its fuses, CHALLENGE and VERIFY begin where they
are allowed and end with their result, a nonce expires, and a granted key write whose CRC agrees begins and ends.
(R708, R712, R716, R717, R718, R719, R720, R723, R727) -/
def Obligations.LifeCycleCommandsComplete : Prop :=
  (∀ (m : Master) (holdup : Bool) (t : Nat), Runs (.lcyToFactoryTest m holdup t)
    (fun u => (u.put F.LCY_STATUS_HOLDUP (bit holdup)).granted m F.LCY_TRANSITION true ∧ (((u.put F.LCY_STATUS_HOLDUP (bit
      holdup)).withReg F.LCY_TRANSITION 1).put F.LCY_STATUS_HOLDUP (bit (((u.put F.LCY_STATUS_HOLDUP (bit holdup)).withReg
      F.LCY_TRANSITION 1).flag F.LCY_STATUS_HOLDUP))).lcyFault 1 (((u.put F.LCY_STATUS_HOLDUP (bit holdup)).withReg
      F.LCY_TRANSITION 1).flag F.LCY_STATUS_HOLDUP) = none)
    (fun u => let w := (u.put F.LCY_STATUS_HOLDUP (bit holdup)).withReg F.LCY_TRANSITION 1;
              let b := w.put F.LCY_STATUS_HOLDUP (bit (w.flag F.LCY_STATUS_HOLDUP));
              (({ b with lcy := { b.lcy with op := some (.transition 1) } } : State).put F.LCY_STATUS_BUSY 1).answered m
                0)) ∧
  (∀ (m : Master) (holdup : Bool) (t : Nat), Runs (.lcyToProvisioned m holdup t)
    (fun u => (u.put F.LCY_STATUS_HOLDUP (bit holdup)).granted m F.LCY_TRANSITION true ∧ (((u.put F.LCY_STATUS_HOLDUP (bit
      holdup)).withReg F.LCY_TRANSITION 2).put F.LCY_STATUS_HOLDUP (bit (((u.put F.LCY_STATUS_HOLDUP (bit holdup)).withReg
      F.LCY_TRANSITION 2).flag F.LCY_STATUS_HOLDUP))).lcyFault 2 (((u.put F.LCY_STATUS_HOLDUP (bit holdup)).withReg
      F.LCY_TRANSITION 2).flag F.LCY_STATUS_HOLDUP) = none)
    (fun u => let w := (u.put F.LCY_STATUS_HOLDUP (bit holdup)).withReg F.LCY_TRANSITION 2;
              let b := w.put F.LCY_STATUS_HOLDUP (bit (w.flag F.LCY_STATUS_HOLDUP));
              (({ b with lcy := { b.lcy with op := some (.transition 2) } } : State).put F.LCY_STATUS_BUSY 1).answered m
                0)) ∧
  (∀ (m : Master) (holdup : Bool) (t : Nat), Runs (.lcyToField m holdup t)
    (fun u => (u.put F.LCY_STATUS_HOLDUP (bit holdup)).granted m F.LCY_TRANSITION true ∧ (((u.put F.LCY_STATUS_HOLDUP (bit
      holdup)).withReg F.LCY_TRANSITION 3).put F.LCY_STATUS_HOLDUP (bit (((u.put F.LCY_STATUS_HOLDUP (bit holdup)).withReg
      F.LCY_TRANSITION 3).flag F.LCY_STATUS_HOLDUP))).lcyFault 3 (((u.put F.LCY_STATUS_HOLDUP (bit holdup)).withReg
      F.LCY_TRANSITION 3).flag F.LCY_STATUS_HOLDUP) = none)
    (fun u => let w := (u.put F.LCY_STATUS_HOLDUP (bit holdup)).withReg F.LCY_TRANSITION 3;
              let b := w.put F.LCY_STATUS_HOLDUP (bit (w.flag F.LCY_STATUS_HOLDUP));
              (({ b with lcy := { b.lcy with op := some (.transition 3) } } : State).put F.LCY_STATUS_BUSY 1).answered m
                0)) ∧
  (∀ (m : Master) (holdup : Bool) (t : Nat), Runs (.lcyToFieldTest m holdup t)
    (fun u => (u.put F.LCY_STATUS_HOLDUP (bit holdup)).granted m F.LCY_TRANSITION true ∧ (((u.put F.LCY_STATUS_HOLDUP (bit
      holdup)).withReg F.LCY_TRANSITION 4).put F.LCY_STATUS_HOLDUP (bit (((u.put F.LCY_STATUS_HOLDUP (bit holdup)).withReg
      F.LCY_TRANSITION 4).flag F.LCY_STATUS_HOLDUP))).lcyFault 4 (((u.put F.LCY_STATUS_HOLDUP (bit holdup)).withReg
      F.LCY_TRANSITION 4).flag F.LCY_STATUS_HOLDUP) = none)
    (fun u => let w := (u.put F.LCY_STATUS_HOLDUP (bit holdup)).withReg F.LCY_TRANSITION 4;
              let b := w.put F.LCY_STATUS_HOLDUP (bit (w.flag F.LCY_STATUS_HOLDUP));
              (({ b with lcy := { b.lcy with op := some (.transition 4) } } : State).put F.LCY_STATUS_BUSY 1).answered m
                0)) ∧
  (∀ (m : Master) (holdup : Bool) (t : Nat), Runs (.lcyToAnalysis m holdup t)
    (fun u => (u.put F.LCY_STATUS_HOLDUP (bit holdup)).granted m F.LCY_TRANSITION true ∧ (((u.put F.LCY_STATUS_HOLDUP (bit
      holdup)).withReg F.LCY_TRANSITION 5).put F.LCY_STATUS_HOLDUP (bit (((u.put F.LCY_STATUS_HOLDUP (bit holdup)).withReg
      F.LCY_TRANSITION 5).flag F.LCY_STATUS_HOLDUP))).lcyFault 5 (((u.put F.LCY_STATUS_HOLDUP (bit holdup)).withReg
      F.LCY_TRANSITION 5).flag F.LCY_STATUS_HOLDUP) = none)
    (fun u => let w := (u.put F.LCY_STATUS_HOLDUP (bit holdup)).withReg F.LCY_TRANSITION 5;
              let b := w.put F.LCY_STATUS_HOLDUP (bit (w.flag F.LCY_STATUS_HOLDUP));
              (({ b with lcy := { b.lcy with op := some (.transition 5) } } : State).put F.LCY_STATUS_BUSY 1).answered m
                0)) ∧
  (∀ (m : Master) (holdup : Bool) (t : Nat), Runs (.lcyToScrap m holdup t)
    (fun u => (u.put F.LCY_STATUS_HOLDUP (bit holdup)).granted m F.LCY_TRANSITION true ∧ (((u.put F.LCY_STATUS_HOLDUP (bit
      holdup)).withReg F.LCY_TRANSITION 6).put F.LCY_STATUS_HOLDUP (bit (((u.put F.LCY_STATUS_HOLDUP (bit holdup)).withReg
      F.LCY_TRANSITION 6).flag F.LCY_STATUS_HOLDUP))).lcyFault 6 (((u.put F.LCY_STATUS_HOLDUP (bit holdup)).withReg
      F.LCY_TRANSITION 6).flag F.LCY_STATUS_HOLDUP) = none)
    (fun u => let w := (u.put F.LCY_STATUS_HOLDUP (bit holdup)).withReg F.LCY_TRANSITION 6;
              let b := w.put F.LCY_STATUS_HOLDUP (bit (w.flag F.LCY_STATUS_HOLDUP));
              (({ b with lcy := { b.lcy with op := some (.transition 6) } } : State).put F.LCY_STATUS_BUSY 1).answered m
                0)) ∧
  (∀ (t k : Nat), Runs (.lcyTransitionDone t)
    (fun u => u.lcy.op = some (.transition k))
    (fun u => u.lcyDone)) ∧
  (∀ (m : Master) (t : Nat), Runs (.lcyChallenge m t)
    (fun u => u.granted m F.LCY_DEBUG_OP true ∧ (u.withReg F.LCY_DEBUG_OP 1).debugFault = none ∧ (∀ a, (u.withReg
      F.LCY_DEBUG_OP 1).lcy.failedAt = some a → a + 10000000000000 ≤ (u.withReg F.LCY_DEBUG_OP 1).now))
    (fun u => let w := u.withReg F.LCY_DEBUG_OP 1;
              (let b := (List.range 16).map (fun i => BitVec.ofNat 8 (Config.free (w.freeIx + i)));
               (({ w with freeIx := w.freeIx + 16, lcy := { w.lcy with nonce := some (b, w.now) } } :
                 State).nonceShow).lcyResult 2 1).answered m 0)) ∧
  (∀ (m : Master) (t : Nat), Runs (.lcyVerify m t)
    (fun u => u.granted m F.LCY_DEBUG_OP true ∧ (u.withReg F.LCY_DEBUG_OP 2).debugFault = none ∧ (u.withReg F.LCY_DEBUG_OP
      2).lcy.nonce.isSome)
    (fun u => let w := u.withReg F.LCY_DEBUG_OP 2;
              (({ w with lcy := { w.lcy with op := some .verify } } : State).put F.LCY_STATUS_BUSY 1).answered m 0)) ∧
  (∀ (t : Nat), Runs (.lcyVerifyDone t)
    (fun u => u.lcy.op = some .verify)
    (fun u => u.verifyDone.respondEnd)) ∧
  (∀ (t : Nat) (b : List Byte) (a : Ps), Runs (.nonceExpiry t)
    (fun u => u.lcy.nonce = some (b, a) ∧ a + 600000000000000 ≤ u.now)
    (fun u => ({ u with lcy := { u.lcy with nonce := none } } : State).nonceShow)) ∧
  (∀ (m : Master) (slot : Fin 256) (t : Nat), Runs (.keyAesScene m slot t)
    (fun u => u.granted m F.LCY_KEY_OP true ∧ (u.withReg F.LCY_KEY_OP ((256 * slot.val + 1))).lcy.op = none ∧ ((u.withReg
      F.LCY_KEY_OP ((256 * slot.val + 1))).lcyState = 1 ∨ (u.withReg F.LCY_KEY_OP ((256 * slot.val + 1))).lcyState = 2 ∨
      (u.withReg F.LCY_KEY_OP ((256 * slot.val + 1))).lcyState = 5) ∧ slot.val < 16 ∧ (u.withReg F.LCY_KEY_OP ((256 *
      slot.val + 1))).lcy.keys.any (fun x => x.1 = slot.val) = false ∧ crc32c ((List.range 8).flatMap (fun k => leBytes 4
      ((u.withReg F.LCY_KEY_OP ((256 * slot.val + 1))).get (F.LCY_KEY_DATA k)))) = (u.withReg F.LCY_KEY_OP ((256 *
      slot.val + 1))).get F.LCY_KEY_CRC)
    (fun u => let w := u.withReg F.LCY_KEY_OP ((256 * slot.val + 1));
              (({ w with lcy := { w.lcy with op := some (.key 1 slot.val ((List.range 8).flatMap (fun k => leBytes 4
                                               (w.get (F.LCY_KEY_DATA k))))) } } : State).put F.LCY_STATUS_BUSY
                1).answered m 0)) ∧
  (∀ (m : Master) (slot : Fin 256) (t : Nat), Runs (.keyAesPrompt m slot t)
    (fun u => u.granted m F.LCY_KEY_OP true ∧ (u.withReg F.LCY_KEY_OP ((256 * slot.val + 2))).lcy.op = none ∧ ((u.withReg
      F.LCY_KEY_OP ((256 * slot.val + 2))).lcyState = 1 ∨ (u.withReg F.LCY_KEY_OP ((256 * slot.val + 2))).lcyState = 2 ∨
      (u.withReg F.LCY_KEY_OP ((256 * slot.val + 2))).lcyState = 5) ∧ slot.val < 16 ∧ (u.withReg F.LCY_KEY_OP ((256 *
      slot.val + 2))).lcy.keys.any (fun x => x.1 = slot.val) = false ∧ crc32c ((List.range 8).flatMap (fun k => leBytes 4
      ((u.withReg F.LCY_KEY_OP ((256 * slot.val + 2))).get (F.LCY_KEY_DATA k)))) = (u.withReg F.LCY_KEY_OP ((256 *
      slot.val + 2))).get F.LCY_KEY_CRC)
    (fun u => let w := u.withReg F.LCY_KEY_OP ((256 * slot.val + 2));
              (({ w with lcy := { w.lcy with op := some (.key 2 slot.val ((List.range 8).flatMap (fun k => leBytes 4
                                               (w.get (F.LCY_KEY_DATA k))))) } } : State).put F.LCY_STATUS_BUSY
                1).answered m 0)) ∧
  (∀ (m : Master) (t : Nat), Runs (.keyScenePubX m t)
    (fun u => u.granted m F.LCY_KEY_OP true ∧ (u.withReg F.LCY_KEY_OP 3).lcy.op = none ∧ ((u.withReg F.LCY_KEY_OP
      3).lcyState = 1 ∨ (u.withReg F.LCY_KEY_OP 3).lcyState = 2 ∨ (u.withReg F.LCY_KEY_OP 3).lcyState = 5) ∧ (u.withReg
      F.LCY_KEY_OP 3).lcy.pubs.lookup 3 = none ∧ crc32c ((List.range 8).flatMap (fun k => leBytes 4 ((u.withReg
      F.LCY_KEY_OP 3).get (F.LCY_KEY_DATA k)))) = (u.withReg F.LCY_KEY_OP 3).get F.LCY_KEY_CRC)
    (fun u => let w := u.withReg F.LCY_KEY_OP 3;
              (({ w with lcy := { w.lcy with op := some (.key 3 0 ((List.range 8).flatMap (fun k => leBytes 4 (w.get
                                               (F.LCY_KEY_DATA k))))) } } : State).put F.LCY_STATUS_BUSY 1).answered m 0)) ∧
  (∀ (m : Master) (t : Nat), Runs (.keyScenePubY m t)
    (fun u => u.granted m F.LCY_KEY_OP true ∧ (u.withReg F.LCY_KEY_OP 4).lcy.op = none ∧ ((u.withReg F.LCY_KEY_OP
      4).lcyState = 1 ∨ (u.withReg F.LCY_KEY_OP 4).lcyState = 2 ∨ (u.withReg F.LCY_KEY_OP 4).lcyState = 5) ∧ (u.withReg
      F.LCY_KEY_OP 4).lcy.pubs.lookup 4 = none ∧ crc32c ((List.range 8).flatMap (fun k => leBytes 4 ((u.withReg
      F.LCY_KEY_OP 4).get (F.LCY_KEY_DATA k)))) = (u.withReg F.LCY_KEY_OP 4).get F.LCY_KEY_CRC)
    (fun u => let w := u.withReg F.LCY_KEY_OP 4;
              (({ w with lcy := { w.lcy with op := some (.key 4 0 ((List.range 8).flatMap (fun k => leBytes 4 (w.get
                                               (F.LCY_KEY_DATA k))))) } } : State).put F.LCY_STATUS_BUSY 1).answered m 0)) ∧
  (∀ (m : Master) (t : Nat), Runs (.keyPromptPubX m t)
    (fun u => u.granted m F.LCY_KEY_OP true ∧ (u.withReg F.LCY_KEY_OP 5).lcy.op = none ∧ ((u.withReg F.LCY_KEY_OP
      5).lcyState = 1 ∨ (u.withReg F.LCY_KEY_OP 5).lcyState = 2 ∨ (u.withReg F.LCY_KEY_OP 5).lcyState = 5) ∧ (u.withReg
      F.LCY_KEY_OP 5).lcy.pubs.lookup 5 = none ∧ crc32c ((List.range 8).flatMap (fun k => leBytes 4 ((u.withReg
      F.LCY_KEY_OP 5).get (F.LCY_KEY_DATA k)))) = (u.withReg F.LCY_KEY_OP 5).get F.LCY_KEY_CRC)
    (fun u => let w := u.withReg F.LCY_KEY_OP 5;
              (({ w with lcy := { w.lcy with op := some (.key 5 0 ((List.range 8).flatMap (fun k => leBytes 4 (w.get
                                               (F.LCY_KEY_DATA k))))) } } : State).put F.LCY_STATUS_BUSY 1).answered m 0)) ∧
  (∀ (m : Master) (t : Nat), Runs (.keyPromptPubY m t)
    (fun u => u.granted m F.LCY_KEY_OP true ∧ (u.withReg F.LCY_KEY_OP 6).lcy.op = none ∧ ((u.withReg F.LCY_KEY_OP
      6).lcyState = 1 ∨ (u.withReg F.LCY_KEY_OP 6).lcyState = 2 ∨ (u.withReg F.LCY_KEY_OP 6).lcyState = 5) ∧ (u.withReg
      F.LCY_KEY_OP 6).lcy.pubs.lookup 6 = none ∧ crc32c ((List.range 8).flatMap (fun k => leBytes 4 ((u.withReg
      F.LCY_KEY_OP 6).get (F.LCY_KEY_DATA k)))) = (u.withReg F.LCY_KEY_OP 6).get F.LCY_KEY_CRC)
    (fun u => let w := u.withReg F.LCY_KEY_OP 6;
              (({ w with lcy := { w.lcy with op := some (.key 6 0 ((List.range 8).flatMap (fun k => leBytes 4 (w.get
                                               (F.LCY_KEY_DATA k))))) } } : State).put F.LCY_STATUS_BUSY 1).answered m 0)) ∧
  (∀ (t kind slot : Nat) (l : List Byte), Runs (.lcyKeyWritten t)
    (fun u => u.lcy.op = some (.key kind slot l))
    (fun u => u.keyWritten))

/-- A command that the Prompter takes now and that its class allows does what the command says and is answered. (R721,
R722, R723, R724) -/
def Obligations.PrompterCommandsComplete : Prop :=
  (∀ (chars : List Nat) (t : Nat), Runs (.prompterLine chars t)
    (fun u => u.promptMay ∧ u.promptClass (lineCmd chars) = none ∧ lineCmd chars ≠ .bad)
    (fun u => u.promptRun (lineCmd chars))) ∧
  (∀ (t : Nat), Runs (.prompterId t)
    (fun u => u.promptMay ∧ u.promptClass (.id) = none)
    (fun u => u.emit (.monitor 0 [Config.deviceId % 2 ^ 64, u.peek F.SYS_ID, u.lcyState]))) ∧
  (∀ (t : Nat), Runs (.prompterStatus t)
    (fun u => u.promptMay ∧ u.promptClass (.status) = none)
    (fun u => u.emit (.monitor 0 [u.peek F.SYS_MODE, u.peek F.SYS_CALL_STATUS, u.peek F.SYS_RESET_CAUSE, u.peek
      F.LCY_STATUS, u.peek F.PWR_STATUS]))) ∧
  (∀ (addr t : Nat), Runs (.prompterRead addr 1 t)
    (fun u => u.promptMay ∧ u.promptClass (.read addr 1) = none ∧ !inWindow addr ∧ u.granted .prompter ⟨addr, 0, 0, 0⟩
      false)
    (fun u => let q := u.access32 .prompter addr none;
              if q.2.2 = 0 then q.1.emit (.monitor 0 [q.2.1]) else q.1.emit (.monitor (errOf q.2.2) []))) ∧
  (∀ (addr t : Nat), Runs (.prompterRead64 addr t)
    (fun u => u.promptMay ∧ u.promptClass (.read64 addr) = none ∧ !inWindow addr ∧ u.granted .prompter ⟨addr, 0, 0, 0⟩
      false)
    (fun u => let q := u.access64 .prompter addr none;
              if q.2.2 = 0 then q.1.emit (.monitor 0 [q.2.1]) else q.1.emit (.monitor (errOf q.2.2) []))) ∧
  (∀ (addr value t : Nat), Runs (.prompterWrite addr value t)
    (fun u => u.promptMay ∧ u.promptClass (.write addr value) = none ∧ !inWindow addr ∧ u.granted .prompter ⟨addr, 0, 0,
      0⟩ true)
    (fun u => let q := u.access32 .prompter addr (some value);
              if q.2.2 = 0 then q.1.emit (.monitor 0 []) else q.1.emit (.monitor (errOf q.2.2) []))) ∧
  (∀ (addr value t : Nat), Runs (.prompterWrite64 addr value t)
    (fun u => u.promptMay ∧ u.promptClass (.write64 addr value) = none ∧ !inWindow addr ∧ u.granted .prompter ⟨addr, 0, 0,
      0⟩ true)
    (fun u => let q := u.access64 .prompter addr (some value);
              if q.2.2 = 0 then q.1.emit (.monitor 0 []) else q.1.emit (.monitor (errOf q.2.2) []))) ∧
  (∀ (mode : Fin 8) (t : Nat), Runs (.prompterMode mode t)
    (fun u => u.promptMay ∧ u.promptClass (.mode mode.val) = none ∧ [2, 3, 4, 5, 7].contains mode.val ∧ !([3, 4,
      5].contains ((u.modeReq mode.val).get F.SYS_MODE_REQ_RESULT)))
    (fun u => (u.modeReq mode.val).emit (.monitor 0 [(u.modeReq mode.val).get F.SYS_MODE_REQ_RESULT]))) ∧
  (∀ (kind : Fin 4) (t : Nat), Runs (.prompterReset kind t)
    (fun u => u.promptMay ∧ u.promptClass (.reset kind.val) = none ∧ kind.val ≠ 0)
    (fun u => (u.emit (.monitor 0 [])).resetReq kind.val)) ∧
  (∀ (count t : Nat), Runs (.prompterLog count t)
    (fun u => u.promptMay ∧ u.promptClass (.log count) = none ∧ 1 ≤ count ∧ count ≤ 64)
    (fun u => u.emit (.monitor 0 ((u.cue.log.take count).map (fun r => leNat r.bytes))))) ∧
  (∀ (plane : Fin 2) (t : Nat), Runs (.prompterSelect plane t)
    (fun u => u.promptMay ∧ u.promptClass (.select plane.val) = none ∧ !u.sys.earlyWarning ∧ u.recordSound plane.val)
    (fun u => (u.selectPut plane.val).emit (.monitor 0 []))) ∧
  (∀ (target : Fin 8) (t : Nat), Runs (.prompterLcy target t)
    (fun u => u.promptMay ∧ u.promptClass (.lcy target.val) = none ∧ u.lcyFault target.val (u.flag F.LCY_STATUS_HOLDUP) =
      none)
    (fun u => (u.lcyTransition target.val (u.flag F.LCY_STATUS_HOLDUP)).emit (.monitor 0 []))) ∧
  (∀ (t : Nat), Runs (.prompterChallenge t)
    (fun u => u.promptMay ∧ u.promptClass (.challenge) = none ∧ u.debugFault = none ∧ (∀ a, u.lcy.failedAt = some a → a +
      10000000000000 ≤ u.now))
    (fun u => let b := (List.range 16).map (fun i => BitVec.ofNat 8 (Config.free (u.freeIx + i)));
              ((({ u with freeIx := u.freeIx + 16, lcy := { u.lcy with nonce := some (b, u.now) } } :
                State).nonceShow).lcyResult 2 1).emit (.monitor 0 [leNat b, Config.deviceId % 2 ^ 64]))) ∧
  (∀ (sig : List Byte) (t : Nat), Runs (.prompterRespond sig t)
    (fun u => u.promptMay ∧ u.promptClass (.respond (sig.take 64)) = none ∧ ((List.range 16).foldl (fun s k => s.put
      (F.LCY_RESP k) (leAt (sig.take 64) (4 * k) 4)) u).verifyStart.lcy.op = some .verify)
    (fun u => let v := ((List.range 16).foldl (fun s k => s.put (F.LCY_RESP k) (leAt (sig.take 64) (4 * k) 4))
                  u).verifyStart;
              { v with lcy := { v.lcy with respond := true } }))

/-- In a calm state of an awake device with DRAM ready and no scene change under way, a write by the fabric control-port
master that R554 grants completes and is answered with status OK: the 4 or 8 bytes at its address read as the data,
low byte first, every other byte of DRAM reads as before, and every other part of the state but the open pages, the
tile cache, the output and the instant is unchanged. The byte order within a word is the reading of log 15. (R552,
R554, R611, R217) -/
def Obligations.FabricWriteStoresItsBytesOnly : Prop :=
  ∀ (addr v : Nat) (wide : Bool) (t : Ps) (s : State), s.sys.held = false → (begin t s).calm = true → s.cfg.swap = none →
    (begin t s).cpMayWrite addr (if wide then 8 else 4) = true → (begin t s).dramReady = true →
    s.get F.PWR_STATUS_STATE = 0 →
    ∃ u : State, exec (.cpMasterDramAccess addr wide (some v) t) s = .next u ∧ Out.cp 0 0 ∈ u.out ∧
      memBytes .dram u.dram addr (if wide then 8 else 4) = leBytes (if wide then 8 else 4) v ∧
      (∀ a, a < addr ∨ addr + (if wide then 8 else 4) ≤ a → memGet .dram u.dram a = memGet .dram s.dram a) ∧
      ({ u with dram := s.dram, dmc := s.dmc, frg := { u.frg with cache := s.frg.cache }, out := s.out, now := s.now,
                stores := s.stores, hits := s.hits } : State) = s

/-- With a flash operation running at an aligned address of the array that nothing refuses, its completion is carried out:
DRAM and NOR are unchanged; a program (code 2) leaves its 16 bytes as the data and every other byte as before; an
erase (code 3) leaves every byte of the 8 KiB sector 0xFF and every other byte as before. (R597, R602) -/
def Obligations.FlashCommandsChangeTheirBytesOnly : Prop :=
  ∀ (ecc : Fin 3) (pulses : Nat) (t : Ps) (s : State) (o : FlcOp), s.sys.held = false → (begin t s).still = true →
    s.cfg.flc = some o → bits o.addr 31 28 = 0 → bits o.addr 25 0 < 8388608 → bits o.addr 25 0 % 16 = 0 →
    (begin t s).flcRefused o = none →
    ∃ u : State, exec (.flcOpDone ecc pulses false t) s = .next u ∧ u.dram = s.dram ∧ u.nor = s.nor ∧
      (o.op = 2 → o.data.length = 16 →
        memBytes .flash u.flash (bits o.addr 25 0) 16 = o.data ∧
        ∀ a, a < bits o.addr 25 0 ∨ bits o.addr 25 0 + 16 ≤ a → memGet .flash u.flash a = memGet .flash s.flash a) ∧
      (o.op = 3 →
        ∀ a, memGet .flash u.flash a =
          if a / 8192 = bits o.addr 25 0 / 8192 then 0xFF else memGet .flash s.flash a)

/-- For every guarded register, master and value below 2^32: a granted 64-bit write of the value with its complement
stores the value with every reserved bit 0 and has the register's own effect; a 64-bit read answers the stored value
with its complement above it; a 32-bit read of either half answers that half. (R17, R18) -/
def Obligations.GuardedRegistersStoreAndReadThePair : Prop :=
  ∀ (m : Master) (a v : Nat) (t : Ps) (r : RegAt), findReg a = some r → r.row.wg = true → inWindow a = false →
    v < 2 ^ 32 →
    (r.off = 0 →
      Runs (.registerWrite { master := m, addr := a, wide := true, data := some (guardPair v) } t)
        (fun u => u.granted m ⟨a, 0, 0, 0⟩ true = true)
        (fun u => ((u.setRegAt r.addr r.reset (v &&& r.row.rw)).guardAct r.row.id r.i (v &&& r.row.rw)).answered m 0) ∧
      Runs (.registerWrite { master := m, addr := a, wide := true, data := none } t)
        (fun u => u.granted m ⟨a, 0, 0, 0⟩ false = true)
        (fun u => u.answered m (guardPair (u.regAt r.addr r.reset)))) ∧
    Runs (.registerWrite { master := m, addr := a, wide := false, data := none } t)
      (fun u => u.granted m ⟨a, 0, 0, 0⟩ false = true)
      (fun u => u.answered m (if r.off = 0 then guardPair (u.regAt r.addr r.reset) % 2 ^ 32
        else guardPair (u.regAt r.addr r.reset) / 2 ^ 32 % 2 ^ 32))

/-- For every guarded register and master: a granted 64-bit write whose upper half is not the complement of its lower
half, and any 32-bit write to either half, is discarded and raises SYS_GUARD_FAULT; the stored pair is unchanged.
(R16) -/
def Obligations.OtherWritesToGuardedRegistersAreDiscarded : Prop :=
  ∀ (m : Master) (a p : Nat) (t : Ps) (r : RegAt), findReg a = some r → r.row.wg = true → inWindow a = false →
    (r.off = 0 → p < 2 ^ 64 → p / 2 ^ 32 ≠ 0xFFFFFFFF - p % 2 ^ 32 →
      Runs (.registerWrite { master := m, addr := a, wide := true, data := some p } t)
        (fun u => u.granted m ⟨a, 0, 0, 0⟩ true = true)
        (fun u => (u.raise Ev.SYS_GUARD_FAULT).emit (.reg m 0 2))) ∧
    Runs (.registerWrite { master := m, addr := a, wide := false, data := some p } t)
      (fun u => u.granted m ⟨a, 0, 0, 0⟩ true = true)
      (fun u => (u.raise Ev.SYS_GUARD_FAULT).emit (.reg m 0 2)) ∧
    ∀ u : State, (u.raise Ev.SYS_GUARD_FAULT).regAt r.addr r.reset = u.regAt r.addr r.reset

/-- For every address outside the slave window at which no register stands, a granted 32-bit read or write answers 0 with
status DECODE, changes no register but what the event SYS_DECODE_FAULT changes, and raises that event; a 64-bit access
both of whose halves are empty raises it once for each half. (R12) -/
def Obligations.EmptyAddressesReadZeroAndRaiseTheFault : Prop :=
  ∀ (m : Master) (a : Nat) (data : Option Nat) (t : Ps), findReg a = none → inWindow a = false →
    Runs (.registerWrite { master := m, addr := a, wide := false, data } t)
      (fun u => u.granted m ⟨a, 0, 0, 0⟩ data.isSome = true)
      (fun u => (u.raise Ev.SYS_DECODE_FAULT).emit (.reg m 0 1)) ∧
    (findReg (a + 4) = none →
      Runs (.registerWrite { master := m, addr := a, wide := true, data } t)
        (fun u => u.granted m ⟨a, 0, 0, 0⟩ data.isSome = true)
        (fun u => ((u.raise Ev.SYS_DECODE_FAULT).raise Ev.SYS_DECODE_FAULT).emit (.reg m 0 1)))

/-- In SCRAP every register access but a read of the identity registers or of the LCY block, and in LIMBO every access but
those reads and the guarded write of TARGET SCRAP to LCY_TRANSITION, answers 0 with status DECODE and raises
SYS_DECODE_FAULT, whichever master makes it and wherever it goes, if the master has the right to make it. (R711, R715,
R12) -/
def Obligations.ClosedLifeCyclesAnswerAsEmptyAddresses : Prop :=
  ∀ (m : Master) (a : Nat) (wide : Bool) (data : Option Nat) (t : Ps),
    Runs (.registerWrite { master := m, addr := a, wide, data } t)
      (fun u => u.mayReg m a data.isSome = true ∧
        (u.lcyState = 6 ∨ (u.lcyState = 7 ∧
          ¬ (a = 0x10018 ∧ wide = true ∧ data = some (0xFFFFFFF9 * 2 ^ 32 + 6)))) ∧
        ¬ (data = none ∧ (a < 0x100 ∨ (0x10000 ≤ a ∧ a < 0x20000))))
      (fun u => (u.raise Ev.SYS_DECODE_FAULT).emit (.reg m 0 1))

/-- For every register of the map no bit is both read-write and write-one-to-clear. After a write of v under any mask m, a
masked read-write bit takes its bit of v, a masked write-one-to-clear bit is cleared where v has a 1 and else kept,
and every other bit, the reserved ones among them, is kept. (R11, R14) -/
def Obligations.WrittenBitsFollowTheirAccessCode : Prop :=
  (∀ w ∈ regRows, w.rw &&& w.w1c = 0) ∧
  ∀ (w : RegRow) (old m v i : Nat), w.rw &&& w.w1c = 0 →
    (w.merge old m v).testBit i =
      if m.testBit i && w.rw.testBit i then v.testBit i
      else if m.testBit i && w.w1c.testBit i then old.testBit i && !v.testBit i
      else old.testBit i

/-- For every event source but the loss report of the boxes, every instance and every state whose cue board runs: after an
occurrence the instance's flag is set and every other flag of the source is kept, the instance's count is one more,
wrapping at 2^32, and if the source's EN was 0 before the writes of the instant no box queue, log record or pin
changes. (R732, R733) -/
def Obligations.RaisingSetsTheFlagAndCounts : Prop :=
  ∀ (u : State) (e i : Nat), e < 1024 → i < 32 → e ≠ Ev.IZX_EVENT_LOST → u.cueGated = false →
    ((u.raise e i).get (F.CUE_SRC_FLAGS e)).testBit i = true ∧
    (∀ j, j ≠ i → ((u.raise e i).get (F.CUE_SRC_FLAGS e)).testBit j = (u.get (F.CUE_SRC_FLAGS e)).testBit j) ∧
    tblGet 0 (u.raise e i).cue.counts (i * 1024 + e) = (tblGet 0 u.cue.counts (i * 1024 + e) + 1) % 2 ^ 32 ∧
    ((u.before (F.CUE_SRC_ROUTE e)).testBit 15 = false →
      (u.raise e i).boxes = u.boxes ∧ (u.raise e i).cue.log = u.cue.log ∧ (u.raise e i).out = u.out)

/-- For every state and every occurrence: a log of at most 4,096 records keeps that depth, and box queues of at most 256
records keep theirs. (R524, R737) -/
def Obligations.EventStoresKeepTheirDepth : Prop :=
  ∀ (u : State) (e i : Nat),
    (u.cue.log.length ≤ 4096 → (u.raise e i).cue.log.length ≤ 4096) ∧
    ((∀ b, (u.box b).events.length ≤ 256) → ∀ b, ((u.raise e i).box b).events.length ≤ 256)

/-- For every vector and every two words of its length: the highest digit at which they differ decides the order, equal
words compare equal, and where every digit is below its radix the order is that of the values. (R264) -/
def Obligations.RadixWordsCompareByTheFirstUnequalDigit : Prop :=
  ∀ (v : List VDigit) (xs ys : List Nat), xs.length = v.length → ys.length = v.length →
    (∀ k : Nat, ∀ x y, xs[k]? = some x → ys[k]? = some y → (∀ j, k < j → xs[j]? = ys[j]?) → x ≠ y →
      cmpDigits xs ys = if x < y then 1 else 2) ∧
    (cmpDigits xs ys = 0 ↔ xs = ys) ∧
    ((∀ k : Nat, ∀ d x, v[k]? = some d → xs[k]? = some x → x < d.radix) →
      (∀ k : Nat, ∀ d y, v[k]? = some d → ys[k]? = some y → y < d.radix) →
      (cmpDigits xs ys = 1 ↔ digitsVal v xs < digitsVal v ys) ∧
      (cmpDigits xs ys = 2 ↔ digitsVal v ys < digitsVal v xs))

/-- For every vector all of whose digits are ORDINARY with a radix above 0, every word of digits below their radices and
every addend below the capacity: the value of the sum is the sum of the values modulo the capacity, OVERFLOW is
reported exactly when the sum reaches the capacity, and no other status arises. (R262, R263) -/
def Obligations.OrdinaryAdditionIsModuloTheCapacity : Prop :=
  ∀ (v : List VDigit) (xs : List Nat) (b : Nat), (∀ d ∈ v, 0 < d.radix ∧ d.carry = 0) → xs.length = v.length →
    (∀ k : Nat, ∀ d x, v[k]? = some d → xs[k]? = some x → x < d.radix) → b < capacity v →
    digitsVal v (vecAdd v xs b).1 = (digitsVal v xs + b) % capacity v ∧
    (vecAdd v xs b).2 = { overflow := decide (capacity v ≤ digitsVal v xs + b), saturated := false, wrapped := false }

/-- For every vector of positive radices: the digits of n have the value n modulo the capacity and are as many as the
vector's, and for every word of digits below their radices the value is below the capacity and its digits are the word
again. (R262) -/
def Obligations.RadixDigitsAndValuesRoundTrip : Prop :=
  ∀ (v : List VDigit) (n : Nat), (∀ d ∈ v, 0 < d.radix) →
    digitsVal v (toDigits v n) = n % capacity v ∧ (toDigits v n).length = v.length ∧
    (∀ xs : List Nat, xs.length = v.length →
      (∀ k : Nat, ∀ d x, v[k]? = some d → xs[k]? = some x → x < d.radix) →
      toDigits v (digitsVal v xs) = xs ∧ digitsVal v xs < capacity v)

/-- For each of the six transition commands, any granted master and either level of the hold-up pin: where a refusal of
R709 holds, the first that matches in table order is placed in LCY_RESULT.CODE with the transition as its source,
LCY_REFUSED is raised, and nothing else happens: no operation starts and no fuse is blown. (R709) -/
def Obligations.LifeCycleRefusesByTheFirstMatchingCode : Prop :=
  ∀ (m : Master) (h : Bool) (t : Ps) (code : Nat),
    ∀ p ∈ ([(.lcyToFactoryTest m h t, 1), (.lcyToProvisioned m h t, 2), (.lcyToField m h t, 3),
      (.lcyToFieldTest m h t, 4), (.lcyToAnalysis m h t, 5), (.lcyToScrap m h t, 6)] : List (Instr × Nat)),
    Runs p.1
      (fun u => let w := u.put F.LCY_STATUS_HOLDUP (bit h)
        w.granted m F.LCY_TRANSITION true = true ∧
        ([(2, u.lcy.op.isSome),
          (3, !((u.lcyState = 0 ∧ p.2 = 1) ∨ (u.lcyState = 1 ∧ p.2 = 2) ∨ (u.lcyState = 2 ∧ p.2 = 3) ∨
            (u.lcyState = 3 ∧ p.2 = 4) ∨ (u.lcyState = 2 ∧ p.2 = 5) ∨ (u.lcyState = 3 ∧ p.2 = 5) ∨
            (u.lcyState = 4 ∧ p.2 = 5) ∨ (u.lcyState ≠ 6 ∧ p.2 = 6))),
          (4, !(u.mode = 0 ∨ u.mode = 1 ∨ u.mode = 2 ∨ u.mode = 7)),
          (5, p.2 = 4 ∧ u.token = none), (6, u.sys.earlyWarning), (7, !h)] : List (Nat × Bool)).find? (fun x => x.2) =
          some (code, true))
      (fun u => let w := (u.put F.LCY_STATUS_HOLDUP (bit h)).withReg F.LCY_TRANSITION p.2
        ((((w.put F.LCY_STATUS_HOLDUP (bit (w.flag F.LCY_STATUS_HOLDUP))).put F.LCY_RESULT_CODE code).put
          F.LCY_RESULT_SOURCE 1).raise Ev.LCY_REFUSED).answered m 0)

/-- For every pair of 64-bit rows: rows that are not complements decode to LIMBO; else 0, 8, 16, 24, 40 and 64 ones from
bit 0 upward decode to RAW, FACTORY_TEST, PROVISIONED, FIELD (FIELD_TEST with a token spent since the last device
reset), ANALYSIS and SCRAP, and anything else to LIMBO. (R706) -/
def Obligations.LifeCycleCounterDecodes : Prop :=
  ∀ (value compl : Nat) (spent : Bool), lcyDecode value compl spent =
    if compl + value ≠ 2 ^ 64 - 1 then 7
    else if value = 0 then 0 else if value = 2 ^ 8 - 1 then 1 else if value = 2 ^ 16 - 1 then 2
    else if value = 2 ^ 24 - 1 then (if spent then 4 else 3)
    else if value = 2 ^ 40 - 1 then 5 else if value = 2 ^ 64 - 1 then 6 else 7

/-- In every still state in which a VERIFY is running, its completion is carried out, and afterwards no nonce is live and
no operation runs, whether the signature was good or not. (R719) -/
def Obligations.EachNonceServesOneVerify : Prop :=
  ∀ (t : Ps) (s : State), s.sys.held = false → s.lcy.op = some .verify → (begin t s).still = true →
    ∃ u : State, exec (.lcyVerifyDone t) s = .next u ∧ u.lcy.nonce = none ∧ u.lcy.op = none

/-- In a calm state, a granted write to GPIO_MWR_n completes; each of the 16 bits of GPIO_OUT_n takes its value bit where
its mask bit is 1 and is kept otherwise; every field of every other register, and every other part of the state but
the output and the instant, is unchanged. GPIO_MOE_n acts on GPIO_OE_n in the same way. (R690) -/
def Obligations.MaskedWritesChangeTheMaskedBits : Prop :=
  ∀ (m : Master) (k : Fin 40) (v : Nat) (t : Ps) (s : State), v < 2 ^ 32 → s.sys.held = false → (begin t s).calm = true →
    (s.granted m (F.GPIO_MWR k.val) true = true →
      ∃ u : State, exec (.gpioMwrWrite m k v t) s = .next u ∧
        (∀ i < 16, (u.get (F.GPIO_OUT_VALUE k.val)).testBit i =
          if v.testBit (16 + i) then v.testBit i else (s.get (F.GPIO_OUT_VALUE k.val)).testBit i) ∧
        (∀ g : Fld, g.addr ≠ (F.GPIO_OUT_VALUE k.val).addr → u.get g = s.get g) ∧
        ({ u with regs := s.regs, out := s.out, now := s.now, stores := s.stores, hits := s.hits } : State) = s) ∧
    (s.granted m (F.GPIO_MOE k.val) true = true →
      ∃ u : State, exec (.gpioMoeWrite m k v t) s = .next u ∧
        (∀ i < 16, (u.get (F.GPIO_OE_ENABLE k.val)).testBit i =
          if v.testBit (16 + i) then v.testBit i else (s.get (F.GPIO_OE_ENABLE k.val)).testBit i) ∧
        (∀ g : Fld, g.addr ≠ (F.GPIO_OE_ENABLE k.val).addr → u.get g = s.get g) ∧
        ({ u with regs := s.regs, out := s.out, now := s.now, stores := s.stores, hits := s.hits } : State) = s)

/-- In a calm state, a granted write to PRB_SEL_k that no scene change of the same instant overrides completes; EN and
POINT take their written bits, every other bit of the register is kept, and every field of every other register and
every other part of the state but the output and the instant is unchanged. (R565, R14) -/
def Obligations.SettingAndPortCommandsLeaveTheRest : Prop :=
  ∀ (m : Master) (v : Nat) (n : Fin 16) (t : Ps) (s : State), s.sys.held = false → (begin t s).calm = true →
    s.granted m (F.PRB_SEL n.val) true = true → tblGet none (begin t s).hits (F.PRB_SEL n.val).addr = none →
    ∃ u : State, exec (.prbSelWrite m n v t) s = .next u ∧
      (∀ i < 64, (u.regAt (F.PRB_SEL n.val).addr (F.PRB_SEL n.val).rst).testBit i =
        if Nat.testBit 0xBF i then v.testBit i else (s.regAt (F.PRB_SEL n.val).addr (F.PRB_SEL n.val).rst).testBit i) ∧
      (∀ g : Fld, g.addr ≠ (F.PRB_SEL n.val).addr → u.get g = s.get g) ∧
      ({ u with regs := s.regs, out := s.out, now := s.now, stores := s.stores, hits := s.hits } : State) = s

/-- In a still state the fabric user event, a UART break and the end of an SPI transfer with nothing queued complete, and
leave as they were: every field but the event flags, the boxes' lost and sequence counts and the command's own status
bit; every part of every box but its event queue and its lost mark; and every other part of the state but the cue
board, the output and the instant. (R561, R693, R694, R732) -/
def Obligations.EventCommandsLeaveTheRest : Prop :=
  ∀ (k : Fin 32) (j : Fin 4) (t : Ps) (s : State), s.sys.held = false → (begin t s).still = true →
    let rest := fun (c : Instr) (own : List Nat) => ∃ u : State, exec c s = .next u ∧
      (∀ g : Fld, g.addr ∉ own → (∀ n, g.addr ≠ (F.CUE_SRC_FLAGS n).addr) →
        (∀ n < 15, g.addr ≠ (F.IZX_BOX_EVT_LOST n).addr) → (∀ n < 15, g.addr ≠ (F.IZX_BOX_EVT_SEQ n).addr) →
        u.get g = s.get g) ∧
      (∀ b, ({ u.box b with events := (s.box b).events, lost := (s.box b).lost } : Box) = s.box b) ∧
      ({ u with cue := s.cue, regs := s.regs, boxes := s.boxes, out := s.out, now := s.now, stores := s.stores, hits := s.hits } : State) = s
    (s.phaseDone 5 = true → rest (.prbUser k t) []) ∧
    (s.flag (F.UART_CTRL_EN j.val) = true → s.mode ≠ 5 → rest (.uartBreak j t) [(F.UART_STATUS_BREAK j.val).addr]) ∧
    (s.flag (F.SPI_STATUS_BUSY j.val) = true → (s.spi j.val).tx = [] → (s.spi j.val).shifting = none →
      s.flag (F.SPI_CTRL_CS_HOLD j.val) = false → rest (.perSpiDone j t) [(F.SPI_STATUS_BUSY j.val).addr])

/-- In a calm state, each of the six transition commands that is granted and that nothing refuses completes: the
transition is the running operation, the rest of the life-cycle unit is unchanged, BUSY and HOLDUP read 1,
LCY_TRANSITION holds the target, and every field of every other register and every other part of the state but the
output and the instant is unchanged. (R708, R710) -/
def Obligations.TransitionsBeginWithTheirFusesOnly : Prop :=
  ∀ (m : Master) (t : Ps) (s : State), s.sys.held = false → (begin t s).calm = true →
    ∀ p ∈ ([(.lcyToFactoryTest m true t, 1), (.lcyToProvisioned m true t, 2), (.lcyToField m true t, 3),
      (.lcyToFieldTest m true t, 4), (.lcyToAnalysis m true t, 5), (.lcyToScrap m true t, 6)] : List (Instr × Nat)),
    (s.put F.LCY_STATUS_HOLDUP 1).granted m F.LCY_TRANSITION true = true →
    s.lcyFault p.2 true = none →
    ∃ u : State, exec p.1 s = .next u ∧ u.lcy = { s.lcy with op := some (.transition p.2) } ∧
      (∀ g : Fld, g.addr ≠ F.LCY_STATUS.addr → g.addr ≠ F.LCY_TRANSITION.addr → u.get g = s.get g) ∧
      u.get F.LCY_STATUS_BUSY = 1 ∧ u.get F.LCY_STATUS_HOLDUP = 1 ∧ u.get F.LCY_TRANSITION = p.2 ∧
      ({ u with regs := s.regs, lcy := s.lcy, out := s.out, now := s.now, stores := s.stores, hits := s.hits } : State) = s

/-- For every field of flags and every register: after hardware sets flags of a write-one-to-clear field, a write in the
same instant, whatever its value, leaves each of them set. After hardware adds to a read-to-clear field that it had
not yet changed in this instant, a read in the same instant clears nothing and sees the value from before. (R19, R20) -/
def Obligations.FlagsSetInTheInstantOfAnAccessStaySet : Prop :=
  ∀ (u : State) (f : Fld) (m v i : Nat) (r : RegAt), r.addr = f.addr → r.reset = f.rst → f.lo ≤ f.hi → f.hi < 64 →
    r.row.rw &&& r.row.w1c = 0 →
    (m.testBit i = true → f.lo + i ≤ f.hi → r.row.w1c.testBit (f.lo + i) = true →
      (r.row.merge ((u.setFlags f m).regAt f.addr f.rst) 0xFFFFFFFFFFFFFFFF ((u.setFlags f m).clearable r v)).testBit
        (f.lo + i) = true) ∧
    (tblGet none u.hits f.addr = none → r.row.rc ≠ 0 →
      (u.addSat f m).readClear r 0xFFFFFFFFFFFFFFFF = u.addSat f m ∧
      ∀ k, r.row.rc.testBit k = true → ((u.addSat f m).seen r).testBit k = (u.regAt f.addr f.rst).testBit k)

/-- For every fabric, every choice of clock trees that have an edge and of quadrants that run, and every flip-flop that
the design uses: outside those quadrants it keeps its value; while its reset tree asserts it is 0; with no edge of its
tree it keeps its value; else it takes its set or reset value where that signal stands, its data where it is enabled,
and keeps its value otherwise. That set and reset go ahead of the enable, and that an asynchronous reset gives 0, are
choices of log 101. (R538, R539, R550) -/
def Obligations.FlipFlopsTakeTheirDataAtTheirEdges : Prop :=
  ∀ (f : Fab) (inp pick : Sig → Bool) (mask on src n : Nat) (c : FfCfg), f.design.ff? n = some c →
    tblGet false (f.edges inp pick mask on src).ff n =
      if on.testBit (quadrantOf (n / 4096) (n / 16 % 256)) = false then tblGet false f.ff n
      else if ∃ k, c.arst = some k ∧ f.asserted k = true then false
      else if mask.testBit c.clk = false then tblGet false f.ff n
      else if f.levels inp c.sr = true then c.srSet
      else if f.levels inp c.ce = true then f.levels inp c.d
      else tblGet false f.ff n

/-- For every state and every 64-byte unit whose set holds at most 16 units, and holds fewer, or the unit itself, or an
unpinned one: after the cache has used the unit its set holds at most 16, the unit is the one most recently used,
every pinned unit of the set is still in it, every other set is unchanged, and nothing but the cache changes. (R215,
R216) -/
def Obligations.TheTileCacheKeepsSixteenWays : Prop :=
  ∀ (s : State) (u : Nat), (s.cacheLine (cacheSet u)).length ≤ 16 →
    ((s.cacheLine (cacheSet u)).length < 16 ∨ u ∈ s.cacheLine (cacheSet u) ∨
      ∃ v ∈ s.cacheLine (cacheSet u), v ∉ s.frg.pins) →
    ((s.cacheUse u).cacheLine (cacheSet u)).length ≤ 16 ∧ ((s.cacheUse u).cacheLine (cacheSet u)).head? = some u ∧
    (∀ v ∈ s.cacheLine (cacheSet u), v ∈ s.frg.pins → v ∈ (s.cacheUse u).cacheLine (cacheSet u)) ∧
    (∀ k, k ≠ cacheSet u → (s.cacheUse u).cacheLine k = s.cacheLine k) ∧
    ({ s.cacheUse u with frg := { (s.cacheUse u).frg with cache := s.frg.cache } } : State) = s

/-- For every state in which nothing is put off and every two happenings that may be put off: one that is put off stays so
while a further command of the instant waits in the queue; where none does it takes place at once; and of two the one
that the tables of R409, R453, R498 and R530 put first takes place first, in whichever order they came. That the end
of an instant is where no further command of it waits is the model's choice (log 122). (R409, R453, R498, R530) -/
def Obligations.WhatIsPutOffTakesPlaceWhenItsInstantEnds : Prop :=
  ∀ (u : State) (k l : Later), u.later = [] →
    (u.more = true → (u.defer l).instantEnd = u.defer l) ∧
    (u.more = false → (u.defer l).instantEnd = u.laterRun l ∧
      (k.rank < l.rank → ((u.defer k).defer l).instantEnd = (u.laterRun k).laterRun l ∧
        ((u.defer l).defer k).instantEnd = (u.laterRun k).laterRun l))
end

