-- ==== Sys2Proof/Laws/Bits.lean ====
section
/-! SUPPORT. Bit fields of numbers: a field reads the value put into it, and every other field keeps its value. -/

set_option Elab.async false

namespace Sys2Proof

/-- Replacing a field keeps what is below and above it. -/
theorem setBits_split (v hi lo x : Nat) :
    setBits v hi lo x =
      2 ^ lo * (2 ^ (hi + 1 - lo) * (v / 2 ^ lo / 2 ^ (hi + 1 - lo)) + x % 2 ^ (hi + 1 - lo)) + v % 2 ^ lo := by
  unfold setBits bits
  generalize 2 ^ (hi + 1 - lo) = w
  generalize hL : 2 ^ lo = l
  have h1 := Nat.div_add_mod v l
  have h2 := Nat.div_add_mod (v / l) w
  generalize v / l = q at *
  generalize v % l = r at *
  generalize q / w = a at *
  generalize q % w = b at *
  subst h1 h2
  rw [Nat.mul_add, Nat.mul_add, Nat.mul_comm b l, Nat.mul_comm (x % w) l]
  omega

/-- Each bit after a field is replaced. -/
theorem testBit_setBits (v hi lo x i : Nat) (h : lo ≤ hi) :
    (setBits v hi lo x).testBit i = if lo ≤ i ∧ i ≤ hi then x.testBit (i - lo) else v.testBit i := by
  rw [setBits_split, Nat.testBit_two_pow_mul_add _ (Nat.mod_lt _ (Nat.two_pow_pos lo))]
  by_cases h1 : i < lo
  · rw [if_pos h1, if_neg (by omega), Nat.testBit_mod_two_pow]
    simp [h1]
  · rw [if_neg h1, Nat.testBit_two_pow_mul_add _ (Nat.mod_lt _ (Nat.two_pow_pos _))]
    by_cases h2 : i ≤ hi
    · rw [if_pos (by omega), if_pos ⟨by omega, h2⟩, Nat.testBit_mod_two_pow]
      simp; omega
    · rw [if_neg (by omega), if_neg (by omega), Nat.testBit_div_two_pow, Nat.testBit_div_two_pow]
      congr 1
      omega

/-- Each bit of a field. -/
theorem testBit_bits (v hi lo i : Nat) : (bits v hi lo).testBit i = (decide (i < hi + 1 - lo) && v.testBit (i + lo)) := by
  unfold bits
  rw [Nat.testBit_mod_two_pow, Nat.testBit_div_two_pow]

/-- A field reads the value put into it, modulo its width. -/
theorem bits_setBits_same (v hi lo x : Nat) (h : lo ≤ hi) (hh : hi < 64) :
    bits (setBits v hi lo x % 2 ^ 64) hi lo = x % 2 ^ (hi + 1 - lo) := by
  refine Nat.eq_of_testBit_eq (fun i => ?_)
  rw [testBit_bits, Nat.testBit_mod_two_pow, testBit_setBits _ _ _ _ _ h, Nat.testBit_mod_two_pow]
  by_cases hi' : i < hi + 1 - lo
  · rw [if_pos (by omega)]
    simp [hi', show i + lo < 64 by omega]
  · simp [hi']

/-- A field above or below keeps its value. -/
theorem bits_setBits_ne (v hi lo x a b : Nat) (h : lo ≤ hi) (hh : a < 64) (hd : a < lo ∨ hi < b) :
    bits (setBits v hi lo x % 2 ^ 64) a b = bits v a b := by
  refine Nat.eq_of_testBit_eq (fun i => ?_)
  rw [testBit_bits, testBit_bits, Nat.testBit_mod_two_pow, testBit_setBits _ _ _ _ _ h]
  by_cases hi' : i < a + 1 - b
  · rw [if_neg (by omega)]
    simp [hi', show i + b < 64 by omega]
  · simp [hi']

/-- Each bit of a number after the bits of a mask are cleared. -/
theorem testBit_clear : ∀ (i x m : Nat), (x - (x &&& m)).testBit i = (x.testBit i && !m.testBit i)
  | 0, x, m => by
    have hle := @Nat.and_le_left x m
    have hp : (x &&& m) % 2 = x % 2 * (m % 2) := by
      have := @Nat.testBit_and x m 0
      simp only [Nat.testBit_zero] at this
      rcases Nat.mod_two_eq_zero_or_one x with hx | hx <;> rcases Nat.mod_two_eq_zero_or_one m with hm | hm <;>
        rcases Nat.mod_two_eq_zero_or_one (x &&& m) with hy | hy <;> simp_all
    simp only [Nat.testBit_zero]
    rcases Nat.mod_two_eq_zero_or_one x with hx | hx <;> rcases Nat.mod_two_eq_zero_or_one m with hm | hm <;>
      rw [hx, hm] at hp <;> simp [hx, hm] <;> omega
  | i + 1, x, m => by
    have hle := @Nat.and_le_left x m
    have hd : (x &&& m) / 2 = x / 2 &&& m / 2 := Nat.and_div_two
    have hp : (x &&& m) % 2 ≤ x % 2 := by
      have := @Nat.testBit_and x m 0
      simp only [Nat.testBit_zero] at this
      rcases Nat.mod_two_eq_zero_or_one x with hx | hx <;> rcases Nat.mod_two_eq_zero_or_one (x &&& m) with hy | hy <;>
        simp_all <;> omega
    rw [Nat.testBit_succ, Nat.testBit_succ, Nat.testBit_succ, show (x - (x &&& m)) / 2 = x / 2 - (x / 2 &&& m / 2) by omega]
    exact testBit_clear i _ _

end Sys2Proof
end

