-- ==== Sys2Proof/Laws/Bus.lean ====
section
/-! SUPPORT. How a command runs, once for all of them, and what a register access does when it is granted. -/

set_option Elab.async false

namespace Sys2Proof.Machine

/-- A command whose meaning is a body behind the held reset completes with whatever that body does. -/
theorem runs_of_runU (c : Instr) (f E : State → State) (G : State → Prop) (hc : ∀ s, exec c s = runU c.time s f)
    (hf : ∀ u : State, G u → f u = E u) : Runs c G E := by
  intro s hh hG
  have hb : (begin c.time s).sys.held = false := hh
  rw [hc]
  show Host.Outcome.next (finish c.time s ((if (!(begin c.time s).sys.held) = true then f (begin c.time s)
    else begin c.time s).settleAll).eventsSend) = _
  rw [if_pos (by simp [hb]), hf _ hG]
  rfl

/-- A command that a held reset does not close completes with whatever its body does. -/
theorem runsHeld_of_runW (c : Instr) (f E : State → State) (G : State → Prop) (hc : ∀ s, exec c s = runW c.time s f)
    (hf : ∀ u : State, G u → f u = E u) : RunsHeld c G E := by
  intro s hG
  rw [hc]
  show Host.Outcome.next (finish c.time s ((f (begin c.time s)).settleAll).eventsSend) = _
  rw [hf _ hG]
  rfl

/-- An awake device never notes a wake source for an access. -/
theorem State.wakeSource_awake (u : State) (src : Nat) (h : u.get F.PWR_STATUS_STATE = 0) : u.wakeSource src = u := by
  unfold State.wakeSource
  simp [h]

/-- An awake device serves every address. -/
theorem State.awakeFor_awake (u : State) (a : Nat) (h : u.get F.PWR_STATUS_STATE = 0) : u.awakeFor a = true := by
  unfold State.awakeFor
  rw [h]
  simp

/-- A register that is always on, or any register of an awake device, is reached without waking anything. -/
theorem State.served (u : State) (a : Nat) (h : (aonServed a || u.get F.PWR_STATUS_STATE == 0) = true) :
    (if aonServed a = true then u else u.wakeSource 0) = u ∧ u.awakeFor a = true := by
  by_cases ha : aonServed a = true
  · exact ⟨if_pos ha, by simp [State.awakeFor, ha]⟩
  · have hp : u.get F.PWR_STATUS_STATE = 0 := by simpa [ha] using h
    exact ⟨by rw [if_neg ha, State.wakeSource_awake u 0 hp], State.awakeFor_awake u a hp⟩

/-- Outside SCRAP and LIMBO the life cycle lets every access through. -/
theorem State.lcyAllows_alive (u : State) (a : Access) (h6 : u.lcyState ≠ 6) (h7 : u.lcyState ≠ 7) :
    u.lcyAllows a = true := by
  unfold State.lcyAllows
  split <;> simp_all

/-- A master with the right reaches the bus. -/
theorem State.access_reach (u : State) (a : Access) (h : u.mayReg a.master a.addr a.data.isSome = true) :
    u.access a = u.reach a := by
  unfold State.access
  cases hmm : a.master with
  | prompter => rfl
  | fabric =>
    rw [hmm] at h
    simp only [State.mayReg] at h
    have hc : u.cpMay a = true := by
      unfold State.cpMay
      cases hd : a.data <;> simp_all
    simp only [hc, if_true]
  | box b =>
    rw [hmm] at h
    simp only [State.mayReg] at h
    simp only [h, if_true]

/-- A granted access in the slave window is passed to the fabric, or ends with DECODE while no fabric serves it (R555,
R556); during a scene's swap it waits (R585). -/
theorem State.access_window (u : State) (m : Master) (a : Access) (f : Fld) (ha : a.addr = f.addr) (hm : a.master = m)
    (hin : inWindow f.addr = true) (hok : u.granted m f a.data.isSome = true) :
    u.access a =
      if u.cfg.swap.isSome then (u, .window)
      else if u.flag F.PRB_CP_STATUS_SLAVE then (u.emit (.window a.addr a.wide a.data), .window)
      else (((u.addSat F.PRB_SLAVE_TIMEOUTS 1).raise Ev.SYS_DECODE_FAULT).raise Ev.PRB_SLAVE_TIMEOUT, .done 0 1) := by
  unfold State.granted at hok
  rw [Bool.and_eq_true, Bool.and_eq_true, Bool.and_eq_true, bne_iff_ne, bne_iff_ne] at hok
  obtain ⟨⟨⟨hmay, h6⟩, h7⟩, hp⟩ := hok
  obtain ⟨e1, e2⟩ := State.served u f.addr hp
  rw [State.access_reach u a (by rw [ha, hm]; exact hmay)]
  unfold State.reach
  rw [State.lcyAllows_alive u a h6 h7]
  dsimp only
  rw [ha, e1, e2, hin]
  simp

/-- A granted access reaches the registers at once. -/
theorem State.access_granted (u : State) (m : Master) (a : Access) (f : Fld) (ha : a.addr = f.addr) (hm : a.master = m)
    (hin : inWindow f.addr = false) (hok : u.granted m f a.data.isSome = true) :
    u.access a =
      let q := if a.wide then u.access64 m a.addr a.data else u.access32 m a.addr a.data
      (q.1, .done q.2.1 q.2.2) := by
  unfold State.granted at hok
  rw [Bool.and_eq_true, Bool.and_eq_true, Bool.and_eq_true, bne_iff_ne, bne_iff_ne] at hok
  obtain ⟨⟨⟨hmay, h6⟩, h7⟩, hp⟩ := hok
  obtain ⟨e1, e2⟩ := State.served u f.addr hp
  rw [State.access_reach u a (by rw [ha, hm]; exact hmay)]
  unfold State.reach
  rw [State.lcyAllows_alive u a h6 h7]
  dsimp only
  rw [ha, e1, e2, hin, hm]
  simp

/-- A granted access ends with its data and status, whoever waits for it. -/
theorem State.accRun_ends (u : State) (m : Master) (a : Access) (f : Fld) (w : Waiter) (ha : a.addr = f.addr)
    (hm : a.master = m) (hin : inWindow f.addr = false) (hok : u.granted m f a.data.isSome = true) :
    u.accRun w a =
      let q := if a.wide then u.access64 m a.addr a.data else u.access32 m a.addr a.data
      q.1.accDone w a q.2.1 q.2.2 := by
  unfold State.accRun
  rw [State.access_granted u m a f ha hm hin hok]

/-- A granted single access shows its data and status. -/
theorem State.accRun_granted (u : State) (m : Master) (a : Access) (f : Fld) (ha : a.addr = f.addr) (hm : a.master = m)
    (hin : inWindow f.addr = false) (hok : u.granted m f a.data.isSome = true) :
    u.accRun (.bare m) a =
      let q := if a.wide then u.access64 m a.addr a.data else u.access32 m a.addr a.data
      q.1.emit (.reg m q.2.1 q.2.2) := State.accRun_ends u m a f (.bare m) ha hm hin hok

/-- The halves of a guarded pair. -/
theorem guardPair_low (v : Nat) (hlt : v < 2 ^ 32) : guardPair v % 2 ^ 32 = v := by unfold guardPair; omega

theorem guardPair_high (v : Nat) (hlt : v < 2 ^ 32) : guardPair v / 2 ^ 32 = 0xFFFFFFFF - v := by unfold guardPair; omega

theorem guardPair_lt (v : Nat) (hlt : v < 2 ^ 32) : guardPair v % 2 ^ 64 = guardPair v := by unfold guardPair; omega

/-- A mask of the low half sees only the low half. -/
theorem and_low (p w : Nat) (hw : w < 2 ^ 32) : p &&& w = p % 2 ^ 32 &&& w := by
  refine Nat.eq_of_testBit_eq (fun i => ?_)
  rw [Nat.testBit_and, Nat.testBit_and, Nat.testBit_mod_two_pow]
  by_cases hi : i < 32
  · simp [hi]
  · have : w.testBit i = false :=
      Nat.testBit_lt_two_pow (Nat.lt_of_lt_of_le hw (Nat.pow_le_pow_right (by decide) (Nat.le_of_not_lt hi)))
    simp [this]

/-- A value with its complement reaches a guarded register, and its operation runs (R15, R18). -/
theorem State.writeGuard_pair (u : State) (r : RegAt) (p v : Nat) (hlo : p % 2 ^ 32 = v) (hhi : p / 2 ^ 32 = 0xFFFFFFFF - v)
    (hv : v &&& r.row.rw = v) (hrw : r.row.rw < 2 ^ 32) :
    u.writeGuard r p = ((u.setRegAt r.addr r.reset v).guardAct r.row.id r.i v, 0) := by
  have h3 : p &&& r.row.rw = v := by rw [and_low p _ hrw, hlo, hv]
  unfold State.writeGuard
  rw [if_neg (by rw [hlo, hhi]; exact fun h => h rfl), h3]

/-- A 64-bit write of a guarded register goes to the guard. -/
theorem State.access64_guard (u : State) (m : Master) (a p : Nat) (r : RegAt) (hr : findReg a = some r)
    (hw : r.row.wide = true) (hg : r.row.wg = true) (h0 : r.off = 0) (x : State)
    (hx : u.writeGuard r (p % 2 ^ 64) = (x, 0)) : u.access64 m a (some p) = (x, 0, 0) := by
  unfold State.access64
  rw [hr]
  dsimp only
  rw [if_pos ⟨hw, h0⟩, if_pos hg, hx]

/-- A granted pair for a guarded register is stored and acts, and the master is answered (R15 to R18). -/
theorem State.guardWrite_granted (u : State) (m : Master) (f : Fld) (v : Nat) (r : RegAt) (hr : findReg f.addr = some r)
    (hw : r.row.wide = true) (hg : r.row.wg = true) (h0 : r.off = 0) (ha : r.addr = f.addr) (hs : r.reset = f.rst)
    (hv : v &&& r.row.rw = v) (hrw : r.row.rw < 2 ^ 32) (hlt : v < 2 ^ 32) (hin : inWindow f.addr = false)
    (hok : u.granted m f true = true) :
    u.guardWrite m f v = ((u.withReg f v).guardAct r.row.id r.i v).answered m 0 := by
  have hp := guardPair_lt v hlt
  have hwg := State.writeGuard_pair u r _ v (guardPair_low v hlt) (guardPair_high v hlt) hv hrw
  rw [ha, hs, ← hp] at hwg
  have hq := State.access64_guard u m f.addr (guardPair v) r hr hw hg h0 _ hwg
  unfold State.guardWrite
  rw [Nat.mod_eq_of_lt hlt]
  rw [State.accRun_granted u m { master := m, addr := f.addr, wide := true, data := some (guardPair v) } f rfl rfl hin hok]
  dsimp only
  rw [if_pos rfl, hq]
  rfl

/-- A granted 32-bit write of a register that is not guarded takes its effect, and the master is answered (R14). -/
theorem State.busWrite_granted (u : State) (m : Master) (f : Fld) (v : Nat) (r : RegAt) (hr : findReg f.addr = some r)
    (hg : r.row.wg = false) (h0 : r.off = 0) (hin : inWindow f.addr = false) (hok : u.granted m f true = true) :
    u.busWrite m f v = (u.writePlain r 0xFFFFFFFF (v % 2 ^ 32)).answered m 0 := by
  unfold State.busWrite
  rw [State.accRun_granted u m { master := m, addr := f.addr, wide := false, data := some (v % 2 ^ 32) } f rfl rfl hin hok]
  simp [State.access32, hr, State.write32, hg, h0, State.answered]

/-- A granted 64-bit write of a register that is not guarded takes its effect, and the master is answered (R14, R767). -/
theorem State.busWrite64_granted (u : State) (m : Master) (f : Fld) (v : Nat) (r : RegAt) (hr : findReg f.addr = some r)
    (hw : r.row.wide = true) (hg : r.row.wg = false) (h0 : r.off = 0) (hin : inWindow f.addr = false)
    (hok : u.granted m f true = true) :
    u.busWrite64 m f v = (u.writePlain r (2 ^ 64 - 1) (v % 2 ^ 64)).answered m 0 := by
  unfold State.busWrite64
  rw [State.accRun_granted u m { master := m, addr := f.addr, wide := true, data := some (v % 2 ^ 64) } f rfl rfl hin hok]
  simp [State.access64, hr, hw, hg, h0, State.answered]

/-- A granted 32-bit read answers with the register's value. -/
theorem State.busRead_granted (u : State) (m : Master) (f : Fld) (r : RegAt) (hr : findReg f.addr = some r)
    (hin : inWindow f.addr = false) (hok : u.granted m f false = true) :
    u.busRead m f = (u.read32 m r).1.answered m (u.read32 m r).2 := by
  unfold State.busRead
  rw [State.accRun_granted u m { master := m, addr := f.addr, wide := false, data := none } f rfl rfl hin hok]
  simp [State.access32, hr, State.answered]

/-- A register without write-one-to-clear bits takes the written value as it is. -/
theorem State.clearable_plain (u : State) (r : RegAt) (v : Nat) (h : r.row.w1c = 0) : u.clearable r v = v := by
  unfold State.clearable
  rw [if_pos h]

/-- A register without read-to-clear bits reads as it is stored. -/
theorem State.seen_plain (u : State) (r : RegAt) (h : r.row.rc = 0) : u.seen r = u.regAt r.addr r.reset := by
  unfold State.seen
  rw [if_pos h]

/-- What a plain 32-bit write leaves in a register without write-one-to-clear bits. -/
theorem State.rwValue_merge (u : State) (f : Fld) (w : RegRow) (rw v : Nat) {a d : Nat} (ha : a = f.addr) (hs : d = f.rst)
    (hr : w.rw &&& 0xFFFFFFFF = rw) (hc : w.w1c = 0) :
    w.merge (u.regAt a d) 0xFFFFFFFF (v % 2 ^ 32) = u.rwValue f rw v := by
  have hw : rw < 2 ^ 32 := by
    rw [← hr]
    exact Nat.lt_of_le_of_lt Nat.and_le_right (by decide)
  unfold State.rwValue RegRow.merge
  rw [ha, hs, hr, hc, and_low v rw hw]
  simp [clearBits]

/-- As `rwValue_merge`, of a 64-bit register. -/
theorem State.rwValue_merge64 (u : State) (f : Fld) (w : RegRow) (rw v : Nat) {a d : Nat} (ha : a = f.addr)
    (hs : d = f.rst) (hr : w.rw &&& (2 ^ 64 - 1) = rw) (hc : w.w1c = 0) :
    w.merge (u.regAt a d) (2 ^ 64 - 1) (v % 2 ^ 64) = u.rwValue f rw v := by
  have hv : v % 2 ^ 64 &&& rw = v &&& rw := by
    rw [← hr, Nat.and_comm w.rw, ← Nat.and_assoc, ← Nat.and_assoc, Nat.and_two_pow_sub_one_eq_mod,
      Nat.and_two_pow_sub_one_eq_mod, Nat.mod_mod]
  unfold State.rwValue RegRow.merge
  rw [ha, hs, hr, hc, hv]
  simp [clearBits]

/-- Announcing takes the line that is due, if one is. -/
theorem State.announce_lineDue (u : State) (n : Nat) :
    u.announce n =
      (let a := u.settle n u.now
       match a.lineDue n with
       | none => a
       | some (l, id, ver) =>
         let x : Line := { track := n, item := l.item, c := l.c, index := l.index, fire := l.fire, layout := id,
                           version := ver, announced := a.now }
         let b := a.announceMark n l
         if b.itemCorrupt n l.item then (b.formsIn x (b.headsOf n)).recordUnder x []
         else
           let p := b.lineFetch 4 x
           (p.1.setLines (p.1.frg.lines ++ [p.2])).linesShow) := by
  unfold State.announce State.lineDue
  dsimp only
  generalize u.settle n u.now = a
  generalize List.foldl _ none (a.toAnnounce n) = first
  cases first with
  | none => rfl
  | some x =>
    obtain ⟨l, id, ver⟩ := x
    dsimp only
    cases a.predict n l.fire with
    | none => rfl
    | some t =>
      dsimp only
      have key : ∀ (c d : Bool) (m : Nat) (x y : State),
          (if (!c) = true ∨ (!d) = true ∨ 4096 ≤ m then x else y) = if c = true ∧ d = true ∧ m < 4096 then y else x := by
        intro c d m x y
        cases c <;> cases d <;> by_cases h : 4096 ≤ m <;> simp [h] <;> omega
      rw [key]
      simp only [decide_eq_true_eq]
      split
      · rfl
      · rfl

/-- Settling a track's position moves no time. -/
@[simp] theorem State.settle_now (s : State) (n : Nat) (t : Ps) : (s.settle n t).now = s.now := by
  unfold State.settle
  dsimp only
  split <;> rfl

end Sys2Proof.Machine
end

