-- ==== Sys2Proof/Laws/Regs.lean ====
section
/-! SUPPORT. Where the register map finds the registers that commands write or read by name. -/

set_option Elab.async false

namespace Sys2Proof.Machine

/-- A row whose registers may lie in `[lo, hi)`. -/
def RegRow.near (r : RegRow) (lo hi : Nat) : Bool :=
  decide (r.base < hi) && decide (lo < r.base + r.s1 * (r.n1 - 1) + r.s2 * (r.n2 - 1) + 8)

/-- A row that is not near an address holds no register there. -/
theorem RegRow.at?_far (r : RegRow) (lo hi a : Nat) (h1 : lo ≤ a) (h2 : a < hi) (h : r.near lo hi = false) :
    r.at? a = none := by
  unfold RegRow.near at h
  unfold RegRow.at?
  by_cases hb : a < r.base
  · rw [if_pos hb]
  rw [if_neg hb]
  dsimp only
  have hlo : r.base + r.s1 * (r.n1 - 1) + r.s2 * (r.n2 - 1) + 8 ≤ a := by
    simp only [Bool.and_eq_false_iff, decide_eq_false_iff_not] at h
    omega
  rw [if_neg]
  rintro ⟨hi', hj, ho⟩
  have e1 : r.s1 * (if r.s1 = 0 then 0 else (a - r.base) / r.s1) + (if r.s1 = 0 then a - r.base else (a - r.base) % r.s1) =
      a - r.base := by
    split
    · simp_all
    · exact Nat.div_add_mod _ _
  generalize (if r.s1 = 0 then 0 else (a - r.base) / r.s1) = i at *
  generalize (if r.s1 = 0 then a - r.base else (a - r.base) % r.s1) = o1 at *
  have e2 : r.s2 * (if r.s2 = 0 then 0 else o1 / r.s2) + (if r.s2 = 0 then o1 else o1 % r.s2) = o1 := by
    split
    · simp_all
    · exact Nat.div_add_mod _ _
  generalize (if r.s2 = 0 then 0 else o1 / r.s2) = j at *
  generalize (if r.s2 = 0 then o1 else o1 % r.s2) = o2 at *
  have m1 : r.s1 * i ≤ r.s1 * (r.n1 - 1) := Nat.mul_le_mul_left _ (by omega)
  have m2 : r.s2 * j ≤ r.s2 * (r.n2 - 1) := Nat.mul_le_mul_left _ (by omega)
  omega

/-- Only the rows near an address decide what it holds. -/
theorem findReg_near (lo hi a : Nat) (h1 : lo ≤ a) (h2 : a < hi) :
    findReg a = (regRows.filter (fun r => r.near lo hi)).findSome? (fun r => r.at? a) := by
  unfold findReg
  generalize regRows = l
  induction l with
  | nil => rfl
  | cons r l ih =>
    by_cases hn : r.near lo hi = true
    · simp only [List.filter_cons, hn, if_true, List.findSome?_cons, ih]
    · simp only [List.filter_cons, hn, List.findSome?_cons, RegRow.at?_far r lo hi a h1 h2 (by simpa using hn), ih]
      rfl

/-- The rows of the TRK block. -/
def trkRows : List RegRow := [
  ⟨.TRK_CTRL, 0xD0000, 0x800, 16, 0x0, 1, false, false, 0x7, 0x0, 0x0, 0x0, 0x0⟩,
  ⟨.TRK_STATUS, 0xD0004, 0x800, 16, 0x0, 1, false, false, 0x0, 0x0, 0x0, 0x0, 0x0⟩,
  ⟨.TRK_INPUT, 0xD0008, 0x800, 16, 0x0, 1, false, false, 0xFF0305, 0x0, 0x0, 0x0, 0x100000⟩,
  ⟨.TRK_PITCH, 0xD000C, 0x800, 16, 0x0, 1, false, false, 0xFFFFFFFF, 0x0, 0x0, 0x0, 0x1000⟩,
  ⟨.TRK_POS, 0xD0010, 0x800, 16, 0x0, 1, true, false, 0x0, 0x0, 0x0, 0x0, 0x0⟩,
  ⟨.TRK_HWM, 0xD0018, 0x800, 16, 0x0, 1, true, false, 0x0, 0x0, 0x0, 0x0, 0x0⟩,
  ⟨.TRK_CUE_POS, 0xD0048, 0x800, 16, 0x0, 1, true, false, 0x0, 0x0, 0x0, 0x0, 0x0⟩,
  ⟨.TRK_VEL, 0xD0020, 0x800, 16, 0x0, 1, false, false, 0x0, 0x0, 0x0, 0x0, 0x0⟩,
  ⟨.TRK_LOCK, 0xD0024, 0x800, 16, 0x0, 1, false, false, 0xFFFF0FFF, 0x0, 0x0, 0x0, 0x10540200⟩,
  ⟨.TRK_COAST, 0xD0028, 0x800, 16, 0x0, 1, false, false, 0xFFFF80FF, 0x0, 0x0, 0x0, 0x400020⟩,
  ⟨.TRK_DECEL, 0xD002C, 0x800, 16, 0x0, 1, false, false, 0xFFFFFFFF, 0x0, 0x0, 0x0, 0x0⟩,
  ⟨.TRK_REJOIN, 0xD0030, 0x800, 16, 0x0, 1, false, false, 0xFFFF0FFF, 0x0, 0x0, 0x0, 0x40000100⟩,
  ⟨.TRK_JUMP, 0xD0034, 0x800, 16, 0x0, 1, false, false, 0x0, 0x0, 0x0, 0x0, 0x0⟩,
  ⟨.TRK_REV, 0xD0038, 0x800, 16, 0x0, 1, false, false, 0xFFFF, 0x0, 0x0, 0x0, 0x4⟩,
  ⟨.TRK_SCHED, 0xD003C, 0x800, 16, 0x0, 1, false, false, 0xFFFFFFFF, 0x0, 0x0, 0x0, 0x40100C8⟩,
  ⟨.TRK_CUE, 0xD0040, 0x800, 16, 0x0, 1, false, false, 0xFFFFFFF7, 0x0, 0x0, 0x0, 0x10⟩,
  ⟨.TRK_CUE_CFG, 0xD0044, 0x800, 16, 0x0, 1, false, false, 0xFFFFFFFF, 0x0, 0x0, 0x0, 0x0⟩,
  ⟨.TRK_Z, 0xD0050, 0x800, 16, 0x0, 1, false, false, 0xFFFFFFFF, 0x0, 0x0, 0x0, 0x0⟩]

theorem trkRows_eq : regRows.filter (fun r => r.near 0xd0000 0xd7854) = trkRows := by decide +kernel

theorem findReg_SYS_MODE_REQ : findReg F.SYS_MODE_REQ.addr =
    some ⟨⟨.SYS_MODE_REQ, 0x108, 0x0, 1, 0x0, 1, true, true, 0x7, 0x0, 0x0, 0x0, 0x0⟩, 0, 0, 0⟩ := by
  decide +kernel

theorem findReg_SYS_RESET_REQ : findReg F.SYS_RESET_REQ.addr =
    some ⟨⟨.SYS_RESET_REQ, 0x128, 0x0, 1, 0x0, 1, true, true, 0x3, 0x0, 0x0, 0x0, 0x0⟩, 0, 0, 0⟩ := by
  decide +kernel

theorem findReg_SYS_CALL_CTRL : findReg F.SYS_CALL_CTRL.addr =
    some ⟨⟨.SYS_CALL_CTRL, 0x118, 0x0, 1, 0x0, 1, false, false, 0x1, 0x0, 0x0, 0x6, 0x0⟩, 0, 0, 0⟩ := by
  decide +kernel

theorem findReg_WQ_FLUSH (i : Fin 16) : findReg (F.WQ_FLUSH i.val).addr =
    some ⟨⟨.WQ_FLUSH, 0xE0048, 0x100, 16, 0x0, 1, true, true, 0x3, 0x0, 0x0, 0x0, 0x0⟩, i.val, 0, 0⟩ := by
  revert i
  decide +kernel

theorem findReg_FRG_LAYOUT_OP : findReg F.FRG_LAYOUT_OP.addr =
    some ⟨⟨.FRG_LAYOUT_OP, 0x100038, 0x0, 1, 0x0, 1, true, true, 0x3FFFFF, 0x0, 0x0, 0x0, 0x0⟩, 0, 0, 0⟩ := by
  decide +kernel

theorem findReg_FRG_BUDGET : findReg F.FRG_BUDGET.addr =
    some ⟨⟨.FRG_BUDGET, 0x100008, 0x0, 1, 0x0, 1, false, false, 0xFFFCFF00, 0x0, 0x0, 0x0, 0xFAC00400⟩, 0, 0, 0⟩ := by
  decide +kernel

theorem findReg_FRG_CACHE_CFG : findReg F.FRG_CACHE_CFG.addr =
    some ⟨⟨.FRG_CACHE_CFG, 0x100050, 0x0, 1, 0x0, 1, false, false, 0xF, 0x0, 0x0, 0x0, 0x8⟩, 0, 0, 0⟩ := by
  decide +kernel

theorem findReg_FRG_CTRL : findReg F.FRG_CTRL.addr =
    some ⟨⟨.FRG_CTRL, 0x100000, 0x0, 1, 0x0, 1, false, false, 0xFF, 0x0, 0x0, 0x0, 0xFF⟩, 0, 0, 0⟩ := by
  decide +kernel

theorem findReg_FRG_DL_POP : findReg F.FRG_DL_POP.addr =
    some ⟨⟨.FRG_DL_POP, 0x101020, 0x0, 1, 0x0, 1, false, false, 0x0, 0x0, 0x0, 0x1, 0x0⟩, 0, 0, 0⟩ := by
  decide +kernel

theorem findReg_FRG_VD_OP : findReg F.FRG_VD_OP.addr =
    some ⟨⟨.FRG_VD_OP, 0x102010, 0x0, 1, 0x0, 1, false, false, 0x0, 0x0, 0x0, 0x7F07, 0x0⟩, 0, 0, 0⟩ := by
  decide +kernel

theorem findReg_FRG_TAP_CTRL (i : Fin 8) : findReg (F.FRG_TAP_CTRL i.val).addr =
    some ⟨⟨.FRG_TAP_CTRL, 0x100080, 0x4, 8, 0x0, 1, false, false, 0xFFFF0003, 0x0, 0x0, 0x0, 0x0⟩, i.val, 0, 0⟩ := by
  rw [findReg_near 0x100080 0x1000a0 _ (by unfold F.FRG_TAP_CTRL; dsimp only; omega) (by unfold F.FRG_TAP_CTRL; dsimp only; omega)]
  rw [show regRows.filter (fun r => r.near 0x100080 0x1000a0) = [⟨.FRG_TAP_CTRL, 0x100080, 0x4, 8, 0x0, 1, false, false, 0xFFFF0003, 0x0, 0x0, 0x0, 0x0⟩] from by decide +kernel]
  revert i
  decide +kernel

theorem findReg_NZC_PATCH_ENTRY : findReg F.NZC_PATCH_ENTRY.addr =
    some ⟨⟨.NZC_PATCH_ENTRY, 0x110034, 0x0, 1, 0x0, 1, false, false, 0x0, 0x0, 0x0, 0xFFFFFFFF, 0x0⟩, 0, 0, 0⟩ := by
  decide +kernel

theorem findReg_NZC_OP : findReg F.NZC_OP.addr =
    some ⟨⟨.NZC_OP, 0x110008, 0x0, 1, 0x0, 1, true, true, 0xF, 0x0, 0x0, 0x0, 0x0⟩, 0, 0, 0⟩ := by
  decide +kernel

theorem findReg_STG_LANE_OP : findReg F.STG_LANE_OP.addr =
    some ⟨⟨.STG_LANE_OP, 0x120008, 0x0, 1, 0x0, 1, true, true, 0x1F03, 0x0, 0x0, 0x0, 0x0⟩, 0, 0, 0⟩ := by
  decide +kernel

theorem findReg_DPX_CO_REQ : findReg F.DPX_CO_REQ.addr =
    some ⟨⟨.DPX_CO_REQ, 0xC0010, 0x0, 1, 0x0, 1, true, true, 0x3, 0x0, 0x0, 0x0, 0x0⟩, 0, 0, 0⟩ := by
  decide +kernel

theorem findReg_LDG_RESEAL : findReg F.LDG_RESEAL.addr =
    some ⟨⟨.LDG_RESEAL, 0xF0018, 0x0, 1, 0x0, 1, true, true, 0xFFFF, 0x0, 0x0, 0x0, 0x0⟩, 0, 0, 0⟩ := by
  decide +kernel

theorem findReg_CMP_TIME_OP : findReg F.CMP_TIME_OP.addr =
    some ⟨⟨.CMP_TIME_OP, 0xB0030, 0x0, 1, 0x0, 1, true, true, 0x3, 0x0, 0x0, 0x0, 0x0⟩, 0, 0, 0⟩ := by
  decide +kernel

theorem findReg_IZX_PORT_OP : findReg F.IZX_PORT_OP.addr =
    some ⟨⟨.IZX_PORT_OP, 0xA0020, 0x0, 1, 0x0, 1, true, true, 0x103, 0x0, 0x0, 0x0, 0x0⟩, 0, 0, 0⟩ := by
  decide +kernel

theorem findReg_IZX_BOX_OP : findReg F.IZX_BOX_OP.addr =
    some ⟨⟨.IZX_BOX_OP, 0xA0028, 0x0, 1, 0x0, 1, true, true, 0xF03, 0x0, 0x0, 0x0, 0x0⟩, 0, 0, 0⟩ := by
  decide +kernel

theorem findReg_CFG_PLANE_SEL : findReg F.CFG_PLANE_SEL.addr =
    some ⟨⟨.CFG_PLANE_SEL, 0x60008, 0x0, 1, 0x0, 1, true, true, 0x3, 0x0, 0x0, 0x0, 0x0⟩, 0, 0, 0⟩ := by
  decide +kernel

theorem findReg_CFG_STAGE_OP : findReg F.CFG_STAGE_OP.addr =
    some ⟨⟨.CFG_STAGE_OP, 0x60010, 0x0, 1, 0x0, 1, true, true, 0x3, 0x0, 0x0, 0x0, 0x0⟩, 0, 0, 0⟩ := by
  decide +kernel

theorem findReg_CFG_SCENE_OP : findReg F.CFG_SCENE_OP.addr =
    some ⟨⟨.CFG_SCENE_OP, 0x60018, 0x0, 1, 0x0, 1, true, true, 0xFFFF001B, 0x0, 0x0, 0x0, 0x0⟩, 0, 0, 0⟩ := by
  decide +kernel

theorem findReg_FLC_CMD : findReg F.FLC_CMD.addr =
    some ⟨⟨.FLC_CMD, 0x50008, 0x0, 1, 0x0, 1, true, true, 0x7, 0x0, 0x0, 0x0, 0x0⟩, 0, 0, 0⟩ := by
  decide +kernel

theorem findReg_DMC_FREQ_OP : findReg F.DMC_FREQ_OP.addr =
    some ⟨⟨.DMC_FREQ_OP, 0x80028, 0x0, 1, 0x0, 1, true, true, 0x1F3, 0x0, 0x0, 0x0, 0x0⟩, 0, 0, 0⟩ := by
  decide +kernel

theorem findReg_CLK_PLL_OP (i : Fin 8) : findReg (F.CLK_PLL_OP i.val).addr =
    some ⟨⟨.CLK_PLL_OP, 0x30120, 0x40, 8, 0x0, 1, true, true, 0x3, 0x0, 0x0, 0x0, 0x0⟩, i.val, 0, 0⟩ := by
  revert i
  decide +kernel

theorem findReg_CLK_DOM_OP : findReg F.CLK_DOM_OP.addr =
    some ⟨⟨.CLK_DOM_OP, 0x30900, 0x0, 1, 0x0, 1, true, true, 0x3F03, 0x0, 0x0, 0x0, 0x0⟩, 0, 0, 0⟩ := by
  decide +kernel

theorem findReg_PWR_OP : findReg F.PWR_OP.addr =
    some ⟨⟨.PWR_OP, 0x20038, 0x0, 1, 0x0, 1, true, true, 0x3, 0x0, 0x0, 0x0, 0x0⟩, 0, 0, 0⟩ := by
  decide +kernel

theorem findReg_PWR_RET_RELEASE : findReg F.PWR_RET_RELEASE.addr =
    some ⟨⟨.PWR_RET_RELEASE, 0x20028, 0x0, 1, 0x0, 1, true, true, 0xFF, 0x0, 0x0, 0x0, 0x0⟩, 0, 0, 0⟩ := by
  decide +kernel

theorem findReg_LCY_TRANSITION : findReg F.LCY_TRANSITION.addr =
    some ⟨⟨.LCY_TRANSITION, 0x10018, 0x0, 1, 0x0, 1, true, true, 0x7, 0x0, 0x0, 0x0, 0x0⟩, 0, 0, 0⟩ := by
  decide +kernel

theorem findReg_LCY_DEBUG_OP : findReg F.LCY_DEBUG_OP.addr =
    some ⟨⟨.LCY_DEBUG_OP, 0x10028, 0x0, 1, 0x0, 1, true, true, 0x3, 0x0, 0x0, 0x0, 0x0⟩, 0, 0, 0⟩ := by
  decide +kernel

theorem findReg_LCY_KEY_OP : findReg F.LCY_KEY_OP.addr =
    some ⟨⟨.LCY_KEY_OP, 0x100C0, 0x0, 1, 0x0, 1, true, true, 0xFF0F, 0x0, 0x0, 0x0, 0x0⟩, 0, 0, 0⟩ := by
  decide +kernel

theorem findReg_TRK_CTRL (i : Fin 16) : findReg (F.TRK_CTRL i.val).addr =
    some ⟨⟨.TRK_CTRL, 0xD0000, 0x800, 16, 0x0, 1, false, false, 0x7, 0x0, 0x0, 0x0, 0x0⟩, i.val, 0, 0⟩ := by
  rw [findReg_near 0xd0000 0xd7854 _ (by unfold F.TRK_CTRL; dsimp only; omega) (by unfold F.TRK_CTRL; dsimp only; omega), trkRows_eq]
  revert i
  decide +kernel

theorem findReg_TRK_INPUT (i : Fin 16) : findReg (F.TRK_INPUT i.val).addr =
    some ⟨⟨.TRK_INPUT, 0xD0008, 0x800, 16, 0x0, 1, false, false, 0xFF0305, 0x0, 0x0, 0x0, 0x100000⟩, i.val, 0, 0⟩ := by
  rw [findReg_near 0xd0000 0xd7854 _ (by unfold F.TRK_INPUT; dsimp only; omega) (by unfold F.TRK_INPUT; dsimp only; omega), trkRows_eq]
  revert i
  decide +kernel

theorem findReg_TRK_PITCH (i : Fin 16) : findReg (F.TRK_PITCH i.val).addr =
    some ⟨⟨.TRK_PITCH, 0xD000C, 0x800, 16, 0x0, 1, false, false, 0xFFFFFFFF, 0x0, 0x0, 0x0, 0x1000⟩, i.val, 0, 0⟩ := by
  rw [findReg_near 0xd0000 0xd7854 _ (by unfold F.TRK_PITCH; dsimp only; omega) (by unfold F.TRK_PITCH; dsimp only; omega), trkRows_eq]
  revert i
  decide +kernel

theorem findReg_TRK_LOCK (i : Fin 16) : findReg (F.TRK_LOCK i.val).addr =
    some ⟨⟨.TRK_LOCK, 0xD0024, 0x800, 16, 0x0, 1, false, false, 0xFFFF0FFF, 0x0, 0x0, 0x0, 0x10540200⟩, i.val, 0, 0⟩ := by
  rw [findReg_near 0xd0000 0xd7854 _ (by unfold F.TRK_LOCK; dsimp only; omega) (by unfold F.TRK_LOCK; dsimp only; omega), trkRows_eq]
  revert i
  decide +kernel

theorem findReg_TRK_COAST (i : Fin 16) : findReg (F.TRK_COAST i.val).addr =
    some ⟨⟨.TRK_COAST, 0xD0028, 0x800, 16, 0x0, 1, false, false, 0xFFFF80FF, 0x0, 0x0, 0x0, 0x400020⟩, i.val, 0, 0⟩ := by
  rw [findReg_near 0xd0000 0xd7854 _ (by unfold F.TRK_COAST; dsimp only; omega) (by unfold F.TRK_COAST; dsimp only; omega), trkRows_eq]
  revert i
  decide +kernel

theorem findReg_TRK_DECEL (i : Fin 16) : findReg (F.TRK_DECEL i.val).addr =
    some ⟨⟨.TRK_DECEL, 0xD002C, 0x800, 16, 0x0, 1, false, false, 0xFFFFFFFF, 0x0, 0x0, 0x0, 0x0⟩, i.val, 0, 0⟩ := by
  rw [findReg_near 0xd0000 0xd7854 _ (by unfold F.TRK_DECEL; dsimp only; omega) (by unfold F.TRK_DECEL; dsimp only; omega), trkRows_eq]
  revert i
  decide +kernel

theorem findReg_TRK_REJOIN (i : Fin 16) : findReg (F.TRK_REJOIN i.val).addr =
    some ⟨⟨.TRK_REJOIN, 0xD0030, 0x800, 16, 0x0, 1, false, false, 0xFFFF0FFF, 0x0, 0x0, 0x0, 0x40000100⟩, i.val, 0, 0⟩ := by
  rw [findReg_near 0xd0000 0xd7854 _ (by unfold F.TRK_REJOIN; dsimp only; omega) (by unfold F.TRK_REJOIN; dsimp only; omega), trkRows_eq]
  revert i
  decide +kernel

theorem findReg_TRK_REV (i : Fin 16) : findReg (F.TRK_REV i.val).addr =
    some ⟨⟨.TRK_REV, 0xD0038, 0x800, 16, 0x0, 1, false, false, 0xFFFF, 0x0, 0x0, 0x0, 0x4⟩, i.val, 0, 0⟩ := by
  rw [findReg_near 0xd0000 0xd7854 _ (by unfold F.TRK_REV; dsimp only; omega) (by unfold F.TRK_REV; dsimp only; omega), trkRows_eq]
  revert i
  decide +kernel

theorem findReg_TRK_SCHED (i : Fin 16) : findReg (F.TRK_SCHED i.val).addr =
    some ⟨⟨.TRK_SCHED, 0xD003C, 0x800, 16, 0x0, 1, false, false, 0xFFFFFFFF, 0x0, 0x0, 0x0, 0x40100C8⟩, i.val, 0, 0⟩ := by
  rw [findReg_near 0xd0000 0xd7854 _ (by unfold F.TRK_SCHED; dsimp only; omega) (by unfold F.TRK_SCHED; dsimp only; omega), trkRows_eq]
  revert i
  decide +kernel

theorem findReg_TRK_CUE (i : Fin 16) : findReg (F.TRK_CUE i.val).addr =
    some ⟨⟨.TRK_CUE, 0xD0040, 0x800, 16, 0x0, 1, false, false, 0xFFFFFFF7, 0x0, 0x0, 0x0, 0x10⟩, i.val, 0, 0⟩ := by
  rw [findReg_near 0xd0000 0xd7854 _ (by unfold F.TRK_CUE; dsimp only; omega) (by unfold F.TRK_CUE; dsimp only; omega), trkRows_eq]
  revert i
  decide +kernel

theorem findReg_TRK_CUE_CFG (i : Fin 16) : findReg (F.TRK_CUE_CFG i.val).addr =
    some ⟨⟨.TRK_CUE_CFG, 0xD0044, 0x800, 16, 0x0, 1, false, false, 0xFFFFFFFF, 0x0, 0x0, 0x0, 0x0⟩, i.val, 0, 0⟩ := by
  rw [findReg_near 0xd0000 0xd7854 _ (by unfold F.TRK_CUE_CFG; dsimp only; omega) (by unfold F.TRK_CUE_CFG; dsimp only; omega), trkRows_eq]
  revert i
  decide +kernel

theorem findReg_TRK_Z (i : Fin 16) : findReg (F.TRK_Z i.val).addr =
    some ⟨⟨.TRK_Z, 0xD0050, 0x800, 16, 0x0, 1, false, false, 0xFFFFFFFF, 0x0, 0x0, 0x0, 0x0⟩, i.val, 0, 0⟩ := by
  rw [findReg_near 0xd0000 0xd7854 _ (by unfold F.TRK_Z; dsimp only; omega) (by unfold F.TRK_Z; dsimp only; omega), trkRows_eq]
  revert i
  decide +kernel

theorem findReg_TRK_POS (i : Fin 16) : findReg (F.TRK_POS i.val).addr =
    some ⟨⟨.TRK_POS, 0xD0010, 0x800, 16, 0x0, 1, true, false, 0x0, 0x0, 0x0, 0x0, 0x0⟩, i.val, 0, 0⟩ := by
  rw [findReg_near 0xd0000 0xd7854 _ (by unfold F.TRK_POS; dsimp only; omega) (by unfold F.TRK_POS; dsimp only; omega), trkRows_eq]
  revert i
  decide +kernel

theorem findReg_TRK_HWM (i : Fin 16) : findReg (F.TRK_HWM i.val).addr =
    some ⟨⟨.TRK_HWM, 0xD0018, 0x800, 16, 0x0, 1, true, false, 0x0, 0x0, 0x0, 0x0, 0x0⟩, i.val, 0, 0⟩ := by
  rw [findReg_near 0xd0000 0xd7854 _ (by unfold F.TRK_HWM; dsimp only; omega) (by unfold F.TRK_HWM; dsimp only; omega), trkRows_eq]
  revert i
  decide +kernel

theorem findReg_TRK_CUE_POS (i : Fin 16) : findReg (F.TRK_CUE_POS i.val).addr =
    some ⟨⟨.TRK_CUE_POS, 0xD0048, 0x800, 16, 0x0, 1, true, false, 0x0, 0x0, 0x0, 0x0, 0x0⟩, i.val, 0, 0⟩ := by
  rw [findReg_near 0xd0000 0xd7854 _ (by unfold F.TRK_CUE_POS; dsimp only; omega) (by unfold F.TRK_CUE_POS; dsimp only; omega), trkRows_eq]
  revert i
  decide +kernel

theorem findReg_CLK_DOM (i : Fin 64) : findReg (F.CLK_DOM i.val).addr =
    some ⟨⟨.CLK_DOM, 0x30800, 0x4, 64, 0x0, 1, false, false, 0x7F, 0x0, 0x0, 0x0, 0xF000050⟩, i.val, 0, 0⟩ := by
  rw [findReg_near 0x30800 0x30900 _ (by unfold F.CLK_DOM; dsimp only; omega) (by unfold F.CLK_DOM; dsimp only; omega)]
  rw [show regRows.filter (fun r => r.near 0x30800 0x30900) = [⟨.CLK_DOM, 0x30800, 0x4, 64, 0x0, 1, false, false, 0x7F, 0x0, 0x0, 0x0, 0xF000050⟩] from by decide +kernel]
  revert i
  decide +kernel

theorem findReg_GPIO_PIN (i : Fin 640) : findReg (F.GPIO_PIN i.val).addr =
    some ⟨⟨.GPIO_PIN, 0x71000, 0x4, 640, 0x0, 1, false, false, 0x1FFFFF, 0x0, 0x0, 0x0, 0x0⟩, i.val, 0, 0⟩ := by
  rw [findReg_near 0x71000 0x71a00 _ (by unfold F.GPIO_PIN; dsimp only; omega) (by unfold F.GPIO_PIN; dsimp only; omega)]
  rw [show regRows.filter (fun r => r.near 0x71000 0x71a00) = [⟨.GPIO_PIN, 0x71000, 0x4, 640, 0x0, 1, false, false, 0x1FFFFF, 0x0, 0x0, 0x0, 0x0⟩] from by decide +kernel]
  revert i
  decide +kernel

theorem findReg_GPIO_MWR (i : Fin 40) : findReg (F.GPIO_MWR i.val).addr =
    some ⟨⟨.GPIO_MWR, 0x70300, 0x4, 40, 0x0, 1, false, false, 0x0, 0x0, 0x0, 0xFFFFFFFF, 0x0⟩, i.val, 0, 0⟩ := by
  rw [findReg_near 0x70300 0x703a0 _ (by unfold F.GPIO_MWR; dsimp only; omega) (by unfold F.GPIO_MWR; dsimp only; omega)]
  rw [show regRows.filter (fun r => r.near 0x70300 0x703a0) = [⟨.GPIO_MWR, 0x70300, 0x4, 40, 0x0, 1, false, false, 0x0, 0x0, 0x0, 0xFFFFFFFF, 0x0⟩] from by decide +kernel]
  revert i
  decide +kernel

theorem findReg_GPIO_MOE (i : Fin 40) : findReg (F.GPIO_MOE i.val).addr =
    some ⟨⟨.GPIO_MOE, 0x70400, 0x4, 40, 0x0, 1, false, false, 0x0, 0x0, 0x0, 0xFFFFFFFF, 0x0⟩, i.val, 0, 0⟩ := by
  rw [findReg_near 0x70400 0x704a0 _ (by unfold F.GPIO_MOE; dsimp only; omega) (by unfold F.GPIO_MOE; dsimp only; omega)]
  rw [show regRows.filter (fun r => r.near 0x70400 0x704a0) = [⟨.GPIO_MOE, 0x70400, 0x4, 40, 0x0, 1, false, false, 0x0, 0x0, 0x0, 0xFFFFFFFF, 0x0⟩] from by decide +kernel]
  revert i
  decide +kernel

theorem findReg_PRB_SEL (i : Fin 16) : findReg (F.PRB_SEL i.val).addr =
    some ⟨⟨.PRB_SEL, 0x150000, 0x4, 16, 0x0, 1, false, false, 0xBF, 0x0, 0x0, 0x0, 0x0⟩, i.val, 0, 0⟩ := by
  rw [findReg_near 0x150000 0x150040 _ (by unfold F.PRB_SEL; dsimp only; omega) (by unfold F.PRB_SEL; dsimp only; omega)]
  rw [show regRows.filter (fun r => r.near 0x150000 0x150040) = [⟨.PRB_SEL, 0x150000, 0x4, 16, 0x0, 1, false, false, 0xBF, 0x0, 0x0, 0x0, 0x0⟩] from by decide +kernel]
  revert i
  decide +kernel

theorem findReg_SPI_DATA (i : Fin 4) : findReg (F.SPI_DATA i.val).addr =
    some ⟨⟨.SPI_DATA, 0x140408, 0x100, 4, 0x0, 1, false, false, 0xFF, 0x0, 0x0, 0x0, 0x100⟩, i.val, 0, 0⟩ := by
  revert i
  decide +kernel

theorem findReg_UART_DATA (i : Fin 4) : findReg (F.UART_DATA i.val).addr =
    some ⟨⟨.UART_DATA, 0x140008, 0x100, 4, 0x0, 1, false, false, 0xFF, 0x0, 0x0, 0x0, 0x100⟩, i.val, 0, 0⟩ := by
  revert i
  decide +kernel

theorem findReg_I2C_CMD (i : Fin 4) : findReg (F.I2C_CMD i.val).addr =
    some ⟨⟨.I2C_CMD, 0x140804, 0x100, 4, 0x0, 1, false, false, 0x0, 0x0, 0x0, 0x7FF, 0x0⟩, i.val, 0, 0⟩ := by
  revert i
  decide +kernel

theorem findReg_I2C_RXDATA (i : Fin 4) : findReg (F.I2C_RXDATA i.val).addr =
    some ⟨⟨.I2C_RXDATA, 0x14080C, 0x100, 4, 0x0, 1, false, false, 0x0, 0x0, 0x0, 0x0, 0x100⟩, i.val, 0, 0⟩ := by
  revert i
  decide +kernel

theorem findReg_TIMER_CAPTURE (i : Fin 8) : findReg (F.TIMER_CAPTURE i.val).addr =
    some ⟨⟨.TIMER_CAPTURE, 0x140C10, 0x40, 8, 0x0, 1, false, false, 0x0, 0x0, 0x0, 0x0, 0x0⟩, i.val, 0, 0⟩ := by
  revert i
  decide +kernel

theorem findReg_INS_TRK_CFG (i : Fin 16) : findReg (F.INS_TRK_CFG i.val).addr =
    some ⟨⟨.INS_TRK_CFG, 0x130100, 0x20, 16, 0x0, 1, false, false, 0xFF0000FF, 0x0, 0x0, 0x0, 0x0⟩, i.val, 0, 0⟩ := by
  revert i
  decide +kernel

theorem findReg_INS_TRK_WINDOW (i : Fin 16) : findReg (F.INS_TRK_WINDOW i.val).addr =
    some ⟨⟨.INS_TRK_WINDOW, 0x130104, 0x20, 16, 0x0, 1, false, false, 0xFFFFFFFF, 0x0, 0x0, 0x0, 0x0⟩, i.val, 0, 0⟩ := by
  revert i
  decide +kernel

theorem findReg_INS_GATE_CFG (i : Fin 32) : findReg (F.INS_GATE_CFG i.val).addr =
    some ⟨⟨.INS_GATE_CFG, 0x130800, 0x10, 32, 0x0, 1, false, false, 0xEFFFFFFF, 0x0, 0x0, 0x0, 0x1⟩, i.val, 0, 0⟩ := by
  revert i
  decide +kernel

theorem findReg_INS_GATE_OFFSET (i : Fin 32) : findReg (F.INS_GATE_OFFSET i.val).addr =
    some ⟨⟨.INS_GATE_OFFSET, 0x130804, 0x10, 32, 0x0, 1, false, false, 0xFFFFFFFF, 0x0, 0x0, 0x0, 0x0⟩, i.val, 0, 0⟩ := by
  revert i
  decide +kernel

theorem findReg_FRG_VD_CNT_VAL (k : Fin 64) (w : Fin 3) : findReg (F.FRG_VD_CNT_VAL k.val w.val).addr =
    some ⟨⟨.FRG_VD_CNT_VAL, 0x102400, 0x20, 64, 0x8, 3, true, false, 0xFFFFFFFFFFFF, 0x0, 0x0, 0x0, 0x0⟩, k.val, w.val, 0⟩ := by
  revert k w
  decide +kernel

end Sys2Proof.Machine
end

