-- ==== Sys2Proof/Laws/Tbl.lean ====
section
/-! SUPPORT. Sparse tables: every operation keeps the canonical form, a read after a write to the same key gives the value
written, and every other key keeps its value. The laws of the memories follow. -/

set_option Elab.async false

namespace Sys2Proof.Machine

/-! ### The canonical form -/

theorem tblOk_cons {α : Type} [DecidableEq α] (d : α) (lo : Option Nat) (k : Nat) (v : α) (m : Tbl α) :
    tblOk d lo ((k, v) :: m) = true ↔ (∀ l, lo = some l → l < k) ∧ v ≠ d ∧ tblOk d (some k) m = true := by
  cases lo <;> simp [tblOk, and_assoc]

/-- A table above `a` is above every `b ≤ a`, and above nothing given. -/
theorem tblOk_weaken {α : Type} [DecidableEq α] (d : α) (a : Nat) (lo : Option Nat) (m : Tbl α)
    (h : tblOk d (some a) m = true) (hl : ∀ l, lo = some l → l ≤ a) : tblOk d lo m = true := by
  cases m with
  | nil => rfl
  | cons c m =>
    obtain ⟨k, v⟩ := c
    rw [tblOk_cons] at h ⊢
    exact ⟨fun l e => Nat.lt_of_le_of_lt (hl l e) (h.1 a rfl), h.2⟩

theorem tblDel_ok {α : Type} [DecidableEq α] (d : α) (k : Nat) : ∀ (m : Tbl α) (lo : Option Nat),
    tblOk d lo m = true → tblOk d lo (tblDel m k) = true
  | [], _, _ => rfl
  | (j, v) :: m, lo, h => by
    have h' := (tblOk_cons d lo j v m).1 h
    rw [tblDel]
    split
    · exact tblDel_ok d k m lo (tblOk_weaken d j lo m h'.2.2 (fun l e => Nat.le_of_lt (h'.1 l e)))
    · rw [tblOk_cons]
      exact ⟨h'.1, h'.2.1, tblDel_ok d k m _ h'.2.2⟩

theorem tblIns_ok {α : Type} [DecidableEq α] (d : α) (k : Nat) (v : α) (hv : v ≠ d) : ∀ (m : Tbl α) (lo : Option Nat),
    tblOk d lo m = true → (∀ l, lo = some l → l < k) → tblOk d lo (tblIns m k v) = true
  | [], lo, _, hk => by rw [tblIns, tblOk_cons]; exact ⟨hk, hv, rfl⟩
  | (j, w) :: m, lo, h, hk => by
    have h' := (tblOk_cons d lo j w m).1 h
    rw [tblIns]
    split
    · rename_i hlt
      rw [tblOk_cons, tblOk_cons]
      exact ⟨hk, hv, fun l e => by cases e; exact hlt, h'.2⟩
    · split
      · exact tblIns_ok d k v hv m lo (tblOk_weaken d j lo m h'.2.2 (fun l e => Nat.le_of_lt (h'.1 l e))) hk
      · rw [tblOk_cons]
        exact ⟨h'.1, h'.2.1, tblIns_ok d k v hv m _ h'.2.2 (fun l e => by cases e; omega)⟩

/-- A write keeps the canonical form. -/
theorem tblPut_ok {α : Type} [DecidableEq α] (d : α) (m : Tbl α) (k : Nat) (v : α) (h : tblOk d none m = true) :
    tblOk d none (tblPut d m k v) = true := by
  unfold tblPut
  split
  · exact tblDel_ok d k m none h
  · rename_i hv
    exact tblIns_ok d k v hv m none h (fun l e => by cases e)

/-- Leaving entries out keeps the canonical form. -/
theorem tblFilter_ok {α : Type} [DecidableEq α] (d : α) (p : Nat × α → Bool) : ∀ (m : Tbl α) (lo : Option Nat),
    tblOk d lo m = true → tblOk d lo (m.filter p) = true
  | [], _, _ => rfl
  | (j, v) :: m, lo, h => by
    have h' := (tblOk_cons d lo j v m).1 h
    rw [List.filter_cons]
    split
    · rw [tblOk_cons]
      exact ⟨h'.1, h'.2.1, tblFilter_ok d p m _ h'.2.2⟩
    · exact tblFilter_ok d p m lo (tblOk_weaken d j lo m h'.2.2 (fun l e => Nat.le_of_lt (h'.1 l e)))

/-! ### Reading back -/

theorem tblGet_del_same {α : Type} (d : α) (k : Nat) : ∀ m : Tbl α, tblGet d (tblDel m k) k = d
  | [] => rfl
  | (j, v) :: m => by
    rw [tblDel]
    split
    · exact tblGet_del_same d k m
    · rename_i h
      rw [tblGet, if_neg h, tblGet_del_same d k m]

theorem tblGet_ins_same {α : Type} (d : α) (k : Nat) (v : α) : ∀ m : Tbl α, tblGet d (tblIns m k v) k = v
  | [] => by simp [tblIns, tblGet]
  | (j, w) :: m => by
    rw [tblIns]
    split
    · simp [tblGet]
    · split
      · exact tblGet_ins_same d k v m
      · rename_i h
        rw [tblGet, if_neg h, tblGet_ins_same d k v m]

theorem tblGet_del_ne {α : Type} (d : α) (k i : Nat) (hi : i ≠ k) : ∀ m : Tbl α, tblGet d (tblDel m k) i = tblGet d m i
  | [] => rfl
  | (j, v) :: m => by
    rw [tblDel]
    split
    · rename_i h
      rw [tblGet_del_ne d k i hi m, tblGet, if_neg (by omega)]
    · rw [tblGet, tblGet, tblGet_del_ne d k i hi m]

theorem tblGet_ins_ne {α : Type} (d : α) (k i : Nat) (v : α) (hi : i ≠ k) :
    ∀ m : Tbl α, tblGet d (tblIns m k v) i = tblGet d m i
  | [] => by simp [tblIns, tblGet, hi]
  | (j, w) :: m => by
    rw [tblIns]
    split
    · rw [tblGet, if_neg hi]
    · split
      · rename_i h
        rw [tblGet_ins_ne d k i v hi m, tblGet, if_neg (by omega)]
      · rw [tblGet, tblGet, tblGet_ins_ne d k i v hi m]

/-- A read after a write to the same key gives the value written. -/
theorem tblGet_put_same {α : Type} [DecidableEq α] (d : α) (m : Tbl α) (k : Nat) (v : α) :
    tblGet d (tblPut d m k v) k = v := by
  unfold tblPut
  split
  · rename_i e
    rw [tblGet_del_same d k m, e]
  · exact tblGet_ins_same d k v m

/-- A write leaves what every other key reads as. -/
theorem tblGet_put_ne {α : Type} [DecidableEq α] (d e : α) (m : Tbl α) (k i : Nat) (v : α) (hi : i ≠ k) :
    tblGet e (tblPut d m k v) i = tblGet e m i := by
  unfold tblPut
  split
  · exact tblGet_del_ne e k i hi m
  · exact tblGet_ins_ne e k i v hi m

/-! ### Memories -/

theorem memPut_wf (k : MemKind) (m : Memory) (a : Nat) (b : Byte) (h : m.wf k = true) : (memPut k m a b).wf k = true :=
  tblPut_ok _ _ _ _ h

/-- A store of a run of bytes keeps the canonical form. -/
theorem memWrite_wf (k : MemKind) : ∀ (l : List Byte) (m : Memory) (a : Nat), m.wf k = true → (memWrite k m a l).wf k = true
  | [], _, _, h => h
  | b :: l, m, a, h => memWrite_wf k l _ _ (memPut_wf k m a b h)

/-- Erasing keeps the canonical form. -/
theorem memErase_wf (k : MemKind) (m : Memory) (lo hi : Nat) (h : m.wf k = true) : (memErase m lo hi).wf k = true :=
  tblFilter_ok _ _ _ _ h

/-- A store leaves every byte outside its run alone. -/
theorem memGet_write_outside (k : MemKind) : ∀ (l : List Byte) (m : Memory) (a i : Nat),
    (i < a ∨ a + l.length ≤ i) → memGet k (memWrite k m a l) i = memGet k m i
  | [], _, _, _, _ => rfl
  | b :: l, m, a, i, hi => by
    have hi' : i < a ∨ a + 1 + l.length ≤ i := by simp only [List.length_cons] at hi; omega
    rw [memWrite, memGet_write_outside k l _ _ _ (by omega)]
    exact tblGet_put_ne _ _ _ _ _ _ (by simp only [List.length_cons] at hi; omega)

/-- A byte of the run reads as stored. -/
theorem memGet_write_inside (k : MemKind) : ∀ (l : List Byte) (m : Memory) (a i : Nat),
    (hi : i < l.length) → memGet k (memWrite k m a l) (a + i) = l[i]
  | [], _, _, _, hi => absurd hi (by simp)
  | b :: l, m, a, 0, _ => by
    rw [memWrite, memGet_write_outside k l _ _ _ (by omega)]
    exact tblGet_put_same _ _ _ _
  | b :: l, m, a, i + 1, hi => by
    have := memGet_write_inside k l (memPut k m a b) (a + 1) i (by simpa using hi)
    rw [memWrite, show a + (i + 1) = a + 1 + i by omega, this]
    rfl

theorem tblGet_filter {α : Type} (d : α) (p : Nat → Bool) (i : Nat) : ∀ m : Tbl α,
    tblGet d (m.filter (fun c => p c.1)) i = if p i then tblGet d m i else d
  | [] => by simp [tblGet]
  | (j, v) :: m => by
    have ih := tblGet_filter d p i m
    rw [List.filter_cons]
    dsimp only
    by_cases h2 : i = j
    · subst h2
      by_cases hp : p i = true
      · rw [if_pos hp, if_pos hp, tblGet, tblGet, if_pos rfl, if_pos rfl]
      · rw [if_neg hp, ih]
        simp [hp]
    · by_cases hp : p j = true
      · rw [if_pos hp, tblGet, tblGet, if_neg h2, if_neg h2, ih]
      · rw [if_neg hp, ih, tblGet, if_neg h2]

/-- An erased byte is blank, any other keeps its value. -/
theorem memGet_erase (k : MemKind) (m : Memory) (lo hi i : Nat) :
    memGet k (memErase m lo hi) i = if i < lo ∨ hi ≤ i then memGet k m i else k.blank := by
  have := tblGet_filter k.blank (fun a => decide (a < lo ∨ hi ≤ a)) i m
  simp only [decide_eq_true_eq] at this
  exact this

/-- Bytes read below or above a store's run are as before. -/
theorem memBytes_write_outside (k : MemKind) (l : List Byte) (m : Memory) (a : Nat) : ∀ (n b : Nat),
    (b + n ≤ a ∨ a + l.length ≤ b) → memBytes k (memWrite k m a l) b n = memBytes k m b n
  | 0, _, _ => rfl
  | n + 1, b, hb => by
    rw [memBytes, memBytes, memGet_write_outside k l m a b (by omega), memBytes_write_outside k l m a n (b + 1) (by omega)]

end Sys2Proof.Machine
end

