-- ==== Sys2Proof/Laws/State.lean ====
section
/-! SUPPORT. What each update of the state leaves of every field, one lemma for each, and what a numbered instance
reads as after it was set. -/

namespace Sys2Proof.Machine

/-! ### setRegAt -/

@[simp] theorem State.setRegAt_pending (s : State) (a r v : Nat) : (s.setRegAt a r v).pending = s.pending := rfl
@[simp] theorem State.setRegAt_now (s : State) (a r v : Nat) : (s.setRegAt a r v).now = s.now := rfl
@[simp] theorem State.setRegAt_out (s : State) (a r v : Nat) : (s.setRegAt a r v).out = s.out := rfl
@[simp] theorem State.setRegAt_freeIx (s : State) (a r v : Nat) : (s.setRegAt a r v).freeIx = s.freeIx := rfl
@[simp] theorem State.setRegAt_stores (s : State) (a r v : Nat) : (s.setRegAt a r v).stores = s.stores := rfl
@[simp] theorem State.setRegAt_dram (s : State) (a r v : Nat) : (s.setRegAt a r v).dram = s.dram := rfl
@[simp] theorem State.setRegAt_flash (s : State) (a r v : Nat) : (s.setRegAt a r v).flash = s.flash := rfl
@[simp] theorem State.setRegAt_nor (s : State) (a r v : Nat) : (s.setRegAt a r v).nor = s.nor := rfl
@[simp] theorem State.setRegAt_active (s : State) (a r v : Nat) : (s.setRegAt a r v).active = s.active := rfl
@[simp] theorem State.setRegAt_hits (s : State) (a r v : Nat) : (s.setRegAt a r v).hits = s.hits := rfl
@[simp] theorem State.setRegAt_later (s : State) (a r v : Nat) : (s.setRegAt a r v).later = s.later := rfl
@[simp] theorem State.setRegAt_latch (s : State) (a r v : Nat) : (s.setRegAt a r v).latch = s.latch := rfl
@[simp] theorem State.setRegAt_cue (s : State) (a r v : Nat) : (s.setRegAt a r v).cue = s.cue := rfl
@[simp] theorem State.setRegAt_clk (s : State) (a r v : Nat) : (s.setRegAt a r v).clk = s.clk := rfl
@[simp] theorem State.setRegAt_house (s : State) (a r v : Nat) : (s.setRegAt a r v).house = s.house := rfl
@[simp] theorem State.setRegAt_porAt (s : State) (a r v : Nat) : (s.setRegAt a r v).porAt = s.porAt := rfl
@[simp] theorem State.setRegAt_boxes (s : State) (a r v : Nat) : (s.setRegAt a r v).boxes = s.boxes := rfl
@[simp] theorem State.setRegAt_ports (s : State) (a r v : Nat) : (s.setRegAt a r v).ports = s.ports := rfl
@[simp] theorem State.setRegAt_links (s : State) (a r v : Nat) : (s.setRegAt a r v).links = s.links := rfl
@[simp] theorem State.setRegAt_scene (s : State) (a r v : Nat) : (s.setRegAt a r v).scene = s.scene := rfl
@[simp] theorem State.setRegAt_promptUp (s : State) (a r v : Nat) : (s.setRegAt a r v).promptUp = s.promptUp := rfl
@[simp] theorem State.setRegAt_sys (s : State) (a r v : Nat) : (s.setRegAt a r v).sys = s.sys := rfl
@[simp] theorem State.setRegAt_trk (s : State) (a r v : Nat) : (s.setRegAt a r v).trk = s.trk := rfl
@[simp] theorem State.setRegAt_wq (s : State) (a r v : Nat) : (s.setRegAt a r v).wq = s.wq := rfl
@[simp] theorem State.setRegAt_aonMarks (s : State) (a r v : Nat) : (s.setRegAt a r v).aonMarks = s.aonMarks := rfl
@[simp] theorem State.setRegAt_banks (s : State) (a r v : Nat) : (s.setRegAt a r v).banks = s.banks := rfl
@[simp] theorem State.setRegAt_ldg (s : State) (a r v : Nat) : (s.setRegAt a r v).ldg = s.ldg := rfl
@[simp] theorem State.setRegAt_leases (s : State) (a r v : Nat) : (s.setRegAt a r v).leases = s.leases := rfl
@[simp] theorem State.setRegAt_cmp (s : State) (a r v : Nat) : (s.setRegAt a r v).cmp = s.cmp := rfl
@[simp] theorem State.setRegAt_sdefs (s : State) (a r v : Nat) : (s.setRegAt a r v).sdefs = s.sdefs := rfl
@[simp] theorem State.setRegAt_series (s : State) (a r v : Nat) : (s.setRegAt a r v).series = s.series := rfl
@[simp] theorem State.setRegAt_dpx (s : State) (a r v : Nat) : (s.setRegAt a r v).dpx = s.dpx := rfl
@[simp] theorem State.setRegAt_regions (s : State) (a r v : Nat) : (s.setRegAt a r v).regions = s.regions := rfl
@[simp] theorem State.setRegAt_vd (s : State) (a r v : Nat) : (s.setRegAt a r v).vd = s.vd := rfl
@[simp] theorem State.setRegAt_frg (s : State) (a r v : Nat) : (s.setRegAt a r v).frg = s.frg := rfl
@[simp] theorem State.setRegAt_nzc (s : State) (a r v : Nat) : (s.setRegAt a r v).nzc = s.nzc := rfl
@[simp] theorem State.setRegAt_stg (s : State) (a r v : Nat) : (s.setRegAt a r v).stg = s.stg := rfl
@[simp] theorem State.setRegAt_ins (s : State) (a r v : Nat) : (s.setRegAt a r v).ins = s.ins := rfl
@[simp] theorem State.setRegAt_dmc (s : State) (a r v : Nat) : (s.setRegAt a r v).dmc = s.dmc := rfl
@[simp] theorem State.setRegAt_dreq (s : State) (a r v : Nat) : (s.setRegAt a r v).dreq = s.dreq := rfl
@[simp] theorem State.setRegAt_freq (s : State) (a r v : Nat) : (s.setRegAt a r v).freq = s.freq := rfl
@[simp] theorem State.setRegAt_dmcMap (s : State) (a r v : Nat) : (s.setRegAt a r v).dmcMap = s.dmcMap := rfl
@[simp] theorem State.setRegAt_pwr (s : State) (a r v : Nat) : (s.setRegAt a r v).pwr = s.pwr := rfl
@[simp] theorem State.setRegAt_window (s : State) (a r v : Nat) : (s.setRegAt a r v).window = s.window := rfl
@[simp] theorem State.setRegAt_rstIn (s : State) (a r v : Nat) : (s.setRegAt a r v).rstIn = s.rstIn := rfl
@[simp] theorem State.setRegAt_grstPin (s : State) (a r v : Nat) : (s.setRegAt a r v).grstPin = s.grstPin := rfl
@[simp] theorem State.setRegAt_fab (s : State) (a r v : Nat) : (s.setRegAt a r v).fab = s.fab := rfl
@[simp] theorem State.setRegAt_cfg (s : State) (a r v : Nat) : (s.setRegAt a r v).cfg = s.cfg := rfl
@[simp] theorem State.setRegAt_per (s : State) (a r v : Nat) : (s.setRegAt a r v).per = s.per := rfl
@[simp] theorem State.setRegAt_lcy (s : State) (a r v : Nat) : (s.setRegAt a r v).lcy = s.lcy := rfl

/-! ### put -/

@[simp] theorem State.put_pending (s : State) (f : Fld) (x : Nat) : (s.put f x).pending = s.pending := rfl
@[simp] theorem State.put_now (s : State) (f : Fld) (x : Nat) : (s.put f x).now = s.now := rfl
@[simp] theorem State.put_out (s : State) (f : Fld) (x : Nat) : (s.put f x).out = s.out := rfl
@[simp] theorem State.put_freeIx (s : State) (f : Fld) (x : Nat) : (s.put f x).freeIx = s.freeIx := rfl
@[simp] theorem State.put_stores (s : State) (f : Fld) (x : Nat) : (s.put f x).stores = s.stores := rfl
@[simp] theorem State.put_dram (s : State) (f : Fld) (x : Nat) : (s.put f x).dram = s.dram := rfl
@[simp] theorem State.put_flash (s : State) (f : Fld) (x : Nat) : (s.put f x).flash = s.flash := rfl
@[simp] theorem State.put_nor (s : State) (f : Fld) (x : Nat) : (s.put f x).nor = s.nor := rfl
@[simp] theorem State.put_active (s : State) (f : Fld) (x : Nat) : (s.put f x).active = s.active := rfl
@[simp] theorem State.put_hits (s : State) (f : Fld) (x : Nat) : (s.put f x).hits = s.hits := rfl
@[simp] theorem State.put_later (s : State) (f : Fld) (x : Nat) : (s.put f x).later = s.later := rfl
@[simp] theorem State.put_latch (s : State) (f : Fld) (x : Nat) : (s.put f x).latch = s.latch := rfl
@[simp] theorem State.put_cue (s : State) (f : Fld) (x : Nat) : (s.put f x).cue = s.cue := rfl
@[simp] theorem State.put_clk (s : State) (f : Fld) (x : Nat) : (s.put f x).clk = s.clk := rfl
@[simp] theorem State.put_house (s : State) (f : Fld) (x : Nat) : (s.put f x).house = s.house := rfl
@[simp] theorem State.put_porAt (s : State) (f : Fld) (x : Nat) : (s.put f x).porAt = s.porAt := rfl
@[simp] theorem State.put_boxes (s : State) (f : Fld) (x : Nat) : (s.put f x).boxes = s.boxes := rfl
@[simp] theorem State.put_ports (s : State) (f : Fld) (x : Nat) : (s.put f x).ports = s.ports := rfl
@[simp] theorem State.put_links (s : State) (f : Fld) (x : Nat) : (s.put f x).links = s.links := rfl
@[simp] theorem State.put_scene (s : State) (f : Fld) (x : Nat) : (s.put f x).scene = s.scene := rfl
@[simp] theorem State.put_promptUp (s : State) (f : Fld) (x : Nat) : (s.put f x).promptUp = s.promptUp := rfl
@[simp] theorem State.put_sys (s : State) (f : Fld) (x : Nat) : (s.put f x).sys = s.sys := rfl
@[simp] theorem State.put_trk (s : State) (f : Fld) (x : Nat) : (s.put f x).trk = s.trk := rfl
@[simp] theorem State.put_wq (s : State) (f : Fld) (x : Nat) : (s.put f x).wq = s.wq := rfl
@[simp] theorem State.put_aonMarks (s : State) (f : Fld) (x : Nat) : (s.put f x).aonMarks = s.aonMarks := rfl
@[simp] theorem State.put_banks (s : State) (f : Fld) (x : Nat) : (s.put f x).banks = s.banks := rfl
@[simp] theorem State.put_ldg (s : State) (f : Fld) (x : Nat) : (s.put f x).ldg = s.ldg := rfl
@[simp] theorem State.put_leases (s : State) (f : Fld) (x : Nat) : (s.put f x).leases = s.leases := rfl
@[simp] theorem State.put_cmp (s : State) (f : Fld) (x : Nat) : (s.put f x).cmp = s.cmp := rfl
@[simp] theorem State.put_sdefs (s : State) (f : Fld) (x : Nat) : (s.put f x).sdefs = s.sdefs := rfl
@[simp] theorem State.put_series (s : State) (f : Fld) (x : Nat) : (s.put f x).series = s.series := rfl
@[simp] theorem State.put_dpx (s : State) (f : Fld) (x : Nat) : (s.put f x).dpx = s.dpx := rfl
@[simp] theorem State.put_regions (s : State) (f : Fld) (x : Nat) : (s.put f x).regions = s.regions := rfl
@[simp] theorem State.put_vd (s : State) (f : Fld) (x : Nat) : (s.put f x).vd = s.vd := rfl
@[simp] theorem State.put_frg (s : State) (f : Fld) (x : Nat) : (s.put f x).frg = s.frg := rfl
@[simp] theorem State.put_nzc (s : State) (f : Fld) (x : Nat) : (s.put f x).nzc = s.nzc := rfl
@[simp] theorem State.put_stg (s : State) (f : Fld) (x : Nat) : (s.put f x).stg = s.stg := rfl
@[simp] theorem State.put_ins (s : State) (f : Fld) (x : Nat) : (s.put f x).ins = s.ins := rfl
@[simp] theorem State.put_dmc (s : State) (f : Fld) (x : Nat) : (s.put f x).dmc = s.dmc := rfl
@[simp] theorem State.put_dreq (s : State) (f : Fld) (x : Nat) : (s.put f x).dreq = s.dreq := rfl
@[simp] theorem State.put_freq (s : State) (f : Fld) (x : Nat) : (s.put f x).freq = s.freq := rfl
@[simp] theorem State.put_dmcMap (s : State) (f : Fld) (x : Nat) : (s.put f x).dmcMap = s.dmcMap := rfl
@[simp] theorem State.put_pwr (s : State) (f : Fld) (x : Nat) : (s.put f x).pwr = s.pwr := rfl
@[simp] theorem State.put_window (s : State) (f : Fld) (x : Nat) : (s.put f x).window = s.window := rfl
@[simp] theorem State.put_rstIn (s : State) (f : Fld) (x : Nat) : (s.put f x).rstIn = s.rstIn := rfl
@[simp] theorem State.put_grstPin (s : State) (f : Fld) (x : Nat) : (s.put f x).grstPin = s.grstPin := rfl
@[simp] theorem State.put_fab (s : State) (f : Fld) (x : Nat) : (s.put f x).fab = s.fab := rfl
@[simp] theorem State.put_cfg (s : State) (f : Fld) (x : Nat) : (s.put f x).cfg = s.cfg := rfl
@[simp] theorem State.put_per (s : State) (f : Fld) (x : Nat) : (s.put f x).per = s.per := rfl
@[simp] theorem State.put_lcy (s : State) (f : Fld) (x : Nat) : (s.put f x).lcy = s.lcy := rfl

/-! ### addSat -/

@[simp] theorem State.addSat_pending (s : State) (f : Fld) (x : Nat) : (s.addSat f x).pending = s.pending := rfl
@[simp] theorem State.addSat_now (s : State) (f : Fld) (x : Nat) : (s.addSat f x).now = s.now := rfl
@[simp] theorem State.addSat_out (s : State) (f : Fld) (x : Nat) : (s.addSat f x).out = s.out := rfl
@[simp] theorem State.addSat_freeIx (s : State) (f : Fld) (x : Nat) : (s.addSat f x).freeIx = s.freeIx := rfl
@[simp] theorem State.addSat_stores (s : State) (f : Fld) (x : Nat) : (s.addSat f x).stores = s.stores := rfl
@[simp] theorem State.addSat_dram (s : State) (f : Fld) (x : Nat) : (s.addSat f x).dram = s.dram := rfl
@[simp] theorem State.addSat_flash (s : State) (f : Fld) (x : Nat) : (s.addSat f x).flash = s.flash := rfl
@[simp] theorem State.addSat_nor (s : State) (f : Fld) (x : Nat) : (s.addSat f x).nor = s.nor := rfl
@[simp] theorem State.addSat_active (s : State) (f : Fld) (x : Nat) : (s.addSat f x).active = s.active := rfl
@[simp] theorem State.addSat_later (s : State) (f : Fld) (x : Nat) : (s.addSat f x).later = s.later := rfl
@[simp] theorem State.addSat_latch (s : State) (f : Fld) (x : Nat) : (s.addSat f x).latch = s.latch := rfl
@[simp] theorem State.addSat_cue (s : State) (f : Fld) (x : Nat) : (s.addSat f x).cue = s.cue := rfl
@[simp] theorem State.addSat_clk (s : State) (f : Fld) (x : Nat) : (s.addSat f x).clk = s.clk := rfl
@[simp] theorem State.addSat_house (s : State) (f : Fld) (x : Nat) : (s.addSat f x).house = s.house := rfl
@[simp] theorem State.addSat_porAt (s : State) (f : Fld) (x : Nat) : (s.addSat f x).porAt = s.porAt := rfl
@[simp] theorem State.addSat_boxes (s : State) (f : Fld) (x : Nat) : (s.addSat f x).boxes = s.boxes := rfl
@[simp] theorem State.addSat_ports (s : State) (f : Fld) (x : Nat) : (s.addSat f x).ports = s.ports := rfl
@[simp] theorem State.addSat_links (s : State) (f : Fld) (x : Nat) : (s.addSat f x).links = s.links := rfl
@[simp] theorem State.addSat_scene (s : State) (f : Fld) (x : Nat) : (s.addSat f x).scene = s.scene := rfl
@[simp] theorem State.addSat_promptUp (s : State) (f : Fld) (x : Nat) : (s.addSat f x).promptUp = s.promptUp := rfl
@[simp] theorem State.addSat_sys (s : State) (f : Fld) (x : Nat) : (s.addSat f x).sys = s.sys := rfl
@[simp] theorem State.addSat_trk (s : State) (f : Fld) (x : Nat) : (s.addSat f x).trk = s.trk := rfl
@[simp] theorem State.addSat_wq (s : State) (f : Fld) (x : Nat) : (s.addSat f x).wq = s.wq := rfl
@[simp] theorem State.addSat_aonMarks (s : State) (f : Fld) (x : Nat) : (s.addSat f x).aonMarks = s.aonMarks := rfl
@[simp] theorem State.addSat_banks (s : State) (f : Fld) (x : Nat) : (s.addSat f x).banks = s.banks := rfl
@[simp] theorem State.addSat_ldg (s : State) (f : Fld) (x : Nat) : (s.addSat f x).ldg = s.ldg := rfl
@[simp] theorem State.addSat_leases (s : State) (f : Fld) (x : Nat) : (s.addSat f x).leases = s.leases := rfl
@[simp] theorem State.addSat_cmp (s : State) (f : Fld) (x : Nat) : (s.addSat f x).cmp = s.cmp := rfl
@[simp] theorem State.addSat_sdefs (s : State) (f : Fld) (x : Nat) : (s.addSat f x).sdefs = s.sdefs := rfl
@[simp] theorem State.addSat_series (s : State) (f : Fld) (x : Nat) : (s.addSat f x).series = s.series := rfl
@[simp] theorem State.addSat_dpx (s : State) (f : Fld) (x : Nat) : (s.addSat f x).dpx = s.dpx := rfl
@[simp] theorem State.addSat_regions (s : State) (f : Fld) (x : Nat) : (s.addSat f x).regions = s.regions := rfl
@[simp] theorem State.addSat_vd (s : State) (f : Fld) (x : Nat) : (s.addSat f x).vd = s.vd := rfl
@[simp] theorem State.addSat_frg (s : State) (f : Fld) (x : Nat) : (s.addSat f x).frg = s.frg := rfl
@[simp] theorem State.addSat_nzc (s : State) (f : Fld) (x : Nat) : (s.addSat f x).nzc = s.nzc := rfl
@[simp] theorem State.addSat_stg (s : State) (f : Fld) (x : Nat) : (s.addSat f x).stg = s.stg := rfl
@[simp] theorem State.addSat_ins (s : State) (f : Fld) (x : Nat) : (s.addSat f x).ins = s.ins := rfl
@[simp] theorem State.addSat_dmc (s : State) (f : Fld) (x : Nat) : (s.addSat f x).dmc = s.dmc := rfl
@[simp] theorem State.addSat_dreq (s : State) (f : Fld) (x : Nat) : (s.addSat f x).dreq = s.dreq := rfl
@[simp] theorem State.addSat_freq (s : State) (f : Fld) (x : Nat) : (s.addSat f x).freq = s.freq := rfl
@[simp] theorem State.addSat_dmcMap (s : State) (f : Fld) (x : Nat) : (s.addSat f x).dmcMap = s.dmcMap := rfl
@[simp] theorem State.addSat_pwr (s : State) (f : Fld) (x : Nat) : (s.addSat f x).pwr = s.pwr := rfl
@[simp] theorem State.addSat_window (s : State) (f : Fld) (x : Nat) : (s.addSat f x).window = s.window := rfl
@[simp] theorem State.addSat_rstIn (s : State) (f : Fld) (x : Nat) : (s.addSat f x).rstIn = s.rstIn := rfl
@[simp] theorem State.addSat_grstPin (s : State) (f : Fld) (x : Nat) : (s.addSat f x).grstPin = s.grstPin := rfl
@[simp] theorem State.addSat_fab (s : State) (f : Fld) (x : Nat) : (s.addSat f x).fab = s.fab := rfl
@[simp] theorem State.addSat_cfg (s : State) (f : Fld) (x : Nat) : (s.addSat f x).cfg = s.cfg := rfl
@[simp] theorem State.addSat_per (s : State) (f : Fld) (x : Nat) : (s.addSat f x).per = s.per := rfl
@[simp] theorem State.addSat_lcy (s : State) (f : Fld) (x : Nat) : (s.addSat f x).lcy = s.lcy := rfl

/-! ### apply -/

@[simp] theorem State.apply_pending (s : State) (f : Fld) : (s.apply f).pending = s.pending := rfl
@[simp] theorem State.apply_now (s : State) (f : Fld) : (s.apply f).now = s.now := rfl
@[simp] theorem State.apply_out (s : State) (f : Fld) : (s.apply f).out = s.out := rfl
@[simp] theorem State.apply_freeIx (s : State) (f : Fld) : (s.apply f).freeIx = s.freeIx := rfl
@[simp] theorem State.apply_stores (s : State) (f : Fld) : (s.apply f).stores = s.stores := rfl
@[simp] theorem State.apply_dram (s : State) (f : Fld) : (s.apply f).dram = s.dram := rfl
@[simp] theorem State.apply_flash (s : State) (f : Fld) : (s.apply f).flash = s.flash := rfl
@[simp] theorem State.apply_nor (s : State) (f : Fld) : (s.apply f).nor = s.nor := rfl
@[simp] theorem State.apply_regs (s : State) (f : Fld) : (s.apply f).regs = s.regs := rfl
@[simp] theorem State.apply_hits (s : State) (f : Fld) : (s.apply f).hits = s.hits := rfl
@[simp] theorem State.apply_later (s : State) (f : Fld) : (s.apply f).later = s.later := rfl
@[simp] theorem State.apply_latch (s : State) (f : Fld) : (s.apply f).latch = s.latch := rfl
@[simp] theorem State.apply_cue (s : State) (f : Fld) : (s.apply f).cue = s.cue := rfl
@[simp] theorem State.apply_clk (s : State) (f : Fld) : (s.apply f).clk = s.clk := rfl
@[simp] theorem State.apply_house (s : State) (f : Fld) : (s.apply f).house = s.house := rfl
@[simp] theorem State.apply_porAt (s : State) (f : Fld) : (s.apply f).porAt = s.porAt := rfl
@[simp] theorem State.apply_boxes (s : State) (f : Fld) : (s.apply f).boxes = s.boxes := rfl
@[simp] theorem State.apply_ports (s : State) (f : Fld) : (s.apply f).ports = s.ports := rfl
@[simp] theorem State.apply_links (s : State) (f : Fld) : (s.apply f).links = s.links := rfl
@[simp] theorem State.apply_scene (s : State) (f : Fld) : (s.apply f).scene = s.scene := rfl
@[simp] theorem State.apply_promptUp (s : State) (f : Fld) : (s.apply f).promptUp = s.promptUp := rfl
@[simp] theorem State.apply_sys (s : State) (f : Fld) : (s.apply f).sys = s.sys := rfl
@[simp] theorem State.apply_trk (s : State) (f : Fld) : (s.apply f).trk = s.trk := rfl
@[simp] theorem State.apply_wq (s : State) (f : Fld) : (s.apply f).wq = s.wq := rfl
@[simp] theorem State.apply_aonMarks (s : State) (f : Fld) : (s.apply f).aonMarks = s.aonMarks := rfl
@[simp] theorem State.apply_banks (s : State) (f : Fld) : (s.apply f).banks = s.banks := rfl
@[simp] theorem State.apply_ldg (s : State) (f : Fld) : (s.apply f).ldg = s.ldg := rfl
@[simp] theorem State.apply_leases (s : State) (f : Fld) : (s.apply f).leases = s.leases := rfl
@[simp] theorem State.apply_cmp (s : State) (f : Fld) : (s.apply f).cmp = s.cmp := rfl
@[simp] theorem State.apply_sdefs (s : State) (f : Fld) : (s.apply f).sdefs = s.sdefs := rfl
@[simp] theorem State.apply_series (s : State) (f : Fld) : (s.apply f).series = s.series := rfl
@[simp] theorem State.apply_dpx (s : State) (f : Fld) : (s.apply f).dpx = s.dpx := rfl
@[simp] theorem State.apply_regions (s : State) (f : Fld) : (s.apply f).regions = s.regions := rfl
@[simp] theorem State.apply_vd (s : State) (f : Fld) : (s.apply f).vd = s.vd := rfl
@[simp] theorem State.apply_frg (s : State) (f : Fld) : (s.apply f).frg = s.frg := rfl
@[simp] theorem State.apply_nzc (s : State) (f : Fld) : (s.apply f).nzc = s.nzc := rfl
@[simp] theorem State.apply_stg (s : State) (f : Fld) : (s.apply f).stg = s.stg := rfl
@[simp] theorem State.apply_ins (s : State) (f : Fld) : (s.apply f).ins = s.ins := rfl
@[simp] theorem State.apply_dmc (s : State) (f : Fld) : (s.apply f).dmc = s.dmc := rfl
@[simp] theorem State.apply_dreq (s : State) (f : Fld) : (s.apply f).dreq = s.dreq := rfl
@[simp] theorem State.apply_freq (s : State) (f : Fld) : (s.apply f).freq = s.freq := rfl
@[simp] theorem State.apply_dmcMap (s : State) (f : Fld) : (s.apply f).dmcMap = s.dmcMap := rfl
@[simp] theorem State.apply_pwr (s : State) (f : Fld) : (s.apply f).pwr = s.pwr := rfl
@[simp] theorem State.apply_window (s : State) (f : Fld) : (s.apply f).window = s.window := rfl
@[simp] theorem State.apply_rstIn (s : State) (f : Fld) : (s.apply f).rstIn = s.rstIn := rfl
@[simp] theorem State.apply_grstPin (s : State) (f : Fld) : (s.apply f).grstPin = s.grstPin := rfl
@[simp] theorem State.apply_fab (s : State) (f : Fld) : (s.apply f).fab = s.fab := rfl
@[simp] theorem State.apply_cfg (s : State) (f : Fld) : (s.apply f).cfg = s.cfg := rfl
@[simp] theorem State.apply_per (s : State) (f : Fld) : (s.apply f).per = s.per := rfl
@[simp] theorem State.apply_lcy (s : State) (f : Fld) : (s.apply f).lcy = s.lcy := rfl

/-! ### emit -/

@[simp] theorem State.emit_pending (s : State) (o : Out) : (s.emit o).pending = s.pending := rfl
@[simp] theorem State.emit_now (s : State) (o : Out) : (s.emit o).now = s.now := rfl
@[simp] theorem State.emit_freeIx (s : State) (o : Out) : (s.emit o).freeIx = s.freeIx := rfl
@[simp] theorem State.emit_stores (s : State) (o : Out) : (s.emit o).stores = s.stores := rfl
@[simp] theorem State.emit_dram (s : State) (o : Out) : (s.emit o).dram = s.dram := rfl
@[simp] theorem State.emit_flash (s : State) (o : Out) : (s.emit o).flash = s.flash := rfl
@[simp] theorem State.emit_nor (s : State) (o : Out) : (s.emit o).nor = s.nor := rfl
@[simp] theorem State.emit_regs (s : State) (o : Out) : (s.emit o).regs = s.regs := rfl
@[simp] theorem State.emit_active (s : State) (o : Out) : (s.emit o).active = s.active := rfl
@[simp] theorem State.emit_hits (s : State) (o : Out) : (s.emit o).hits = s.hits := rfl
@[simp] theorem State.emit_later (s : State) (o : Out) : (s.emit o).later = s.later := rfl
@[simp] theorem State.emit_latch (s : State) (o : Out) : (s.emit o).latch = s.latch := rfl
@[simp] theorem State.emit_cue (s : State) (o : Out) : (s.emit o).cue = s.cue := rfl
@[simp] theorem State.emit_clk (s : State) (o : Out) : (s.emit o).clk = s.clk := rfl
@[simp] theorem State.emit_house (s : State) (o : Out) : (s.emit o).house = s.house := rfl
@[simp] theorem State.emit_porAt (s : State) (o : Out) : (s.emit o).porAt = s.porAt := rfl
@[simp] theorem State.emit_boxes (s : State) (o : Out) : (s.emit o).boxes = s.boxes := rfl
@[simp] theorem State.emit_ports (s : State) (o : Out) : (s.emit o).ports = s.ports := rfl
@[simp] theorem State.emit_links (s : State) (o : Out) : (s.emit o).links = s.links := rfl
@[simp] theorem State.emit_scene (s : State) (o : Out) : (s.emit o).scene = s.scene := rfl
@[simp] theorem State.emit_promptUp (s : State) (o : Out) : (s.emit o).promptUp = s.promptUp := rfl
@[simp] theorem State.emit_sys (s : State) (o : Out) : (s.emit o).sys = s.sys := rfl
@[simp] theorem State.emit_trk (s : State) (o : Out) : (s.emit o).trk = s.trk := rfl
@[simp] theorem State.emit_wq (s : State) (o : Out) : (s.emit o).wq = s.wq := rfl
@[simp] theorem State.emit_aonMarks (s : State) (o : Out) : (s.emit o).aonMarks = s.aonMarks := rfl
@[simp] theorem State.emit_banks (s : State) (o : Out) : (s.emit o).banks = s.banks := rfl
@[simp] theorem State.emit_ldg (s : State) (o : Out) : (s.emit o).ldg = s.ldg := rfl
@[simp] theorem State.emit_leases (s : State) (o : Out) : (s.emit o).leases = s.leases := rfl
@[simp] theorem State.emit_cmp (s : State) (o : Out) : (s.emit o).cmp = s.cmp := rfl
@[simp] theorem State.emit_sdefs (s : State) (o : Out) : (s.emit o).sdefs = s.sdefs := rfl
@[simp] theorem State.emit_series (s : State) (o : Out) : (s.emit o).series = s.series := rfl
@[simp] theorem State.emit_dpx (s : State) (o : Out) : (s.emit o).dpx = s.dpx := rfl
@[simp] theorem State.emit_regions (s : State) (o : Out) : (s.emit o).regions = s.regions := rfl
@[simp] theorem State.emit_vd (s : State) (o : Out) : (s.emit o).vd = s.vd := rfl
@[simp] theorem State.emit_frg (s : State) (o : Out) : (s.emit o).frg = s.frg := rfl
@[simp] theorem State.emit_nzc (s : State) (o : Out) : (s.emit o).nzc = s.nzc := rfl
@[simp] theorem State.emit_stg (s : State) (o : Out) : (s.emit o).stg = s.stg := rfl
@[simp] theorem State.emit_ins (s : State) (o : Out) : (s.emit o).ins = s.ins := rfl
@[simp] theorem State.emit_dmc (s : State) (o : Out) : (s.emit o).dmc = s.dmc := rfl
@[simp] theorem State.emit_dreq (s : State) (o : Out) : (s.emit o).dreq = s.dreq := rfl
@[simp] theorem State.emit_freq (s : State) (o : Out) : (s.emit o).freq = s.freq := rfl
@[simp] theorem State.emit_dmcMap (s : State) (o : Out) : (s.emit o).dmcMap = s.dmcMap := rfl
@[simp] theorem State.emit_pwr (s : State) (o : Out) : (s.emit o).pwr = s.pwr := rfl
@[simp] theorem State.emit_window (s : State) (o : Out) : (s.emit o).window = s.window := rfl
@[simp] theorem State.emit_rstIn (s : State) (o : Out) : (s.emit o).rstIn = s.rstIn := rfl
@[simp] theorem State.emit_grstPin (s : State) (o : Out) : (s.emit o).grstPin = s.grstPin := rfl
@[simp] theorem State.emit_fab (s : State) (o : Out) : (s.emit o).fab = s.fab := rfl
@[simp] theorem State.emit_cfg (s : State) (o : Out) : (s.emit o).cfg = s.cfg := rfl
@[simp] theorem State.emit_per (s : State) (o : Out) : (s.emit o).per = s.per := rfl
@[simp] theorem State.emit_lcy (s : State) (o : Out) : (s.emit o).lcy = s.lcy := rfl

/-! ### store -/

@[simp] theorem State.store_pending (s : State) (x : Store) : (s.store x).pending = s.pending := rfl
@[simp] theorem State.store_now (s : State) (x : Store) : (s.store x).now = s.now := rfl
@[simp] theorem State.store_out (s : State) (x : Store) : (s.store x).out = s.out := rfl
@[simp] theorem State.store_freeIx (s : State) (x : Store) : (s.store x).freeIx = s.freeIx := rfl
@[simp] theorem State.store_dram (s : State) (x : Store) : (s.store x).dram = s.dram := rfl
@[simp] theorem State.store_flash (s : State) (x : Store) : (s.store x).flash = s.flash := rfl
@[simp] theorem State.store_nor (s : State) (x : Store) : (s.store x).nor = s.nor := rfl
@[simp] theorem State.store_regs (s : State) (x : Store) : (s.store x).regs = s.regs := rfl
@[simp] theorem State.store_active (s : State) (x : Store) : (s.store x).active = s.active := rfl
@[simp] theorem State.store_hits (s : State) (x : Store) : (s.store x).hits = s.hits := rfl
@[simp] theorem State.store_later (s : State) (x : Store) : (s.store x).later = s.later := rfl
@[simp] theorem State.store_latch (s : State) (x : Store) : (s.store x).latch = s.latch := rfl
@[simp] theorem State.store_cue (s : State) (x : Store) : (s.store x).cue = s.cue := rfl
@[simp] theorem State.store_clk (s : State) (x : Store) : (s.store x).clk = s.clk := rfl
@[simp] theorem State.store_house (s : State) (x : Store) : (s.store x).house = s.house := rfl
@[simp] theorem State.store_porAt (s : State) (x : Store) : (s.store x).porAt = s.porAt := rfl
@[simp] theorem State.store_boxes (s : State) (x : Store) : (s.store x).boxes = s.boxes := rfl
@[simp] theorem State.store_ports (s : State) (x : Store) : (s.store x).ports = s.ports := rfl
@[simp] theorem State.store_links (s : State) (x : Store) : (s.store x).links = s.links := rfl
@[simp] theorem State.store_scene (s : State) (x : Store) : (s.store x).scene = s.scene := rfl
@[simp] theorem State.store_promptUp (s : State) (x : Store) : (s.store x).promptUp = s.promptUp := rfl
@[simp] theorem State.store_sys (s : State) (x : Store) : (s.store x).sys = s.sys := rfl
@[simp] theorem State.store_trk (s : State) (x : Store) : (s.store x).trk = s.trk := rfl
@[simp] theorem State.store_wq (s : State) (x : Store) : (s.store x).wq = s.wq := rfl
@[simp] theorem State.store_aonMarks (s : State) (x : Store) : (s.store x).aonMarks = s.aonMarks := rfl
@[simp] theorem State.store_banks (s : State) (x : Store) : (s.store x).banks = s.banks := rfl
@[simp] theorem State.store_ldg (s : State) (x : Store) : (s.store x).ldg = s.ldg := rfl
@[simp] theorem State.store_leases (s : State) (x : Store) : (s.store x).leases = s.leases := rfl
@[simp] theorem State.store_cmp (s : State) (x : Store) : (s.store x).cmp = s.cmp := rfl
@[simp] theorem State.store_sdefs (s : State) (x : Store) : (s.store x).sdefs = s.sdefs := rfl
@[simp] theorem State.store_series (s : State) (x : Store) : (s.store x).series = s.series := rfl
@[simp] theorem State.store_dpx (s : State) (x : Store) : (s.store x).dpx = s.dpx := rfl
@[simp] theorem State.store_regions (s : State) (x : Store) : (s.store x).regions = s.regions := rfl
@[simp] theorem State.store_vd (s : State) (x : Store) : (s.store x).vd = s.vd := rfl
@[simp] theorem State.store_frg (s : State) (x : Store) : (s.store x).frg = s.frg := rfl
@[simp] theorem State.store_nzc (s : State) (x : Store) : (s.store x).nzc = s.nzc := rfl
@[simp] theorem State.store_stg (s : State) (x : Store) : (s.store x).stg = s.stg := rfl
@[simp] theorem State.store_ins (s : State) (x : Store) : (s.store x).ins = s.ins := rfl
@[simp] theorem State.store_dmc (s : State) (x : Store) : (s.store x).dmc = s.dmc := rfl
@[simp] theorem State.store_dreq (s : State) (x : Store) : (s.store x).dreq = s.dreq := rfl
@[simp] theorem State.store_freq (s : State) (x : Store) : (s.store x).freq = s.freq := rfl
@[simp] theorem State.store_dmcMap (s : State) (x : Store) : (s.store x).dmcMap = s.dmcMap := rfl
@[simp] theorem State.store_pwr (s : State) (x : Store) : (s.store x).pwr = s.pwr := rfl
@[simp] theorem State.store_window (s : State) (x : Store) : (s.store x).window = s.window := rfl
@[simp] theorem State.store_rstIn (s : State) (x : Store) : (s.store x).rstIn = s.rstIn := rfl
@[simp] theorem State.store_grstPin (s : State) (x : Store) : (s.store x).grstPin = s.grstPin := rfl
@[simp] theorem State.store_fab (s : State) (x : Store) : (s.store x).fab = s.fab := rfl
@[simp] theorem State.store_cfg (s : State) (x : Store) : (s.store x).cfg = s.cfg := rfl
@[simp] theorem State.store_per (s : State) (x : Store) : (s.store x).per = s.per := rfl
@[simp] theorem State.store_lcy (s : State) (x : Store) : (s.store x).lcy = s.lcy := rfl

/-! ### setBox -/

@[simp] theorem State.setBox_pending (s : State) (b : Nat) (x : Box) : (s.setBox b x).pending = s.pending := rfl
@[simp] theorem State.setBox_now (s : State) (b : Nat) (x : Box) : (s.setBox b x).now = s.now := rfl
@[simp] theorem State.setBox_out (s : State) (b : Nat) (x : Box) : (s.setBox b x).out = s.out := rfl
@[simp] theorem State.setBox_freeIx (s : State) (b : Nat) (x : Box) : (s.setBox b x).freeIx = s.freeIx := rfl
@[simp] theorem State.setBox_stores (s : State) (b : Nat) (x : Box) : (s.setBox b x).stores = s.stores := rfl
@[simp] theorem State.setBox_dram (s : State) (b : Nat) (x : Box) : (s.setBox b x).dram = s.dram := rfl
@[simp] theorem State.setBox_flash (s : State) (b : Nat) (x : Box) : (s.setBox b x).flash = s.flash := rfl
@[simp] theorem State.setBox_nor (s : State) (b : Nat) (x : Box) : (s.setBox b x).nor = s.nor := rfl
@[simp] theorem State.setBox_regs (s : State) (b : Nat) (x : Box) : (s.setBox b x).regs = s.regs := rfl
@[simp] theorem State.setBox_active (s : State) (b : Nat) (x : Box) : (s.setBox b x).active = s.active := rfl
@[simp] theorem State.setBox_hits (s : State) (b : Nat) (x : Box) : (s.setBox b x).hits = s.hits := rfl
@[simp] theorem State.setBox_later (s : State) (b : Nat) (x : Box) : (s.setBox b x).later = s.later := rfl
@[simp] theorem State.setBox_latch (s : State) (b : Nat) (x : Box) : (s.setBox b x).latch = s.latch := rfl
@[simp] theorem State.setBox_cue (s : State) (b : Nat) (x : Box) : (s.setBox b x).cue = s.cue := rfl
@[simp] theorem State.setBox_clk (s : State) (b : Nat) (x : Box) : (s.setBox b x).clk = s.clk := rfl
@[simp] theorem State.setBox_house (s : State) (b : Nat) (x : Box) : (s.setBox b x).house = s.house := rfl
@[simp] theorem State.setBox_porAt (s : State) (b : Nat) (x : Box) : (s.setBox b x).porAt = s.porAt := rfl
@[simp] theorem State.setBox_ports (s : State) (b : Nat) (x : Box) : (s.setBox b x).ports = s.ports := rfl
@[simp] theorem State.setBox_links (s : State) (b : Nat) (x : Box) : (s.setBox b x).links = s.links := rfl
@[simp] theorem State.setBox_scene (s : State) (b : Nat) (x : Box) : (s.setBox b x).scene = s.scene := rfl
@[simp] theorem State.setBox_promptUp (s : State) (b : Nat) (x : Box) : (s.setBox b x).promptUp = s.promptUp := rfl
@[simp] theorem State.setBox_sys (s : State) (b : Nat) (x : Box) : (s.setBox b x).sys = s.sys := rfl
@[simp] theorem State.setBox_trk (s : State) (b : Nat) (x : Box) : (s.setBox b x).trk = s.trk := rfl
@[simp] theorem State.setBox_wq (s : State) (b : Nat) (x : Box) : (s.setBox b x).wq = s.wq := rfl
@[simp] theorem State.setBox_aonMarks (s : State) (b : Nat) (x : Box) : (s.setBox b x).aonMarks = s.aonMarks := rfl
@[simp] theorem State.setBox_banks (s : State) (b : Nat) (x : Box) : (s.setBox b x).banks = s.banks := rfl
@[simp] theorem State.setBox_ldg (s : State) (b : Nat) (x : Box) : (s.setBox b x).ldg = s.ldg := rfl
@[simp] theorem State.setBox_leases (s : State) (b : Nat) (x : Box) : (s.setBox b x).leases = s.leases := rfl
@[simp] theorem State.setBox_cmp (s : State) (b : Nat) (x : Box) : (s.setBox b x).cmp = s.cmp := rfl
@[simp] theorem State.setBox_sdefs (s : State) (b : Nat) (x : Box) : (s.setBox b x).sdefs = s.sdefs := rfl
@[simp] theorem State.setBox_series (s : State) (b : Nat) (x : Box) : (s.setBox b x).series = s.series := rfl
@[simp] theorem State.setBox_dpx (s : State) (b : Nat) (x : Box) : (s.setBox b x).dpx = s.dpx := rfl
@[simp] theorem State.setBox_regions (s : State) (b : Nat) (x : Box) : (s.setBox b x).regions = s.regions := rfl
@[simp] theorem State.setBox_vd (s : State) (b : Nat) (x : Box) : (s.setBox b x).vd = s.vd := rfl
@[simp] theorem State.setBox_frg (s : State) (b : Nat) (x : Box) : (s.setBox b x).frg = s.frg := rfl
@[simp] theorem State.setBox_nzc (s : State) (b : Nat) (x : Box) : (s.setBox b x).nzc = s.nzc := rfl
@[simp] theorem State.setBox_stg (s : State) (b : Nat) (x : Box) : (s.setBox b x).stg = s.stg := rfl
@[simp] theorem State.setBox_ins (s : State) (b : Nat) (x : Box) : (s.setBox b x).ins = s.ins := rfl
@[simp] theorem State.setBox_dmc (s : State) (b : Nat) (x : Box) : (s.setBox b x).dmc = s.dmc := rfl
@[simp] theorem State.setBox_dreq (s : State) (b : Nat) (x : Box) : (s.setBox b x).dreq = s.dreq := rfl
@[simp] theorem State.setBox_freq (s : State) (b : Nat) (x : Box) : (s.setBox b x).freq = s.freq := rfl
@[simp] theorem State.setBox_dmcMap (s : State) (b : Nat) (x : Box) : (s.setBox b x).dmcMap = s.dmcMap := rfl
@[simp] theorem State.setBox_pwr (s : State) (b : Nat) (x : Box) : (s.setBox b x).pwr = s.pwr := rfl
@[simp] theorem State.setBox_window (s : State) (b : Nat) (x : Box) : (s.setBox b x).window = s.window := rfl
@[simp] theorem State.setBox_rstIn (s : State) (b : Nat) (x : Box) : (s.setBox b x).rstIn = s.rstIn := rfl
@[simp] theorem State.setBox_grstPin (s : State) (b : Nat) (x : Box) : (s.setBox b x).grstPin = s.grstPin := rfl
@[simp] theorem State.setBox_fab (s : State) (b : Nat) (x : Box) : (s.setBox b x).fab = s.fab := rfl
@[simp] theorem State.setBox_cfg (s : State) (b : Nat) (x : Box) : (s.setBox b x).cfg = s.cfg := rfl
@[simp] theorem State.setBox_per (s : State) (b : Nat) (x : Box) : (s.setBox b x).per = s.per := rfl
@[simp] theorem State.setBox_lcy (s : State) (b : Nat) (x : Box) : (s.setBox b x).lcy = s.lcy := rfl

/-! ### setTrack -/

@[simp] theorem State.setTrack_pending (s : State) (n : Nat) (x : Trk) : (s.setTrack n x).pending = s.pending := rfl
@[simp] theorem State.setTrack_now (s : State) (n : Nat) (x : Trk) : (s.setTrack n x).now = s.now := rfl
@[simp] theorem State.setTrack_out (s : State) (n : Nat) (x : Trk) : (s.setTrack n x).out = s.out := rfl
@[simp] theorem State.setTrack_freeIx (s : State) (n : Nat) (x : Trk) : (s.setTrack n x).freeIx = s.freeIx := rfl
@[simp] theorem State.setTrack_stores (s : State) (n : Nat) (x : Trk) : (s.setTrack n x).stores = s.stores := rfl
@[simp] theorem State.setTrack_dram (s : State) (n : Nat) (x : Trk) : (s.setTrack n x).dram = s.dram := rfl
@[simp] theorem State.setTrack_flash (s : State) (n : Nat) (x : Trk) : (s.setTrack n x).flash = s.flash := rfl
@[simp] theorem State.setTrack_nor (s : State) (n : Nat) (x : Trk) : (s.setTrack n x).nor = s.nor := rfl
@[simp] theorem State.setTrack_regs (s : State) (n : Nat) (x : Trk) : (s.setTrack n x).regs = s.regs := rfl
@[simp] theorem State.setTrack_active (s : State) (n : Nat) (x : Trk) : (s.setTrack n x).active = s.active := rfl
@[simp] theorem State.setTrack_hits (s : State) (n : Nat) (x : Trk) : (s.setTrack n x).hits = s.hits := rfl
@[simp] theorem State.setTrack_later (s : State) (n : Nat) (x : Trk) : (s.setTrack n x).later = s.later := rfl
@[simp] theorem State.setTrack_latch (s : State) (n : Nat) (x : Trk) : (s.setTrack n x).latch = s.latch := rfl
@[simp] theorem State.setTrack_cue (s : State) (n : Nat) (x : Trk) : (s.setTrack n x).cue = s.cue := rfl
@[simp] theorem State.setTrack_clk (s : State) (n : Nat) (x : Trk) : (s.setTrack n x).clk = s.clk := rfl
@[simp] theorem State.setTrack_house (s : State) (n : Nat) (x : Trk) : (s.setTrack n x).house = s.house := rfl
@[simp] theorem State.setTrack_porAt (s : State) (n : Nat) (x : Trk) : (s.setTrack n x).porAt = s.porAt := rfl
@[simp] theorem State.setTrack_boxes (s : State) (n : Nat) (x : Trk) : (s.setTrack n x).boxes = s.boxes := rfl
@[simp] theorem State.setTrack_ports (s : State) (n : Nat) (x : Trk) : (s.setTrack n x).ports = s.ports := rfl
@[simp] theorem State.setTrack_links (s : State) (n : Nat) (x : Trk) : (s.setTrack n x).links = s.links := rfl
@[simp] theorem State.setTrack_scene (s : State) (n : Nat) (x : Trk) : (s.setTrack n x).scene = s.scene := rfl
@[simp] theorem State.setTrack_promptUp (s : State) (n : Nat) (x : Trk) : (s.setTrack n x).promptUp = s.promptUp := rfl
@[simp] theorem State.setTrack_sys (s : State) (n : Nat) (x : Trk) : (s.setTrack n x).sys = s.sys := rfl
@[simp] theorem State.setTrack_wq (s : State) (n : Nat) (x : Trk) : (s.setTrack n x).wq = s.wq := rfl
@[simp] theorem State.setTrack_aonMarks (s : State) (n : Nat) (x : Trk) : (s.setTrack n x).aonMarks = s.aonMarks := rfl
@[simp] theorem State.setTrack_banks (s : State) (n : Nat) (x : Trk) : (s.setTrack n x).banks = s.banks := rfl
@[simp] theorem State.setTrack_ldg (s : State) (n : Nat) (x : Trk) : (s.setTrack n x).ldg = s.ldg := rfl
@[simp] theorem State.setTrack_leases (s : State) (n : Nat) (x : Trk) : (s.setTrack n x).leases = s.leases := rfl
@[simp] theorem State.setTrack_cmp (s : State) (n : Nat) (x : Trk) : (s.setTrack n x).cmp = s.cmp := rfl
@[simp] theorem State.setTrack_sdefs (s : State) (n : Nat) (x : Trk) : (s.setTrack n x).sdefs = s.sdefs := rfl
@[simp] theorem State.setTrack_series (s : State) (n : Nat) (x : Trk) : (s.setTrack n x).series = s.series := rfl
@[simp] theorem State.setTrack_dpx (s : State) (n : Nat) (x : Trk) : (s.setTrack n x).dpx = s.dpx := rfl
@[simp] theorem State.setTrack_regions (s : State) (n : Nat) (x : Trk) : (s.setTrack n x).regions = s.regions := rfl
@[simp] theorem State.setTrack_vd (s : State) (n : Nat) (x : Trk) : (s.setTrack n x).vd = s.vd := rfl
@[simp] theorem State.setTrack_frg (s : State) (n : Nat) (x : Trk) : (s.setTrack n x).frg = s.frg := rfl
@[simp] theorem State.setTrack_nzc (s : State) (n : Nat) (x : Trk) : (s.setTrack n x).nzc = s.nzc := rfl
@[simp] theorem State.setTrack_stg (s : State) (n : Nat) (x : Trk) : (s.setTrack n x).stg = s.stg := rfl
@[simp] theorem State.setTrack_ins (s : State) (n : Nat) (x : Trk) : (s.setTrack n x).ins = s.ins := rfl
@[simp] theorem State.setTrack_dmc (s : State) (n : Nat) (x : Trk) : (s.setTrack n x).dmc = s.dmc := rfl
@[simp] theorem State.setTrack_dreq (s : State) (n : Nat) (x : Trk) : (s.setTrack n x).dreq = s.dreq := rfl
@[simp] theorem State.setTrack_freq (s : State) (n : Nat) (x : Trk) : (s.setTrack n x).freq = s.freq := rfl
@[simp] theorem State.setTrack_dmcMap (s : State) (n : Nat) (x : Trk) : (s.setTrack n x).dmcMap = s.dmcMap := rfl
@[simp] theorem State.setTrack_pwr (s : State) (n : Nat) (x : Trk) : (s.setTrack n x).pwr = s.pwr := rfl
@[simp] theorem State.setTrack_window (s : State) (n : Nat) (x : Trk) : (s.setTrack n x).window = s.window := rfl
@[simp] theorem State.setTrack_rstIn (s : State) (n : Nat) (x : Trk) : (s.setTrack n x).rstIn = s.rstIn := rfl
@[simp] theorem State.setTrack_grstPin (s : State) (n : Nat) (x : Trk) : (s.setTrack n x).grstPin = s.grstPin := rfl
@[simp] theorem State.setTrack_fab (s : State) (n : Nat) (x : Trk) : (s.setTrack n x).fab = s.fab := rfl
@[simp] theorem State.setTrack_cfg (s : State) (n : Nat) (x : Trk) : (s.setTrack n x).cfg = s.cfg := rfl
@[simp] theorem State.setTrack_per (s : State) (n : Nat) (x : Trk) : (s.setTrack n x).per = s.per := rfl
@[simp] theorem State.setTrack_lcy (s : State) (n : Nat) (x : Trk) : (s.setTrack n x).lcy = s.lcy := rfl

/-! ### setQueue -/

@[simp] theorem State.setQueue_pending (s : State) (n : Nat) (x : Wq) : (s.setQueue n x).pending = s.pending := rfl
@[simp] theorem State.setQueue_now (s : State) (n : Nat) (x : Wq) : (s.setQueue n x).now = s.now := rfl
@[simp] theorem State.setQueue_out (s : State) (n : Nat) (x : Wq) : (s.setQueue n x).out = s.out := rfl
@[simp] theorem State.setQueue_freeIx (s : State) (n : Nat) (x : Wq) : (s.setQueue n x).freeIx = s.freeIx := rfl
@[simp] theorem State.setQueue_stores (s : State) (n : Nat) (x : Wq) : (s.setQueue n x).stores = s.stores := rfl
@[simp] theorem State.setQueue_dram (s : State) (n : Nat) (x : Wq) : (s.setQueue n x).dram = s.dram := rfl
@[simp] theorem State.setQueue_flash (s : State) (n : Nat) (x : Wq) : (s.setQueue n x).flash = s.flash := rfl
@[simp] theorem State.setQueue_nor (s : State) (n : Nat) (x : Wq) : (s.setQueue n x).nor = s.nor := rfl
@[simp] theorem State.setQueue_regs (s : State) (n : Nat) (x : Wq) : (s.setQueue n x).regs = s.regs := rfl
@[simp] theorem State.setQueue_active (s : State) (n : Nat) (x : Wq) : (s.setQueue n x).active = s.active := rfl
@[simp] theorem State.setQueue_hits (s : State) (n : Nat) (x : Wq) : (s.setQueue n x).hits = s.hits := rfl
@[simp] theorem State.setQueue_later (s : State) (n : Nat) (x : Wq) : (s.setQueue n x).later = s.later := rfl
@[simp] theorem State.setQueue_latch (s : State) (n : Nat) (x : Wq) : (s.setQueue n x).latch = s.latch := rfl
@[simp] theorem State.setQueue_cue (s : State) (n : Nat) (x : Wq) : (s.setQueue n x).cue = s.cue := rfl
@[simp] theorem State.setQueue_clk (s : State) (n : Nat) (x : Wq) : (s.setQueue n x).clk = s.clk := rfl
@[simp] theorem State.setQueue_house (s : State) (n : Nat) (x : Wq) : (s.setQueue n x).house = s.house := rfl
@[simp] theorem State.setQueue_porAt (s : State) (n : Nat) (x : Wq) : (s.setQueue n x).porAt = s.porAt := rfl
@[simp] theorem State.setQueue_boxes (s : State) (n : Nat) (x : Wq) : (s.setQueue n x).boxes = s.boxes := rfl
@[simp] theorem State.setQueue_ports (s : State) (n : Nat) (x : Wq) : (s.setQueue n x).ports = s.ports := rfl
@[simp] theorem State.setQueue_links (s : State) (n : Nat) (x : Wq) : (s.setQueue n x).links = s.links := rfl
@[simp] theorem State.setQueue_scene (s : State) (n : Nat) (x : Wq) : (s.setQueue n x).scene = s.scene := rfl
@[simp] theorem State.setQueue_promptUp (s : State) (n : Nat) (x : Wq) : (s.setQueue n x).promptUp = s.promptUp := rfl
@[simp] theorem State.setQueue_sys (s : State) (n : Nat) (x : Wq) : (s.setQueue n x).sys = s.sys := rfl
@[simp] theorem State.setQueue_trk (s : State) (n : Nat) (x : Wq) : (s.setQueue n x).trk = s.trk := rfl
@[simp] theorem State.setQueue_aonMarks (s : State) (n : Nat) (x : Wq) : (s.setQueue n x).aonMarks = s.aonMarks := rfl
@[simp] theorem State.setQueue_banks (s : State) (n : Nat) (x : Wq) : (s.setQueue n x).banks = s.banks := rfl
@[simp] theorem State.setQueue_ldg (s : State) (n : Nat) (x : Wq) : (s.setQueue n x).ldg = s.ldg := rfl
@[simp] theorem State.setQueue_leases (s : State) (n : Nat) (x : Wq) : (s.setQueue n x).leases = s.leases := rfl
@[simp] theorem State.setQueue_cmp (s : State) (n : Nat) (x : Wq) : (s.setQueue n x).cmp = s.cmp := rfl
@[simp] theorem State.setQueue_sdefs (s : State) (n : Nat) (x : Wq) : (s.setQueue n x).sdefs = s.sdefs := rfl
@[simp] theorem State.setQueue_series (s : State) (n : Nat) (x : Wq) : (s.setQueue n x).series = s.series := rfl
@[simp] theorem State.setQueue_dpx (s : State) (n : Nat) (x : Wq) : (s.setQueue n x).dpx = s.dpx := rfl
@[simp] theorem State.setQueue_regions (s : State) (n : Nat) (x : Wq) : (s.setQueue n x).regions = s.regions := rfl
@[simp] theorem State.setQueue_vd (s : State) (n : Nat) (x : Wq) : (s.setQueue n x).vd = s.vd := rfl
@[simp] theorem State.setQueue_frg (s : State) (n : Nat) (x : Wq) : (s.setQueue n x).frg = s.frg := rfl
@[simp] theorem State.setQueue_nzc (s : State) (n : Nat) (x : Wq) : (s.setQueue n x).nzc = s.nzc := rfl
@[simp] theorem State.setQueue_stg (s : State) (n : Nat) (x : Wq) : (s.setQueue n x).stg = s.stg := rfl
@[simp] theorem State.setQueue_ins (s : State) (n : Nat) (x : Wq) : (s.setQueue n x).ins = s.ins := rfl
@[simp] theorem State.setQueue_dmc (s : State) (n : Nat) (x : Wq) : (s.setQueue n x).dmc = s.dmc := rfl
@[simp] theorem State.setQueue_dreq (s : State) (n : Nat) (x : Wq) : (s.setQueue n x).dreq = s.dreq := rfl
@[simp] theorem State.setQueue_freq (s : State) (n : Nat) (x : Wq) : (s.setQueue n x).freq = s.freq := rfl
@[simp] theorem State.setQueue_dmcMap (s : State) (n : Nat) (x : Wq) : (s.setQueue n x).dmcMap = s.dmcMap := rfl
@[simp] theorem State.setQueue_pwr (s : State) (n : Nat) (x : Wq) : (s.setQueue n x).pwr = s.pwr := rfl
@[simp] theorem State.setQueue_window (s : State) (n : Nat) (x : Wq) : (s.setQueue n x).window = s.window := rfl
@[simp] theorem State.setQueue_rstIn (s : State) (n : Nat) (x : Wq) : (s.setQueue n x).rstIn = s.rstIn := rfl
@[simp] theorem State.setQueue_grstPin (s : State) (n : Nat) (x : Wq) : (s.setQueue n x).grstPin = s.grstPin := rfl
@[simp] theorem State.setQueue_fab (s : State) (n : Nat) (x : Wq) : (s.setQueue n x).fab = s.fab := rfl
@[simp] theorem State.setQueue_cfg (s : State) (n : Nat) (x : Wq) : (s.setQueue n x).cfg = s.cfg := rfl
@[simp] theorem State.setQueue_per (s : State) (n : Nat) (x : Wq) : (s.setQueue n x).per = s.per := rfl
@[simp] theorem State.setQueue_lcy (s : State) (n : Nat) (x : Wq) : (s.setQueue n x).lcy = s.lcy := rfl

/-! ### setSrun -/

@[simp] theorem State.setSrun_pending (s : State) (i : Nat) (x : SeriesRun) : (s.setSrun i x).pending = s.pending := rfl
@[simp] theorem State.setSrun_now (s : State) (i : Nat) (x : SeriesRun) : (s.setSrun i x).now = s.now := rfl
@[simp] theorem State.setSrun_out (s : State) (i : Nat) (x : SeriesRun) : (s.setSrun i x).out = s.out := rfl
@[simp] theorem State.setSrun_freeIx (s : State) (i : Nat) (x : SeriesRun) : (s.setSrun i x).freeIx = s.freeIx := rfl
@[simp] theorem State.setSrun_stores (s : State) (i : Nat) (x : SeriesRun) : (s.setSrun i x).stores = s.stores := rfl
@[simp] theorem State.setSrun_dram (s : State) (i : Nat) (x : SeriesRun) : (s.setSrun i x).dram = s.dram := rfl
@[simp] theorem State.setSrun_flash (s : State) (i : Nat) (x : SeriesRun) : (s.setSrun i x).flash = s.flash := rfl
@[simp] theorem State.setSrun_nor (s : State) (i : Nat) (x : SeriesRun) : (s.setSrun i x).nor = s.nor := rfl
@[simp] theorem State.setSrun_regs (s : State) (i : Nat) (x : SeriesRun) : (s.setSrun i x).regs = s.regs := rfl
@[simp] theorem State.setSrun_active (s : State) (i : Nat) (x : SeriesRun) : (s.setSrun i x).active = s.active := rfl
@[simp] theorem State.setSrun_hits (s : State) (i : Nat) (x : SeriesRun) : (s.setSrun i x).hits = s.hits := rfl
@[simp] theorem State.setSrun_later (s : State) (i : Nat) (x : SeriesRun) : (s.setSrun i x).later = s.later := rfl
@[simp] theorem State.setSrun_latch (s : State) (i : Nat) (x : SeriesRun) : (s.setSrun i x).latch = s.latch := rfl
@[simp] theorem State.setSrun_cue (s : State) (i : Nat) (x : SeriesRun) : (s.setSrun i x).cue = s.cue := rfl
@[simp] theorem State.setSrun_clk (s : State) (i : Nat) (x : SeriesRun) : (s.setSrun i x).clk = s.clk := rfl
@[simp] theorem State.setSrun_house (s : State) (i : Nat) (x : SeriesRun) : (s.setSrun i x).house = s.house := rfl
@[simp] theorem State.setSrun_porAt (s : State) (i : Nat) (x : SeriesRun) : (s.setSrun i x).porAt = s.porAt := rfl
@[simp] theorem State.setSrun_boxes (s : State) (i : Nat) (x : SeriesRun) : (s.setSrun i x).boxes = s.boxes := rfl
@[simp] theorem State.setSrun_ports (s : State) (i : Nat) (x : SeriesRun) : (s.setSrun i x).ports = s.ports := rfl
@[simp] theorem State.setSrun_links (s : State) (i : Nat) (x : SeriesRun) : (s.setSrun i x).links = s.links := rfl
@[simp] theorem State.setSrun_scene (s : State) (i : Nat) (x : SeriesRun) : (s.setSrun i x).scene = s.scene := rfl
@[simp] theorem State.setSrun_promptUp (s : State) (i : Nat) (x : SeriesRun) : (s.setSrun i x).promptUp = s.promptUp := rfl
@[simp] theorem State.setSrun_sys (s : State) (i : Nat) (x : SeriesRun) : (s.setSrun i x).sys = s.sys := rfl
@[simp] theorem State.setSrun_trk (s : State) (i : Nat) (x : SeriesRun) : (s.setSrun i x).trk = s.trk := rfl
@[simp] theorem State.setSrun_wq (s : State) (i : Nat) (x : SeriesRun) : (s.setSrun i x).wq = s.wq := rfl
@[simp] theorem State.setSrun_aonMarks (s : State) (i : Nat) (x : SeriesRun) : (s.setSrun i x).aonMarks = s.aonMarks := rfl
@[simp] theorem State.setSrun_banks (s : State) (i : Nat) (x : SeriesRun) : (s.setSrun i x).banks = s.banks := rfl
@[simp] theorem State.setSrun_ldg (s : State) (i : Nat) (x : SeriesRun) : (s.setSrun i x).ldg = s.ldg := rfl
@[simp] theorem State.setSrun_leases (s : State) (i : Nat) (x : SeriesRun) : (s.setSrun i x).leases = s.leases := rfl
@[simp] theorem State.setSrun_cmp (s : State) (i : Nat) (x : SeriesRun) : (s.setSrun i x).cmp = s.cmp := rfl
@[simp] theorem State.setSrun_sdefs (s : State) (i : Nat) (x : SeriesRun) : (s.setSrun i x).sdefs = s.sdefs := rfl
@[simp] theorem State.setSrun_dpx (s : State) (i : Nat) (x : SeriesRun) : (s.setSrun i x).dpx = s.dpx := rfl
@[simp] theorem State.setSrun_regions (s : State) (i : Nat) (x : SeriesRun) : (s.setSrun i x).regions = s.regions := rfl
@[simp] theorem State.setSrun_vd (s : State) (i : Nat) (x : SeriesRun) : (s.setSrun i x).vd = s.vd := rfl
@[simp] theorem State.setSrun_frg (s : State) (i : Nat) (x : SeriesRun) : (s.setSrun i x).frg = s.frg := rfl
@[simp] theorem State.setSrun_nzc (s : State) (i : Nat) (x : SeriesRun) : (s.setSrun i x).nzc = s.nzc := rfl
@[simp] theorem State.setSrun_stg (s : State) (i : Nat) (x : SeriesRun) : (s.setSrun i x).stg = s.stg := rfl
@[simp] theorem State.setSrun_ins (s : State) (i : Nat) (x : SeriesRun) : (s.setSrun i x).ins = s.ins := rfl
@[simp] theorem State.setSrun_dmc (s : State) (i : Nat) (x : SeriesRun) : (s.setSrun i x).dmc = s.dmc := rfl
@[simp] theorem State.setSrun_dreq (s : State) (i : Nat) (x : SeriesRun) : (s.setSrun i x).dreq = s.dreq := rfl
@[simp] theorem State.setSrun_freq (s : State) (i : Nat) (x : SeriesRun) : (s.setSrun i x).freq = s.freq := rfl
@[simp] theorem State.setSrun_dmcMap (s : State) (i : Nat) (x : SeriesRun) : (s.setSrun i x).dmcMap = s.dmcMap := rfl
@[simp] theorem State.setSrun_pwr (s : State) (i : Nat) (x : SeriesRun) : (s.setSrun i x).pwr = s.pwr := rfl
@[simp] theorem State.setSrun_window (s : State) (i : Nat) (x : SeriesRun) : (s.setSrun i x).window = s.window := rfl
@[simp] theorem State.setSrun_rstIn (s : State) (i : Nat) (x : SeriesRun) : (s.setSrun i x).rstIn = s.rstIn := rfl
@[simp] theorem State.setSrun_grstPin (s : State) (i : Nat) (x : SeriesRun) : (s.setSrun i x).grstPin = s.grstPin := rfl
@[simp] theorem State.setSrun_fab (s : State) (i : Nat) (x : SeriesRun) : (s.setSrun i x).fab = s.fab := rfl
@[simp] theorem State.setSrun_cfg (s : State) (i : Nat) (x : SeriesRun) : (s.setSrun i x).cfg = s.cfg := rfl
@[simp] theorem State.setSrun_per (s : State) (i : Nat) (x : SeriesRun) : (s.setSrun i x).per = s.per := rfl
@[simp] theorem State.setSrun_lcy (s : State) (i : Nat) (x : SeriesRun) : (s.setSrun i x).lcy = s.lcy := rfl

/-! ### setAonMark -/

@[simp] theorem State.setAonMark_pending (s : State) (n : Nat) (x : AonMark) : (s.setAonMark n x).pending = s.pending := rfl
@[simp] theorem State.setAonMark_now (s : State) (n : Nat) (x : AonMark) : (s.setAonMark n x).now = s.now := rfl
@[simp] theorem State.setAonMark_out (s : State) (n : Nat) (x : AonMark) : (s.setAonMark n x).out = s.out := rfl
@[simp] theorem State.setAonMark_freeIx (s : State) (n : Nat) (x : AonMark) : (s.setAonMark n x).freeIx = s.freeIx := rfl
@[simp] theorem State.setAonMark_stores (s : State) (n : Nat) (x : AonMark) : (s.setAonMark n x).stores = s.stores := rfl
@[simp] theorem State.setAonMark_dram (s : State) (n : Nat) (x : AonMark) : (s.setAonMark n x).dram = s.dram := rfl
@[simp] theorem State.setAonMark_flash (s : State) (n : Nat) (x : AonMark) : (s.setAonMark n x).flash = s.flash := rfl
@[simp] theorem State.setAonMark_nor (s : State) (n : Nat) (x : AonMark) : (s.setAonMark n x).nor = s.nor := rfl
@[simp] theorem State.setAonMark_regs (s : State) (n : Nat) (x : AonMark) : (s.setAonMark n x).regs = s.regs := rfl
@[simp] theorem State.setAonMark_active (s : State) (n : Nat) (x : AonMark) : (s.setAonMark n x).active = s.active := rfl
@[simp] theorem State.setAonMark_hits (s : State) (n : Nat) (x : AonMark) : (s.setAonMark n x).hits = s.hits := rfl
@[simp] theorem State.setAonMark_later (s : State) (n : Nat) (x : AonMark) : (s.setAonMark n x).later = s.later := rfl
@[simp] theorem State.setAonMark_latch (s : State) (n : Nat) (x : AonMark) : (s.setAonMark n x).latch = s.latch := rfl
@[simp] theorem State.setAonMark_cue (s : State) (n : Nat) (x : AonMark) : (s.setAonMark n x).cue = s.cue := rfl
@[simp] theorem State.setAonMark_clk (s : State) (n : Nat) (x : AonMark) : (s.setAonMark n x).clk = s.clk := rfl
@[simp] theorem State.setAonMark_house (s : State) (n : Nat) (x : AonMark) : (s.setAonMark n x).house = s.house := rfl
@[simp] theorem State.setAonMark_porAt (s : State) (n : Nat) (x : AonMark) : (s.setAonMark n x).porAt = s.porAt := rfl
@[simp] theorem State.setAonMark_boxes (s : State) (n : Nat) (x : AonMark) : (s.setAonMark n x).boxes = s.boxes := rfl
@[simp] theorem State.setAonMark_ports (s : State) (n : Nat) (x : AonMark) : (s.setAonMark n x).ports = s.ports := rfl
@[simp] theorem State.setAonMark_links (s : State) (n : Nat) (x : AonMark) : (s.setAonMark n x).links = s.links := rfl
@[simp] theorem State.setAonMark_scene (s : State) (n : Nat) (x : AonMark) : (s.setAonMark n x).scene = s.scene := rfl
@[simp] theorem State.setAonMark_promptUp (s : State) (n : Nat) (x : AonMark) : (s.setAonMark n x).promptUp = s.promptUp := rfl
@[simp] theorem State.setAonMark_sys (s : State) (n : Nat) (x : AonMark) : (s.setAonMark n x).sys = s.sys := rfl
@[simp] theorem State.setAonMark_trk (s : State) (n : Nat) (x : AonMark) : (s.setAonMark n x).trk = s.trk := rfl
@[simp] theorem State.setAonMark_wq (s : State) (n : Nat) (x : AonMark) : (s.setAonMark n x).wq = s.wq := rfl
@[simp] theorem State.setAonMark_banks (s : State) (n : Nat) (x : AonMark) : (s.setAonMark n x).banks = s.banks := rfl
@[simp] theorem State.setAonMark_ldg (s : State) (n : Nat) (x : AonMark) : (s.setAonMark n x).ldg = s.ldg := rfl
@[simp] theorem State.setAonMark_leases (s : State) (n : Nat) (x : AonMark) : (s.setAonMark n x).leases = s.leases := rfl
@[simp] theorem State.setAonMark_cmp (s : State) (n : Nat) (x : AonMark) : (s.setAonMark n x).cmp = s.cmp := rfl
@[simp] theorem State.setAonMark_sdefs (s : State) (n : Nat) (x : AonMark) : (s.setAonMark n x).sdefs = s.sdefs := rfl
@[simp] theorem State.setAonMark_series (s : State) (n : Nat) (x : AonMark) : (s.setAonMark n x).series = s.series := rfl
@[simp] theorem State.setAonMark_dpx (s : State) (n : Nat) (x : AonMark) : (s.setAonMark n x).dpx = s.dpx := rfl
@[simp] theorem State.setAonMark_regions (s : State) (n : Nat) (x : AonMark) : (s.setAonMark n x).regions = s.regions := rfl
@[simp] theorem State.setAonMark_vd (s : State) (n : Nat) (x : AonMark) : (s.setAonMark n x).vd = s.vd := rfl
@[simp] theorem State.setAonMark_frg (s : State) (n : Nat) (x : AonMark) : (s.setAonMark n x).frg = s.frg := rfl
@[simp] theorem State.setAonMark_nzc (s : State) (n : Nat) (x : AonMark) : (s.setAonMark n x).nzc = s.nzc := rfl
@[simp] theorem State.setAonMark_stg (s : State) (n : Nat) (x : AonMark) : (s.setAonMark n x).stg = s.stg := rfl
@[simp] theorem State.setAonMark_ins (s : State) (n : Nat) (x : AonMark) : (s.setAonMark n x).ins = s.ins := rfl
@[simp] theorem State.setAonMark_dmc (s : State) (n : Nat) (x : AonMark) : (s.setAonMark n x).dmc = s.dmc := rfl
@[simp] theorem State.setAonMark_dreq (s : State) (n : Nat) (x : AonMark) : (s.setAonMark n x).dreq = s.dreq := rfl
@[simp] theorem State.setAonMark_freq (s : State) (n : Nat) (x : AonMark) : (s.setAonMark n x).freq = s.freq := rfl
@[simp] theorem State.setAonMark_dmcMap (s : State) (n : Nat) (x : AonMark) : (s.setAonMark n x).dmcMap = s.dmcMap := rfl
@[simp] theorem State.setAonMark_pwr (s : State) (n : Nat) (x : AonMark) : (s.setAonMark n x).pwr = s.pwr := rfl
@[simp] theorem State.setAonMark_window (s : State) (n : Nat) (x : AonMark) : (s.setAonMark n x).window = s.window := rfl
@[simp] theorem State.setAonMark_rstIn (s : State) (n : Nat) (x : AonMark) : (s.setAonMark n x).rstIn = s.rstIn := rfl
@[simp] theorem State.setAonMark_grstPin (s : State) (n : Nat) (x : AonMark) : (s.setAonMark n x).grstPin = s.grstPin := rfl
@[simp] theorem State.setAonMark_fab (s : State) (n : Nat) (x : AonMark) : (s.setAonMark n x).fab = s.fab := rfl
@[simp] theorem State.setAonMark_cfg (s : State) (n : Nat) (x : AonMark) : (s.setAonMark n x).cfg = s.cfg := rfl
@[simp] theorem State.setAonMark_per (s : State) (n : Nat) (x : AonMark) : (s.setAonMark n x).per = s.per := rfl
@[simp] theorem State.setAonMark_lcy (s : State) (n : Nat) (x : AonMark) : (s.setAonMark n x).lcy = s.lcy := rfl

/-! ### setLane -/

@[simp] theorem State.setLane_pending (s : State) (k : Nat) (x : Lane) : (s.setLane k x).pending = s.pending := rfl
@[simp] theorem State.setLane_now (s : State) (k : Nat) (x : Lane) : (s.setLane k x).now = s.now := rfl
@[simp] theorem State.setLane_out (s : State) (k : Nat) (x : Lane) : (s.setLane k x).out = s.out := rfl
@[simp] theorem State.setLane_freeIx (s : State) (k : Nat) (x : Lane) : (s.setLane k x).freeIx = s.freeIx := rfl
@[simp] theorem State.setLane_stores (s : State) (k : Nat) (x : Lane) : (s.setLane k x).stores = s.stores := rfl
@[simp] theorem State.setLane_dram (s : State) (k : Nat) (x : Lane) : (s.setLane k x).dram = s.dram := rfl
@[simp] theorem State.setLane_flash (s : State) (k : Nat) (x : Lane) : (s.setLane k x).flash = s.flash := rfl
@[simp] theorem State.setLane_nor (s : State) (k : Nat) (x : Lane) : (s.setLane k x).nor = s.nor := rfl
@[simp] theorem State.setLane_regs (s : State) (k : Nat) (x : Lane) : (s.setLane k x).regs = s.regs := rfl
@[simp] theorem State.setLane_active (s : State) (k : Nat) (x : Lane) : (s.setLane k x).active = s.active := rfl
@[simp] theorem State.setLane_hits (s : State) (k : Nat) (x : Lane) : (s.setLane k x).hits = s.hits := rfl
@[simp] theorem State.setLane_later (s : State) (k : Nat) (x : Lane) : (s.setLane k x).later = s.later := rfl
@[simp] theorem State.setLane_latch (s : State) (k : Nat) (x : Lane) : (s.setLane k x).latch = s.latch := rfl
@[simp] theorem State.setLane_cue (s : State) (k : Nat) (x : Lane) : (s.setLane k x).cue = s.cue := rfl
@[simp] theorem State.setLane_clk (s : State) (k : Nat) (x : Lane) : (s.setLane k x).clk = s.clk := rfl
@[simp] theorem State.setLane_house (s : State) (k : Nat) (x : Lane) : (s.setLane k x).house = s.house := rfl
@[simp] theorem State.setLane_porAt (s : State) (k : Nat) (x : Lane) : (s.setLane k x).porAt = s.porAt := rfl
@[simp] theorem State.setLane_boxes (s : State) (k : Nat) (x : Lane) : (s.setLane k x).boxes = s.boxes := rfl
@[simp] theorem State.setLane_ports (s : State) (k : Nat) (x : Lane) : (s.setLane k x).ports = s.ports := rfl
@[simp] theorem State.setLane_links (s : State) (k : Nat) (x : Lane) : (s.setLane k x).links = s.links := rfl
@[simp] theorem State.setLane_scene (s : State) (k : Nat) (x : Lane) : (s.setLane k x).scene = s.scene := rfl
@[simp] theorem State.setLane_promptUp (s : State) (k : Nat) (x : Lane) : (s.setLane k x).promptUp = s.promptUp := rfl
@[simp] theorem State.setLane_sys (s : State) (k : Nat) (x : Lane) : (s.setLane k x).sys = s.sys := rfl
@[simp] theorem State.setLane_trk (s : State) (k : Nat) (x : Lane) : (s.setLane k x).trk = s.trk := rfl
@[simp] theorem State.setLane_wq (s : State) (k : Nat) (x : Lane) : (s.setLane k x).wq = s.wq := rfl
@[simp] theorem State.setLane_aonMarks (s : State) (k : Nat) (x : Lane) : (s.setLane k x).aonMarks = s.aonMarks := rfl
@[simp] theorem State.setLane_banks (s : State) (k : Nat) (x : Lane) : (s.setLane k x).banks = s.banks := rfl
@[simp] theorem State.setLane_ldg (s : State) (k : Nat) (x : Lane) : (s.setLane k x).ldg = s.ldg := rfl
@[simp] theorem State.setLane_leases (s : State) (k : Nat) (x : Lane) : (s.setLane k x).leases = s.leases := rfl
@[simp] theorem State.setLane_cmp (s : State) (k : Nat) (x : Lane) : (s.setLane k x).cmp = s.cmp := rfl
@[simp] theorem State.setLane_sdefs (s : State) (k : Nat) (x : Lane) : (s.setLane k x).sdefs = s.sdefs := rfl
@[simp] theorem State.setLane_series (s : State) (k : Nat) (x : Lane) : (s.setLane k x).series = s.series := rfl
@[simp] theorem State.setLane_dpx (s : State) (k : Nat) (x : Lane) : (s.setLane k x).dpx = s.dpx := rfl
@[simp] theorem State.setLane_regions (s : State) (k : Nat) (x : Lane) : (s.setLane k x).regions = s.regions := rfl
@[simp] theorem State.setLane_vd (s : State) (k : Nat) (x : Lane) : (s.setLane k x).vd = s.vd := rfl
@[simp] theorem State.setLane_frg (s : State) (k : Nat) (x : Lane) : (s.setLane k x).frg = s.frg := rfl
@[simp] theorem State.setLane_nzc (s : State) (k : Nat) (x : Lane) : (s.setLane k x).nzc = s.nzc := rfl
@[simp] theorem State.setLane_ins (s : State) (k : Nat) (x : Lane) : (s.setLane k x).ins = s.ins := rfl
@[simp] theorem State.setLane_dmc (s : State) (k : Nat) (x : Lane) : (s.setLane k x).dmc = s.dmc := rfl
@[simp] theorem State.setLane_dreq (s : State) (k : Nat) (x : Lane) : (s.setLane k x).dreq = s.dreq := rfl
@[simp] theorem State.setLane_freq (s : State) (k : Nat) (x : Lane) : (s.setLane k x).freq = s.freq := rfl
@[simp] theorem State.setLane_dmcMap (s : State) (k : Nat) (x : Lane) : (s.setLane k x).dmcMap = s.dmcMap := rfl
@[simp] theorem State.setLane_pwr (s : State) (k : Nat) (x : Lane) : (s.setLane k x).pwr = s.pwr := rfl
@[simp] theorem State.setLane_window (s : State) (k : Nat) (x : Lane) : (s.setLane k x).window = s.window := rfl
@[simp] theorem State.setLane_rstIn (s : State) (k : Nat) (x : Lane) : (s.setLane k x).rstIn = s.rstIn := rfl
@[simp] theorem State.setLane_grstPin (s : State) (k : Nat) (x : Lane) : (s.setLane k x).grstPin = s.grstPin := rfl
@[simp] theorem State.setLane_fab (s : State) (k : Nat) (x : Lane) : (s.setLane k x).fab = s.fab := rfl
@[simp] theorem State.setLane_cfg (s : State) (k : Nat) (x : Lane) : (s.setLane k x).cfg = s.cfg := rfl
@[simp] theorem State.setLane_per (s : State) (k : Nat) (x : Lane) : (s.setLane k x).per = s.per := rfl
@[simp] theorem State.setLane_lcy (s : State) (k : Nat) (x : Lane) : (s.setLane k x).lcy = s.lcy := rfl

/-! ### setHeadRun -/

@[simp] theorem State.setHeadRun_pending (s : State) (h : Nat) (x : HeadRun) : (s.setHeadRun h x).pending = s.pending := rfl
@[simp] theorem State.setHeadRun_now (s : State) (h : Nat) (x : HeadRun) : (s.setHeadRun h x).now = s.now := rfl
@[simp] theorem State.setHeadRun_out (s : State) (h : Nat) (x : HeadRun) : (s.setHeadRun h x).out = s.out := rfl
@[simp] theorem State.setHeadRun_freeIx (s : State) (h : Nat) (x : HeadRun) : (s.setHeadRun h x).freeIx = s.freeIx := rfl
@[simp] theorem State.setHeadRun_stores (s : State) (h : Nat) (x : HeadRun) : (s.setHeadRun h x).stores = s.stores := rfl
@[simp] theorem State.setHeadRun_dram (s : State) (h : Nat) (x : HeadRun) : (s.setHeadRun h x).dram = s.dram := rfl
@[simp] theorem State.setHeadRun_flash (s : State) (h : Nat) (x : HeadRun) : (s.setHeadRun h x).flash = s.flash := rfl
@[simp] theorem State.setHeadRun_nor (s : State) (h : Nat) (x : HeadRun) : (s.setHeadRun h x).nor = s.nor := rfl
@[simp] theorem State.setHeadRun_regs (s : State) (h : Nat) (x : HeadRun) : (s.setHeadRun h x).regs = s.regs := rfl
@[simp] theorem State.setHeadRun_active (s : State) (h : Nat) (x : HeadRun) : (s.setHeadRun h x).active = s.active := rfl
@[simp] theorem State.setHeadRun_hits (s : State) (h : Nat) (x : HeadRun) : (s.setHeadRun h x).hits = s.hits := rfl
@[simp] theorem State.setHeadRun_later (s : State) (h : Nat) (x : HeadRun) : (s.setHeadRun h x).later = s.later := rfl
@[simp] theorem State.setHeadRun_latch (s : State) (h : Nat) (x : HeadRun) : (s.setHeadRun h x).latch = s.latch := rfl
@[simp] theorem State.setHeadRun_cue (s : State) (h : Nat) (x : HeadRun) : (s.setHeadRun h x).cue = s.cue := rfl
@[simp] theorem State.setHeadRun_clk (s : State) (h : Nat) (x : HeadRun) : (s.setHeadRun h x).clk = s.clk := rfl
@[simp] theorem State.setHeadRun_house (s : State) (h : Nat) (x : HeadRun) : (s.setHeadRun h x).house = s.house := rfl
@[simp] theorem State.setHeadRun_porAt (s : State) (h : Nat) (x : HeadRun) : (s.setHeadRun h x).porAt = s.porAt := rfl
@[simp] theorem State.setHeadRun_boxes (s : State) (h : Nat) (x : HeadRun) : (s.setHeadRun h x).boxes = s.boxes := rfl
@[simp] theorem State.setHeadRun_ports (s : State) (h : Nat) (x : HeadRun) : (s.setHeadRun h x).ports = s.ports := rfl
@[simp] theorem State.setHeadRun_links (s : State) (h : Nat) (x : HeadRun) : (s.setHeadRun h x).links = s.links := rfl
@[simp] theorem State.setHeadRun_scene (s : State) (h : Nat) (x : HeadRun) : (s.setHeadRun h x).scene = s.scene := rfl
@[simp] theorem State.setHeadRun_promptUp (s : State) (h : Nat) (x : HeadRun) : (s.setHeadRun h x).promptUp = s.promptUp := rfl
@[simp] theorem State.setHeadRun_sys (s : State) (h : Nat) (x : HeadRun) : (s.setHeadRun h x).sys = s.sys := rfl
@[simp] theorem State.setHeadRun_trk (s : State) (h : Nat) (x : HeadRun) : (s.setHeadRun h x).trk = s.trk := rfl
@[simp] theorem State.setHeadRun_wq (s : State) (h : Nat) (x : HeadRun) : (s.setHeadRun h x).wq = s.wq := rfl
@[simp] theorem State.setHeadRun_aonMarks (s : State) (h : Nat) (x : HeadRun) : (s.setHeadRun h x).aonMarks = s.aonMarks := rfl
@[simp] theorem State.setHeadRun_banks (s : State) (h : Nat) (x : HeadRun) : (s.setHeadRun h x).banks = s.banks := rfl
@[simp] theorem State.setHeadRun_ldg (s : State) (h : Nat) (x : HeadRun) : (s.setHeadRun h x).ldg = s.ldg := rfl
@[simp] theorem State.setHeadRun_leases (s : State) (h : Nat) (x : HeadRun) : (s.setHeadRun h x).leases = s.leases := rfl
@[simp] theorem State.setHeadRun_cmp (s : State) (h : Nat) (x : HeadRun) : (s.setHeadRun h x).cmp = s.cmp := rfl
@[simp] theorem State.setHeadRun_sdefs (s : State) (h : Nat) (x : HeadRun) : (s.setHeadRun h x).sdefs = s.sdefs := rfl
@[simp] theorem State.setHeadRun_series (s : State) (h : Nat) (x : HeadRun) : (s.setHeadRun h x).series = s.series := rfl
@[simp] theorem State.setHeadRun_dpx (s : State) (h : Nat) (x : HeadRun) : (s.setHeadRun h x).dpx = s.dpx := rfl
@[simp] theorem State.setHeadRun_regions (s : State) (h : Nat) (x : HeadRun) : (s.setHeadRun h x).regions = s.regions := rfl
@[simp] theorem State.setHeadRun_vd (s : State) (h : Nat) (x : HeadRun) : (s.setHeadRun h x).vd = s.vd := rfl
@[simp] theorem State.setHeadRun_frg (s : State) (h : Nat) (x : HeadRun) : (s.setHeadRun h x).frg = s.frg := rfl
@[simp] theorem State.setHeadRun_nzc (s : State) (h : Nat) (x : HeadRun) : (s.setHeadRun h x).nzc = s.nzc := rfl
@[simp] theorem State.setHeadRun_ins (s : State) (h : Nat) (x : HeadRun) : (s.setHeadRun h x).ins = s.ins := rfl
@[simp] theorem State.setHeadRun_dmc (s : State) (h : Nat) (x : HeadRun) : (s.setHeadRun h x).dmc = s.dmc := rfl
@[simp] theorem State.setHeadRun_dreq (s : State) (h : Nat) (x : HeadRun) : (s.setHeadRun h x).dreq = s.dreq := rfl
@[simp] theorem State.setHeadRun_freq (s : State) (h : Nat) (x : HeadRun) : (s.setHeadRun h x).freq = s.freq := rfl
@[simp] theorem State.setHeadRun_dmcMap (s : State) (h : Nat) (x : HeadRun) : (s.setHeadRun h x).dmcMap = s.dmcMap := rfl
@[simp] theorem State.setHeadRun_pwr (s : State) (h : Nat) (x : HeadRun) : (s.setHeadRun h x).pwr = s.pwr := rfl
@[simp] theorem State.setHeadRun_window (s : State) (h : Nat) (x : HeadRun) : (s.setHeadRun h x).window = s.window := rfl
@[simp] theorem State.setHeadRun_rstIn (s : State) (h : Nat) (x : HeadRun) : (s.setHeadRun h x).rstIn = s.rstIn := rfl
@[simp] theorem State.setHeadRun_grstPin (s : State) (h : Nat) (x : HeadRun) : (s.setHeadRun h x).grstPin = s.grstPin := rfl
@[simp] theorem State.setHeadRun_fab (s : State) (h : Nat) (x : HeadRun) : (s.setHeadRun h x).fab = s.fab := rfl
@[simp] theorem State.setHeadRun_cfg (s : State) (h : Nat) (x : HeadRun) : (s.setHeadRun h x).cfg = s.cfg := rfl
@[simp] theorem State.setHeadRun_per (s : State) (h : Nat) (x : HeadRun) : (s.setHeadRun h x).per = s.per := rfl
@[simp] theorem State.setHeadRun_lcy (s : State) (h : Nat) (x : HeadRun) : (s.setHeadRun h x).lcy = s.lcy := rfl

/-! ### setLines -/

@[simp] theorem State.setLines_pending (s : State) (l : List Line) : (s.setLines l).pending = s.pending := rfl
@[simp] theorem State.setLines_now (s : State) (l : List Line) : (s.setLines l).now = s.now := rfl
@[simp] theorem State.setLines_out (s : State) (l : List Line) : (s.setLines l).out = s.out := rfl
@[simp] theorem State.setLines_freeIx (s : State) (l : List Line) : (s.setLines l).freeIx = s.freeIx := rfl
@[simp] theorem State.setLines_stores (s : State) (l : List Line) : (s.setLines l).stores = s.stores := rfl
@[simp] theorem State.setLines_dram (s : State) (l : List Line) : (s.setLines l).dram = s.dram := rfl
@[simp] theorem State.setLines_flash (s : State) (l : List Line) : (s.setLines l).flash = s.flash := rfl
@[simp] theorem State.setLines_nor (s : State) (l : List Line) : (s.setLines l).nor = s.nor := rfl
@[simp] theorem State.setLines_regs (s : State) (l : List Line) : (s.setLines l).regs = s.regs := rfl
@[simp] theorem State.setLines_active (s : State) (l : List Line) : (s.setLines l).active = s.active := rfl
@[simp] theorem State.setLines_hits (s : State) (l : List Line) : (s.setLines l).hits = s.hits := rfl
@[simp] theorem State.setLines_later (s : State) (l : List Line) : (s.setLines l).later = s.later := rfl
@[simp] theorem State.setLines_latch (s : State) (l : List Line) : (s.setLines l).latch = s.latch := rfl
@[simp] theorem State.setLines_cue (s : State) (l : List Line) : (s.setLines l).cue = s.cue := rfl
@[simp] theorem State.setLines_clk (s : State) (l : List Line) : (s.setLines l).clk = s.clk := rfl
@[simp] theorem State.setLines_house (s : State) (l : List Line) : (s.setLines l).house = s.house := rfl
@[simp] theorem State.setLines_porAt (s : State) (l : List Line) : (s.setLines l).porAt = s.porAt := rfl
@[simp] theorem State.setLines_boxes (s : State) (l : List Line) : (s.setLines l).boxes = s.boxes := rfl
@[simp] theorem State.setLines_ports (s : State) (l : List Line) : (s.setLines l).ports = s.ports := rfl
@[simp] theorem State.setLines_links (s : State) (l : List Line) : (s.setLines l).links = s.links := rfl
@[simp] theorem State.setLines_scene (s : State) (l : List Line) : (s.setLines l).scene = s.scene := rfl
@[simp] theorem State.setLines_promptUp (s : State) (l : List Line) : (s.setLines l).promptUp = s.promptUp := rfl
@[simp] theorem State.setLines_sys (s : State) (l : List Line) : (s.setLines l).sys = s.sys := rfl
@[simp] theorem State.setLines_trk (s : State) (l : List Line) : (s.setLines l).trk = s.trk := rfl
@[simp] theorem State.setLines_wq (s : State) (l : List Line) : (s.setLines l).wq = s.wq := rfl
@[simp] theorem State.setLines_aonMarks (s : State) (l : List Line) : (s.setLines l).aonMarks = s.aonMarks := rfl
@[simp] theorem State.setLines_banks (s : State) (l : List Line) : (s.setLines l).banks = s.banks := rfl
@[simp] theorem State.setLines_ldg (s : State) (l : List Line) : (s.setLines l).ldg = s.ldg := rfl
@[simp] theorem State.setLines_leases (s : State) (l : List Line) : (s.setLines l).leases = s.leases := rfl
@[simp] theorem State.setLines_cmp (s : State) (l : List Line) : (s.setLines l).cmp = s.cmp := rfl
@[simp] theorem State.setLines_sdefs (s : State) (l : List Line) : (s.setLines l).sdefs = s.sdefs := rfl
@[simp] theorem State.setLines_series (s : State) (l : List Line) : (s.setLines l).series = s.series := rfl
@[simp] theorem State.setLines_dpx (s : State) (l : List Line) : (s.setLines l).dpx = s.dpx := rfl
@[simp] theorem State.setLines_regions (s : State) (l : List Line) : (s.setLines l).regions = s.regions := rfl
@[simp] theorem State.setLines_vd (s : State) (l : List Line) : (s.setLines l).vd = s.vd := rfl
@[simp] theorem State.setLines_nzc (s : State) (l : List Line) : (s.setLines l).nzc = s.nzc := rfl
@[simp] theorem State.setLines_stg (s : State) (l : List Line) : (s.setLines l).stg = s.stg := rfl
@[simp] theorem State.setLines_ins (s : State) (l : List Line) : (s.setLines l).ins = s.ins := rfl
@[simp] theorem State.setLines_dmc (s : State) (l : List Line) : (s.setLines l).dmc = s.dmc := rfl
@[simp] theorem State.setLines_dreq (s : State) (l : List Line) : (s.setLines l).dreq = s.dreq := rfl
@[simp] theorem State.setLines_freq (s : State) (l : List Line) : (s.setLines l).freq = s.freq := rfl
@[simp] theorem State.setLines_dmcMap (s : State) (l : List Line) : (s.setLines l).dmcMap = s.dmcMap := rfl
@[simp] theorem State.setLines_pwr (s : State) (l : List Line) : (s.setLines l).pwr = s.pwr := rfl
@[simp] theorem State.setLines_window (s : State) (l : List Line) : (s.setLines l).window = s.window := rfl
@[simp] theorem State.setLines_rstIn (s : State) (l : List Line) : (s.setLines l).rstIn = s.rstIn := rfl
@[simp] theorem State.setLines_grstPin (s : State) (l : List Line) : (s.setLines l).grstPin = s.grstPin := rfl
@[simp] theorem State.setLines_fab (s : State) (l : List Line) : (s.setLines l).fab = s.fab := rfl
@[simp] theorem State.setLines_cfg (s : State) (l : List Line) : (s.setLines l).cfg = s.cfg := rfl
@[simp] theorem State.setLines_per (s : State) (l : List Line) : (s.setLines l).per = s.per := rfl
@[simp] theorem State.setLines_lcy (s : State) (l : List Line) : (s.setLines l).lcy = s.lcy := rfl

/-! ### setPort -/

@[simp] theorem State.setPort_pending (s : State) (p : Nat) (x : Port) : (s.setPort p x).pending = s.pending := rfl
@[simp] theorem State.setPort_now (s : State) (p : Nat) (x : Port) : (s.setPort p x).now = s.now := rfl
@[simp] theorem State.setPort_out (s : State) (p : Nat) (x : Port) : (s.setPort p x).out = s.out := rfl
@[simp] theorem State.setPort_freeIx (s : State) (p : Nat) (x : Port) : (s.setPort p x).freeIx = s.freeIx := rfl
@[simp] theorem State.setPort_stores (s : State) (p : Nat) (x : Port) : (s.setPort p x).stores = s.stores := rfl
@[simp] theorem State.setPort_dram (s : State) (p : Nat) (x : Port) : (s.setPort p x).dram = s.dram := rfl
@[simp] theorem State.setPort_flash (s : State) (p : Nat) (x : Port) : (s.setPort p x).flash = s.flash := rfl
@[simp] theorem State.setPort_nor (s : State) (p : Nat) (x : Port) : (s.setPort p x).nor = s.nor := rfl
@[simp] theorem State.setPort_regs (s : State) (p : Nat) (x : Port) : (s.setPort p x).regs = s.regs := rfl
@[simp] theorem State.setPort_active (s : State) (p : Nat) (x : Port) : (s.setPort p x).active = s.active := rfl
@[simp] theorem State.setPort_hits (s : State) (p : Nat) (x : Port) : (s.setPort p x).hits = s.hits := rfl
@[simp] theorem State.setPort_later (s : State) (p : Nat) (x : Port) : (s.setPort p x).later = s.later := rfl
@[simp] theorem State.setPort_latch (s : State) (p : Nat) (x : Port) : (s.setPort p x).latch = s.latch := rfl
@[simp] theorem State.setPort_cue (s : State) (p : Nat) (x : Port) : (s.setPort p x).cue = s.cue := rfl
@[simp] theorem State.setPort_clk (s : State) (p : Nat) (x : Port) : (s.setPort p x).clk = s.clk := rfl
@[simp] theorem State.setPort_house (s : State) (p : Nat) (x : Port) : (s.setPort p x).house = s.house := rfl
@[simp] theorem State.setPort_porAt (s : State) (p : Nat) (x : Port) : (s.setPort p x).porAt = s.porAt := rfl
@[simp] theorem State.setPort_boxes (s : State) (p : Nat) (x : Port) : (s.setPort p x).boxes = s.boxes := rfl
@[simp] theorem State.setPort_links (s : State) (p : Nat) (x : Port) : (s.setPort p x).links = s.links := rfl
@[simp] theorem State.setPort_scene (s : State) (p : Nat) (x : Port) : (s.setPort p x).scene = s.scene := rfl
@[simp] theorem State.setPort_promptUp (s : State) (p : Nat) (x : Port) : (s.setPort p x).promptUp = s.promptUp := rfl
@[simp] theorem State.setPort_sys (s : State) (p : Nat) (x : Port) : (s.setPort p x).sys = s.sys := rfl
@[simp] theorem State.setPort_trk (s : State) (p : Nat) (x : Port) : (s.setPort p x).trk = s.trk := rfl
@[simp] theorem State.setPort_wq (s : State) (p : Nat) (x : Port) : (s.setPort p x).wq = s.wq := rfl
@[simp] theorem State.setPort_aonMarks (s : State) (p : Nat) (x : Port) : (s.setPort p x).aonMarks = s.aonMarks := rfl
@[simp] theorem State.setPort_banks (s : State) (p : Nat) (x : Port) : (s.setPort p x).banks = s.banks := rfl
@[simp] theorem State.setPort_ldg (s : State) (p : Nat) (x : Port) : (s.setPort p x).ldg = s.ldg := rfl
@[simp] theorem State.setPort_leases (s : State) (p : Nat) (x : Port) : (s.setPort p x).leases = s.leases := rfl
@[simp] theorem State.setPort_cmp (s : State) (p : Nat) (x : Port) : (s.setPort p x).cmp = s.cmp := rfl
@[simp] theorem State.setPort_sdefs (s : State) (p : Nat) (x : Port) : (s.setPort p x).sdefs = s.sdefs := rfl
@[simp] theorem State.setPort_series (s : State) (p : Nat) (x : Port) : (s.setPort p x).series = s.series := rfl
@[simp] theorem State.setPort_dpx (s : State) (p : Nat) (x : Port) : (s.setPort p x).dpx = s.dpx := rfl
@[simp] theorem State.setPort_regions (s : State) (p : Nat) (x : Port) : (s.setPort p x).regions = s.regions := rfl
@[simp] theorem State.setPort_vd (s : State) (p : Nat) (x : Port) : (s.setPort p x).vd = s.vd := rfl
@[simp] theorem State.setPort_frg (s : State) (p : Nat) (x : Port) : (s.setPort p x).frg = s.frg := rfl
@[simp] theorem State.setPort_nzc (s : State) (p : Nat) (x : Port) : (s.setPort p x).nzc = s.nzc := rfl
@[simp] theorem State.setPort_stg (s : State) (p : Nat) (x : Port) : (s.setPort p x).stg = s.stg := rfl
@[simp] theorem State.setPort_ins (s : State) (p : Nat) (x : Port) : (s.setPort p x).ins = s.ins := rfl
@[simp] theorem State.setPort_dmc (s : State) (p : Nat) (x : Port) : (s.setPort p x).dmc = s.dmc := rfl
@[simp] theorem State.setPort_dreq (s : State) (p : Nat) (x : Port) : (s.setPort p x).dreq = s.dreq := rfl
@[simp] theorem State.setPort_freq (s : State) (p : Nat) (x : Port) : (s.setPort p x).freq = s.freq := rfl
@[simp] theorem State.setPort_dmcMap (s : State) (p : Nat) (x : Port) : (s.setPort p x).dmcMap = s.dmcMap := rfl
@[simp] theorem State.setPort_pwr (s : State) (p : Nat) (x : Port) : (s.setPort p x).pwr = s.pwr := rfl
@[simp] theorem State.setPort_window (s : State) (p : Nat) (x : Port) : (s.setPort p x).window = s.window := rfl
@[simp] theorem State.setPort_rstIn (s : State) (p : Nat) (x : Port) : (s.setPort p x).rstIn = s.rstIn := rfl
@[simp] theorem State.setPort_grstPin (s : State) (p : Nat) (x : Port) : (s.setPort p x).grstPin = s.grstPin := rfl
@[simp] theorem State.setPort_fab (s : State) (p : Nat) (x : Port) : (s.setPort p x).fab = s.fab := rfl
@[simp] theorem State.setPort_cfg (s : State) (p : Nat) (x : Port) : (s.setPort p x).cfg = s.cfg := rfl
@[simp] theorem State.setPort_per (s : State) (p : Nat) (x : Port) : (s.setPort p x).per = s.per := rfl
@[simp] theorem State.setPort_lcy (s : State) (p : Nat) (x : Port) : (s.setPort p x).lcy = s.lcy := rfl

/-! ### setLink -/

@[simp] theorem State.setLink_pending (s : State) (i : Nat) (x : Link) : (s.setLink i x).pending = s.pending := rfl
@[simp] theorem State.setLink_now (s : State) (i : Nat) (x : Link) : (s.setLink i x).now = s.now := rfl
@[simp] theorem State.setLink_out (s : State) (i : Nat) (x : Link) : (s.setLink i x).out = s.out := rfl
@[simp] theorem State.setLink_freeIx (s : State) (i : Nat) (x : Link) : (s.setLink i x).freeIx = s.freeIx := rfl
@[simp] theorem State.setLink_stores (s : State) (i : Nat) (x : Link) : (s.setLink i x).stores = s.stores := rfl
@[simp] theorem State.setLink_dram (s : State) (i : Nat) (x : Link) : (s.setLink i x).dram = s.dram := rfl
@[simp] theorem State.setLink_flash (s : State) (i : Nat) (x : Link) : (s.setLink i x).flash = s.flash := rfl
@[simp] theorem State.setLink_nor (s : State) (i : Nat) (x : Link) : (s.setLink i x).nor = s.nor := rfl
@[simp] theorem State.setLink_regs (s : State) (i : Nat) (x : Link) : (s.setLink i x).regs = s.regs := rfl
@[simp] theorem State.setLink_active (s : State) (i : Nat) (x : Link) : (s.setLink i x).active = s.active := rfl
@[simp] theorem State.setLink_hits (s : State) (i : Nat) (x : Link) : (s.setLink i x).hits = s.hits := rfl
@[simp] theorem State.setLink_later (s : State) (i : Nat) (x : Link) : (s.setLink i x).later = s.later := rfl
@[simp] theorem State.setLink_latch (s : State) (i : Nat) (x : Link) : (s.setLink i x).latch = s.latch := rfl
@[simp] theorem State.setLink_cue (s : State) (i : Nat) (x : Link) : (s.setLink i x).cue = s.cue := rfl
@[simp] theorem State.setLink_clk (s : State) (i : Nat) (x : Link) : (s.setLink i x).clk = s.clk := rfl
@[simp] theorem State.setLink_house (s : State) (i : Nat) (x : Link) : (s.setLink i x).house = s.house := rfl
@[simp] theorem State.setLink_porAt (s : State) (i : Nat) (x : Link) : (s.setLink i x).porAt = s.porAt := rfl
@[simp] theorem State.setLink_boxes (s : State) (i : Nat) (x : Link) : (s.setLink i x).boxes = s.boxes := rfl
@[simp] theorem State.setLink_ports (s : State) (i : Nat) (x : Link) : (s.setLink i x).ports = s.ports := rfl
@[simp] theorem State.setLink_scene (s : State) (i : Nat) (x : Link) : (s.setLink i x).scene = s.scene := rfl
@[simp] theorem State.setLink_promptUp (s : State) (i : Nat) (x : Link) : (s.setLink i x).promptUp = s.promptUp := rfl
@[simp] theorem State.setLink_sys (s : State) (i : Nat) (x : Link) : (s.setLink i x).sys = s.sys := rfl
@[simp] theorem State.setLink_trk (s : State) (i : Nat) (x : Link) : (s.setLink i x).trk = s.trk := rfl
@[simp] theorem State.setLink_wq (s : State) (i : Nat) (x : Link) : (s.setLink i x).wq = s.wq := rfl
@[simp] theorem State.setLink_aonMarks (s : State) (i : Nat) (x : Link) : (s.setLink i x).aonMarks = s.aonMarks := rfl
@[simp] theorem State.setLink_banks (s : State) (i : Nat) (x : Link) : (s.setLink i x).banks = s.banks := rfl
@[simp] theorem State.setLink_ldg (s : State) (i : Nat) (x : Link) : (s.setLink i x).ldg = s.ldg := rfl
@[simp] theorem State.setLink_leases (s : State) (i : Nat) (x : Link) : (s.setLink i x).leases = s.leases := rfl
@[simp] theorem State.setLink_cmp (s : State) (i : Nat) (x : Link) : (s.setLink i x).cmp = s.cmp := rfl
@[simp] theorem State.setLink_sdefs (s : State) (i : Nat) (x : Link) : (s.setLink i x).sdefs = s.sdefs := rfl
@[simp] theorem State.setLink_series (s : State) (i : Nat) (x : Link) : (s.setLink i x).series = s.series := rfl
@[simp] theorem State.setLink_dpx (s : State) (i : Nat) (x : Link) : (s.setLink i x).dpx = s.dpx := rfl
@[simp] theorem State.setLink_regions (s : State) (i : Nat) (x : Link) : (s.setLink i x).regions = s.regions := rfl
@[simp] theorem State.setLink_vd (s : State) (i : Nat) (x : Link) : (s.setLink i x).vd = s.vd := rfl
@[simp] theorem State.setLink_frg (s : State) (i : Nat) (x : Link) : (s.setLink i x).frg = s.frg := rfl
@[simp] theorem State.setLink_nzc (s : State) (i : Nat) (x : Link) : (s.setLink i x).nzc = s.nzc := rfl
@[simp] theorem State.setLink_stg (s : State) (i : Nat) (x : Link) : (s.setLink i x).stg = s.stg := rfl
@[simp] theorem State.setLink_ins (s : State) (i : Nat) (x : Link) : (s.setLink i x).ins = s.ins := rfl
@[simp] theorem State.setLink_dmc (s : State) (i : Nat) (x : Link) : (s.setLink i x).dmc = s.dmc := rfl
@[simp] theorem State.setLink_dreq (s : State) (i : Nat) (x : Link) : (s.setLink i x).dreq = s.dreq := rfl
@[simp] theorem State.setLink_freq (s : State) (i : Nat) (x : Link) : (s.setLink i x).freq = s.freq := rfl
@[simp] theorem State.setLink_dmcMap (s : State) (i : Nat) (x : Link) : (s.setLink i x).dmcMap = s.dmcMap := rfl
@[simp] theorem State.setLink_pwr (s : State) (i : Nat) (x : Link) : (s.setLink i x).pwr = s.pwr := rfl
@[simp] theorem State.setLink_window (s : State) (i : Nat) (x : Link) : (s.setLink i x).window = s.window := rfl
@[simp] theorem State.setLink_rstIn (s : State) (i : Nat) (x : Link) : (s.setLink i x).rstIn = s.rstIn := rfl
@[simp] theorem State.setLink_grstPin (s : State) (i : Nat) (x : Link) : (s.setLink i x).grstPin = s.grstPin := rfl
@[simp] theorem State.setLink_fab (s : State) (i : Nat) (x : Link) : (s.setLink i x).fab = s.fab := rfl
@[simp] theorem State.setLink_cfg (s : State) (i : Nat) (x : Link) : (s.setLink i x).cfg = s.cfg := rfl
@[simp] theorem State.setLink_per (s : State) (i : Nat) (x : Link) : (s.setLink i x).per = s.per := rfl
@[simp] theorem State.setLink_lcy (s : State) (i : Nat) (x : Link) : (s.setLink i x).lcy = s.lcy := rfl

/-! ### setPll -/

@[simp] theorem State.setPll_pending (s : State) (k : Nat) (x : Pll) : (s.setPll k x).pending = s.pending := rfl
@[simp] theorem State.setPll_now (s : State) (k : Nat) (x : Pll) : (s.setPll k x).now = s.now := rfl
@[simp] theorem State.setPll_out (s : State) (k : Nat) (x : Pll) : (s.setPll k x).out = s.out := rfl
@[simp] theorem State.setPll_freeIx (s : State) (k : Nat) (x : Pll) : (s.setPll k x).freeIx = s.freeIx := rfl
@[simp] theorem State.setPll_stores (s : State) (k : Nat) (x : Pll) : (s.setPll k x).stores = s.stores := rfl
@[simp] theorem State.setPll_dram (s : State) (k : Nat) (x : Pll) : (s.setPll k x).dram = s.dram := rfl
@[simp] theorem State.setPll_flash (s : State) (k : Nat) (x : Pll) : (s.setPll k x).flash = s.flash := rfl
@[simp] theorem State.setPll_nor (s : State) (k : Nat) (x : Pll) : (s.setPll k x).nor = s.nor := rfl
@[simp] theorem State.setPll_regs (s : State) (k : Nat) (x : Pll) : (s.setPll k x).regs = s.regs := rfl
@[simp] theorem State.setPll_active (s : State) (k : Nat) (x : Pll) : (s.setPll k x).active = s.active := rfl
@[simp] theorem State.setPll_hits (s : State) (k : Nat) (x : Pll) : (s.setPll k x).hits = s.hits := rfl
@[simp] theorem State.setPll_later (s : State) (k : Nat) (x : Pll) : (s.setPll k x).later = s.later := rfl
@[simp] theorem State.setPll_latch (s : State) (k : Nat) (x : Pll) : (s.setPll k x).latch = s.latch := rfl
@[simp] theorem State.setPll_cue (s : State) (k : Nat) (x : Pll) : (s.setPll k x).cue = s.cue := rfl
@[simp] theorem State.setPll_house (s : State) (k : Nat) (x : Pll) : (s.setPll k x).house = s.house := rfl
@[simp] theorem State.setPll_porAt (s : State) (k : Nat) (x : Pll) : (s.setPll k x).porAt = s.porAt := rfl
@[simp] theorem State.setPll_boxes (s : State) (k : Nat) (x : Pll) : (s.setPll k x).boxes = s.boxes := rfl
@[simp] theorem State.setPll_ports (s : State) (k : Nat) (x : Pll) : (s.setPll k x).ports = s.ports := rfl
@[simp] theorem State.setPll_links (s : State) (k : Nat) (x : Pll) : (s.setPll k x).links = s.links := rfl
@[simp] theorem State.setPll_scene (s : State) (k : Nat) (x : Pll) : (s.setPll k x).scene = s.scene := rfl
@[simp] theorem State.setPll_promptUp (s : State) (k : Nat) (x : Pll) : (s.setPll k x).promptUp = s.promptUp := rfl
@[simp] theorem State.setPll_sys (s : State) (k : Nat) (x : Pll) : (s.setPll k x).sys = s.sys := rfl
@[simp] theorem State.setPll_trk (s : State) (k : Nat) (x : Pll) : (s.setPll k x).trk = s.trk := rfl
@[simp] theorem State.setPll_wq (s : State) (k : Nat) (x : Pll) : (s.setPll k x).wq = s.wq := rfl
@[simp] theorem State.setPll_aonMarks (s : State) (k : Nat) (x : Pll) : (s.setPll k x).aonMarks = s.aonMarks := rfl
@[simp] theorem State.setPll_banks (s : State) (k : Nat) (x : Pll) : (s.setPll k x).banks = s.banks := rfl
@[simp] theorem State.setPll_ldg (s : State) (k : Nat) (x : Pll) : (s.setPll k x).ldg = s.ldg := rfl
@[simp] theorem State.setPll_leases (s : State) (k : Nat) (x : Pll) : (s.setPll k x).leases = s.leases := rfl
@[simp] theorem State.setPll_cmp (s : State) (k : Nat) (x : Pll) : (s.setPll k x).cmp = s.cmp := rfl
@[simp] theorem State.setPll_sdefs (s : State) (k : Nat) (x : Pll) : (s.setPll k x).sdefs = s.sdefs := rfl
@[simp] theorem State.setPll_series (s : State) (k : Nat) (x : Pll) : (s.setPll k x).series = s.series := rfl
@[simp] theorem State.setPll_dpx (s : State) (k : Nat) (x : Pll) : (s.setPll k x).dpx = s.dpx := rfl
@[simp] theorem State.setPll_regions (s : State) (k : Nat) (x : Pll) : (s.setPll k x).regions = s.regions := rfl
@[simp] theorem State.setPll_vd (s : State) (k : Nat) (x : Pll) : (s.setPll k x).vd = s.vd := rfl
@[simp] theorem State.setPll_frg (s : State) (k : Nat) (x : Pll) : (s.setPll k x).frg = s.frg := rfl
@[simp] theorem State.setPll_nzc (s : State) (k : Nat) (x : Pll) : (s.setPll k x).nzc = s.nzc := rfl
@[simp] theorem State.setPll_stg (s : State) (k : Nat) (x : Pll) : (s.setPll k x).stg = s.stg := rfl
@[simp] theorem State.setPll_ins (s : State) (k : Nat) (x : Pll) : (s.setPll k x).ins = s.ins := rfl
@[simp] theorem State.setPll_dmc (s : State) (k : Nat) (x : Pll) : (s.setPll k x).dmc = s.dmc := rfl
@[simp] theorem State.setPll_dreq (s : State) (k : Nat) (x : Pll) : (s.setPll k x).dreq = s.dreq := rfl
@[simp] theorem State.setPll_freq (s : State) (k : Nat) (x : Pll) : (s.setPll k x).freq = s.freq := rfl
@[simp] theorem State.setPll_dmcMap (s : State) (k : Nat) (x : Pll) : (s.setPll k x).dmcMap = s.dmcMap := rfl
@[simp] theorem State.setPll_pwr (s : State) (k : Nat) (x : Pll) : (s.setPll k x).pwr = s.pwr := rfl
@[simp] theorem State.setPll_window (s : State) (k : Nat) (x : Pll) : (s.setPll k x).window = s.window := rfl
@[simp] theorem State.setPll_rstIn (s : State) (k : Nat) (x : Pll) : (s.setPll k x).rstIn = s.rstIn := rfl
@[simp] theorem State.setPll_grstPin (s : State) (k : Nat) (x : Pll) : (s.setPll k x).grstPin = s.grstPin := rfl
@[simp] theorem State.setPll_fab (s : State) (k : Nat) (x : Pll) : (s.setPll k x).fab = s.fab := rfl
@[simp] theorem State.setPll_cfg (s : State) (k : Nat) (x : Pll) : (s.setPll k x).cfg = s.cfg := rfl
@[simp] theorem State.setPll_per (s : State) (k : Nat) (x : Pll) : (s.setPll k x).per = s.per := rfl
@[simp] theorem State.setPll_lcy (s : State) (k : Nat) (x : Pll) : (s.setPll k x).lcy = s.lcy := rfl

/-! ### setCtl -/

@[simp] theorem State.setCtl_pending (s : State) (c : Nat) (x : Dmc) : (s.setCtl c x).pending = s.pending := rfl
@[simp] theorem State.setCtl_now (s : State) (c : Nat) (x : Dmc) : (s.setCtl c x).now = s.now := rfl
@[simp] theorem State.setCtl_out (s : State) (c : Nat) (x : Dmc) : (s.setCtl c x).out = s.out := rfl
@[simp] theorem State.setCtl_freeIx (s : State) (c : Nat) (x : Dmc) : (s.setCtl c x).freeIx = s.freeIx := rfl
@[simp] theorem State.setCtl_stores (s : State) (c : Nat) (x : Dmc) : (s.setCtl c x).stores = s.stores := rfl
@[simp] theorem State.setCtl_dram (s : State) (c : Nat) (x : Dmc) : (s.setCtl c x).dram = s.dram := rfl
@[simp] theorem State.setCtl_flash (s : State) (c : Nat) (x : Dmc) : (s.setCtl c x).flash = s.flash := rfl
@[simp] theorem State.setCtl_nor (s : State) (c : Nat) (x : Dmc) : (s.setCtl c x).nor = s.nor := rfl
@[simp] theorem State.setCtl_regs (s : State) (c : Nat) (x : Dmc) : (s.setCtl c x).regs = s.regs := rfl
@[simp] theorem State.setCtl_active (s : State) (c : Nat) (x : Dmc) : (s.setCtl c x).active = s.active := rfl
@[simp] theorem State.setCtl_hits (s : State) (c : Nat) (x : Dmc) : (s.setCtl c x).hits = s.hits := rfl
@[simp] theorem State.setCtl_later (s : State) (c : Nat) (x : Dmc) : (s.setCtl c x).later = s.later := rfl
@[simp] theorem State.setCtl_latch (s : State) (c : Nat) (x : Dmc) : (s.setCtl c x).latch = s.latch := rfl
@[simp] theorem State.setCtl_cue (s : State) (c : Nat) (x : Dmc) : (s.setCtl c x).cue = s.cue := rfl
@[simp] theorem State.setCtl_clk (s : State) (c : Nat) (x : Dmc) : (s.setCtl c x).clk = s.clk := rfl
@[simp] theorem State.setCtl_house (s : State) (c : Nat) (x : Dmc) : (s.setCtl c x).house = s.house := rfl
@[simp] theorem State.setCtl_porAt (s : State) (c : Nat) (x : Dmc) : (s.setCtl c x).porAt = s.porAt := rfl
@[simp] theorem State.setCtl_boxes (s : State) (c : Nat) (x : Dmc) : (s.setCtl c x).boxes = s.boxes := rfl
@[simp] theorem State.setCtl_ports (s : State) (c : Nat) (x : Dmc) : (s.setCtl c x).ports = s.ports := rfl
@[simp] theorem State.setCtl_links (s : State) (c : Nat) (x : Dmc) : (s.setCtl c x).links = s.links := rfl
@[simp] theorem State.setCtl_scene (s : State) (c : Nat) (x : Dmc) : (s.setCtl c x).scene = s.scene := rfl
@[simp] theorem State.setCtl_promptUp (s : State) (c : Nat) (x : Dmc) : (s.setCtl c x).promptUp = s.promptUp := rfl
@[simp] theorem State.setCtl_sys (s : State) (c : Nat) (x : Dmc) : (s.setCtl c x).sys = s.sys := rfl
@[simp] theorem State.setCtl_trk (s : State) (c : Nat) (x : Dmc) : (s.setCtl c x).trk = s.trk := rfl
@[simp] theorem State.setCtl_wq (s : State) (c : Nat) (x : Dmc) : (s.setCtl c x).wq = s.wq := rfl
@[simp] theorem State.setCtl_aonMarks (s : State) (c : Nat) (x : Dmc) : (s.setCtl c x).aonMarks = s.aonMarks := rfl
@[simp] theorem State.setCtl_banks (s : State) (c : Nat) (x : Dmc) : (s.setCtl c x).banks = s.banks := rfl
@[simp] theorem State.setCtl_ldg (s : State) (c : Nat) (x : Dmc) : (s.setCtl c x).ldg = s.ldg := rfl
@[simp] theorem State.setCtl_leases (s : State) (c : Nat) (x : Dmc) : (s.setCtl c x).leases = s.leases := rfl
@[simp] theorem State.setCtl_cmp (s : State) (c : Nat) (x : Dmc) : (s.setCtl c x).cmp = s.cmp := rfl
@[simp] theorem State.setCtl_sdefs (s : State) (c : Nat) (x : Dmc) : (s.setCtl c x).sdefs = s.sdefs := rfl
@[simp] theorem State.setCtl_series (s : State) (c : Nat) (x : Dmc) : (s.setCtl c x).series = s.series := rfl
@[simp] theorem State.setCtl_dpx (s : State) (c : Nat) (x : Dmc) : (s.setCtl c x).dpx = s.dpx := rfl
@[simp] theorem State.setCtl_regions (s : State) (c : Nat) (x : Dmc) : (s.setCtl c x).regions = s.regions := rfl
@[simp] theorem State.setCtl_vd (s : State) (c : Nat) (x : Dmc) : (s.setCtl c x).vd = s.vd := rfl
@[simp] theorem State.setCtl_frg (s : State) (c : Nat) (x : Dmc) : (s.setCtl c x).frg = s.frg := rfl
@[simp] theorem State.setCtl_nzc (s : State) (c : Nat) (x : Dmc) : (s.setCtl c x).nzc = s.nzc := rfl
@[simp] theorem State.setCtl_stg (s : State) (c : Nat) (x : Dmc) : (s.setCtl c x).stg = s.stg := rfl
@[simp] theorem State.setCtl_ins (s : State) (c : Nat) (x : Dmc) : (s.setCtl c x).ins = s.ins := rfl
@[simp] theorem State.setCtl_dreq (s : State) (c : Nat) (x : Dmc) : (s.setCtl c x).dreq = s.dreq := rfl
@[simp] theorem State.setCtl_freq (s : State) (c : Nat) (x : Dmc) : (s.setCtl c x).freq = s.freq := rfl
@[simp] theorem State.setCtl_dmcMap (s : State) (c : Nat) (x : Dmc) : (s.setCtl c x).dmcMap = s.dmcMap := rfl
@[simp] theorem State.setCtl_pwr (s : State) (c : Nat) (x : Dmc) : (s.setCtl c x).pwr = s.pwr := rfl
@[simp] theorem State.setCtl_window (s : State) (c : Nat) (x : Dmc) : (s.setCtl c x).window = s.window := rfl
@[simp] theorem State.setCtl_rstIn (s : State) (c : Nat) (x : Dmc) : (s.setCtl c x).rstIn = s.rstIn := rfl
@[simp] theorem State.setCtl_grstPin (s : State) (c : Nat) (x : Dmc) : (s.setCtl c x).grstPin = s.grstPin := rfl
@[simp] theorem State.setCtl_fab (s : State) (c : Nat) (x : Dmc) : (s.setCtl c x).fab = s.fab := rfl
@[simp] theorem State.setCtl_cfg (s : State) (c : Nat) (x : Dmc) : (s.setCtl c x).cfg = s.cfg := rfl
@[simp] theorem State.setCtl_per (s : State) (c : Nat) (x : Dmc) : (s.setCtl c x).per = s.per := rfl
@[simp] theorem State.setCtl_lcy (s : State) (c : Nat) (x : Dmc) : (s.setCtl c x).lcy = s.lcy := rfl

/-! ### setGate -/

@[simp] theorem State.setGate_pending (s : State) (g : Nat) (x : Gate) : (s.setGate g x).pending = s.pending := rfl
@[simp] theorem State.setGate_now (s : State) (g : Nat) (x : Gate) : (s.setGate g x).now = s.now := rfl
@[simp] theorem State.setGate_out (s : State) (g : Nat) (x : Gate) : (s.setGate g x).out = s.out := rfl
@[simp] theorem State.setGate_freeIx (s : State) (g : Nat) (x : Gate) : (s.setGate g x).freeIx = s.freeIx := rfl
@[simp] theorem State.setGate_stores (s : State) (g : Nat) (x : Gate) : (s.setGate g x).stores = s.stores := rfl
@[simp] theorem State.setGate_dram (s : State) (g : Nat) (x : Gate) : (s.setGate g x).dram = s.dram := rfl
@[simp] theorem State.setGate_flash (s : State) (g : Nat) (x : Gate) : (s.setGate g x).flash = s.flash := rfl
@[simp] theorem State.setGate_nor (s : State) (g : Nat) (x : Gate) : (s.setGate g x).nor = s.nor := rfl
@[simp] theorem State.setGate_regs (s : State) (g : Nat) (x : Gate) : (s.setGate g x).regs = s.regs := rfl
@[simp] theorem State.setGate_active (s : State) (g : Nat) (x : Gate) : (s.setGate g x).active = s.active := rfl
@[simp] theorem State.setGate_hits (s : State) (g : Nat) (x : Gate) : (s.setGate g x).hits = s.hits := rfl
@[simp] theorem State.setGate_later (s : State) (g : Nat) (x : Gate) : (s.setGate g x).later = s.later := rfl
@[simp] theorem State.setGate_latch (s : State) (g : Nat) (x : Gate) : (s.setGate g x).latch = s.latch := rfl
@[simp] theorem State.setGate_cue (s : State) (g : Nat) (x : Gate) : (s.setGate g x).cue = s.cue := rfl
@[simp] theorem State.setGate_clk (s : State) (g : Nat) (x : Gate) : (s.setGate g x).clk = s.clk := rfl
@[simp] theorem State.setGate_house (s : State) (g : Nat) (x : Gate) : (s.setGate g x).house = s.house := rfl
@[simp] theorem State.setGate_porAt (s : State) (g : Nat) (x : Gate) : (s.setGate g x).porAt = s.porAt := rfl
@[simp] theorem State.setGate_boxes (s : State) (g : Nat) (x : Gate) : (s.setGate g x).boxes = s.boxes := rfl
@[simp] theorem State.setGate_ports (s : State) (g : Nat) (x : Gate) : (s.setGate g x).ports = s.ports := rfl
@[simp] theorem State.setGate_links (s : State) (g : Nat) (x : Gate) : (s.setGate g x).links = s.links := rfl
@[simp] theorem State.setGate_scene (s : State) (g : Nat) (x : Gate) : (s.setGate g x).scene = s.scene := rfl
@[simp] theorem State.setGate_promptUp (s : State) (g : Nat) (x : Gate) : (s.setGate g x).promptUp = s.promptUp := rfl
@[simp] theorem State.setGate_sys (s : State) (g : Nat) (x : Gate) : (s.setGate g x).sys = s.sys := rfl
@[simp] theorem State.setGate_trk (s : State) (g : Nat) (x : Gate) : (s.setGate g x).trk = s.trk := rfl
@[simp] theorem State.setGate_wq (s : State) (g : Nat) (x : Gate) : (s.setGate g x).wq = s.wq := rfl
@[simp] theorem State.setGate_aonMarks (s : State) (g : Nat) (x : Gate) : (s.setGate g x).aonMarks = s.aonMarks := rfl
@[simp] theorem State.setGate_banks (s : State) (g : Nat) (x : Gate) : (s.setGate g x).banks = s.banks := rfl
@[simp] theorem State.setGate_ldg (s : State) (g : Nat) (x : Gate) : (s.setGate g x).ldg = s.ldg := rfl
@[simp] theorem State.setGate_leases (s : State) (g : Nat) (x : Gate) : (s.setGate g x).leases = s.leases := rfl
@[simp] theorem State.setGate_cmp (s : State) (g : Nat) (x : Gate) : (s.setGate g x).cmp = s.cmp := rfl
@[simp] theorem State.setGate_sdefs (s : State) (g : Nat) (x : Gate) : (s.setGate g x).sdefs = s.sdefs := rfl
@[simp] theorem State.setGate_series (s : State) (g : Nat) (x : Gate) : (s.setGate g x).series = s.series := rfl
@[simp] theorem State.setGate_dpx (s : State) (g : Nat) (x : Gate) : (s.setGate g x).dpx = s.dpx := rfl
@[simp] theorem State.setGate_regions (s : State) (g : Nat) (x : Gate) : (s.setGate g x).regions = s.regions := rfl
@[simp] theorem State.setGate_vd (s : State) (g : Nat) (x : Gate) : (s.setGate g x).vd = s.vd := rfl
@[simp] theorem State.setGate_frg (s : State) (g : Nat) (x : Gate) : (s.setGate g x).frg = s.frg := rfl
@[simp] theorem State.setGate_nzc (s : State) (g : Nat) (x : Gate) : (s.setGate g x).nzc = s.nzc := rfl
@[simp] theorem State.setGate_stg (s : State) (g : Nat) (x : Gate) : (s.setGate g x).stg = s.stg := rfl
@[simp] theorem State.setGate_dmc (s : State) (g : Nat) (x : Gate) : (s.setGate g x).dmc = s.dmc := rfl
@[simp] theorem State.setGate_dreq (s : State) (g : Nat) (x : Gate) : (s.setGate g x).dreq = s.dreq := rfl
@[simp] theorem State.setGate_freq (s : State) (g : Nat) (x : Gate) : (s.setGate g x).freq = s.freq := rfl
@[simp] theorem State.setGate_dmcMap (s : State) (g : Nat) (x : Gate) : (s.setGate g x).dmcMap = s.dmcMap := rfl
@[simp] theorem State.setGate_pwr (s : State) (g : Nat) (x : Gate) : (s.setGate g x).pwr = s.pwr := rfl
@[simp] theorem State.setGate_window (s : State) (g : Nat) (x : Gate) : (s.setGate g x).window = s.window := rfl
@[simp] theorem State.setGate_rstIn (s : State) (g : Nat) (x : Gate) : (s.setGate g x).rstIn = s.rstIn := rfl
@[simp] theorem State.setGate_grstPin (s : State) (g : Nat) (x : Gate) : (s.setGate g x).grstPin = s.grstPin := rfl
@[simp] theorem State.setGate_fab (s : State) (g : Nat) (x : Gate) : (s.setGate g x).fab = s.fab := rfl
@[simp] theorem State.setGate_cfg (s : State) (g : Nat) (x : Gate) : (s.setGate g x).cfg = s.cfg := rfl
@[simp] theorem State.setGate_per (s : State) (g : Nat) (x : Gate) : (s.setGate g x).per = s.per := rfl
@[simp] theorem State.setGate_lcy (s : State) (g : Nat) (x : Gate) : (s.setGate g x).lcy = s.lcy := rfl

@[simp] theorem State.emit_out (s : State) (o : Out) : (s.emit o).out = s.out ++ [o] := rfl
@[simp] theorem State.store_stores (s : State) (x : Store) : (s.store x).stores = s.stores ++ [x] := rfl
@[simp] theorem State.setLines_lines (s : State) (l : List Line) : (s.setLines l).frg.lines = l := rfl

/-! ### Numbered instances -/


/-- What `setTrack` set is what `track` reads. -/
theorem State.track_setTrack (s : State) (n : Nat) (x : Trk) : (s.setTrack n x).track n = x :=
  tblGet_put_same _ _ _ _
/-- Another instance keeps its value. -/
theorem State.track_setTrack_ne (s : State) (n k : Nat) (x : Trk) (hk : k ≠ n) :
    (s.setTrack n x).track k = s.track k :=
  tblGet_put_ne _ _ _ _ _ _ hk

/-- What `setQueue` set is what `queue` reads. -/
theorem State.queue_setQueue (s : State) (n : Nat) (x : Wq) : (s.setQueue n x).queue n = x :=
  tblGet_put_same _ _ _ _
/-- Another instance keeps its value. -/
theorem State.queue_setQueue_ne (s : State) (n k : Nat) (x : Wq) (hk : k ≠ n) :
    (s.setQueue n x).queue k = s.queue k :=
  tblGet_put_ne _ _ _ _ _ _ hk

/-- What `setBox` set is what `box` reads. -/
theorem State.box_setBox (s : State) (n : Nat) (x : Box) : (s.setBox n x).box n = x :=
  tblGet_put_same _ _ _ _
/-- Another instance keeps its value. -/
theorem State.box_setBox_ne (s : State) (n k : Nat) (x : Box) (hk : k ≠ n) :
    (s.setBox n x).box k = s.box k :=
  tblGet_put_ne _ _ _ _ _ _ hk

/-- What `setSrun` set is what `srun` reads. -/
theorem State.srun_setSrun (s : State) (n : Nat) (x : SeriesRun) : (s.setSrun n x).srun n = x :=
  tblGet_put_same _ _ _ _
/-- Another instance keeps its value. -/
theorem State.srun_setSrun_ne (s : State) (n k : Nat) (x : SeriesRun) (hk : k ≠ n) :
    (s.setSrun n x).srun k = s.srun k :=
  tblGet_put_ne _ _ _ _ _ _ hk

/-- What `setLane` set is what `lane` reads. -/
theorem State.lane_setLane (s : State) (n : Nat) (x : Lane) : (s.setLane n x).lane n = x :=
  tblGet_put_same _ _ _ _
/-- Another instance keeps its value. -/
theorem State.lane_setLane_ne (s : State) (n k : Nat) (x : Lane) (hk : k ≠ n) :
    (s.setLane n x).lane k = s.lane k :=
  tblGet_put_ne _ _ _ _ _ _ hk

/-- What `setHeadRun` set is what `headRun` reads. -/
theorem State.headRun_setHeadRun (s : State) (n : Nat) (x : HeadRun) : (s.setHeadRun n x).headRun n = x :=
  tblGet_put_same _ _ _ _
/-- Another instance keeps its value. -/
theorem State.headRun_setHeadRun_ne (s : State) (n k : Nat) (x : HeadRun) (hk : k ≠ n) :
    (s.setHeadRun n x).headRun k = s.headRun k :=
  tblGet_put_ne _ _ _ _ _ _ hk

/-- What `setPort` set is what `port` reads. -/
theorem State.port_setPort (s : State) (n : Nat) (x : Port) : (s.setPort n x).port n = x :=
  tblGet_put_same _ _ _ _
/-- Another instance keeps its value. -/
theorem State.port_setPort_ne (s : State) (n k : Nat) (x : Port) (hk : k ≠ n) :
    (s.setPort n x).port k = s.port k :=
  tblGet_put_ne _ _ _ _ _ _ hk

/-- What `setLink` set is what `link` reads. -/
theorem State.link_setLink (s : State) (n : Nat) (x : Link) : (s.setLink n x).link n = x :=
  tblGet_put_same _ _ _ _
/-- Another instance keeps its value. -/
theorem State.link_setLink_ne (s : State) (n k : Nat) (x : Link) (hk : k ≠ n) :
    (s.setLink n x).link k = s.link k :=
  tblGet_put_ne _ _ _ _ _ _ hk

/-- What `setPll` set is what `pll` reads. -/
theorem State.pll_setPll (s : State) (n : Nat) (x : Pll) : (s.setPll n x).pll n = x :=
  tblGet_put_same _ _ _ _
/-- Another instance keeps its value. -/
theorem State.pll_setPll_ne (s : State) (n k : Nat) (x : Pll) (hk : k ≠ n) :
    (s.setPll n x).pll k = s.pll k :=
  tblGet_put_ne _ _ _ _ _ _ hk

/-- What `setCtl` set is what `ctl` reads. -/
theorem State.ctl_setCtl (s : State) (n : Nat) (x : Dmc) : (s.setCtl n x).ctl n = x :=
  tblGet_put_same _ _ _ _
/-- Another instance keeps its value. -/
theorem State.ctl_setCtl_ne (s : State) (n k : Nat) (x : Dmc) (hk : k ≠ n) :
    (s.setCtl n x).ctl k = s.ctl k :=
  tblGet_put_ne _ _ _ _ _ _ hk

/-- What `setGate` set is what `gate` reads. -/
theorem State.gate_setGate (s : State) (n : Nat) (x : Gate) : (s.setGate n x).gate n = x :=
  tblGet_put_same _ _ _ _
/-- Another instance keeps its value. -/
theorem State.gate_setGate_ne (s : State) (n k : Nat) (x : Gate) (hk : k ≠ n) :
    (s.setGate n x).gate k = s.gate k :=
  tblGet_put_ne _ _ _ _ _ _ hk

/-! ### Registers -/

/-- A register reads the value set, modulo its width. -/
theorem State.regAt_setRegAt (s : State) (a r v : Nat) :
    (s.setRegAt a r v).regAt a r = v % 2 ^ 64 := by
  unfold State.regAt State.setRegAt
  rw [tblGet_put_same]
  exact BitVec.toNat_ofNat v 64

/-- Every other register keeps its value. -/
theorem State.regAt_setRegAt_ne (s : State) (a b r q v : Nat) (hb : b ≠ a) :
    (s.setRegAt a r v).regAt b q = s.regAt b q := by
  unfold State.regAt State.setRegAt
  rw [tblGet_put_ne _ _ _ _ _ _ hb]

/-- A field reads the value put into it, modulo its width. -/
theorem State.get_put_same (s : State) (f : Fld) (x : Nat) (h : f.lo ≤ f.hi) (hh : f.hi < 64) :
    (s.put f x).get f = x % 2 ^ (f.hi + 1 - f.lo) := by
  unfold State.get State.put
  rw [State.regAt_setRegAt, bits_setBits_same _ _ _ _ h hh]

/-- Another field of the same register keeps its value. -/
theorem State.get_put_beside (s : State) (f g : Fld) (x : Nat) (ha : g.addr = f.addr) (hr : g.rst = f.rst)
    (h : f.lo ≤ f.hi) (hh : g.hi < 64) (hd : g.hi < f.lo ∨ f.hi < g.lo) : (s.put f x).get g = s.get g := by
  unfold State.get State.put
  rw [ha, hr, State.regAt_setRegAt, bits_setBits_ne _ _ _ _ _ _ h hh hd]

/-- A field of another register keeps its value. -/
theorem State.get_put_ne (s : State) (f g : Fld) (x : Nat) (hg : g.addr ≠ f.addr) :
    (s.put f x).get g = s.get g := by
  unfold State.get State.put
  rw [State.regAt_setRegAt_ne _ _ _ _ _ _ hg]

end Sys2Proof.Machine
end

