-- ==== Sys2Proof/Laws/Ops.lean ====
section
/-! SUPPORT. What each shared operation can do, said once: what a command leaves of the memories, what raising and sending
events leaves, when settling changes nothing, what a guarded register reads, and under which conditions each operation
that can turn a command away carries it out. -/

set_option Elab.async false

namespace Sys2Proof.Machine

/-! ### Commands that are carried out -/

/-- The value a layout command writes holds register bits only. -/
theorem layoutValue_mask (op track id : Nat) (ho : op < 4) (ht : track < 16) : layoutValue op track id &&& 0x3FFFFF = layoutValue op track id := by
  have : (0x3FFFFF : Nat) = 2 ^ 22 - 1 := rfl
  rw [this, Nat.and_two_pow_sub_one_eq_mod]
  unfold layoutValue
  omega

/-- The operation of a layout command. -/
theorem layoutValue_op (op track id : Nat) (ho : op < 4) (ht : track < 16) : bits (layoutValue op track id) 21 20 = op := by
  unfold bits layoutValue; omega

/-- The track of a layout command. -/
theorem layoutValue_track (op track id : Nat) (ht : track < 16) : bits (layoutValue op track id) 19 16 = track := by
  unfold bits layoutValue; omega

/-- The identity of a layout command. -/
theorem layoutValue_id (op track id : Nat) : bits (layoutValue op track id) 15 0 = id % 2 ^ 16 := by
  unfold bits layoutValue; omega

/-- The value a layout command writes fits 32 bits. -/
theorem layoutValue_lt (op track id : Nat) (ho : op < 4) (ht : track < 16) : layoutValue op track id < 2 ^ 32 := by
  unfold layoutValue; omega

/-- The operation of a radix-vector command. -/
theorem vdValue_op (op : Nat) (v : Fin 128) (ho : op < 8) : bits (vdValue op v.val % 2 ^ 32) 2 0 = op := by
  have := v.isLt
  unfold bits vdValue; omega

/-- The vector of a radix-vector command. -/
theorem vdValue_vector (op : Nat) (v : Fin 128) (ho : op < 8) : bits (vdValue op v.val % 2 ^ 32) 14 8 = v.val := by
  have := v.isLt
  unfold bits vdValue; omega

/-- A nozzle-map operation starts where nothing turns it away. -/
theorem State.nzStart_runs (s : State) (op : Nat) (mirror : Option Nat) (h1 : s.nzc.op = none)
    (h2 : s.nzReady mirror.isSome = true) (h3 : s.get F.NZC_STATUS_SHADOW ≠ 1) (h4 : s.get F.NZC_STATUS_SHADOW ≠ 3) :
    s.nzStart op mirror = (({ s with nzc := { s.nzc with op := some { op, mirror, at_ := s.now } } } : State).put F.NZC_STATUS_BUSY 1).put
      F.NZC_STATUS_SHADOW (if op = 3 then 1 else 0) := by
  unfold State.nzStart
  dsimp only
  rw [if_neg (by simp [h1]), if_neg (by simp [h2]), if_neg (by omega)]

/-- A swap of the nozzle maps starts where nothing turns it away. -/
theorem State.nzSwap_runs (s : State) (curtain : Bool) (mirror : Option Nat) (h1 : s.nzc.op = none)
    (h2 : s.nzReady mirror.isSome = true) (h3 : s.get F.NZC_STATUS_SHADOW = 2) :
    s.nzSwap curtain mirror = (List.range 16).foldl (fun s n => if s.inCurtain n then s.nzSwitch n else s)
      ((({ s with nzc := { s.nzc with op := some { op := if curtain then 5 else 4, mirror, at_ := s.now }, swap := some { curtain, switched := 0, mirror, at_ := s.now },
                                      firstNew := 0xFFFF } } : State).put F.NZC_STATUS_BUSY 1).put F.NZC_STATUS_SHADOW 3) := by
  unfold State.nzSwap
  dsimp only
  rw [if_neg (by simp [h1]), if_neg (by simp [h2]), if_neg (by omega), if_neg (by omega)]

/-- With no operation running, the swap codes reach the swap. -/
theorem State.nzOp_swap (s : State) (b : Bool) (x : State) (h1 : s.nzc.op = none) (hx : s.nzSwap b none = x) :
    s.nzOp (if b then 5 else 4) = if x.nzc.op.isSome ∧ x.mirrors then x.nzMirror (if b then 5 else 4) else x := by
  subst hx
  cases b <;> simp [State.nzOp, h1]

/-- The value a lane command writes holds register bits only. -/
theorem laneOp_mask : ∀ (k : Fin 32) (op : Nat), op < 4 → (256 * k.val + op) &&& 0x1F03 = 256 * k.val + op := by
  decide

/-- A commanded change-over starts where the conditions of R639 hold. -/
theorem State.coTrigger_command (s : State) (h1 : s.role = 1) (h2 : s.coEnabled 5 = true) (h3 : s.dpx.switch = none)
    (h4 : s.flag F.DPX_STATUS_READY = true) (h5 : s.mode = 3) :
    s.coTrigger 5 = (let x := ((s.emit .burst).dpxSend 0x0D (leBytes 1 5 ++ leBytes 1 1 ++ leBytes 6 0)).coTime
      ({ x with dpx := { x.dpx with switch := some ⟨x.now + 2000000, false, 5, x.now⟩ } } : State).put F.SYS_MODE_BUSY 1) := by
  unfold State.coTrigger
  rw [if_neg (by simp [h1, h2, h3]), if_neg (by simp), if_neg (by simp [h4, h5])]
  rfl

/-- The value a port command writes holds register bits only. -/
theorem portOp_mask : ∀ (p : Fin 2) (op : Nat), op < 4 → (256 * p.val + op) &&& 0x103 = 256 * p.val + op := by
  decide

/-- The value a box command writes holds register bits only. -/
theorem boxOp_mask : ∀ b : Fin 16, (256 * b.val + 1) &&& 0xF03 = 256 * b.val + 1 := by
  decide

/-- The value that CFG_SCENE_OP takes for ARM. -/
def armValue (tracks : Nat) (force trial : Bool) : Nat := 65536 * (tracks % 65536) + 16 * bit force + 8 * bit trial + 1

/-- The value an arm command writes holds register bits only. -/
theorem armValue_mask (tracks : Nat) (force trial : Bool) : armValue tracks force trial &&& 0xFFFF001B = armValue tracks force trial := by
  have hb : 16 * bit force + 8 * bit trial + 1 < 32 := by cases force <;> cases trial <;> decide
  have hl : (16 * bit force + 8 * bit trial + 1) &&& 0x1B = 16 * bit force + 8 * bit trial + 1 := by
    cases force <;> cases trial <;> decide
  have h1 : armValue tracks force trial % 2 ^ 16 = 16 * bit force + 8 * bit trial + 1 := by unfold armValue; omega
  have h2 : armValue tracks force trial / 2 ^ 16 = tracks % 65536 := by unfold armValue; omega
  have e1 : (armValue tracks force trial &&& 0xFFFF001B) % 2 ^ 16 = armValue tracks force trial % 2 ^ 16 := by
    rw [Nat.and_mod_two_pow, h1]
    exact hl
  have e2 : (armValue tracks force trial &&& 0xFFFF001B) / 2 ^ 16 = armValue tracks force trial / 2 ^ 16 := by
    rw [Nat.and_div_two_pow, h2, show (0xFFFF001B : Nat) / 2 ^ 16 = 2 ^ 16 - 1 from rfl, Nat.and_two_pow_sub_one_eq_mod]
    omega
  omega

/-- The value an arm command writes fits 32 bits. -/
theorem armValue_lt (tracks : Nat) (force trial : Bool) : armValue tracks force trial < 2 ^ 32 := by
  unfold armValue; cases force <;> cases trial <;> simp only [bit] <;> simp <;> omega

/-- The operation of an arm command. -/
theorem armValue_op (tracks : Nat) (force trial : Bool) : bits (armValue tracks force trial) 1 0 = 1 := by
  unfold armValue bits; cases force <;> cases trial <;> simp only [bit] <;> simp <;> omega

/-- The tracks of an arm command. -/
theorem armValue_tracks (tracks : Nat) (force trial : Bool) : bits (armValue tracks force trial) 31 16 = tracks % 65536 := by
  unfold armValue bits; cases force <;> cases trial <;> simp only [bit] <;> simp <;> omega

/-- The trial bit of an arm command. -/
theorem armValue_trial (tracks : Nat) (force trial : Bool) : (armValue tracks force trial).testBit 3 = trial := by
  rw [Nat.testBit_eq_decide_div_mod_eq]
  unfold armValue; cases force <;> cases trial <;> simp only [bit] <;> simp <;> omega

/-- The force bit of an arm command. -/
theorem armValue_force (tracks : Nat) (force trial : Bool) : (armValue tracks force trial).testBit 4 = force := by
  rw [Nat.testBit_eq_decide_div_mod_eq]
  unfold armValue; cases force <;> cases trial <;> simp only [bit] <;> simp <;> omega

/-- The value a plane selection writes holds register bits only. -/
theorem planeSel_mask : ∀ plane : Fin 4, plane.val &&& 3 = plane.val := by decide

/-- The value a rate command writes holds register bits only. -/
theorem freqValue_mask (fgr : Bool) (target : Fin 16) : (256 * bit fgr + 16 * target.val + 1) &&& 0x1F3 = 256 * bit fgr + 16 * target.val + 1 := by
  revert fgr target; decide

/-- The operation of a rate command. -/
theorem freqValue_op (fgr : Bool) (target : Fin 16) : bits (256 * bit fgr + 16 * target.val + 1) 1 0 = 1 := by
  unfold bits; omega

/-- The target rate of a rate command. -/
theorem freqValue_target (fgr : Bool) (target : Fin 16) : bits (256 * bit fgr + 16 * target.val + 1) 7 4 = target.val := by
  have := target.isLt
  unfold bits; omega

/-- The refresh bit of a rate command. -/
theorem freqValue_fgr (fgr : Bool) (target : Fin 16) : (256 * bit fgr + 16 * target.val + 1).testBit 8 = fgr := by
  revert fgr target; decide

/-- The value a domain command writes holds register bits only. -/
theorem domOp_mask : ∀ d : Fin 64, (256 * d.val + 1) &&& 0x3F03 = 256 * d.val + 1 := by decide

/-- A rate change starts where nothing turns it away. -/
theorem State.freqReq_runs (s : State) (fgr : Bool) (target : Nat) (h1 : s.freq = none)
    (h2 : s.mode ≠ 0 ∧ s.mode ≠ 1 ∧ s.mode ≠ 5 ∧ s.ctlState 0 < 5 ∧ s.ctlState 1 < 5)
    (h3 : s.shadowBad 0 target = false ∧ s.shadowBad 1 target = false) (h4 : target ≤ (s.ctl 0).rating ∧ target ≤ (s.ctl 1).rating) :
    s.freqReq fgr target = { s.put F.DMC_FREQ_RESULT_CODE 9 with freq := some { fgr, target, at_ := s.now } } := by
  unfold State.freqReq
  dsimp only
  rw [if_neg (by simp [h1]), if_neg (by omega), if_neg (by simp [h3]), if_neg (by omega)]

/-- Operation 1 of a PLL beyond the sixth relocks it. -/
theorem State.pllOp_relock (s : State) (k fin : Nat) (h : 6 ≤ k) : s.pllOp k 1 fin = s.pllRelock k fin := by
  unfold State.pllOp
  dsimp only
  rw [if_neg (by decide), if_neg (by omega), if_pos rfl]

/-- Operation 2 of a PLL starts its search. -/
theorem State.pllOp_search (s : State) (k fin : Nat) (h : 6 ≤ k ∨ s.mode = 7) :
    s.pllOp k 2 fin = ((s.domainsLose k).pllAttempt k true).put (F.CLK_PLL_STATUS_OP_RESULT k) 1 := by
  unfold State.pllOp
  dsimp only
  rw [if_neg (by decide), if_neg (by rcases h with h | h <;> simp_all [State.mode] <;> omega), if_neg (by decide), if_pos rfl]

/-- Operation 3 of a PLL clears its failed state. -/
theorem State.pllOp_clear (s : State) (k fin : Nat) (h : 6 ≤ k ∨ s.mode = 7) :
    s.pllOp k 3 fin = (s.setPll k { s.pll k with bands := [] }).put (F.CLK_PLL_STATUS_OP_RESULT k) 0 := by
  unfold State.pllOp
  dsimp only
  rw [if_neg (by decide), if_neg (by rcases h with h | h <;> simp_all [State.mode] <;> omega), if_neg (by decide), if_neg (by decide)]

/-- An enabled wake source wakes a sleeping device. -/
theorem State.wakeSource_sleep (u : State) (src : Nat) (hon : src = 0 ∨ (u.get F.PWR_WAKE_EN_SOURCES).testBit (src - 1) = true)
    (h : u.get F.PWR_STATUS_STATE = 2) :
    u.wakeSource src = (u.setFlags F.PWR_WAKE_CAUSE_CAUSE (2 ^ src)).wakeBegin := by
  unfold State.wakeSource
  rw [h]
  dsimp only
  rw [if_neg (by rcases hon with e | e <;> simp [e]), if_pos rfl]

/-- In INTERVAL an access to a block that sleeps, by a master with the right, starts the wake and stalls (R667, R669). -/
theorem State.access_asleep (u : State) (a : Access) (h1 : aonServed a.addr = false) (h2 : u.get F.PWR_STATUS_STATE = 2)
    (h3 : u.mayReg a.master a.addr a.data.isSome = true) (h4 : u.lcyAllows a = true) :
    u.access a = ((u.setFlags F.PWR_WAKE_CAUSE_CAUSE (2 ^ 0)).wakeBegin, .stall) := by
  have hg : ((u.setFlags F.PWR_WAKE_CAUSE_CAUSE (2 ^ 0)).wakeBegin).get F.PWR_STATUS_STATE = 3 := by
    unfold State.wakeBegin
    rw [State.get_put_ne _ _ _ _ (by decide), State.get_put_same _ _ _ (by decide) (by decide)]
    rfl
  rw [State.access_reach u a h3]
  unfold State.reach
  rw [if_neg (by simp [h4])]
  dsimp only
  simp only [h1, Bool.false_eq_true, if_false]
  rw [State.wakeSource_sleep u 0 (Or.inl rfl) h2]
  have hn : ((u.setFlags F.PWR_WAKE_CAUSE_CAUSE (2 ^ 0)).wakeBegin).awakeFor a.addr = false := by
    unfold State.awakeFor
    rw [h1, hg]
    simp only [Bool.false_or]
    have hw : ((u.setFlags F.PWR_WAKE_CAUSE_CAUSE (2 ^ 0)).wakeBegin).pwr.wake = 1 := rfl
    rw [hw]
    split <;> first | rfl | (split <;> rfl)
  rw [hn, hg]
  rfl

/-- Writing the banks of step 3 leaves the power state as it is. -/
theorem State.banksWrite_pwr (l : List Nat) (u : State) : (l.foldl State.bankWrite u).pwr = u.pwr := by
  induction l generalizing u with
  | nil => rfl
  | cons b l ih => exact (ih _).trans rfl

/-- A register without read-to-clear bits is unchanged by its read. -/
theorem State.readClear_plain (u : State) (r : RegAt) (m : Nat) (h : r.row.rc = 0) : u.readClear r m = u := by
  unfold State.readClear
  rw [h]
  simp only [Nat.zero_and, true_or, if_true]

/-- A read of a plain 32-bit register does what reading the whole register does. -/
theorem State.read32_plain (u : State) (m : Master) (r : RegAt) (q : State × Nat) (h : u.readWhole r = q)
    (h1 : r.row.wg = false) (h2 : r.row.wide = false) (h3 : r.row.rc = 0) : u.read32 m r = (q.1, q.2 % 2 ^ 32) := by
  unfold State.read32
  rw [h1, h2, h]
  dsimp only
  rw [if_neg Bool.false_ne_true, if_neg Bool.false_ne_true, State.readClear_plain _ r _ h3]

/-- A read of a capture register clears CAPTURE_FULL (R703). -/
theorem State.readWhole_capture (u : State) (r : RegAt) (h : r.row.id = .TIMER_CAPTURE) :
    u.readWhole r = (u.put (F.TIMER_CTRL_CAPTURE_FULL r.i) 0, u.seen r) := by
  unfold State.readWhole
  rw [h]

/-- The value a retention release writes holds register bits only. -/
theorem banks_mask (b : Fin 256) : b.val &&& 0xFF = b.val := by
  have := b.isLt
  rw [show (0xFF : Nat) = 2 ^ 8 - 1 from rfl, Nat.and_two_pow_sub_one_eq_mod]
  omega

/-- A transition starts where LCY_TRANSITION refuses with no code. -/
theorem State.lcyTransition_runs (s : State) (k : Nat) (h : Bool) (hk : k ≠ 0 ∧ k < 7)
    (hf : (s.put F.LCY_STATUS_HOLDUP (bit h)).lcyFault k h = none) :
    s.lcyTransition k h = (let b := s.put F.LCY_STATUS_HOLDUP (bit h)
      ({ b with lcy := { b.lcy with op := some (.transition k) } } : State).put F.LCY_STATUS_BUSY 1) := by
  unfold State.lcyTransition
  dsimp only
  rw [if_neg (by omega), hf]

/-- An operation on a symmetric key slot starts where nothing turns it away. -/
theorem State.keyOp_aes (s : State) (kind slot : Nat) (hk : kind ≠ 0) (hk2 : kind ≤ 2) (h1 : s.lcy.op = none)
    (h2 : s.lcyState = 1 ∨ s.lcyState = 2 ∨ s.lcyState = 5) (h3 : slot < 16) (h4 : s.lcy.keys.any (fun x => x.1 = slot) = false)
    (h5 : crc32c ((List.range 8).flatMap (fun k => leBytes 4 (s.get (F.LCY_KEY_DATA k)))) = s.get F.LCY_KEY_CRC) :
    s.keyOp kind slot = ({ s with lcy := { s.lcy with op := some (.key kind slot
      ((List.range 8).flatMap (fun k => leBytes 4 (s.get (F.LCY_KEY_DATA k))))) } } : State).put F.LCY_STATUS_BUSY 1 := by
  unfold State.keyOp
  dsimp only
  rw [if_neg (by omega), if_neg (by simp [h1]), if_neg (by rcases h2 with e | e | e <;> simp [e] <;> omega),
    if_neg (by rw [if_pos hk2, h4]; simp), if_neg (by simp [h5])]

/-- An operation on a public-key digest starts where nothing turns it away. -/
theorem State.keyOp_pub (s : State) (kind slot : Nat) (hk : 3 ≤ kind) (hk2 : kind ≤ 6) (h1 : s.lcy.op = none)
    (h2 : s.lcyState = 1 ∨ s.lcyState = 2 ∨ s.lcyState = 5) (h4 : s.lcy.pubs.lookup kind = none)
    (h5 : crc32c ((List.range 8).flatMap (fun k => leBytes 4 (s.get (F.LCY_KEY_DATA k)))) = s.get F.LCY_KEY_CRC) :
    s.keyOp kind slot = ({ s with lcy := { s.lcy with op := some (.key kind slot
      ((List.range 8).flatMap (fun k => leBytes 4 (s.get (F.LCY_KEY_DATA k))))) } } : State).put F.LCY_STATUS_BUSY 1 := by
  unfold State.keyOp
  dsimp only
  rw [if_neg (by omega), if_neg (by simp [h1]), if_neg (by rcases h2 with e | e | e <;> simp [e] <;> omega),
    if_neg (by rw [if_neg (by omega), h4]; simp), if_neg (by simp [h5])]

/-- The value a key command writes holds register bits only. -/
theorem keyOp_mask (b : Fin 256) (op : Nat) (ho : op < 16) : (256 * b.val + op) &&& 0xFF0F = 256 * b.val + op := by
  have hb := b.isLt
  have e1 : ((256 * b.val + op) &&& 0xFF0F) % 2 ^ 8 = op := by
    rw [Nat.and_mod_two_pow, show (0xFF0F : Nat) % 2 ^ 8 = 2 ^ 4 - 1 from rfl, Nat.and_two_pow_sub_one_eq_mod]
    omega
  have e2 : ((256 * b.val + op) &&& 0xFF0F) / 2 ^ 8 = b.val := by
    rw [Nat.and_div_two_pow, show (0xFF0F : Nat) / 2 ^ 8 = 2 ^ 8 - 1 from rfl, Nat.and_two_pow_sub_one_eq_mod]
    omega
  omega

/-- CHALLENGE, where no refusal of R718 and no waiting time holds, makes a nonce and ends with RESULT 1. -/
theorem State.challenge_runs (s : State) (h : s.debugFault = none)
    (hl : ∀ a, s.lcy.failedAt = some a → a + 10000000000000 ≤ s.now) :
    s.challenge =
      (({ s with freeIx := s.freeIx + 16,
                 lcy := { s.lcy with nonce := some ((List.range 16).map (fun i =>
                   BitVec.ofNat 8 (Config.free (s.freeIx + i))), s.now) } } : State).nonceShow).lcyResult 2 1 := by
  unfold State.challenge
  rw [h]
  dsimp only
  rw [if_neg]
  · rfl
  · cases hf : s.lcy.failedAt with
    | none => simp
    | some a => have := hl a hf; simp; omega

/-- VERIFY, where no refusal of R718 holds and a nonce stands, begins. -/
theorem State.verifyStart_runs (s : State) (h : s.debugFault = none) (hn : s.lcy.nonce.isSome = true) :
    s.verifyStart = ({ s with lcy := { s.lcy with op := some .verify } } : State).put F.LCY_STATUS_BUSY 1 := by
  unfold State.verifyStart
  rw [h]
  dsimp only
  rw [if_neg (by cases hv : s.lcy.nonce <;> simp_all)]

/-- A line that the Prompter takes now and whose class is allowed runs (R721 to R724). -/
theorem State.promptCmd_runs (u : State) (c : PCmd) (h : u.promptMay = true) (hc : u.promptClass c = none) :
    u.promptCmd c = u.promptRun c := by
  unfold State.promptMay at h
  simp only [Bool.and_eq_true, Bool.or_eq_true, decide_eq_true_eq, Bool.not_eq_true', ne_eq] at h
  obtain ⟨⟨⟨⟨h1, h2⟩, h3⟩, h4⟩, h5⟩ := h
  unfold State.promptCmd
  rw [if_neg (by rcases h2 with h2 | h2 <;> simp [h1, h2, h3]), if_neg (by simp [h4])]
  dsimp only
  rw [if_neg (by simp [h5]), State.wakeSource_awake u 3 h5]
  unfold State.promptNow
  rw [hc]

/-- A single register access of the Prompter that is granted ends at once and is answered (R723). -/
theorem State.prompterRegs_one (u : State) (a : Access) (f : Fld) (ha : a.addr = f.addr) (hm : a.master = .prompter)
    (hin : inWindow f.addr = false) (hok : u.granted .prompter f a.data.isSome = true) :
    u.prompterRegs [] [a] =
      let q := if a.wide then u.access64 .prompter a.addr a.data else u.access32 .prompter a.addr a.data
      if q.2.2 = 0 then q.1.emit (.monitor 0 (if a.data.isNone then [q.2.1] else []))
      else q.1.emit (.monitor (errOf q.2.2) []) := by
  unfold State.prompterRegs
  rw [State.access_granted u .prompter a f ha hm hin hok]
  dsimp only
  generalize (if a.wide = true then u.access64 .prompter a.addr a.data else u.access32 .prompter a.addr a.data) = q
  obtain ⟨s, v, st⟩ := q
  cases st with
  | zero => simp [State.prompterRegs]
  | succ n => simp

/-- The result register after a result reads its code. -/
theorem State.lcyResult_code (s : State) (source code : Nat) :
    (s.lcyResult source code).get F.LCY_RESULT_CODE = code % 2 ^ (F.LCY_RESULT_CODE.hi + 1 - F.LCY_RESULT_CODE.lo) := by
  unfold State.lcyResult
  rw [State.get_put_beside _ F.LCY_RESULT_SOURCE F.LCY_RESULT_CODE _ rfl rfl (by decide) (by decide) (by decide),
    State.get_put_same _ _ _ (by decide) (by decide)]

/-- The Prompter's CHALLENGE, where no refusal of R718 and no waiting time holds, answers the nonce and DEVICE_ID. -/
theorem State.challenge_answer (s : State) (h : s.debugFault = none)
    (hl : ∀ a, s.lcy.failedAt = some a → a + 10000000000000 ≤ s.now) :
    s.promptRun .challenge =
      (let b := (List.range 16).map (fun i => BitVec.ofNat 8 (Config.free (s.freeIx + i)))
       ((({ s with freeIx := s.freeIx + 16, lcy := { s.lcy with nonce := some (b, s.now) } } : State).nonceShow).lcyResult
         2 1).emit (.monitor 0 [leNat b, Config.deviceId % 2 ^ 64])) := by
  unfold State.promptRun
  dsimp only
  rw [State.challenge_runs s h hl, if_pos ((State.lcyResult_code _ 2 1).trans (by decide))]
  rfl

/-- A happening takes place at once where no edge of its step is to come and nothing waited before it (R122). -/
theorem State.afterEdge_now (s : State) (n : Nat) (h : Late) (h1 : s.edgeComes n = false) (h2 : (s.track n).late = []) :
    s.afterEdge n h = s.happen n h := by
  unfold State.afterEdge State.lateRun
  simp [h1, h2]

/-! ### Raising an event -/

/-- `t` is `s` but for the cue board, the events and lost marks of boxes, event registers, the notes of what
hardware sets in the instant, and what is shown. -/
def State.onlyEvents (s t : State) : Prop :=
  ({ t with cue := s.cue, regs := s.regs, hits := s.hits, boxes := s.boxes, out := s.out } : State) = s ∧
  (∀ b, ({ t.box b with events := (s.box b).events, lost := (s.box b).lost } : Box) = s.box b) ∧
  ∀ f : Fld, (∀ n, f.addr ≠ (F.CUE_SRC_FLAGS n).addr) → (∀ n < 15, f.addr ≠ (F.IZX_BOX_EVT_LOST n).addr) →
    (∀ n < 15, f.addr ≠ (F.IZX_BOX_EVT_SEQ n).addr) → t.get f = s.get f

/-- A state differs from itself in nothing. -/
theorem State.onlyEvents_refl (s : State) : s.onlyEvents s := ⟨rfl, fun _ => rfl, fun _ _ _ _ => rfl⟩

/-- Events leave `trans` as it was. -/
theorem State.onlyEvents_trans {s t u : State} (h : s.onlyEvents t) (k : t.onlyEvents u) : s.onlyEvents u := by
  refine ⟨?_, fun b => ?_, fun f ha hb hc => (k.2.2 f ha hb hc).trans (h.2.2 f ha hb hc)⟩
  · have h1 := h.1
    rw [← k.1] at h1
    exact h1
  · have h1 := h.2.1 b
    rw [← k.2.1 b] at h1
    exact h1

/-- A change of the cue board and of what is shown. -/
theorem State.onlyEvents_cue (s : State) (c : Cue) (o : List Out) : s.onlyEvents { s with cue := c, out := o } :=
  ⟨rfl, fun _ => rfl, fun _ _ _ _ => rfl⟩

/-- A change of a box's event queue and lost mark. -/
theorem State.onlyEvents_setBox (s : State) (b : Nat) (e : List EvRec) (l : Bool) :
    s.onlyEvents (s.setBox b { s.box b with events := e, lost := l }) := by
  refine ⟨rfl, fun k => ?_, fun _ _ _ _ => rfl⟩
  by_cases hk : k = b
  · subst hk; rw [State.box_setBox]
  · rw [State.box_setBox_ne _ _ _ _ hk]

/-- A change of registers and of the notes of what hardware set leaves the rest. -/
theorem State.regs_only (s : State) (r : Tbl (BitVec 64)) (h : Tbl (Option Hit)) :
    ({ ({ s with regs := r, hits := h } : State) with
        cue := s.cue, regs := s.regs, hits := s.hits, boxes := s.boxes, out := s.out } : State) = s := rfl

/-- A lost record of a box is counted. -/
theorem State.onlyEvents_lost (s : State) (b : Nat) (hb : b < 15) : s.onlyEvents (s.addSat (F.IZX_BOX_EVT_LOST b) 1) :=
  ⟨State.regs_only s _ _, fun _ => rfl, fun _ _ hf _ => State.get_put_ne _ _ _ _ (hf b hb)⟩

/-- Queueing an event in a box changes events only. -/
theorem State.queueEvent_only (s : State) (b : Nat) (r : EvRec) (hb : b < 15) : s.onlyEvents (s.queueEvent b r).1 := by
  unfold State.queueEvent
  dsimp only
  split
  · exact s.onlyEvents_refl
  · split
    · exact s.onlyEvents_setBox b _ _
    · exact State.onlyEvents_trans (s.onlyEvents_setBox b (s.box b).events true) (State.onlyEvents_lost _ b hb)

/-- Copying an event to boxes changes events only. -/
theorem State.copyBoxes_only (boxes : Nat) (r : EvRec) : ∀ (n : Nat) (s : State), n ≤ 15 →
    s.onlyEvents (s.copyBoxes boxes r n).1
  | 0, s, _ => s.onlyEvents_refl
  | b + 1, s, hn => by
    have ih := State.copyBoxes_only boxes r b s (by omega)
    unfold State.copyBoxes
    dsimp only
    split
    · exact State.onlyEvents_trans ih (State.queueEvent_only _ b r (by omega))
    · exact ih

/-- The steps of a copy that follow the boxes' queues. -/
theorem State.copyRest_only (u : State) (a b c : Bool) (l k e : Nat) (r : EvRec) :
    u.onlyEvents (
      let s := if a then ({ u with cue := { u.cue with fabLevel := u.cue.fabLevel ^^^ 2 ^ l } } : State).emit (.fabLine l) else u
      let s := if b then { s with cue := { s.cue with pinEnd := tblPut 0 s.cue.pinEnd k e } } else s
      if c then s.logRecord r else s) := by
  cases a <;> cases b <;> cases c <;> exact State.onlyEvents_cue _ _ _

/-- Copying an event changes events only. -/
theorem State.copyEvent_only (s : State) (src : Nat) (r : EvRec) : s.onlyEvents (s.copyEvent src r).1 := by
  unfold State.copyEvent
  dsimp only
  split
  · exact s.onlyEvents_refl
  · generalize bits (s.before (F.CUE_SRC_ROUTE src)) 30 16 = m
    refine State.onlyEvents_trans (State.copyBoxes_only m r 15 s (Nat.le_refl 15)) ?_
    generalize (s.copyBoxes m r 15).1 = u
    generalize s.before (F.CUE_SRC_ROUTE src) = route
    have h := State.copyRest_only u (route.testBit 13)
      (decide (route.testBit 7 = true ∧
        (if route.testBit 13 then
          ({ u with cue := { u.cue with fabLevel := u.cue.fabLevel ^^^ 2 ^ bits route 12 8 } } : State).emit
            (.fabLine (bits route 12 8)) else u).flag (F.CUE_PIN_CFG_MODE (bits route 6 4)) = true))
      (route.testBit 14) (bits route 12 8) (bits route 6 4)
      ((if route.testBit 13 then
          ({ u with cue := { u.cue with fabLevel := u.cue.fabLevel ^^^ 2 ^ bits route 12 8 } } : State).emit
            (.fabLine (bits route 12 8)) else u).now +
        5000 * max 1 ((if route.testBit 13 then
          ({ u with cue := { u.cue with fabLevel := u.cue.fabLevel ^^^ 2 ^ bits route 12 8 } } : State).emit
            (.fabLine (bits route 12 8)) else u).get (F.CUE_PIN_CFG_WIDTH (bits route 6 4)))) r
    simp only [decide_eq_true_eq] at h
    exact h

/-- Raising an event without its loss report changes events only. -/
theorem State.raisePlain_only (s : State) (src inst : Nat) : s.onlyEvents (s.raisePlain src inst).1 := by
  unfold State.raisePlain
  refine State.onlyEvents_trans ?_ (State.copyEvent_only _ src _)
  exact ⟨rfl, fun _ => rfl, fun f hf _ _ => State.get_put_ne s _ f _ (hf src)⟩

/-- Raising an event changes the cue board, its flags, the event queues of boxes and what is shown, and nothing else. -/
theorem State.raise_only (s : State) (src inst : Nat) : s.onlyEvents (s.raise src inst) := by
  unfold State.raise
  split
  · dsimp only
    split
    · exact s.onlyEvents_refl
    · exact State.onlyEvents_cue _ _ _
  · dsimp only
    refine State.onlyEvents_trans (State.raisePlain_only s src inst) ?_
    generalize (s.raisePlain src inst).2 = l
    generalize (s.raisePlain src inst).1 = u
    induction l generalizing u with
    | nil => exact u.onlyEvents_refl
    | cons b l ih => exact State.onlyEvents_trans (State.raisePlain_only u _ b) (ih _)

/-- One EVENT frame. -/
theorem State.sendOne_only (s : State) (b n : Nat) (o : Out) (l : List EvRec) (hb : b < 15) :
    s.onlyEvents (((s.put (F.IZX_BOX_EVT_SEQ b) n).emit o).setBox b { s.box b with events := l, lost := false }) := by
  refine ⟨rfl, fun k => ?_, fun f _ _ hf => State.get_put_ne s _ f _ (hf b hb)⟩
  by_cases hk : k = b
  · subst hk; rw [State.box_setBox]
  · rw [State.box_setBox_ne _ _ _ _ hk]; rfl

/-- Sending the events of a box changes events only. -/
theorem State.boxEvents_only (b : Nat) (hb : b < 15) : ∀ (n : Nat) (s : State), s.onlyEvents (s.boxEvents b n)
  | 0, s => s.onlyEvents_refl
  | n + 1, s => by
    unfold State.boxEvents
    dsimp only
    split
    · exact s.onlyEvents_refl
    · unfold State.addWrap
      exact State.onlyEvents_trans (State.sendOne_only s b _ _ _ hb) (State.boxEvents_only b hb n _)

/-- Sending event records changes what raising events changes, and nothing else. -/
theorem State.eventsSend_only (s : State) : s.onlyEvents s.eventsSend := by
  have h : ∀ (l : List Nat) (u : State), (∀ b ∈ l, b < 15) → u.onlyEvents (l.foldl (fun s b => s.boxEvents b 33) u) := by
    intro l
    induction l with
    | nil => exact fun u _ => u.onlyEvents_refl
    | cons b l ih =>
      exact fun u hl => State.onlyEvents_trans (State.boxEvents_only b (hl b (by simp)) 33 u)
        (ih _ (fun c hc => hl c (by simp [hc])))
  unfold State.eventsSend
  split
  · exact s.onlyEvents_refl
  · exact h _ s (fun b hb => by simpa using hb)

/-! What such a change leaves, field by field. -/

/-- Events leave `pending` as it was. -/
theorem State.onlyEvents_pending {s t : State} (h : s.onlyEvents t) : t.pending = s.pending := by
  have e := congrArg State.pending h.1
  exact e

/-- Events leave `now` as it was. -/
theorem State.onlyEvents_now {s t : State} (h : s.onlyEvents t) : t.now = s.now := by
  have e := congrArg State.now h.1
  exact e

/-- Events leave `freeIx` as it was. -/
theorem State.onlyEvents_freeIx {s t : State} (h : s.onlyEvents t) : t.freeIx = s.freeIx := by
  have e := congrArg State.freeIx h.1
  exact e

/-- Events leave `stores` as it was. -/
theorem State.onlyEvents_stores {s t : State} (h : s.onlyEvents t) : t.stores = s.stores := by
  have e := congrArg State.stores h.1
  exact e

/-- Events leave `dram` as it was. -/
theorem State.onlyEvents_dram {s t : State} (h : s.onlyEvents t) : t.dram = s.dram := by
  have e := congrArg State.dram h.1
  exact e

/-- Events leave `flash` as it was. -/
theorem State.onlyEvents_flash {s t : State} (h : s.onlyEvents t) : t.flash = s.flash := by
  have e := congrArg State.flash h.1
  exact e

/-- Events leave `nor` as it was. -/
theorem State.onlyEvents_nor {s t : State} (h : s.onlyEvents t) : t.nor = s.nor := by
  have e := congrArg State.nor h.1
  exact e

/-- Events leave `active` as it was. -/
theorem State.onlyEvents_active {s t : State} (h : s.onlyEvents t) : t.active = s.active := by
  have e := congrArg State.active h.1
  exact e

/-- Events leave `latch` as it was. -/
theorem State.onlyEvents_latch {s t : State} (h : s.onlyEvents t) : t.latch = s.latch := by
  have e := congrArg State.latch h.1
  exact e

/-- Events leave `clk` as it was. -/
theorem State.onlyEvents_clk {s t : State} (h : s.onlyEvents t) : t.clk = s.clk := by
  have e := congrArg State.clk h.1
  exact e

/-- Events leave `house` as it was. -/
theorem State.onlyEvents_house {s t : State} (h : s.onlyEvents t) : t.house = s.house := by
  have e := congrArg State.house h.1
  exact e

/-- Events leave `porAt` as it was. -/
theorem State.onlyEvents_porAt {s t : State} (h : s.onlyEvents t) : t.porAt = s.porAt := by
  have e := congrArg State.porAt h.1
  exact e

/-- Events leave `ports` as it was. -/
theorem State.onlyEvents_ports {s t : State} (h : s.onlyEvents t) : t.ports = s.ports := by
  have e := congrArg State.ports h.1
  exact e

/-- Events leave `links` as it was. -/
theorem State.onlyEvents_links {s t : State} (h : s.onlyEvents t) : t.links = s.links := by
  have e := congrArg State.links h.1
  exact e

/-- Events leave `scene` as it was. -/
theorem State.onlyEvents_scene {s t : State} (h : s.onlyEvents t) : t.scene = s.scene := by
  have e := congrArg State.scene h.1
  exact e

/-- Events leave `promptUp` as it was. -/
theorem State.onlyEvents_promptUp {s t : State} (h : s.onlyEvents t) : t.promptUp = s.promptUp := by
  have e := congrArg State.promptUp h.1
  exact e

/-- Events leave `sys` as it was. -/
theorem State.onlyEvents_sys {s t : State} (h : s.onlyEvents t) : t.sys = s.sys := by
  have e := congrArg State.sys h.1
  exact e

/-- Events leave `trk` as it was. -/
theorem State.onlyEvents_trk {s t : State} (h : s.onlyEvents t) : t.trk = s.trk := by
  have e := congrArg State.trk h.1
  exact e

/-- Events leave `wq` as it was. -/
theorem State.onlyEvents_wq {s t : State} (h : s.onlyEvents t) : t.wq = s.wq := by
  have e := congrArg State.wq h.1
  exact e

/-- Events leave `aonMarks` as it was. -/
theorem State.onlyEvents_aonMarks {s t : State} (h : s.onlyEvents t) : t.aonMarks = s.aonMarks := by
  have e := congrArg State.aonMarks h.1
  exact e

/-- Events leave `ldg` as it was. -/
theorem State.onlyEvents_ldg {s t : State} (h : s.onlyEvents t) : t.ldg = s.ldg := by
  have e := congrArg State.ldg h.1
  exact e

/-- Events leave `leases` as it was. -/
theorem State.onlyEvents_leases {s t : State} (h : s.onlyEvents t) : t.leases = s.leases := by
  have e := congrArg State.leases h.1
  exact e

/-- Events leave `cmp` as it was. -/
theorem State.onlyEvents_cmp {s t : State} (h : s.onlyEvents t) : t.cmp = s.cmp := by
  have e := congrArg State.cmp h.1
  exact e

/-- Events leave `sdefs` as it was. -/
theorem State.onlyEvents_sdefs {s t : State} (h : s.onlyEvents t) : t.sdefs = s.sdefs := by
  have e := congrArg State.sdefs h.1
  exact e

/-- Events leave `series` as it was. -/
theorem State.onlyEvents_series {s t : State} (h : s.onlyEvents t) : t.series = s.series := by
  have e := congrArg State.series h.1
  exact e

/-- Events leave `dpx` as it was. -/
theorem State.onlyEvents_dpx {s t : State} (h : s.onlyEvents t) : t.dpx = s.dpx := by
  have e := congrArg State.dpx h.1
  exact e

/-- Events leave `regions` as it was. -/
theorem State.onlyEvents_regions {s t : State} (h : s.onlyEvents t) : t.regions = s.regions := by
  have e := congrArg State.regions h.1
  exact e

/-- Events leave `vd` as it was. -/
theorem State.onlyEvents_vd {s t : State} (h : s.onlyEvents t) : t.vd = s.vd := by
  have e := congrArg State.vd h.1
  exact e

/-- Events leave `frg` as it was. -/
theorem State.onlyEvents_frg {s t : State} (h : s.onlyEvents t) : t.frg = s.frg := by
  have e := congrArg State.frg h.1
  exact e

/-- Events leave `nzc` as it was. -/
theorem State.onlyEvents_nzc {s t : State} (h : s.onlyEvents t) : t.nzc = s.nzc := by
  have e := congrArg State.nzc h.1
  exact e

/-- Events leave `stg` as it was. -/
theorem State.onlyEvents_stg {s t : State} (h : s.onlyEvents t) : t.stg = s.stg := by
  have e := congrArg State.stg h.1
  exact e

/-- Events leave `ins` as it was. -/
theorem State.onlyEvents_ins {s t : State} (h : s.onlyEvents t) : t.ins = s.ins := by
  have e := congrArg State.ins h.1
  exact e

/-- Events leave `dmc` as it was. -/
theorem State.onlyEvents_dmc {s t : State} (h : s.onlyEvents t) : t.dmc = s.dmc := by
  have e := congrArg State.dmc h.1
  exact e

/-- Events leave `freq` as it was. -/
theorem State.onlyEvents_freq {s t : State} (h : s.onlyEvents t) : t.freq = s.freq := by
  have e := congrArg State.freq h.1
  exact e

/-- Events leave `dmcMap` as it was. -/
theorem State.onlyEvents_dmcMap {s t : State} (h : s.onlyEvents t) : t.dmcMap = s.dmcMap := by
  have e := congrArg State.dmcMap h.1
  exact e

/-- Events leave `pwr` as it was. -/
theorem State.onlyEvents_pwr {s t : State} (h : s.onlyEvents t) : t.pwr = s.pwr := by
  have e := congrArg State.pwr h.1
  exact e

/-- Events leave `window` as it was. -/
theorem State.onlyEvents_window {s t : State} (h : s.onlyEvents t) : t.window = s.window := by
  have e := congrArg State.window h.1
  exact e

/-- Events leave `rstIn` as it was. -/
theorem State.onlyEvents_rstIn {s t : State} (h : s.onlyEvents t) : t.rstIn = s.rstIn := by
  have e := congrArg State.rstIn h.1
  exact e

/-- Events leave `grstPin` as it was. -/
theorem State.onlyEvents_grstPin {s t : State} (h : s.onlyEvents t) : t.grstPin = s.grstPin := by
  have e := congrArg State.grstPin h.1
  exact e

/-- Events leave `cfg` as it was. -/
theorem State.onlyEvents_cfg {s t : State} (h : s.onlyEvents t) : t.cfg = s.cfg := by
  have e := congrArg State.cfg h.1
  exact e

/-- Events leave `per` as it was. -/
theorem State.onlyEvents_per {s t : State} (h : s.onlyEvents t) : t.per = s.per := by
  have e := congrArg State.per h.1
  exact e

/-- Events leave `lcy` as it was. -/
theorem State.onlyEvents_lcy {s t : State} (h : s.onlyEvents t) : t.lcy = s.lcy := by
  have e := congrArg State.lcy h.1
  exact e

/-- Events leave `banks` as it was. -/
theorem State.onlyEvents_banks {s t : State} (h : s.onlyEvents t) : t.banks = s.banks := by
  have e := congrArg State.banks h.1
  exact e

/-- Events leave `later` as it was. -/
theorem State.onlyEvents_later {s t : State} (h : s.onlyEvents t) : t.later = s.later := by
  have e := congrArg State.later h.1
  exact e

/-- Events leave `dreq` as it was. -/
theorem State.onlyEvents_dreq {s t : State} (h : s.onlyEvents t) : t.dreq = s.dreq := by
  have e := congrArg State.dreq h.1
  exact e

/-- Events leave `fab` as it was. -/
theorem State.onlyEvents_fab {s t : State} (h : s.onlyEvents t) : t.fab = s.fab := by
  have e := congrArg State.fab h.1
  exact e

/-! ### Settling -/

/-- A fold whose every step leaves the state leaves the state. -/
theorem foldl_fixed {α β : Type} (f : β → α → β) (s : β) : ∀ l : List α, (∀ a ∈ l, f s a = s) → l.foldl f s = s
  | [], _ => rfl
  | a :: l, h => by rw [List.foldl_cons, h a (by simp)]; exact foldl_fixed f s l (fun b hb => h b (by simp [hb]))

/-- The duplex registers stay as they are where they show what holds. -/
theorem State.dpxReadyCheck_steady (s : State) (h : s.dpxSteady = true) : s.dpxReadyCheck = s := by
  unfold State.dpxSteady at h
  unfold State.dpxReadyCheck
  cases hc : s.dpx.configured with
  | false => rfl
  | true =>
    rw [hc] at h
    simp only [Bool.not_true, Bool.false_or, Bool.and_eq_true, bne_iff_ne, beq_iff_eq] at h
    obtain ⟨⟨h1, h2⟩, h3⟩ := h
    unfold State.mode State.role State.flag
    rw [if_neg (by simp)]
    dsimp only
    rw [if_pos h2, if_neg h1, h3]
    refine if_pos ?_
    unfold bit
    cases hp : (decide (s.get F.DPX_STATUS_ROLE = 1) && s.dpx.partnerReady) <;> simp_all

/-- What the duplex registers are to show comes from the tracks, the duplex state, the mode and DPX_STATUS. -/
theorem State.dpxSteady_of {s t : State} (hd : t.dpx = s.dpx) (ht : t.trk = s.trk)
    (hm : t.get F.SYS_MODE_MODE = s.get F.SYS_MODE_MODE) (ha : t.get F.DPX_STATUS_ALIGNED = s.get F.DPX_STATUS_ALIGNED)
    (hr : t.get F.DPX_STATUS_READY = s.get F.DPX_STATUS_READY) (ho : t.get F.DPX_STATUS_ROLE = s.get F.DPX_STATUS_ROLE)
    (h : s.dpxSteady = true) : t.dpxSteady = true := by
  unfold State.dpxSteady State.alignedMask State.track at h ⊢
  rw [hd, ht, hm, ha, hr, ho]
  exact h

/-- Where nothing waits, settling changes nothing. -/
theorem State.settleAll_still (s : State) (h : s.still = true) : s.settleAll = s := by
  unfold State.still at h
  simp only [Bool.and_eq_true, List.all_eq_true, List.isEmpty_iff, Bool.not_eq_true', Option.isNone_iff_eq_none] at h
  obtain ⟨⟨⟨⟨⟨⟨⟨⟨⟨⟨hq, hl⟩, hy⟩, hc⟩, hb⟩, hg⟩, hp⟩, hd⟩, ho⟩, hx⟩, hi⟩ := h
  have hi0 : s.instantEnd = s := by unfold State.instantEnd; simp [hi]
  have h0 : s.dramSettle = s := by unfold State.dramSettle; rw [hd]; rfl
  have hw : s.dramWakes = s := by unfold State.dramWakes; simp [hd]
  have h1 : s.serialsResume = s := by
    unfold State.serialsResume
    rw [if_neg]
    rw [Bool.not_eq_true, List.any_eq_false]
    intro n hn
    simp [(hq n hn).1.1.1]
  have h2 : s.queuesRun = s := by
    unfold State.queuesRun
    rw [foldl_fixed _ s (List.range 16)]
    · dsimp only
      rw [show s.decideAll = s from foldl_fixed _ s _ (fun n hn => by unfold State.decideTrack; simp [(hq n hn).1.1.1])]
      rw [foldl_fixed _ s (List.range 16) (fun n hn => by unfold State.heldTry; simp [(hq n hn).1.1.2])]
      rw [show s.fillHeads = s from by
        unfold State.fillHeads
        rw [h0]
        exact foldl_fixed _ s _ (fun n hn => by unfold State.fillHead; simp [(hq n hn).1.1.1])]
      rw [foldl_fixed _ s (List.range 16) (fun n hn => by
        unfold State.ceilCheck State.headItem; simp [(hq n hn).1.1.1, (hq n hn).2, when])]
    · intro n hn
      unfold State.firedCheck
      simp [(hq n hn).1.1.1, (hq n hn).1.2]
  have h3 : s.printRun = s := by
    unfold State.printRun
    rw [h2, show s.linesClean = s from by unfold State.linesClean; simp [hl]]
    rw [show s.layoutLate = s from by unfold State.layoutLate; simp [ho]]
    rw [show s.layoutsRetire = s from by
      unfold State.layoutsRetire State.layoutsKept
      rw [List.filter_eq_self.2 (fun l hm => by simp [hy l hm]), if_pos rfl]]
    unfold State.fillsRank
    simp [hd]
  have h4 : s.dpxSettle = s := by
    unfold State.dpxSettle
    rw [if_neg (by simp [hc]), State.dpxReadyCheck_steady s hx]
  have h5 : s.izxSettle = s := by
    unfold State.izxSettle
    rw [foldl_fixed _ s (List.range 16) (fun b hm => by
      have := hb b hm
      simp [this.1.1, this.1.2, this.2])]
    unfold State.sceneOrphan
    rw [hg]
  have h6 : s.stallsRun = s := by unfold State.stallsRun; simp [hp]
  unfold State.settleAll
  rw [hi0, hw, h0, h1, h3, h4, h5, h6, hw, h0]

/-- Where nothing waits and no event record is queued, a command ends with its own effect. -/
theorem State.settle_calm (s : State) (h : s.calm = true) : s.settleAll.eventsSend = s := by
  unfold State.calm at h
  rw [Bool.and_eq_true, List.all_eq_true] at h
  rw [State.settleAll_still s h.1]
  unfold State.eventsSend
  split
  · rfl
  refine foldl_fixed _ s _ (fun b hm => ?_)
  have he := h.2 b (by simp at hm ⊢; omega)
  rw [List.isEmpty_iff] at he
  unfold State.boxEvents
  simp [he]

/-- Raising events leaves nothing waiting but the event records. -/
theorem State.still_of_onlyEvents {s t : State} (k : s.onlyEvents t) (h : s.still = true) : t.still = true := by
  have hf : ∀ n < 16, t.flag (F.WQ_STATUS_CEILING_WAIT n) = s.flag (F.WQ_STATUS_CEILING_WAIT n) := by
    intro n hn
    unfold State.flag
    rw [k.2.2 _ (fun m => by unfold F.WQ_STATUS_CEILING_WAIT F.CUE_SRC_FLAGS; dsimp only; omega)
      (fun m hm => by unfold F.WQ_STATUS_CEILING_WAIT F.IZX_BOX_EVT_LOST; dsimp only; omega)
      (fun m hm => by unfold F.WQ_STATUS_CEILING_WAIT F.IZX_BOX_EVT_SEQ; dsimp only; omega)]
  have hw := State.onlyEvents_wq k
  have ht := State.onlyEvents_trk k
  have hg := State.onlyEvents_frg k
  have hx := State.onlyEvents_dpx k
  have hc := State.onlyEvents_cfg k
  have hp := State.onlyEvents_pwr k
  have hd := State.onlyEvents_dreq k
  have hi := State.onlyEvents_later k
  have keep : ∀ f : Fld, f.addr = 0x100 ∨ f.addr = 0xC0008 → t.get f = s.get f := fun f hf =>
    k.2.2 f (fun m => by unfold F.CUE_SRC_FLAGS; dsimp only; omega) (fun m hm => by unfold F.IZX_BOX_EVT_LOST; dsimp only; omega)
      (fun m hm => by unfold F.IZX_BOX_EVT_SEQ; dsimp only; omega)
  have hs : s.dpxSteady = true → t.dpxSteady = true :=
    State.dpxSteady_of hx ht (keep F.SYS_MODE_MODE (.inl rfl)) (keep F.DPX_STATUS_ALIGNED (.inr rfl))
      (keep F.DPX_STATUS_READY (.inr rfl)) (keep F.DPX_STATUS_ROLE (.inr rfl))
  unfold State.still at h ⊢
  have hb : ∀ b, (t.box b).due = (s.box b).due ∧ (t.box b).retries = (s.box b).retries ∧ (t.box b).closing = (s.box b).closing :=
    by
    intro b
    have e1 := congrArg Box.due (k.2.1 b)
    have e2 := congrArg Box.retries (k.2.1 b)
    have e3 := congrArg Box.closing (k.2.1 b)
    exact ⟨e1, e2, e3⟩
  simp only [Bool.and_eq_true, List.all_eq_true] at h ⊢
  obtain ⟨⟨⟨⟨⟨⟨⟨⟨⟨⟨hq, hl⟩, hy⟩, hm⟩, hbx⟩, hst⟩, hsl⟩, hdr⟩, hop⟩, hsd⟩, hit⟩ := h
  have hsd := hs hsd
  unfold State.queue State.track at hq ⊢
  rw [hw, ht, hg, hx, hc, hp, hd, hi]
  refine ⟨⟨⟨⟨⟨⟨⟨⟨⟨⟨fun n hn => ?_, hl⟩, hy⟩, hm⟩, fun b hbm => ?_⟩, hst⟩, hsl⟩, hdr⟩, hop⟩, hsd⟩, hit⟩
  · rw [hf n (by simpa using hn)]
    exact hq n hn
  · rw [(hb b).1, (hb b).2.1, (hb b).2.2]
    exact hbx b hbm

/-! ### What a command can do -/

/-- Every command ends in a next state, made by `finish` from what its body left. -/
theorem exec_finishes (c : Instr) (s : State) : ∃ b : State, exec c s = .next (finish c.time s b) := by
  cases c <;> exact ⟨_, rfl⟩

/-! ### Memory operations -/

/-- Applying one store keeps the form of the memories. -/
theorem applyStore_memOk (s : State) (x : Store) (h : s.memOk = true) : (applyStore s x).memOk = true := by
  unfold State.memOk at h ⊢
  simp only [Bool.and_eq_true] at h ⊢
  cases x with
  | dram a bs => exact ⟨⟨memWrite_wf .dram bs s.dram a h.1.1, h.1.2⟩, h.2⟩
  | flash a bs => exact ⟨⟨h.1.1, memWrite_wf .flash bs s.flash a h.1.2⟩, h.2⟩
  | flashErase lo hi => exact ⟨⟨h.1.1, memErase_wf .flash s.flash lo hi h.1.2⟩, h.2⟩
  | nor a bs => exact ⟨⟨h.1.1, h.1.2⟩, memWrite_wf .flash bs s.nor a h.2⟩
  | norErase lo hi => exact ⟨⟨h.1.1, h.1.2⟩, memErase_wf .flash s.nor lo hi h.2⟩
  | dramLost => exact ⟨⟨rfl, h.1.2⟩, h.2⟩

/-- Memory operations keep the canonical form of the memories. -/
theorem applyStores_memOk : ∀ (l : List Store) (s : State), s.memOk = true → (l.foldl applyStore s).memOk = true
  | [], _, h => h
  | x :: l, s, h => applyStores_memOk l _ (applyStore_memOk s x h)

/-- A DRAM byte that no operation touches keeps its value. -/
theorem applyStores_dram (a : Nat) : ∀ (l : List Store) (s : State), (∀ x ∈ l, x.dramHit a = false) →
    memGet .dram (l.foldl applyStore s).dram a = memGet .dram s.dram a
  | [], _, _ => rfl
  | x :: l, s, h => by
    rw [List.foldl_cons, applyStores_dram a l _ (fun y hy => h y (by simp [hy]))]
    have hx := h x (by simp)
    cases x with
    | dram b bs =>
      refine memGet_write_outside .dram bs s.dram b a ?_
      unfold Store.dramHit at hx
      simp at hx
      omega
    | dramLost => cases hx
    | _ => rfl

/-- A flash byte that no operation touches keeps its value. -/
theorem applyStores_flash (a : Nat) : ∀ (l : List Store) (s : State), (∀ x ∈ l, x.flashHit a = false) →
    memGet .flash (l.foldl applyStore s).flash a = memGet .flash s.flash a
  | [], _, _ => rfl
  | x :: l, s, h => by
    rw [List.foldl_cons, applyStores_flash a l _ (fun y hy => h y (by simp [hy]))]
    have hx := h x (by simp)
    unfold Store.flashHit at hx
    cases x with
    | flash b bs =>
      refine memGet_write_outside .flash bs s.flash b a ?_
      simp at hx
      omega
    | flashErase lo hi =>
      show memGet .flash (memErase s.flash lo hi) a = _
      simp at hx
      rw [memGet_erase, if_pos (by omega)]
    | _ => rfl

/-- A NOR byte that no operation touches keeps its value. -/
theorem applyStores_nor (a : Nat) : ∀ (l : List Store) (s : State), (∀ x ∈ l, x.norHit a = false) →
    memGet .flash (l.foldl applyStore s).nor a = memGet .flash s.nor a
  | [], _, _ => rfl
  | x :: l, s, h => by
    rw [List.foldl_cons, applyStores_nor a l _ (fun y hy => h y (by simp [hy]))]
    have hx := h x (by simp)
    unfold Store.norHit at hx
    cases x with
    | nor b bs =>
      refine memGet_write_outside .flash bs s.nor b a ?_
      simp at hx
      omega
    | norErase lo hi =>
      show memGet .flash (memErase s.nor lo hi) a = _
      simp at hx
      rw [memGet_erase, if_pos (by omega)]
    | _ => rfl

/-- A command leaves the memories in their canonical form. -/
theorem finish_memOk (t : Ps) (s b : State) (h : s.memOk = true) : (finish t s b).memOk = true :=
  applyStores_memOk b.stores { s with out := [] } h

/-- A command leaves a DRAM byte outside its stores alone. -/
theorem finish_dram (t : Ps) (s b : State) (a : Nat) (h : ∀ x ∈ b.stores, x.dramHit a = false) :
    memGet .dram (finish t s b).dram a = memGet .dram s.dram a := applyStores_dram a b.stores { s with out := [] } h

/-- A command leaves a flash byte outside its stores alone. -/
theorem finish_flash (t : Ps) (s b : State) (a : Nat) (h : ∀ x ∈ b.stores, x.flashHit a = false) :
    memGet .flash (finish t s b).flash a = memGet .flash s.flash a := applyStores_flash a b.stores { s with out := [] } h

/-- A command leaves a NOR byte outside its stores alone. -/
theorem finish_nor (t : Ps) (s b : State) (a : Nat) (h : ∀ x ∈ b.stores, x.norHit a = false) :
    memGet .flash (finish t s b).nor a = memGet .flash s.nor a := applyStores_nor a b.stores { s with out := [] } h

/-- The bytes of a store read back. -/
theorem memBytes_write (k : MemKind) (m : Memory) (a : Nat) (l : List Byte) : memBytes k (memWrite k m a l) a l.length = l := by
  have : ∀ (n o : Nat), o + n = l.length → memBytes k (memWrite k m a l) (a + o) n = l.drop o := by
    intro n
    induction n with
    | zero => intro o ho; rw [List.drop_eq_nil_of_le (by omega)]; rfl
    | succ n ih =>
      intro o ho
      rw [memBytes, memGet_write_inside k l m a o (by omega), Nat.add_assoc, ih (o + 1) (by omega)]
      exact (List.drop_eq_getElem_cons (by omega)).symm
  exact this l.length 0 (by omega)

/-- A value spelled in n bytes has n bytes. -/
theorem leBytes_length : ∀ (n v : Nat), (leBytes n v).length = n
  | 0, _ => rfl
  | n + 1, v => by rw [leBytes, List.length_cons, leBytes_length n]

theorem State.openPages_dmc : ∀ (us : List Nat) (s : State), ∃ d, s.openPages us = { s with dmc := d }
  | [], s => ⟨s.dmc, rfl⟩
  | u :: us, s => by
    obtain ⟨d, h⟩ := State.openPages_dmc us (([u] : List Nat).foldl (fun s u =>
      let p := s.placeOf (64 * u)
      s.setCtl p.ctl { s.ctl p.ctl with pages := tblPut 0 (s.ctl p.ctl).pages p.bankIx (p.row + 1) }) s)
    exact ⟨d, h⟩

theorem State.cacheWritten_cache : ∀ (us : List Nat) (s : State), ∃ c, s.cacheWritten us = { s with frg := { s.frg with cache := c } }
  | [], s => ⟨s.frg.cache, rfl⟩
  | u :: us, s => by
    by_cases hc : s.frg.pins.contains u = true ∨ (!s.cached u) = true
    · obtain ⟨c, h⟩ := State.cacheWritten_cache us s
      refine ⟨c, ?_⟩
      rw [← h]
      unfold State.cacheWritten
      rw [List.foldl_cons, if_pos hc]
    · obtain ⟨c, h⟩ := State.cacheWritten_cache us { s with frg := { s.frg with
        cache := tblPut [] s.frg.cache (cacheSet u) ((s.cacheLine (cacheSet u)).filter (· ≠ u)) } }
      refine ⟨c, Eq.trans ?_ h⟩
      unfold State.cacheWritten
      rw [List.foldl_cons, if_neg hc]

/-- A place is behind controller 0 or 1. -/
theorem dramPlace_ctl (map wc wr wk a : Nat) : (dramPlace map wc wr wk a).ctl < 2 := by
  have e : (dramPlace map wc wr wk a).ctl = bits a 8 8 ^^^ bits a 13 13 ^^^ bits a 21 21 := by
    unfold dramPlace
    dsimp only
    split
    · rfl
    · split <;> rfl
  have hb : ∀ k, bits a k k < 2 ^ 1 := fun k => by
    unfold bits
    rw [Nat.add_sub_cancel_left]
    exact Nat.mod_lt _ (by decide)
  rw [e]
  exact Nat.xor_lt_two_pow (Nat.xor_lt_two_pow (hb 8) (hb 13)) (hb 21)

/-- With both controllers READY and none stalled every request is served. -/
theorem State.dramServing_ready (s : State) (r : DramReq) (h : s.dramReady = true) : s.dramServing r = true := by
  unfold State.dramReady at h
  rw [Bool.and_eq_true] at h
  unfold State.dramServing State.banksOf
  rw [List.all_eq_true]
  intro b hb
  obtain ⟨u, -, rfl⟩ := List.mem_map.1 (List.mem_eraseDups.1 hb)
  have := dramPlace_ctl s.dmcMap (s.get (F.DMC_MODULE_COL_BITS 0)) (s.get (F.DMC_MODULE_ROW_BITS 0))
    (if s.get (F.DMC_MODULE_RANKS 0) = 2 then 1 else 0) (64 * u)
  show s.ctlServes (s.placeOf (64 * u)).ctl = true
  unfold State.placeOf
  generalize (dramPlace _ _ _ _ _).ctl = c at this
  rcases c with _ | _ | c
  · exact h.1
  · exact h.2
  · omega

/-- A request that waits alone is served at once. -/
theorem State.dramSettle_alone (s : State) (r : DramReq) (hr : r.commanded = false) (h : s.dramReady = true) (hd : s.dreq = [r]) :
    s.dramSettle = ({ s with dreq := [] } : State).dramServe r := by
  have hf : s.dramFree 0 = true := by
    unfold State.dramFree
    rw [hd]
    show (s.dramServing r && !(s.dramBarred [r] 0)) = true
    rw [State.dramServing_ready s r h]
    simp [State.dramBarred, State.dramRanks]
  unfold State.dramSettle
  rw [hd]
  show s.dramRun 1 = _
  unfold State.dramRun
  rw [show (List.range s.dreq.length).find? (fun i => (s.dreq[i]?).any (fun r => !r.commanded) && s.dramFree i) = some 0 by
    rw [hd]; simp [List.range_succ, hr, hf]]
  show (s.dramTake 0).dramRun 0 = _
  unfold State.dramTake State.dramRun
  rw [hd]
  rfl

/-! ### Guarded registers -/

/-- The registers that take guarded pairs (R17). -/
def guardedIds : List RegId := [.SYS_MODE_REQ, .SYS_RESET_REQ, .WQ_FLUSH, .FRG_LAYOUT_OP, .NZC_OP, .STG_LANE_OP, .DPX_CO_REQ, .LDG_RESEAL, .CMP_TIME_OP, .IZX_PORT_OP, .IZX_BOX_OP, .CFG_PLANE_SEL, .CFG_STAGE_OP, .CFG_SCENE_OP, .FLC_CMD, .DMC_FREQ_OP, .CLK_PLL_OP, .PWR_RET_RELEASE, .PWR_OP, .LCY_TRANSITION, .LCY_DEBUG_OP, .LCY_KEY_OP, .CLK_DOM_OP]

/-- Every guarded register is wide, has no read effect, and has an effect of its own. -/
theorem wg_rows : regRows.all (fun r => !r.wg || (r.wide && r.rc == 0 && decide (r.rw < 2 ^ 32) && guardedIds.contains r.id)) = true := by decide +kernel

/-- A register found stands in the register map. -/
theorem findReg_row {a : Nat} {r : RegAt} (h : findReg a = some r) : r.row ∈ regRows := by
  obtain ⟨w, hw, he⟩ := List.exists_of_findSome?_eq_some h
  have hrow : ∀ x, w.at? a = some x → x.row = w := by
    intro x hx
    unfold RegRow.at? at hx
    dsimp only at hx
    by_cases h1 : a < w.base
    · rw [if_pos h1] at hx
      exact absurd hx (by simp)
    · rw [if_neg h1] at hx
      by_cases h2 : (if w.s1 = 0 then 0 else (a - w.base) / w.s1) < w.n1 ∧
          (if w.s2 = 0 then 0 else (if w.s1 = 0 then a - w.base else (a - w.base) % w.s1) / w.s2) < w.n2 ∧
          ((if w.s2 = 0 then (if w.s1 = 0 then a - w.base else (a - w.base) % w.s1)
            else (if w.s1 = 0 then a - w.base else (a - w.base) % w.s1) % w.s2) = 0 ∨
          (w.wide = true ∧ (if w.s2 = 0 then (if w.s1 = 0 then a - w.base else (a - w.base) % w.s1)
            else (if w.s1 = 0 then a - w.base else (a - w.base) % w.s1) % w.s2) = 4))
      · rw [if_pos h2] at hx
        exact (Option.some.inj hx) ▸ rfl
      · rw [if_neg h2] at hx
        exact absurd hx (by simp)
  rw [hrow r he]
  exact hw

/-- What the register map says of a guarded register. -/
theorem wg_facts {a : Nat} {r : RegAt} (h : findReg a = some r) (hg : r.row.wg = true) :
    r.row.wide = true ∧ r.row.rc = 0 ∧ r.row.rw < 2 ^ 32 ∧ r.row.id ∈ guardedIds := by
  have := List.all_eq_true.1 wg_rows _ (findReg_row h)
  simpa [hg, and_assoc] using this

/-- A guarded register reads as the pair of its value (R18). -/
theorem readWhole_wg (u : State) {a : Nat} {r : RegAt} (h : findReg a = some r) (hg : r.row.wg = true) :
    u.readWhole r = (u, guardPair (u.regAt r.addr r.reset)) := by
  have hid := (wg_facts h hg).2.2.2
  unfold State.readWhole
  rw [State.seen_plain u r (wg_facts h hg).2.1]
  unfold State.live
  unfold guardedIds at hid
  simp only [List.mem_cons, List.not_mem_nil, or_false] at hid
  rw [hg]
  rcases hid with e | e | e | e | e | e | e | e | e | e | e | e | e | e | e | e | e | e | e | e | e | e | e <;> rw [e] <;> rfl

/-- A 32-bit access to an empty address (R12). -/
theorem State.access32_empty (s : State) (m : Master) {a : Nat} (d : Option Nat) (h : findReg a = none) :
    s.access32 m a d = (s.raise Ev.SYS_DECODE_FAULT, 0, 1) := by
  unfold State.access32
  rw [h]

/-- A 64-bit access to two empty halves (R12, R767). -/
theorem State.access64_empty (s : State) (m : Master) {a : Nat} (d : Option Nat) (h : findReg a = none) (h4 : findReg (a + 4) = none) :
    s.access64 m a d = ((s.raise Ev.SYS_DECODE_FAULT).raise Ev.SYS_DECODE_FAULT, 0, 1) := by
  unfold State.access64
  rw [h]
  show State.access64.halves m a d s = _
  unfold State.access64.halves
  simp only [State.access32_empty s m _ h, State.access32_empty _ m _ h4, Nat.zero_mul, Nat.add_zero, true_or, if_true]

/-! ### Commands in a calm state -/

/-- In a calm state a command is carried out as its row says, and only that. -/
theorem calm_exec {c : Instr} {G : State → Prop} {E : State → State} (h : Runs c G E) (s : State) (hh : s.sys.held = false)
    (hg : G (begin c.time s)) (hc : (E (begin c.time s)).calm = true) : exec c s = .next (finish c.time s (E (begin c.time s))) := by
  rw [h s hh hg]
  unfold settled
  rw [State.settle_calm _ hc]

/-- Writing a register field away from the ceiling waits keeps a state calm. -/
theorem calm_put {s : State} (f : Fld) (x : Nat) (h : s.calm = true) (hf : ∀ n < 16, (F.WQ_STATUS_CEILING_WAIT n).addr ≠ f.addr)
    (h1 : f.addr ≠ 0x100) (h2 : f.addr ≠ 0xC0008) : (s.put f x).calm = true := by
  have e : ∀ n < 16, (s.put f x).flag (F.WQ_STATUS_CEILING_WAIT n) = s.flag (F.WQ_STATUS_CEILING_WAIT n) := by
    intro n hn
    unfold State.flag
    rw [State.get_put_ne _ _ _ _ (hf n hn)]
  have hx : s.dpxSteady = true → (s.put f x).dpxSteady = true :=
    State.dpxSteady_of rfl rfl (State.get_put_ne _ _ _ _ (Ne.symm h1)) (State.get_put_ne _ _ _ _ (Ne.symm h2))
      (State.get_put_ne _ _ _ _ (Ne.symm h2)) (State.get_put_ne _ _ _ _ (Ne.symm h2))
  unfold State.calm State.still at h ⊢
  simp only [Bool.and_eq_true, List.all_eq_true] at h ⊢
  obtain ⟨⟨⟨⟨⟨⟨⟨⟨⟨⟨⟨hq, hl⟩, hy⟩, hc⟩, hb⟩, hg⟩, hp⟩, hd⟩, ho⟩, hs⟩, hit⟩, hev⟩ := h
  refine ⟨⟨⟨⟨⟨⟨⟨⟨⟨⟨⟨fun n hn => ?_, hl⟩, hy⟩, hc⟩, hb⟩, hg⟩, hp⟩, hd⟩, ho⟩, hx hs⟩, hit⟩, hev⟩
  rw [e n (by simpa using hn)]
  exact hq n hn

end Sys2Proof.Machine
end

