-- ==== Sys2Proof/Laws/PerInstr.lean ====
section
/-! SUPPORT. Statements about every command as syntax, one lemma per constructor. -/

/-- A command carries one instant: there is a form of it at every instant, its own among them, and no operand check depends on
the instant. -/
def Sys2Proof.Laws.Timed.Statement (i : Sys2Proof.Instr) : Prop :=
  ∃ f : Nat → Sys2Proof.Instr, f i.time = i ∧ ∀ u : Nat, (f u).time = u ∧ (f u).wellFormed = i.wellFormed

set_option Elab.async false

namespace Sys2Proof.Laws.Timed

open Sys2Proof Sys2Proof.Machine

theorem registerWrite (a : Access) (t : Nat) :
    Statement (.registerWrite a t) :=
  ⟨fun uu => .registerWrite a uu, rfl, fun _ => ⟨rfl, rfl⟩⟩

theorem sysDecodeFault (a : Access) (t : Nat) :
    Statement (.sysDecodeFault a t) :=
  ⟨fun uu => .sysDecodeFault a uu, rfl, fun _ => ⟨rfl, rfl⟩⟩

theorem evtPinPulseEnd (k : Fin 8) (t : Nat) :
    Statement (.evtPinPulseEnd k t) :=
  ⟨fun uu => .evtPinPulseEnd k uu, rfl, fun _ => ⟨rfl, rfl⟩⟩

theorem powerOn (refSel : Nat) (banks : List (Nat × Nat)) (holdup : Bool) (t : Nat) :
    Statement (.powerOn refSel banks holdup t) :=
  ⟨fun uu => .powerOn refSel banks holdup uu, rfl, fun _ => ⟨rfl, rfl⟩⟩

theorem brownOut (aonKept : Bool) (t : Nat) :
    Statement (.brownOut aonKept t) :=
  ⟨fun uu => .brownOut aonKept uu, rfl, fun _ => ⟨rfl, rfl⟩⟩

theorem pinReset (t : Nat) :
    Statement (.pinReset t) :=
  ⟨fun uu => .pinReset uu, rfl, fun _ => ⟨rfl, rfl⟩⟩

theorem stageManagerWatchdog (t : Nat) :
    Statement (.stageManagerWatchdog t) :=
  ⟨fun uu => .stageManagerWatchdog uu, rfl, fun _ => ⟨rfl, rfl⟩⟩

theorem supplyEarlyWarning (cut : Bool) (t : Nat) :
    Statement (.supplyEarlyWarning cut t) :=
  ⟨fun uu => .supplyEarlyWarning cut uu, rfl, fun _ => ⟨rfl, rfl⟩⟩

theorem earlyWarningClear (t : Nat) :
    Statement (.earlyWarningClear t) :=
  ⟨fun uu => .earlyWarningClear uu, rfl, fun _ => ⟨rfl, rfl⟩⟩

theorem phaseTrim (fault : Bool) (keyBad : Nat) (tableBad : Bool) (ext : Bool) (t : Nat) :
    Statement (.phaseTrim fault keyBad tableBad ext t) :=
  ⟨fun uu => .phaseTrim fault keyBad tableBad ext uu, rfl, fun _ => ⟨rfl, rfl⟩⟩

theorem phaseLife (t : Nat) :
    Statement (.phaseLife t) :=
  ⟨fun uu => .phaseLife uu, rfl, fun _ => ⟨rfl, rfl⟩⟩

theorem phaseSelect (t : Nat) :
    Statement (.phaseSelect t) :=
  ⟨fun uu => .phaseSelect uu, rfl, fun _ => ⟨rfl, rfl⟩⟩

theorem phaseClocks (t : Nat) :
    Statement (.phaseClocks t) :=
  ⟨fun uu => .phaseClocks uu, rfl, fun _ => ⟨rfl, rfl⟩⟩

theorem clkLockFail (k : Fin 8) (t : Nat) :
    Statement (.clkLockFail k t) :=
  ⟨fun uu => .clkLockFail k uu, rfl, fun _ => ⟨rfl, rfl⟩⟩

theorem phasePlane (valid : Bool) (drivers : Option Contend) (trees : List Nat) (t : Nat) :
    Statement (.phasePlane valid drivers trees t) :=
  ⟨fun uu => .phasePlane valid drivers trees uu, rfl, fun _ => ⟨rfl, rfl⟩⟩

theorem phaseDram (m0 : Dimm) (m1 : Dimm) (t : Nat) :
    Statement (.phaseDram m0 m1 t) :=
  ⟨fun uu => .phaseDram m0 m1 uu, rfl, fun _ => ⟨rfl, rfl⟩⟩

theorem phasePrompt (mute : Nat) (t : Nat) :
    Statement (.phasePrompt mute t) :=
  ⟨fun uu => .phasePrompt mute uu, rfl, fun _ => ⟨rfl, rfl⟩⟩

theorem phaseJoin (aonBad : Nat) (t : Nat) :
    Statement (.phaseJoin aonBad t) :=
  ⟨fun uu => .phaseJoin aonBad uu, rfl, fun _ => ⟨rfl, rfl⟩⟩

theorem cmpJoinLate (t : Nat) :
    Statement (.cmpJoinLate t) :=
  ⟨fun uu => .cmpJoinLate uu, rfl, fun _ => ⟨rfl, rfl⟩⟩

theorem duplexRoleTimeout (t : Nat) :
    Statement (.duplexRoleTimeout t) :=
  ⟨fun uu => .duplexRoleTimeout uu, rfl, fun _ => ⟨rfl, rfl⟩⟩

theorem phaseArm (t : Nat) :
    Statement (.phaseArm t) :=
  ⟨fun uu => .phaseArm uu, rfl, fun _ => ⟨rfl, rfl⟩⟩

theorem callContinue (m : Master) (stop : Bool) (t : Nat) :
    Statement (.callContinue m stop t) :=
  ⟨fun uu => .callContinue m stop uu, rfl, fun _ => ⟨rfl, rfl⟩⟩

theorem retryPrompt (m : Master) (stop : Bool) (t : Nat) :
    Statement (.retryPrompt m stop t) :=
  ⟨fun uu => .retryPrompt m stop uu, rfl, fun _ => ⟨rfl, rfl⟩⟩

theorem modeReqRehearsal (m : Master) (t : Nat) :
    Statement (.modeReqRehearsal m t) :=
  ⟨fun uu => .modeReqRehearsal m uu, rfl, fun _ => ⟨rfl, rfl⟩⟩

theorem modeReqPerformance (m : Master) (t : Nat) :
    Statement (.modeReqPerformance m t) :=
  ⟨fun uu => .modeReqPerformance m uu, rfl, fun _ => ⟨rfl, rfl⟩⟩

theorem modeReqUnderstudy (m : Master) (t : Nat) :
    Statement (.modeReqUnderstudy m t) :=
  ⟨fun uu => .modeReqUnderstudy m uu, rfl, fun _ => ⟨rfl, rfl⟩⟩

theorem modeReqInterval (m : Master) (t : Nat) :
    Statement (.modeReqInterval m t) :=
  ⟨fun uu => .modeReqInterval m uu, rfl, fun _ => ⟨rfl, rfl⟩⟩

theorem modeReqService (m : Master) (t : Nat) :
    Statement (.modeReqService m t) :=
  ⟨fun uu => .modeReqService m uu, rfl, fun _ => ⟨rfl, rfl⟩⟩

theorem resetReqPrintPath (m : Master) (t : Nat) :
    Statement (.resetReqPrintPath m t) :=
  ⟨fun uu => .resetReqPrintPath m uu, rfl, fun _ => ⟨rfl, rfl⟩⟩

theorem resetReqWarm (m : Master) (t : Nat) :
    Statement (.resetReqWarm m t) :=
  ⟨fun uu => .resetReqWarm m uu, rfl, fun _ => ⟨rfl, rfl⟩⟩

theorem resetReqCold (m : Master) (t : Nat) :
    Statement (.resetReqCold m t) :=
  ⟨fun uu => .resetReqCold m uu, rfl, fun _ => ⟨rfl, rfl⟩⟩

theorem printPathReset (aonBad : Nat) (t : Nat) :
    Statement (.printPathReset aonBad t) :=
  ⟨fun uu => .printPathReset aonBad uu, rfl, fun _ => ⟨rfl, rfl⟩⟩

theorem warmReset (t : Nat) :
    Statement (.warmReset t) :=
  ⟨fun uu => .warmReset uu, rfl, fun _ => ⟨rfl, rfl⟩⟩

theorem coldReset (t : Nat) :
    Statement (.coldReset t) :=
  ⟨fun uu => .coldReset uu, rfl, fun _ => ⟨rfl, rfl⟩⟩

theorem curtainWindow (n : Fin 16) (t : Nat) :
    Statement (.curtainWindow n t) :=
  ⟨fun uu => .curtainWindow n uu, rfl, fun _ => ⟨rfl, rfl⟩⟩

theorem trkConfigWrite (m : Master) (n : Fin 16) (r : Fin 12) (v : Nat) (t : Nat) :
    Statement (.trkConfigWrite m n r v t) :=
  ⟨fun uu => .trkConfigWrite m n r v uu, rfl, fun _ => ⟨rfl, rfl⟩⟩

theorem trkSchedWrite (m : Master) (n : Fin 16) (v : Nat) (t : Nat) :
    Statement (.trkSchedWrite m n v t) :=
  ⟨fun uu => .trkSchedWrite m n v uu, rfl, fun _ => ⟨rfl, rfl⟩⟩

theorem positionLowHalfRead (m : Master) (n : Fin 16) (r : Fin 3) (t : Nat) :
    Statement (.positionLowHalfRead m n r t) :=
  ⟨fun uu => .positionLowHalfRead m n r uu, rfl, fun _ => ⟨rfl, rfl⟩⟩

theorem encoderEdge (n : Sampled) (aLeads : Bool) (t : Nat) :
    Statement (.encoderEdge n aLeads t) :=
  ⟨fun uu => .encoderEdge n aLeads uu, rfl, fun _ => ⟨rfl, rfl⟩⟩

theorem illegalQuadTransition (n : Sampled) (t : Nat) :
    Statement (.illegalQuadTransition n t) :=
  ⟨fun uu => .illegalQuadTransition n uu, rfl, fun _ => ⟨rfl, rfl⟩⟩

theorem zEdge (n : Sampled) (t : Nat) :
    Statement (.zEdge n t) :=
  ⟨fun uu => .zEdge n uu, rfl, fun _ => ⟨rfl, rfl⟩⟩

theorem synthTimeout (n : Fin 16) (t : Nat) :
    Statement (.synthTimeout n t) :=
  ⟨fun uu => .synthTimeout n uu, rfl, fun _ => ⟨rfl, rfl⟩⟩

theorem trkCoastEnd (n : Fin 16) (t : Nat) :
    Statement (.trkCoastEnd n t) :=
  ⟨fun uu => .trkCoastEnd n uu, rfl, fun _ => ⟨rfl, rfl⟩⟩

theorem cueTransition (n : Sampled) (k : Fin 8) (level : Bool) (t : Nat) :
    Statement (.cueTransition n k level t) :=
  ⟨fun uu => .cueTransition n k level uu, rfl, fun _ => ⟨rfl, rfl⟩⟩

theorem cueEventRecognised (n : Fin 16) (k : Fin 8) (t : Nat) :
    Statement (.cueEventRecognised n k t) :=
  ⟨fun uu => .cueEventRecognised n k uu, rfl, fun _ => ⟨rfl, rfl⟩⟩

theorem lineAnnounce (n : Fin 16) (t : Nat) :
    Statement (.lineAnnounce n t) :=
  ⟨fun uu => .lineAnnounce n uu, rfl, fun _ => ⟨rfl, rfl⟩⟩

theorem fireInstant (n : Fin 16) (t : Nat) :
    Statement (.fireInstant n t) :=
  ⟨fun uu => .fireInstant n uu, rfl, fun _ => ⟨rfl, rfl⟩⟩

theorem itemSubmit (p : Fin 2) (b : Fin 15) (seq : Nat) (payload : List Byte) (t : Nat) :
    Statement (.itemSubmit p b seq payload t) :=
  ⟨fun uu => .itemSubmit p b seq payload uu, rfl, fun _ => ⟨rfl, rfl⟩⟩

theorem itemBatch (p : Fin 2) (b : Fin 15) (seq : Nat) (payload : List Byte) (t : Nat) :
    Statement (.itemBatch p b seq payload t) :=
  ⟨fun uu => .itemBatch p b seq payload uu, rfl, fun _ => ⟨rfl, rfl⟩⟩

theorem itemPortRecord (seq : Nat) (payload : List Byte) (t : Nat) :
    Statement (.itemPortRecord seq payload t) :=
  ⟨fun uu => .itemPortRecord seq payload uu, rfl, fun _ => ⟨rfl, rfl⟩⟩

theorem frgVdSerialWait (n : Fin 16) (t : Nat) :
    Statement (.frgVdSerialWait n t) :=
  ⟨fun uu => .frgVdSerialWait n uu, rfl, fun _ => ⟨rfl, rfl⟩⟩

theorem queueRecordWritten (n : Fin 16) (t : Nat) :
    Statement (.queueRecordWritten n t) :=
  ⟨fun uu => .queueRecordWritten n uu, rfl, fun _ => ⟨rfl, rfl⟩⟩

theorem retryHoldExpiry (n : Fin 16) (t : Nat) :
    Statement (.retryHoldExpiry n t) :=
  ⟨fun uu => .retryHoldExpiry n uu, rfl, fun _ => ⟨rfl, rfl⟩⟩

theorem preComposeDone (n : Fin 16) (id : Nat) (t : Nat) :
    Statement (.preComposeDone n id t) :=
  ⟨fun uu => .preComposeDone n id uu, rfl, fun _ => ⟨rfl, rfl⟩⟩

theorem flushAfterHead (m : Master) (n : Fin 16) (t : Nat) :
    Statement (.flushAfterHead m n t) :=
  ⟨fun uu => .flushAfterHead m n uu, rfl, fun _ => ⟨rfl, rfl⟩⟩

theorem flushIncludingHead (m : Master) (n : Fin 16) (t : Nat) :
    Statement (.flushIncludingHead m n t) :=
  ⟨fun uu => .flushIncludingHead m n uu, rfl, fun _ => ⟨rfl, rfl⟩⟩

theorem retryHoldRelease (m : Master) (n : Fin 16) (t : Nat) :
    Statement (.retryHoldRelease m n t) :=
  ⟨fun uu => .retryHoldRelease m n uu, rfl, fun _ => ⟨rfl, rfl⟩⟩

theorem forgeLineStart (k : Fin 8) (t : Nat) :
    Statement (.forgeLineStart k t) :=
  ⟨fun uu => .forgeLineStart k uu, rfl, fun _ => ⟨rfl, rfl⟩⟩

theorem lineComposed (k : Fin 8) (back : List TapReturn) (badEntries : List Nat) (badSets : List (Bool × Nat)) (badDelay : List Nat) (corrected : Nat) (t : Nat) :
    Statement (.lineComposed k back badEntries badSets badDelay corrected t) :=
  ⟨fun uu => .lineComposed k back badEntries badSets badDelay corrected uu, rfl, fun _ => ⟨rfl, rfl⟩⟩

theorem lineHanded (n : Fin 16) (t : Nat) :
    Statement (.lineHanded n t) :=
  ⟨fun uu => .lineHanded n uu, rfl, fun _ => ⟨rfl, rfl⟩⟩

theorem forgeParityError (k : Fin 8) (t : Nat) :
    Statement (.forgeParityError k t) :=
  ⟨fun uu => .forgeParityError k uu, rfl, fun _ => ⟨rfl, rfl⟩⟩

theorem frgCacheParity (t : Nat) :
    Statement (.frgCacheParity t) :=
  ⟨fun uu => .frgCacheParity uu, rfl, fun _ => ⟨rfl, rfl⟩⟩

theorem lineDeadline (n : Fin 16) (read : Bool) (t : Nat) :
    Statement (.lineDeadline n read t) :=
  ⟨fun uu => .lineDeadline n read uu, rfl, fun _ => ⟨rfl, rfl⟩⟩

theorem frgDlPop (m : Master) (t : Nat) :
    Statement (.frgDlPop m t) :=
  ⟨fun uu => .frgDlPop m uu, rfl, fun _ => ⟨rfl, rfl⟩⟩

theorem layoutInstall (m : Master) (track : Fin 16) (id : Nat) (t : Nat) :
    Statement (.layoutInstall m track id t) :=
  ⟨fun uu => .layoutInstall m track id uu, rfl, fun _ => ⟨rfl, rfl⟩⟩

theorem layoutReplace (m : Master) (track : Fin 16) (id : Nat) (t : Nat) :
    Statement (.layoutReplace m track id t) :=
  ⟨fun uu => .layoutReplace m track id uu, rfl, fun _ => ⟨rfl, rfl⟩⟩

theorem layoutRemove (m : Master) (track : Fin 16) (id : Nat) (t : Nat) :
    Statement (.layoutRemove m track id t) :=
  ⟨fun uu => .layoutRemove m track id uu, rfl, fun _ => ⟨rfl, rfl⟩⟩

theorem layoutOpComplete (t : Nat) :
    Statement (.layoutOpComplete t) :=
  ⟨fun uu => .layoutOpComplete uu, rfl, fun _ => ⟨rfl, rfl⟩⟩

theorem frgBudgetWrite (m : Master) (v : Nat) (t : Nat) :
    Statement (.frgBudgetWrite m v t) :=
  ⟨fun uu => .frgBudgetWrite m v uu, rfl, fun _ => ⟨rfl, rfl⟩⟩

theorem frgCtrlWrite (m : Master) (v : Nat) (t : Nat) :
    Statement (.frgCtrlWrite m v t) :=
  ⟨fun uu => .frgCtrlWrite m v uu, rfl, fun _ => ⟨rfl, rfl⟩⟩

theorem frgCacheCfgWrite (m : Master) (v : Nat) (t : Nat) :
    Statement (.frgCacheCfgWrite m v t) :=
  ⟨fun uu => .frgCacheCfgWrite m v uu, rfl, fun _ => ⟨rfl, rfl⟩⟩

theorem frgTapCtrlWrite (m : Master) (k : Fin 8) (v : Nat) (t : Nat) :
    Statement (.frgTapCtrlWrite m k v t) :=
  ⟨fun uu => .frgTapCtrlWrite m k v uu, rfl, fun _ => ⟨rfl, rfl⟩⟩

theorem layoutRebuildDone (t : Nat) :
    Statement (.layoutRebuildDone t) :=
  ⟨fun uu => .layoutRebuildDone uu, rfl, fun _ => ⟨rfl, rfl⟩⟩

theorem vdOpToWord (m : Master) (vector : Fin 128) (t : Nat) :
    Statement (.vdOpToWord m vector t) :=
  ⟨fun uu => .vdOpToWord m vector uu, rfl, fun _ => ⟨rfl, rfl⟩⟩

theorem vdOpToBin (m : Master) (vector : Fin 128) (t : Nat) :
    Statement (.vdOpToBin m vector t) :=
  ⟨fun uu => .vdOpToBin m vector uu, rfl, fun _ => ⟨rfl, rfl⟩⟩

theorem vdOpAdd (m : Master) (vector : Fin 128) (t : Nat) :
    Statement (.vdOpAdd m vector t) :=
  ⟨fun uu => .vdOpAdd m vector uu, rfl, fun _ => ⟨rfl, rfl⟩⟩

theorem vdOpCompare (m : Master) (vector : Fin 128) (t : Nat) :
    Statement (.vdOpCompare m vector t) :=
  ⟨fun uu => .vdOpCompare m vector uu, rfl, fun _ => ⟨rfl, rfl⟩⟩

theorem vdOpDone (t : Nat) :
    Statement (.vdOpDone t) :=
  ⟨fun uu => .vdOpDone uu, rfl, fun _ => ⟨rfl, rfl⟩⟩

theorem frgVdCntWrite (m : Master) (k : Fin 64) (w : Fin 3) (v : Nat) (t : Nat) :
    Statement (.frgVdCntWrite m k w v t) :=
  ⟨fun uu => .frgVdCntWrite m k w v uu, rfl, fun _ => ⟨rfl, rfl⟩⟩

theorem nzcOpCopy (m : Master) (t : Nat) :
    Statement (.nzcOpCopy m t) :=
  ⟨fun uu => .nzcOpCopy m uu, rfl, fun _ => ⟨rfl, rfl⟩⟩

theorem nzcOpLoad (m : Master) (t : Nat) :
    Statement (.nzcOpLoad m t) :=
  ⟨fun uu => .nzcOpLoad m uu, rfl, fun _ => ⟨rfl, rfl⟩⟩

theorem nzcLoadDone (t : Nat) :
    Statement (.nzcLoadDone t) :=
  ⟨fun uu => .nzcLoadDone uu, rfl, fun _ => ⟨rfl, rfl⟩⟩

theorem nzcOpPrepare (m : Master) (t : Nat) :
    Statement (.nzcOpPrepare m t) :=
  ⟨fun uu => .nzcOpPrepare m uu, rfl, fun _ => ⟨rfl, rfl⟩⟩

theorem nzcPrepareDone (ecc : Option Nat) (t : Nat) :
    Statement (.nzcPrepareDone ecc t) :=
  ⟨fun uu => .nzcPrepareDone ecc uu, rfl, fun _ => ⟨rfl, rfl⟩⟩

theorem nzcOpSwapLine (m : Master) (t : Nat) :
    Statement (.nzcOpSwapLine m t) :=
  ⟨fun uu => .nzcOpSwapLine m uu, rfl, fun _ => ⟨rfl, rfl⟩⟩

theorem nzcOpSwapCurtain (m : Master) (t : Nat) :
    Statement (.nzcOpSwapCurtain m t) :=
  ⟨fun uu => .nzcOpSwapCurtain m uu, rfl, fun _ => ⟨rfl, rfl⟩⟩

theorem nzcSwapped (t : Nat) :
    Statement (.nzcSwapped t) :=
  ⟨fun uu => .nzcSwapped uu, rfl, fun _ => ⟨rfl, rfl⟩⟩

theorem nzcPatchEntry (m : Master) (v : Nat) (t : Nat) :
    Statement (.nzcPatchEntry m v t) :=
  ⟨fun uu => .nzcPatchEntry m v uu, rfl, fun _ => ⟨rfl, rfl⟩⟩

theorem nzcMapRestored (t : Nat) :
    Statement (.nzcMapRestored t) :=
  ⟨fun uu => .nzcMapRestored uu, rfl, fun _ => ⟨rfl, rfl⟩⟩

theorem laneDetect (x : LaneId) (t : Nat) :
    Statement (.laneDetect x t) :=
  ⟨fun uu => .laneDetect x uu, rfl, fun _ => ⟨rfl, rfl⟩⟩

theorem laneAlign (x : LaneId) (board : Nat) (window : Nat) (t : Nat) :
    Statement (.laneAlign x board window t) :=
  ⟨fun uu => .laneAlign x board window uu, rfl, fun _ => ⟨rfl, rfl⟩⟩

theorem stgLaneUp (x : LaneId) (latency : Nat) (t : Nat) :
    Statement (.stgLaneUp x latency t) :=
  ⟨fun uu => .stgLaneUp x latency uu, rfl, fun _ => ⟨rfl, rfl⟩⟩

theorem laneTrainTimeout (x : LaneId) (t : Nat) :
    Statement (.laneTrainTimeout x t) :=
  ⟨fun uu => .laneTrainTimeout x uu, rfl, fun _ => ⟨rfl, rfl⟩⟩

theorem laneAutoRetrain (x : LaneId) (t : Nat) :
    Statement (.laneAutoRetrain x t) :=
  ⟨fun uu => .laneAutoRetrain x uu, rfl, fun _ => ⟨rfl, rfl⟩⟩

theorem stgLaneDown (x : LaneId) (cause : Fin 3) (last : Nat) (t : Nat) :
    Statement (.stgLaneDown x cause last t) :=
  ⟨fun uu => .stgLaneDown x cause last uu, rfl, fun _ => ⟨rfl, rfl⟩⟩

theorem stgLaneOpRetrain (m : Master) (k : Fin 32) (t : Nat) :
    Statement (.stgLaneOpRetrain m k t) :=
  ⟨fun uu => .stgLaneOpRetrain m k uu, rfl, fun _ => ⟨rfl, rfl⟩⟩

theorem stgLaneOpTakeDown (m : Master) (k : Fin 32) (t : Nat) :
    Statement (.stgLaneOpTakeDown m k t) :=
  ⟨fun uu => .stgLaneOpTakeDown m k uu, rfl, fun _ => ⟨rfl, rfl⟩⟩

theorem stgLaneOpReturn (m : Master) (k : Fin 32) (t : Nat) :
    Statement (.stgLaneOpReturn m k t) :=
  ⟨fun uu => .stgLaneOpReturn m k uu, rfl, fun _ => ⟨rfl, rfl⟩⟩

theorem frameSend (k : Fin 32) (t : Nat) :
    Statement (.frameSend k t) :=
  ⟨fun uu => .frameSend k uu, rfl, fun _ => ⟨rfl, rfl⟩⟩

theorem fireBlockSlot (k : Fin 32) (n : Fin 16) (t : Nat) :
    Statement (.fireBlockSlot k n t) :=
  ⟨fun uu => .fireBlockSlot k n uu, rfl, fun _ => ⟨rfl, rfl⟩⟩

theorem stgCreditStall (k : Fin 32) (t : Nat) :
    Statement (.stgCreditStall k t) :=
  ⟨fun uu => .stgCreditStall k uu, rfl, fun _ => ⟨rfl, rfl⟩⟩

theorem fencePeriod (t : Nat) :
    Statement (.fencePeriod t) :=
  ⟨fun uu => .fencePeriod uu, rfl, fun _ => ⟨rfl, rfl⟩⟩

theorem creditBlock (k : Fin 32) (total : Nat) (t : Nat) :
    Statement (.creditBlock k total t) :=
  ⟨fun uu => .creditBlock k total uu, rfl, fun _ => ⟨rfl, rfl⟩⟩

theorem fenceUpFrame (k : Fin 32) (h : Fin 256) (port : Bool) (key : Nat) (missed : Nat) (t : Nat) :
    Statement (.fenceUpFrame k h port key missed t) :=
  ⟨fun uu => .fenceUpFrame k h port key missed uu, rfl, fun _ => ⟨rfl, rfl⟩⟩

theorem errorFrame (k : Fin 32) (n : Fin 16) (key : Nat) (t : Nat) :
    Statement (.errorFrame k n key t) :=
  ⟨fun uu => .errorFrame k n key uu, rfl, fun _ => ⟨rfl, rfl⟩⟩

theorem verdictFrame (k : Fin 32) (n : Fin 16) (id : Nat) (blocks : Nat) (verdict : Nat) (grade : Nat) (station : Nat) (t : Nat) :
    Statement (.verdictFrame k n id blocks verdict grade station t) :=
  ⟨fun uu => .verdictFrame k n id blocks verdict grade station uu, rfl, fun _ => ⟨rfl, rfl⟩⟩

theorem stgRxCrc (x : LaneId) (frame : Bool) (t : Nat) :
    Statement (.stgRxCrc x frame t) :=
  ⟨fun uu => .stgRxCrc x frame uu, rfl, fun _ => ⟨rfl, rfl⟩⟩

theorem verdictWindowClose (n : Fin 16) (id : Nat) (t : Nat) :
    Statement (.verdictWindowClose n id t) :=
  ⟨fun uu => .verdictWindowClose n id uu, rfl, fun _ => ⟨rfl, rfl⟩⟩

theorem rejectDecisionTimer (n : Fin 16) (id : Nat) (t : Nat) :
    Statement (.rejectDecisionTimer n id t) :=
  ⟨fun uu => .rejectDecisionTimer n id uu, rfl, fun _ => ⟨rfl, rfl⟩⟩

theorem gatePulseStart (g : Fin 32) (t : Nat) :
    Statement (.gatePulseStart g t) :=
  ⟨fun uu => .gatePulseStart g uu, rfl, fun _ => ⟨rfl, rfl⟩⟩

theorem gatePulseEnd (g : Fin 32) (t : Nat) :
    Statement (.gatePulseEnd g t) :=
  ⟨fun uu => .gatePulseEnd g uu, rfl, fun _ => ⟨rfl, rfl⟩⟩

theorem insCfgWrite (m : Master) (r : Fin 4) (k : Fin 32) (v : Nat) (t : Nat) :
    Statement (.insCfgWrite m r k v t) :=
  ⟨fun uu => .insCfgWrite m r k v uu, rfl, fun _ => ⟨rfl, rfl⟩⟩

theorem heartbeatToggle (t : Nat) :
    Statement (.heartbeatToggle t) :=
  ⟨fun uu => .heartbeatToggle uu, rfl, fun _ => ⟨rfl, rfl⟩⟩

theorem cueBurstRecognised (t : Nat) :
    Statement (.cueBurstRecognised t) :=
  ⟨fun uu => .cueBurstRecognised uu, rfl, fun _ => ⟨rfl, rfl⟩⟩

theorem leadLost (t : Nat) :
    Statement (.leadLost t) :=
  ⟨fun uu => .leadLost uu, rfl, fun _ => ⟨rfl, rfl⟩⟩

theorem dpxCueFault (t : Nat) :
    Statement (.dpxCueFault t) :=
  ⟨fun uu => .dpxCueFault uu, rfl, fun _ => ⟨rfl, rfl⟩⟩

theorem dpxIsolated (t : Nat) :
    Statement (.dpxIsolated t) :=
  ⟨fun uu => .dpxIsolated uu, rfl, fun _ => ⟨rfl, rfl⟩⟩

theorem dpxHello (seq : Nat) (ack : Nat) (payload : List Byte) (t : Nat) :
    Statement (.dpxHello seq ack payload t) :=
  ⟨fun uu => .dpxHello seq ack payload uu, rfl, fun _ => ⟨rfl, rfl⟩⟩

theorem dpxState (seq : Nat) (ack : Nat) (payload : List Byte) (t : Nat) :
    Statement (.dpxState seq ack payload t) :=
  ⟨fun uu => .dpxState seq ack payload uu, rfl, fun _ => ⟨rfl, rfl⟩⟩

theorem dpxItem (seq : Nat) (ack : Nat) (payload : List Byte) (t : Nat) :
    Statement (.dpxItem seq ack payload t) :=
  ⟨fun uu => .dpxItem seq ack payload uu, rfl, fun _ => ⟨rfl, rfl⟩⟩

theorem dpxCommitAck (seq : Nat) (ack : Nat) (payload : List Byte) (t : Nat) :
    Statement (.dpxCommitAck seq ack payload t) :=
  ⟨fun uu => .dpxCommitAck seq ack payload uu, rfl, fun _ => ⟨rfl, rfl⟩⟩

theorem dpxAccession (seq : Nat) (ack : Nat) (payload : List Byte) (t : Nat) :
    Statement (.dpxAccession seq ack payload t) :=
  ⟨fun uu => .dpxAccession seq ack payload uu, rfl, fun _ => ⟨rfl, rfl⟩⟩

theorem dpxLease (seq : Nat) (ack : Nat) (payload : List Byte) (t : Nat) :
    Statement (.dpxLease seq ack payload t) :=
  ⟨fun uu => .dpxLease seq ack payload uu, rfl, fun _ => ⟨rfl, rfl⟩⟩

theorem dpxConfig (seq : Nat) (ack : Nat) (payload : List Byte) (t : Nat) :
    Statement (.dpxConfig seq ack payload t) :=
  ⟨fun uu => .dpxConfig seq ack payload uu, rfl, fun _ => ⟨rfl, rfl⟩⟩

theorem dpxFlush (seq : Nat) (ack : Nat) (payload : List Byte) (t : Nat) :
    Statement (.dpxFlush seq ack payload t) :=
  ⟨fun uu => .dpxFlush seq ack payload uu, rfl, fun _ => ⟨rfl, rfl⟩⟩

theorem dpxHead (seq : Nat) (ack : Nat) (payload : List Byte) (t : Nat) :
    Statement (.dpxHead seq ack payload t) :=
  ⟨fun uu => .dpxHead seq ack payload uu, rfl, fun _ => ⟨rfl, rfl⟩⟩

theorem dpxBind (seq : Nat) (ack : Nat) (payload : List Byte) (t : Nat) :
    Statement (.dpxBind seq ack payload t) :=
  ⟨fun uu => .dpxBind seq ack payload uu, rfl, fun _ => ⟨rfl, rfl⟩⟩

theorem dpxMark (seq : Nat) (ack : Nat) (payload : List Byte) (t : Nat) :
    Statement (.dpxMark seq ack payload t) :=
  ⟨fun uu => .dpxMark seq ack payload uu, rfl, fun _ => ⟨rfl, rfl⟩⟩

theorem dpxPos (seq : Nat) (ack : Nat) (payload : List Byte) (t : Nat) :
    Statement (.dpxPos seq ack payload t) :=
  ⟨fun uu => .dpxPos seq ack payload uu, rfl, fun _ => ⟨rfl, rfl⟩⟩

theorem dpxCo (seq : Nat) (ack : Nat) (payload : List Byte) (t : Nat) :
    Statement (.dpxCo seq ack payload t) :=
  ⟨fun uu => .dpxCo seq ack payload uu, rfl, fun _ => ⟨rfl, rfl⟩⟩

theorem dpxCoAck (seq : Nat) (ack : Nat) (payload : List Byte) (t : Nat) :
    Statement (.dpxCoAck seq ack payload t) :=
  ⟨fun uu => .dpxCoAck seq ack payload uu, rfl, fun _ => ⟨rfl, rfl⟩⟩

theorem dpxNak (seq : Nat) (ack : Nat) (payload : List Byte) (t : Nat) :
    Statement (.dpxNak seq ack payload t) :=
  ⟨fun uu => .dpxNak seq ack payload uu, rfl, fun _ => ⟨rfl, rfl⟩⟩

theorem dpxSubmitFwd (seq : Nat) (ack : Nat) (payload : List Byte) (t : Nat) :
    Statement (.dpxSubmitFwd seq ack payload t) :=
  ⟨fun uu => .dpxSubmitFwd seq ack payload uu, rfl, fun _ => ⟨rfl, rfl⟩⟩

theorem dpxOutcomeFwd (seq : Nat) (ack : Nat) (payload : List Byte) (t : Nat) :
    Statement (.dpxOutcomeFwd seq ack payload t) :=
  ⟨fun uu => .dpxOutcomeFwd seq ack payload uu, rfl, fun _ => ⟨rfl, rfl⟩⟩

theorem dpxSyncData (seq : Nat) (ack : Nat) (part : Sync) (t : Nat) :
    Statement (.dpxSyncData seq ack part t) :=
  ⟨fun uu => .dpxSyncData seq ack part uu, rfl, fun _ => ⟨rfl, rfl⟩⟩

theorem dpxResendTimer (t : Nat) :
    Statement (.dpxResendTimer t) :=
  ⟨fun uu => .dpxResendTimer uu, rfl, fun _ => ⟨rfl, rfl⟩⟩

theorem dpxIdleStateSend (t : Nat) :
    Statement (.dpxIdleStateSend t) :=
  ⟨fun uu => .dpxIdleStateSend uu, rfl, fun _ => ⟨rfl, rfl⟩⟩

theorem dpxPosSend (n : Fin 16) (t : Nat) :
    Statement (.dpxPosSend n t) :=
  ⟨fun uu => .dpxPosSend n uu, rfl, fun _ => ⟨rfl, rfl⟩⟩

theorem dpxAckTimeout (cueSilent : Bool) (t : Nat) :
    Statement (.dpxAckTimeout cueSilent t) :=
  ⟨fun uu => .dpxAckTimeout cueSilent uu, rfl, fun _ => ⟨rfl, rfl⟩⟩

theorem dpxCoHandOver (m : Master) (t : Nat) :
    Statement (.dpxCoHandOver m t) :=
  ⟨fun uu => .dpxCoHandOver m uu, rfl, fun _ => ⟨rfl, rfl⟩⟩

theorem dpxCoTake (m : Master) (t : Nat) :
    Statement (.dpxCoTake m t) :=
  ⟨fun uu => .dpxCoTake m uu, rfl, fun _ => ⟨rfl, rfl⟩⟩

theorem takeRequestTimeout (t : Nat) :
    Statement (.takeRequestTimeout t) :=
  ⟨fun uu => .takeRequestTimeout uu, rfl, fun _ => ⟨rfl, rfl⟩⟩

theorem switchAt (t : Nat) :
    Statement (.switchAt t) :=
  ⟨fun uu => .switchAt uu, rfl, fun _ => ⟨rfl, rfl⟩⟩

theorem ledgerEntryWritten (fails : Nat) (voidOk : Bool) (t : Nat) :
    Statement (.ledgerEntryWritten fails voidOk t) :=
  ⟨fun uu => .ledgerEntryWritten fails voidOk uu, rfl, fun _ => ⟨rfl, rfl⟩⟩

theorem ledgerEraseDone (t : Nat) :
    Statement (.ledgerEraseDone t) :=
  ⟨fun uu => .ledgerEraseDone uu, rfl, fun _ => ⟨rfl, rfl⟩⟩

theorem ldgReseal (m : Master) (t : Nat) :
    Statement (.ldgReseal m t) :=
  ⟨fun uu => .ldgReseal m uu, rfl, fun _ => ⟨rfl, rfl⟩⟩

theorem beacon (p : Fin 2) (src : Nat) (dest : Nat) (seq : Nat) (hops : Nat) (payload : List Byte) (t : Nat) :
    Statement (.beacon p src dest seq hops payload t) :=
  ⟨fun uu => .beacon p src dest seq hops payload uu, rfl, fun _ => ⟨rfl, rfl⟩⟩

theorem castFrame (p : Fin 2) (src : Nat) (dest : Nat) (seq : Nat) (hops : Nat) (payload : List Byte) (t : Nat) :
    Statement (.castFrame p src dest seq hops payload t) :=
  ⟨fun uu => .castFrame p src dest seq hops payload uu, rfl, fun _ => ⟨rfl, rfl⟩⟩

theorem catalogue (p : Fin 2) (src : Nat) (dest : Nat) (seq : Nat) (hops : Nat) (payload : List Byte) (t : Nat) :
    Statement (.catalogue p src dest seq hops payload t) :=
  ⟨fun uu => .catalogue p src dest seq hops payload uu, rfl, fun _ => ⟨rfl, rfl⟩⟩

theorem timeFrame (p : Fin 2) (src : Nat) (dest : Nat) (seq : Nat) (hops : Nat) (payload : List Byte) (residence : Nat) (t : Nat) :
    Statement (.timeFrame p src dest seq hops payload residence t) :=
  ⟨fun uu => .timeFrame p src dest seq hops payload residence uu, rfl, fun _ => ⟨rfl, rfl⟩⟩

theorem pdelayReq (p : Fin 2) (t1 : Nat) (t : Nat) :
    Statement (.pdelayReq p t1 t) :=
  ⟨fun uu => .pdelayReq p t1 uu, rfl, fun _ => ⟨rfl, rfl⟩⟩

theorem pdelayResp (p : Fin 2) (t1 : Nat) (t2 : Nat) (t3 : Nat) (t : Nat) :
    Statement (.pdelayResp p t1 t2 t3 t) :=
  ⟨fun uu => .pdelayResp p t1 t2 t3 uu, rfl, fun _ => ⟨rfl, rfl⟩⟩

theorem leaseReq (p : Fin 2) (src : Nat) (dest : Nat) (seq : Nat) (hops : Nat) (payload : List Byte) (t : Nat) :
    Statement (.leaseReq p src dest seq hops payload t) :=
  ⟨fun uu => .leaseReq p src dest seq hops payload uu, rfl, fun _ => ⟨rfl, rfl⟩⟩

theorem propose (p : Fin 2) (src : Nat) (dest : Nat) (seq : Nat) (hops : Nat) (payload : List Byte) (t : Nat) :
    Statement (.propose p src dest seq hops payload t) :=
  ⟨fun uu => .propose p src dest seq hops payload uu, rfl, fun _ => ⟨rfl, rfl⟩⟩

theorem accept (p : Fin 2) (src : Nat) (dest : Nat) (seq : Nat) (hops : Nat) (payload : List Byte) (t : Nat) :
    Statement (.accept p src dest seq hops payload t) :=
  ⟨fun uu => .accept p src dest seq hops payload uu, rfl, fun _ => ⟨rfl, rfl⟩⟩

theorem grant (p : Fin 2) (src : Nat) (dest : Nat) (seq : Nat) (hops : Nat) (payload : List Byte) (t : Nat) :
    Statement (.grant p src dest seq hops payload t) :=
  ⟨fun uu => .grant p src dest seq hops payload uu, rfl, fun _ => ⟨rfl, rfl⟩⟩

theorem refuse (p : Fin 2) (src : Nat) (dest : Nat) (seq : Nat) (hops : Nat) (payload : List Byte) (t : Nat) :
    Statement (.refuse p src dest seq hops payload t) :=
  ⟨fun uu => .refuse p src dest seq hops payload uu, rfl, fun _ => ⟨rfl, rfl⟩⟩

theorem ringRecall (p : Fin 2) (src : Nat) (dest : Nat) (seq : Nat) (hops : Nat) (payload : List Byte) (t : Nat) :
    Statement (.ringRecall p src dest seq hops payload t) :=
  ⟨fun uu => .ringRecall p src dest seq hops payload uu, rfl, fun _ => ⟨rfl, rfl⟩⟩

theorem recallReply (p : Fin 2) (src : Nat) (dest : Nat) (seq : Nat) (hops : Nat) (payload : List Byte) (t : Nat) :
    Statement (.recallReply p src dest seq hops payload t) :=
  ⟨fun uu => .recallReply p src dest seq hops payload uu, rfl, fun _ => ⟨rfl, rfl⟩⟩

theorem beaconSend (t : Nat) :
    Statement (.beaconSend t) :=
  ⟨fun uu => .beaconSend uu, rfl, fun _ => ⟨rfl, rfl⟩⟩

theorem castSend (t : Nat) :
    Statement (.castSend t) :=
  ⟨fun uu => .castSend uu, rfl, fun _ => ⟨rfl, rfl⟩⟩

theorem catalogueSend (t : Nat) :
    Statement (.catalogueSend t) :=
  ⟨fun uu => .catalogueSend uu, rfl, fun _ => ⟨rfl, rfl⟩⟩

theorem timeSend (t : Nat) :
    Statement (.timeSend t) :=
  ⟨fun uu => .timeSend uu, rfl, fun _ => ⟨rfl, rfl⟩⟩

theorem pdelaySend (p : Fin 2) (t : Nat) :
    Statement (.pdelaySend p t) :=
  ⟨fun uu => .pdelaySend p uu, rfl, fun _ => ⟨rfl, rfl⟩⟩

theorem keeperLost (t : Nat) :
    Statement (.keeperLost t) :=
  ⟨fun uu => .keeperLost uu, rfl, fun _ => ⟨rfl, rfl⟩⟩

theorem cmpQuorumLost (t : Nat) :
    Statement (.cmpQuorumLost t) :=
  ⟨fun uu => .cmpQuorumLost uu, rfl, fun _ => ⟨rfl, rfl⟩⟩

theorem leaseProposalTimeout (t : Nat) :
    Statement (.leaseProposalTimeout t) :=
  ⟨fun uu => .leaseProposalTimeout uu, rfl, fun _ => ⟨rfl, rfl⟩⟩

theorem leaseRequestTimeout (k : Fin 256) (t : Nat) :
    Statement (.leaseRequestTimeout k t) :=
  ⟨fun uu => .leaseRequestTimeout k uu, rfl, fun _ => ⟨rfl, rfl⟩⟩

theorem cmpHoldover (t : Nat) :
    Statement (.cmpHoldover t) :=
  ⟨fun uu => .cmpHoldover uu, rfl, fun _ => ⟨rfl, rfl⟩⟩

theorem cmpHoldLimit (t : Nat) :
    Statement (.cmpHoldLimit t) :=
  ⟨fun uu => .cmpHoldLimit uu, rfl, fun _ => ⟨rfl, rfl⟩⟩

theorem cmpTimeOpSet (m : Master) (t : Nat) :
    Statement (.cmpTimeOpSet m t) :=
  ⟨fun uu => .cmpTimeOpSet m uu, rfl, fun _ => ⟨rfl, rfl⟩⟩

theorem cmpTimeOpStep (m : Master) (t : Nat) :
    Statement (.cmpTimeOpStep m t) :=
  ⟨fun uu => .cmpTimeOpStep m uu, rfl, fun _ => ⟨rfl, rfl⟩⟩

theorem izxPortRetrain (p : Fin 2) (lanes : Fin 16) (t : Nat) :
    Statement (.izxPortRetrain p lanes t) :=
  ⟨fun uu => .izxPortRetrain p lanes uu, rfl, fun _ => ⟨rfl, rfl⟩⟩

theorem izxPortAutoRetrain (p : Fin 2) (t : Nat) :
    Statement (.izxPortAutoRetrain p t) :=
  ⟨fun uu => .izxPortAutoRetrain p uu, rfl, fun _ => ⟨rfl, rfl⟩⟩

theorem izxPortOpRetrain (m : Master) (p : Fin 2) (t : Nat) :
    Statement (.izxPortOpRetrain m p t) :=
  ⟨fun uu => .izxPortOpRetrain m p uu, rfl, fun _ => ⟨rfl, rfl⟩⟩

theorem izxPortOpTakeDown (m : Master) (p : Fin 2) (t : Nat) :
    Statement (.izxPortOpTakeDown m p t) :=
  ⟨fun uu => .izxPortOpTakeDown m p uu, rfl, fun _ => ⟨rfl, rfl⟩⟩

theorem izxBoxOpClose (m : Master) (b : Fin 16) (t : Nat) :
    Statement (.izxBoxOpClose m b t) :=
  ⟨fun uu => .izxBoxOpClose m b uu, rfl, fun _ => ⟨rfl, rfl⟩⟩

theorem izxRxCrc (p : Fin 2) (command : Bool) (b : Fin 16) (blocks : Nat) (t : Nat) :
    Statement (.izxRxCrc p command b blocks t) :=
  ⟨fun uu => .izxRxCrc p command b blocks uu, rfl, fun _ => ⟨rfl, rfl⟩⟩

theorem openBox (p : Fin 2) (b : Fin 16) (host : Nat) (start : Nat) (force : Bool) (t : Nat) :
    Statement (.openBox p b host start force t) :=
  ⟨fun uu => .openBox p b host start force uu, rfl, fun _ => ⟨rfl, rfl⟩⟩

theorem closeBox (p : Fin 2) (b : Fin 16) (t : Nat) :
    Statement (.closeBox p b t) :=
  ⟨fun uu => .closeBox p b uu, rfl, fun _ => ⟨rfl, rfl⟩⟩

theorem nop (p : Fin 2) (b : Fin 16) (t : Nat) :
    Statement (.nop p b t) :=
  ⟨fun uu => .nop p b uu, rfl, fun _ => ⟨rfl, rfl⟩⟩

theorem boxHoldExpiry (b : Fin 16) (t : Nat) :
    Statement (.boxHoldExpiry b t) :=
  ⟨fun uu => .boxHoldExpiry b uu, rfl, fun _ => ⟨rfl, rfl⟩⟩

theorem regRead (p : Fin 2) (b : Fin 16) (seq : Nat) (payload : List Byte) (t : Nat) :
    Statement (.regRead p b seq payload t) :=
  ⟨fun uu => .regRead p b seq payload uu, rfl, fun _ => ⟨rfl, rfl⟩⟩

theorem regWrite (p : Fin 2) (b : Fin 16) (seq : Nat) (payload : List Byte) (t : Nat) :
    Statement (.regWrite p b seq payload t) :=
  ⟨fun uu => .regWrite p b seq payload uu, rfl, fun _ => ⟨rfl, rfl⟩⟩

theorem dramWrite (p : Fin 2) (b : Fin 16) (seq : Nat) (payload : List Byte) (t : Nat) :
    Statement (.dramWrite p b seq payload t) :=
  ⟨fun uu => .dramWrite p b seq payload uu, rfl, fun _ => ⟨rfl, rfl⟩⟩

theorem dramWriteDone (b : Fin 16) (seq : Nat) (t : Nat) :
    Statement (.dramWriteDone b seq t) :=
  ⟨fun uu => .dramWriteDone b seq uu, rfl, fun _ => ⟨rfl, rfl⟩⟩

theorem dramRead (p : Fin 2) (b : Fin 16) (seq : Nat) (payload : List Byte) (t : Nat) :
    Statement (.dramRead p b seq payload t) :=
  ⟨fun uu => .dramRead p b seq payload uu, rfl, fun _ => ⟨rfl, rfl⟩⟩

theorem itemQuery (p : Fin 2) (b : Fin 16) (seq : Nat) (payload : List Byte) (t : Nat) :
    Statement (.itemQuery p b seq payload t) :=
  ⟨fun uu => .itemQuery p b seq payload uu, rfl, fun _ => ⟨rfl, rfl⟩⟩

theorem trackQuery (p : Fin 2) (b : Fin 16) (seq : Nat) (payload : List Byte) (t : Nat) :
    Statement (.trackQuery p b seq payload t) :=
  ⟨fun uu => .trackQuery p b seq payload uu, rfl, fun _ => ⟨rfl, rfl⟩⟩

theorem sceneDataBegin (p : Fin 2) (b : Fin 16) (seq : Nat) (payload : List Byte) (t : Nat) :
    Statement (.sceneDataBegin p b seq payload t) :=
  ⟨fun uu => .sceneDataBegin p b seq payload uu, rfl, fun _ => ⟨rfl, rfl⟩⟩

theorem sceneDataChunk (p : Fin 2) (b : Fin 16) (seq : Nat) (payload : List Byte) (t : Nat) :
    Statement (.sceneDataChunk p b seq payload t) :=
  ⟨fun uu => .sceneDataChunk p b seq payload uu, rfl, fun _ => ⟨rfl, rfl⟩⟩

theorem sceneDataEnd (p : Fin 2) (b : Fin 16) (seq : Nat) (payload : List Byte) (t : Nat) :
    Statement (.sceneDataEnd p b seq payload t) :=
  ⟨fun uu => .sceneDataEnd p b seq payload uu, rfl, fun _ => ⟨rfl, rfl⟩⟩

theorem promptDataBegin (p : Fin 2) (b : Fin 16) (seq : Nat) (payload : List Byte) (t : Nat) :
    Statement (.promptDataBegin p b seq payload t) :=
  ⟨fun uu => .promptDataBegin p b seq payload uu, rfl, fun _ => ⟨rfl, rfl⟩⟩

theorem promptDataChunk (p : Fin 2) (b : Fin 16) (seq : Nat) (payload : List Byte) (t : Nat) :
    Statement (.promptDataChunk p b seq payload t) :=
  ⟨fun uu => .promptDataChunk p b seq payload uu, rfl, fun _ => ⟨rfl, rfl⟩⟩

theorem promptDataEnd (p : Fin 2) (b : Fin 16) (seq : Nat) (payload : List Byte) (t : Nat) :
    Statement (.promptDataEnd p b seq payload t) :=
  ⟨fun uu => .promptDataEnd p b seq payload uu, rfl, fun _ => ⟨rfl, rfl⟩⟩

theorem subscribe (p : Fin 2) (b : Fin 16) (seq : Nat) (payload : List Byte) (t : Nat) :
    Statement (.subscribe p b seq payload t) :=
  ⟨fun uu => .subscribe p b seq payload uu, rfl, fun _ => ⟨rfl, rfl⟩⟩

theorem seriesQuery (p : Fin 2) (b : Fin 16) (seq : Nat) (payload : List Byte) (t : Nat) :
    Statement (.seriesQuery p b seq payload t) :=
  ⟨fun uu => .seriesQuery p b seq payload uu, rfl, fun _ => ⟨rfl, rfl⟩⟩

theorem cpMasterRegisterAccess (addr : Nat) (wide : Bool) (data : Option Nat) (t : Nat) :
    Statement (.cpMasterRegisterAccess addr wide data t) :=
  ⟨fun uu => .cpMasterRegisterAccess addr wide data uu, rfl, fun _ => ⟨rfl, rfl⟩⟩

theorem cpMasterDramAccess (addr : Nat) (wide : Bool) (data : Option Nat) (t : Nat) :
    Statement (.cpMasterDramAccess addr wide data t) :=
  ⟨fun uu => .cpMasterDramAccess addr wide data uu, rfl, fun _ => ⟨rfl, rfl⟩⟩

theorem slaveWindowAccess (a : Access) (t : Nat) :
    Statement (.slaveWindowAccess a t) :=
  ⟨fun uu => .slaveWindowAccess a uu, rfl, fun _ => ⟨rfl, rfl⟩⟩

theorem prbSlaveTimeout (t : Nat) :
    Statement (.prbSlaveTimeout t) :=
  ⟨fun uu => .prbSlaveTimeout uu, rfl, fun _ => ⟨rfl, rfl⟩⟩

theorem prbUser (k : Fin 32) (t : Nat) :
    Statement (.prbUser k t) :=
  ⟨fun uu => .prbUser k uu, rfl, fun _ => ⟨rfl, rfl⟩⟩

theorem prbSelWrite (m : Master) (n : Fin 16) (v : Nat) (t : Nat) :
    Statement (.prbSelWrite m n v t) :=
  ⟨fun uu => .prbSelWrite m n v uu, rfl, fun _ => ⟨rfl, rfl⟩⟩

theorem cfgPlaneSelWrite (m : Master) (plane : Fin 4) (t : Nat) :
    Statement (.cfgPlaneSelWrite m plane t) :=
  ⟨fun uu => .cfgPlaneSelWrite m plane uu, rfl, fun _ => ⟨rfl, rfl⟩⟩

theorem cfgSelectWritten (t : Nat) :
    Statement (.cfgSelectWritten t) :=
  ⟨fun uu => .cfgSelectWritten uu, rfl, fun _ => ⟨rfl, rfl⟩⟩

theorem cfgStageLoad (m : Master) (t : Nat) :
    Statement (.cfgStageLoad m t) :=
  ⟨fun uu => .cfgStageLoad m uu, rfl, fun _ => ⟨rfl, rfl⟩⟩

theorem cfgStageErase (m : Master) (t : Nat) :
    Statement (.cfgStageErase m t) :=
  ⟨fun uu => .cfgStageErase m uu, rfl, fun _ => ⟨rfl, rfl⟩⟩

theorem cfgStageAbort (m : Master) (t : Nat) :
    Statement (.cfgStageAbort m t) :=
  ⟨fun uu => .cfgStageAbort m uu, rfl, fun _ => ⟨rfl, rfl⟩⟩

theorem stageEraseDone (pulses : Nat) (t : Nat) :
    Statement (.stageEraseDone pulses t) :=
  ⟨fun uu => .stageEraseDone pulses uu, rfl, fun _ => ⟨rfl, rfl⟩⟩

theorem stageChecksDone (repaired : Nat) (bad : Option Nat) (drivers : Option Contend) (carryOk : Bool) (t : Nat) :
    Statement (.stageChecksDone repaired bad drivers carryOk t) :=
  ⟨fun uu => .stageChecksDone repaired bad drivers carryOk uu, rfl, fun _ => ⟨rfl, rfl⟩⟩

theorem cfgSceneArm (m : Master) (tracks : Nat) (force : Bool) (trial : Bool) (t : Nat) :
    Statement (.cfgSceneArm m tracks force trial t) :=
  ⟨fun uu => .cfgSceneArm m tracks force trial uu, rfl, fun _ => ⟨rfl, rfl⟩⟩

theorem cfgSceneDisarm (m : Master) (t : Nat) :
    Statement (.cfgSceneDisarm m t) :=
  ⟨fun uu => .cfgSceneDisarm m uu, rfl, fun _ => ⟨rfl, rfl⟩⟩

theorem cfgSceneFireNow (m : Master) (trial : Bool) (t : Nat) :
    Statement (.cfgSceneFireNow m trial t) :=
  ⟨fun uu => .cfgSceneFireNow m trial uu, rfl, fun _ => ⟨rfl, rfl⟩⟩

theorem sceneFire (t : Nat) :
    Statement (.sceneFire t) :=
  ⟨fun uu => .sceneFire uu, rfl, fun _ => ⟨rfl, rfl⟩⟩

theorem cfgArmTimeout (t : Nat) :
    Statement (.cfgArmTimeout t) :=
  ⟨fun uu => .cfgArmTimeout uu, rfl, fun _ => ⟨rfl, rfl⟩⟩

theorem cfgSceneChanged (trees : List Nat) (t : Nat) :
    Statement (.cfgSceneChanged trees t) :=
  ⟨fun uu => .cfgSceneChanged trees uu, rfl, fun _ => ⟨rfl, rfl⟩⟩

theorem sceneSelectRecord (t : Nat) :
    Statement (.sceneSelectRecord t) :=
  ⟨fun uu => .sceneSelectRecord uu, rfl, fun _ => ⟨rfl, rfl⟩⟩

theorem flcRead (m : Master) (t : Nat) :
    Statement (.flcRead m t) :=
  ⟨fun uu => .flcRead m uu, rfl, fun _ => ⟨rfl, rfl⟩⟩

theorem flcProgram (m : Master) (t : Nat) :
    Statement (.flcProgram m t) :=
  ⟨fun uu => .flcProgram m uu, rfl, fun _ => ⟨rfl, rfl⟩⟩

theorem flcErase (m : Master) (t : Nat) :
    Statement (.flcErase m t) :=
  ⟨fun uu => .flcErase m uu, rfl, fun _ => ⟨rfl, rfl⟩⟩

theorem flcQuery (m : Master) (t : Nat) :
    Statement (.flcQuery m t) :=
  ⟨fun uu => .flcQuery m uu, rfl, fun _ => ⟨rfl, rfl⟩⟩

theorem flcOpDone (ecc : Fin 3) (pulses : Nat) (fail : Bool) (t : Nat) :
    Statement (.flcOpDone ecc pulses fail t) :=
  ⟨fun uu => .flcOpDone ecc pulses fail uu, rfl, fun _ => ⟨rfl, rfl⟩⟩

theorem tempSensorRead (c : Fin 2) (ok : Bool) (ts0 : Fin 256) (ts1 : Fin 256) (t : Nat) :
    Statement (.tempSensorRead c ok ts0 ts1 t) :=
  ⟨fun uu => .tempSensorRead c ok ts0 ts1 uu, rfl, fun _ => ⟨rfl, rfl⟩⟩

theorem refreshInterval (c : Fin 2) (t : Nat) :
    Statement (.refreshInterval c t) :=
  ⟨fun uu => .refreshInterval c uu, rfl, fun _ => ⟨rfl, rfl⟩⟩

theorem dmcRefreshRecover (c : Fin 2) (t : Nat) :
    Statement (.dmcRefreshRecover c t) :=
  ⟨fun uu => .dmcRefreshRecover c uu, rfl, fun _ => ⟨rfl, rfl⟩⟩

theorem dmcFreqChange (m : Master) (fgr : Bool) (target : Fin 16) (t : Nat) :
    Statement (.dmcFreqChange m fgr target t) :=
  ⟨fun uu => .dmcFreqChange m fgr target uu, rfl, fun _ => ⟨rfl, rfl⟩⟩

theorem freqChangeStart (t : Nat) :
    Statement (.freqChangeStart t) :=
  ⟨fun uu => .freqChangeStart uu, rfl, fun _ => ⟨rfl, rfl⟩⟩

theorem dmcFreqDone (fail : Option (Nat × Nat × Nat × Nat)) (t : Nat) :
    Statement (.dmcFreqDone fail t) :=
  ⟨fun uu => .dmcFreqDone fail uu, rfl, fun _ => ⟨rfl, rfl⟩⟩

theorem freqChangeTimeout (t : Nat) :
    Statement (.freqChangeTimeout t) :=
  ⟨fun uu => .freqChangeTimeout uu, rfl, fun _ => ⟨rfl, rfl⟩⟩

theorem dmcEccCorrected (c : Fin 2) (t : Nat) :
    Statement (.dmcEccCorrected c t) :=
  ⟨fun uu => .dmcEccCorrected c uu, rfl, fun _ => ⟨rfl, rfl⟩⟩

theorem dmcUncorrectable (c : Fin 2) (fault : DramFault) (t : Nat) :
    Statement (.dmcUncorrectable c fault t) :=
  ⟨fun uu => .dmcUncorrectable c fault uu, rfl, fun _ => ⟨rfl, rfl⟩⟩

theorem dmcCaParity (c : Fin 2) (fault : DramFault) (t : Nat) :
    Statement (.dmcCaParity c fault t) :=
  ⟨fun uu => .dmcCaParity c fault uu, rfl, fun _ => ⟨rfl, rfl⟩⟩

theorem dmcSrAbandoned (c : Fin 2) (t : Nat) :
    Statement (.dmcSrAbandoned c t) :=
  ⟨fun uu => .dmcSrAbandoned c uu, rfl, fun _ => ⟨rfl, rfl⟩⟩

theorem dmcPllRelockTimeout (c : Fin 2) (t : Nat) :
    Statement (.dmcPllRelockTimeout c t) :=
  ⟨fun uu => .dmcPllRelockTimeout c uu, rfl, fun _ => ⟨rfl, rfl⟩⟩

theorem clkRefLost (t : Nat) :
    Statement (.clkRefLost t) :=
  ⟨fun uu => .clkRefLost uu, rfl, fun _ => ⟨rfl, rfl⟩⟩

theorem clkRefRestored (t : Nat) :
    Statement (.clkRefRestored t) :=
  ⟨fun uu => .clkRefRestored uu, rfl, fun _ => ⟨rfl, rfl⟩⟩

theorem clkLocked (k : Fin 8) (band : Fin 64) (trim : Fin 1024) (t : Nat) :
    Statement (.clkLocked k band trim t) :=
  ⟨fun uu => .clkLocked k band trim uu, rfl, fun _ => ⟨rfl, rfl⟩⟩

theorem clkLockLost (k : Fin 8) (t : Nat) :
    Statement (.clkLockLost k t) :=
  ⟨fun uu => .clkLockLost k uu, rfl, fun _ => ⟨rfl, rfl⟩⟩

theorem clkBandStale (k : Fin 8) (t : Nat) :
    Statement (.clkBandStale k t) :=
  ⟨fun uu => .clkBandStale k uu, rfl, fun _ => ⟨rfl, rfl⟩⟩

theorem clkPllRelock (m : Master) (k : Fin 8) (t : Nat) :
    Statement (.clkPllRelock m k t) :=
  ⟨fun uu => .clkPllRelock m k uu, rfl, fun _ => ⟨rfl, rfl⟩⟩

theorem clkPllFullSearch (m : Master) (k : Fin 8) (t : Nat) :
    Statement (.clkPllFullSearch m k t) :=
  ⟨fun uu => .clkPllFullSearch m k uu, rfl, fun _ => ⟨rfl, rfl⟩⟩

theorem clkPllClearBand (m : Master) (k : Fin 8) (t : Nat) :
    Statement (.clkPllClearBand m k t) :=
  ⟨fun uu => .clkPllClearBand m k uu, rfl, fun _ => ⟨rfl, rfl⟩⟩

theorem clkDomRestore (m : Master) (d : Fin 64) (t : Nat) :
    Statement (.clkDomRestore m d t) :=
  ⟨fun uu => .clkDomRestore m d uu, rfl, fun _ => ⟨rfl, rfl⟩⟩

theorem clkDomWrite (m : Master) (d : Fin 64) (v : Nat) (t : Nat) :
    Statement (.clkDomWrite m d v t) :=
  ⟨fun uu => .clkDomWrite m d v uu, rfl, fun _ => ⟨rfl, rfl⟩⟩

theorem entryCurtainReached (t : Nat) :
    Statement (.entryCurtainReached t) :=
  ⟨fun uu => .entryCurtainReached uu, rfl, fun _ => ⟨rfl, rfl⟩⟩

theorem entryCheckpointsDone (t : Nat) :
    Statement (.entryCheckpointsDone t) :=
  ⟨fun uu => .entryCheckpointsDone uu, rfl, fun _ => ⟨rfl, rfl⟩⟩

theorem entryRetentionWritten (t : Nat) :
    Statement (.entryRetentionWritten t) :=
  ⟨fun uu => .entryRetentionWritten uu, rfl, fun _ => ⟨rfl, rfl⟩⟩

theorem entrySelfRefresh (t : Nat) :
    Statement (.entrySelfRefresh t) :=
  ⟨fun uu => .entrySelfRefresh uu, rfl, fun _ => ⟨rfl, rfl⟩⟩

theorem pwrEntered (t : Nat) :
    Statement (.pwrEntered t) :=
  ⟨fun uu => .pwrEntered uu, rfl, fun _ => ⟨rfl, rfl⟩⟩

theorem entryTimeout (t : Nat) :
    Statement (.entryTimeout t) :=
  ⟨fun uu => .entryTimeout uu, rfl, fun _ => ⟨rfl, rfl⟩⟩

theorem wakeAccess (a : Access) (t : Nat) :
    Statement (.wakeAccess a t) :=
  ⟨fun uu => .wakeAccess a uu, rfl, fun _ => ⟨rfl, rfl⟩⟩

theorem wakeTimer (t : Nat) :
    Statement (.wakeTimer t) :=
  ⟨fun uu => .wakeTimer uu, rfl, fun _ => ⟨rfl, rfl⟩⟩

theorem wakePin (t : Nat) :
    Statement (.wakePin t) :=
  ⟨fun uu => .wakePin uu, rfl, fun _ => ⟨rfl, rfl⟩⟩

theorem wakeMonitor (t : Nat) :
    Statement (.wakeMonitor t) :=
  ⟨fun uu => .wakeMonitor uu, rfl, fun _ => ⟨rfl, rfl⟩⟩

theorem wakeTrackCue (n : Fin 16) (t : Nat) :
    Statement (.wakeTrackCue n t) :=
  ⟨fun uu => .wakeTrackCue n uu, rfl, fun _ => ⟨rfl, rfl⟩⟩

theorem wakeFabric (k : Fin 32) (q : Fin 4) (t : Nat) :
    Statement (.wakeFabric k q t) :=
  ⟨fun uu => .wakeFabric k q uu, rfl, fun _ => ⟨rfl, rfl⟩⟩

theorem pwrOpWake (m : Master) (t : Nat) :
    Statement (.pwrOpWake m t) :=
  ⟨fun uu => .pwrOpWake m uu, rfl, fun _ => ⟨rfl, rfl⟩⟩

theorem pwrOpRetry (m : Master) (t : Nat) :
    Statement (.pwrOpRetry m t) :=
  ⟨fun uu => .pwrOpRetry m uu, rfl, fun _ => ⟨rfl, rfl⟩⟩

theorem wakeDomainReady (bad : Fin 256) (t : Nat) :
    Statement (.wakeDomainReady bad t) :=
  ⟨fun uu => .wakeDomainReady bad uu, rfl, fun _ => ⟨rfl, rfl⟩⟩

theorem wakeReadyTimeout (cause : Fin 6) (domain : Fin 20) (pll : Fin 8) (t : Nat) :
    Statement (.wakeReadyTimeout cause domain pll t) :=
  ⟨fun uu => .wakeReadyTimeout cause domain pll uu, rfl, fun _ => ⟨rfl, rfl⟩⟩

theorem pwrStallLong (t : Nat) :
    Statement (.pwrStallLong t) :=
  ⟨fun uu => .pwrStallLong uu, rfl, fun _ => ⟨rfl, rfl⟩⟩

theorem pwrRetRelease (m : Master) (banks : Fin 256) (t : Nat) :
    Statement (.pwrRetRelease m banks t) :=
  ⟨fun uu => .pwrRetRelease m banks uu, rfl, fun _ => ⟨rfl, rfl⟩⟩

theorem gpioPinWrite (m : Master) (pin : Fin 640) (v : Nat) (t : Nat) :
    Statement (.gpioPinWrite m pin v t) :=
  ⟨fun uu => .gpioPinWrite m pin v uu, rfl, fun _ => ⟨rfl, rfl⟩⟩

theorem pinHandOver (pin : Fin 640) (t : Nat) :
    Statement (.pinHandOver pin t) :=
  ⟨fun uu => .pinHandOver pin uu, rfl, fun _ => ⟨rfl, rfl⟩⟩

theorem gpioMwrWrite (m : Master) (h : Fin 40) (v : Nat) (t : Nat) :
    Statement (.gpioMwrWrite m h v t) :=
  ⟨fun uu => .gpioMwrWrite m h v uu, rfl, fun _ => ⟨rfl, rfl⟩⟩

theorem gpioMoeWrite (m : Master) (h : Fin 40) (v : Nat) (t : Nat) :
    Statement (.gpioMoeWrite m h v t) :=
  ⟨fun uu => .gpioMoeWrite m h v uu, rfl, fun _ => ⟨rfl, rfl⟩⟩

theorem gpioPattern (u : Fin 8) (levels : Nat) (changed : Nat) (t : Nat) :
    Statement (.gpioPattern u levels changed t) :=
  ⟨fun uu => .gpioPattern u levels changed uu, rfl, fun _ => ⟨rfl, rfl⟩⟩

theorem gpioBankFault (n : Fin 16) (code : Fin 8) (t : Nat) :
    Statement (.gpioBankFault n code t) :=
  ⟨fun uu => .gpioBankFault n code uu, rfl, fun _ => ⟨rfl, rfl⟩⟩

theorem uartRxByte (u : Fin 4) (byte : Fin 256) (parityBad : Bool) (framingBad : Bool) (t : Nat) :
    Statement (.uartRxByte u byte parityBad framingBad t) :=
  ⟨fun uu => .uartRxByte u byte parityBad framingBad uu, rfl, fun _ => ⟨rfl, rfl⟩⟩

theorem uartDataWrite (m : Master) (u : Fin 4) (v : Nat) (t : Nat) :
    Statement (.uartDataWrite m u v t) :=
  ⟨fun uu => .uartDataWrite m u v uu, rfl, fun _ => ⟨rfl, rfl⟩⟩

theorem uartDataRead (m : Master) (u : Fin 4) (t : Nat) :
    Statement (.uartDataRead m u t) :=
  ⟨fun uu => .uartDataRead m u uu, rfl, fun _ => ⟨rfl, rfl⟩⟩

theorem uartTxDone (u : Fin 4) (t : Nat) :
    Statement (.uartTxDone u t) :=
  ⟨fun uu => .uartTxDone u uu, rfl, fun _ => ⟨rfl, rfl⟩⟩

theorem spiDataWrite (m : Master) (u : Fin 4) (v : Nat) (t : Nat) :
    Statement (.spiDataWrite m u v t) :=
  ⟨fun uu => .spiDataWrite m u v uu, rfl, fun _ => ⟨rfl, rfl⟩⟩

theorem spiDataRead (m : Master) (u : Fin 4) (t : Nat) :
    Statement (.spiDataRead m u t) :=
  ⟨fun uu => .spiDataRead m u uu, rfl, fun _ => ⟨rfl, rfl⟩⟩

theorem spiFrameDone (u : Fin 4) (byte : Fin 256) (t : Nat) :
    Statement (.spiFrameDone u byte t) :=
  ⟨fun uu => .spiFrameDone u byte uu, rfl, fun _ => ⟨rfl, rfl⟩⟩

theorem perSpiDone (u : Fin 4) (t : Nat) :
    Statement (.perSpiDone u t) :=
  ⟨fun uu => .perSpiDone u uu, rfl, fun _ => ⟨rfl, rfl⟩⟩

theorem i2cStart (m : Master) (u : Fin 4) (t : Nat) :
    Statement (.i2cStart m u t) :=
  ⟨fun uu => .i2cStart m u uu, rfl, fun _ => ⟨rfl, rfl⟩⟩

theorem i2cWrite (m : Master) (u : Fin 4) (byte : Fin 256) (t : Nat) :
    Statement (.i2cWrite m u byte t) :=
  ⟨fun uu => .i2cWrite m u byte uu, rfl, fun _ => ⟨rfl, rfl⟩⟩

theorem i2cReadAck (m : Master) (u : Fin 4) (t : Nat) :
    Statement (.i2cReadAck m u t) :=
  ⟨fun uu => .i2cReadAck m u uu, rfl, fun _ => ⟨rfl, rfl⟩⟩

theorem i2cReadNack (m : Master) (u : Fin 4) (t : Nat) :
    Statement (.i2cReadNack m u t) :=
  ⟨fun uu => .i2cReadNack m u uu, rfl, fun _ => ⟨rfl, rfl⟩⟩

theorem i2cStop (m : Master) (u : Fin 4) (t : Nat) :
    Statement (.i2cStop m u t) :=
  ⟨fun uu => .i2cStop m u uu, rfl, fun _ => ⟨rfl, rfl⟩⟩

theorem i2cRxdataRead (m : Master) (u : Fin 4) (t : Nat) :
    Statement (.i2cRxdataRead m u t) :=
  ⟨fun uu => .i2cRxdataRead m u uu, rfl, fun _ => ⟨rfl, rfl⟩⟩

theorem i2cCommandDone (u : Fin 4) (res : Fin 3) (byte : Fin 256) (t : Nat) :
    Statement (.i2cCommandDone u res byte t) :=
  ⟨fun uu => .i2cCommandDone u res byte uu, rfl, fun _ => ⟨rfl, rfl⟩⟩

theorem i2cStretchTimeout (u : Fin 4) (t : Nat) :
    Statement (.i2cStretchTimeout u t) :=
  ⟨fun uu => .i2cStretchTimeout u uu, rfl, fun _ => ⟨rfl, rfl⟩⟩

theorem perTimer (k : Fin 8) (t : Nat) :
    Statement (.perTimer k t) :=
  ⟨fun uu => .perTimer k uu, rfl, fun _ => ⟨rfl, rfl⟩⟩

theorem perTimerCap (k : Fin 8) (t : Nat) :
    Statement (.perTimerCap k t) :=
  ⟨fun uu => .perTimerCap k uu, rfl, fun _ => ⟨rfl, rfl⟩⟩

theorem timerCaptureRead (m : Master) (k : Fin 8) (t : Nat) :
    Statement (.timerCaptureRead m k t) :=
  ⟨fun uu => .timerCaptureRead m k uu, rfl, fun _ => ⟨rfl, rfl⟩⟩

theorem lcyToFactoryTest (m : Master) (holdup : Bool) (t : Nat) :
    Statement (.lcyToFactoryTest m holdup t) :=
  ⟨fun uu => .lcyToFactoryTest m holdup uu, rfl, fun _ => ⟨rfl, rfl⟩⟩

theorem lcyToProvisioned (m : Master) (holdup : Bool) (t : Nat) :
    Statement (.lcyToProvisioned m holdup t) :=
  ⟨fun uu => .lcyToProvisioned m holdup uu, rfl, fun _ => ⟨rfl, rfl⟩⟩

theorem lcyToField (m : Master) (holdup : Bool) (t : Nat) :
    Statement (.lcyToField m holdup t) :=
  ⟨fun uu => .lcyToField m holdup uu, rfl, fun _ => ⟨rfl, rfl⟩⟩

theorem lcyToFieldTest (m : Master) (holdup : Bool) (t : Nat) :
    Statement (.lcyToFieldTest m holdup t) :=
  ⟨fun uu => .lcyToFieldTest m holdup uu, rfl, fun _ => ⟨rfl, rfl⟩⟩

theorem lcyToAnalysis (m : Master) (holdup : Bool) (t : Nat) :
    Statement (.lcyToAnalysis m holdup t) :=
  ⟨fun uu => .lcyToAnalysis m holdup uu, rfl, fun _ => ⟨rfl, rfl⟩⟩

theorem lcyToScrap (m : Master) (holdup : Bool) (t : Nat) :
    Statement (.lcyToScrap m holdup t) :=
  ⟨fun uu => .lcyToScrap m holdup uu, rfl, fun _ => ⟨rfl, rfl⟩⟩

theorem lcyTransitionDone (t : Nat) :
    Statement (.lcyTransitionDone t) :=
  ⟨fun uu => .lcyTransitionDone uu, rfl, fun _ => ⟨rfl, rfl⟩⟩

theorem lcyChallenge (m : Master) (t : Nat) :
    Statement (.lcyChallenge m t) :=
  ⟨fun uu => .lcyChallenge m uu, rfl, fun _ => ⟨rfl, rfl⟩⟩

theorem lcyVerify (m : Master) (t : Nat) :
    Statement (.lcyVerify m t) :=
  ⟨fun uu => .lcyVerify m uu, rfl, fun _ => ⟨rfl, rfl⟩⟩

theorem lcyVerifyDone (t : Nat) :
    Statement (.lcyVerifyDone t) :=
  ⟨fun uu => .lcyVerifyDone uu, rfl, fun _ => ⟨rfl, rfl⟩⟩

theorem nonceExpiry (t : Nat) :
    Statement (.nonceExpiry t) :=
  ⟨fun uu => .nonceExpiry uu, rfl, fun _ => ⟨rfl, rfl⟩⟩

theorem keyAesScene (m : Master) (slot : Fin 256) (t : Nat) :
    Statement (.keyAesScene m slot t) :=
  ⟨fun uu => .keyAesScene m slot uu, rfl, fun _ => ⟨rfl, rfl⟩⟩

theorem keyAesPrompt (m : Master) (slot : Fin 256) (t : Nat) :
    Statement (.keyAesPrompt m slot t) :=
  ⟨fun uu => .keyAesPrompt m slot uu, rfl, fun _ => ⟨rfl, rfl⟩⟩

theorem keyScenePubX (m : Master) (t : Nat) :
    Statement (.keyScenePubX m t) :=
  ⟨fun uu => .keyScenePubX m uu, rfl, fun _ => ⟨rfl, rfl⟩⟩

theorem keyScenePubY (m : Master) (t : Nat) :
    Statement (.keyScenePubY m t) :=
  ⟨fun uu => .keyScenePubY m uu, rfl, fun _ => ⟨rfl, rfl⟩⟩

theorem keyPromptPubX (m : Master) (t : Nat) :
    Statement (.keyPromptPubX m t) :=
  ⟨fun uu => .keyPromptPubX m uu, rfl, fun _ => ⟨rfl, rfl⟩⟩

theorem keyPromptPubY (m : Master) (t : Nat) :
    Statement (.keyPromptPubY m t) :=
  ⟨fun uu => .keyPromptPubY m uu, rfl, fun _ => ⟨rfl, rfl⟩⟩

theorem prompterLine (chars : List Nat) (t : Nat) :
    Statement (.prompterLine chars t) :=
  ⟨fun uu => .prompterLine chars uu, rfl, fun _ => ⟨rfl, rfl⟩⟩

theorem prompterId (t : Nat) :
    Statement (.prompterId t) :=
  ⟨fun uu => .prompterId uu, rfl, fun _ => ⟨rfl, rfl⟩⟩

theorem prompterStatus (t : Nat) :
    Statement (.prompterStatus t) :=
  ⟨fun uu => .prompterStatus uu, rfl, fun _ => ⟨rfl, rfl⟩⟩

theorem prompterRead (addr : Nat) (count : Nat) (t : Nat) :
    Statement (.prompterRead addr count t) :=
  ⟨fun uu => .prompterRead addr count uu, rfl, fun _ => ⟨rfl, rfl⟩⟩

theorem prompterRead64 (addr : Nat) (t : Nat) :
    Statement (.prompterRead64 addr t) :=
  ⟨fun uu => .prompterRead64 addr uu, rfl, fun _ => ⟨rfl, rfl⟩⟩

theorem prompterWrite (addr : Nat) (value : Nat) (t : Nat) :
    Statement (.prompterWrite addr value t) :=
  ⟨fun uu => .prompterWrite addr value uu, rfl, fun _ => ⟨rfl, rfl⟩⟩

theorem prompterWrite64 (addr : Nat) (value : Nat) (t : Nat) :
    Statement (.prompterWrite64 addr value t) :=
  ⟨fun uu => .prompterWrite64 addr value uu, rfl, fun _ => ⟨rfl, rfl⟩⟩

theorem prompterMode (mode : Fin 8) (t : Nat) :
    Statement (.prompterMode mode t) :=
  ⟨fun uu => .prompterMode mode uu, rfl, fun _ => ⟨rfl, rfl⟩⟩

theorem prompterReset (kind : Fin 4) (t : Nat) :
    Statement (.prompterReset kind t) :=
  ⟨fun uu => .prompterReset kind uu, rfl, fun _ => ⟨rfl, rfl⟩⟩

theorem prompterLog (count : Nat) (t : Nat) :
    Statement (.prompterLog count t) :=
  ⟨fun uu => .prompterLog count uu, rfl, fun _ => ⟨rfl, rfl⟩⟩

theorem prompterSelect (plane : Fin 2) (t : Nat) :
    Statement (.prompterSelect plane t) :=
  ⟨fun uu => .prompterSelect plane uu, rfl, fun _ => ⟨rfl, rfl⟩⟩

theorem prompterLcy (target : Fin 8) (t : Nat) :
    Statement (.prompterLcy target t) :=
  ⟨fun uu => .prompterLcy target uu, rfl, fun _ => ⟨rfl, rfl⟩⟩

theorem prompterChallenge (t : Nat) :
    Statement (.prompterChallenge t) :=
  ⟨fun uu => .prompterChallenge uu, rfl, fun _ => ⟨rfl, rfl⟩⟩

theorem prompterRespond (sig : List Byte) (t : Nat) :
    Statement (.prompterRespond sig t) :=
  ⟨fun uu => .prompterRespond sig uu, rfl, fun _ => ⟨rfl, rfl⟩⟩

theorem slaveWindowAck (data : Nat) (status : Fin 4) (t : Nat) :
    Statement (.slaveWindowAck data status t) :=
  ⟨fun uu => .slaveWindowAck data status uu, rfl, fun _ => ⟨rfl, rfl⟩⟩

theorem fabRstinNChange (high : Bool) (trees : Fin 16) (t : Nat) :
    Statement (.fabRstinNChange high trees t) :=
  ⟨fun uu => .fabRstinNChange high trees uu, rfl, fun _ => ⟨rfl, rfl⟩⟩

theorem idleRefresh (c : Fin 2) (t : Nat) :
    Statement (.idleRefresh c t) :=
  ⟨fun uu => .idleRefresh c uu, rfl, fun _ => ⟨rfl, rfl⟩⟩

theorem heldLineFire (n : Fin 16) (t : Nat) :
    Statement (.heldLineFire n t) :=
  ⟨fun uu => .heldLineFire n uu, rfl, fun _ => ⟨rfl, rfl⟩⟩

theorem lcyKeyWritten (t : Nat) :
    Statement (.lcyKeyWritten t) :=
  ⟨fun uu => .lcyKeyWritten uu, rfl, fun _ => ⟨rfl, rfl⟩⟩

theorem promptSlotEraseDone (t : Nat) :
    Statement (.promptSlotEraseDone t) :=
  ⟨fun uu => .promptSlotEraseDone uu, rfl, fun _ => ⟨rfl, rfl⟩⟩

theorem nzcCopyDone (t : Nat) :
    Statement (.nzcCopyDone t) :=
  ⟨fun uu => .nzcCopyDone uu, rfl, fun _ => ⟨rfl, rfl⟩⟩

theorem uartCtsNChange (u : Fin 4) (high : Bool) (t : Nat) :
    Statement (.uartCtsNChange u high t) :=
  ⟨fun uu => .uartCtsNChange u high uu, rfl, fun _ => ⟨rfl, rfl⟩⟩

theorem uartBreak (u : Fin 4) (t : Nat) :
    Statement (.uartBreak u t) :=
  ⟨fun uu => .uartBreak u uu, rfl, fun _ => ⟨rfl, rfl⟩⟩

theorem helloSend (t : Nat) :
    Statement (.helloSend t) :=
  ⟨fun uu => .helloSend uu, rfl, fun _ => ⟨rfl, rfl⟩⟩

end Sys2Proof.Laws.Timed
end

