-- ==== Sys2Proof/Tests/Slice0.lean ====
section
/-! SUPPORT. Tests: a state and operands that meet the hypotheses of each clause of each statement, an ill-formed command
for each operand check, and small checks whose expected results come from the spec. -/

open Sys2Proof Sys2Proof.Machine

set_option Elab.async false
set_option maxRecDepth 100000

/-- A small awake state in REHEARSAL. -/
def upState : State :=
  ({ State.reset with sys := { held := false }, regs := [(0x100, 0x8000002#64), (0x20000, 0xfffff#64)] } : State)

/-! ### The hypotheses of the completion statements are met -/

theorem witness_PhasesOfCallComplete :
  ((({ State.reset with sys := { held := false, done := [] }, regs := [(256, 0x8000001#64)] } : State) :
     State).sys.held = false ∧ ((fun (fault : Bool) (u : State) => u.phaseMay 1 [] ∧ !(u.trimDamage fault).trimSound)
     true (begin 0 ({ State.reset with sys := { held := false, done := [] }, regs := [(256, 0x8000001#64)] } : State))
     : Prop)) ∧
  ((({ State.reset with sys := { held := false, done := [] }, regs := [(256, 0x8000001#64)] } : State) :
     State).sys.held = false ∧ ((fun (fault : Bool) (u : State) => u.phaseMay 1 [] ∧ (u.trimDamage fault).trimSound)
     false (begin 0 ({ State.reset with sys := { held := false, done := [] }, regs := [(256, 0x8000001#64)] } :
     State)) : Prop)) ∧
  ((({ State.reset with sys := { held := false, done := [1] }, regs := [(256, 0x8000001#64)] } : State) :
     State).sys.held = false ∧ ((fun (u : State) => u.phaseMay 2 [1] ∧ u.phaseLife.2 ∧ u.phaseLife.1.lcyState ≠ 6)
     (begin 0 ({ State.reset with sys := { held := false, done := [1] }, regs := [(256, 0x8000001#64)] } : State)) :
     Prop)) ∧
  ((({ State.reset with sys := { held := false, done := [1] }, regs := [(256, 0x8000001#64)], lcy := { value := 1 } }
     : State) : State).sys.held = false ∧ ((fun (u : State) => u.phaseMay 2 [1] ∧ !u.phaseLife.2) (begin 0
     ({ State.reset with sys := { held := false, done := [1] }, regs := [(256, 0x8000001#64)], lcy := { value := 1 } }
     : State)) : Prop)) ∧
  ((({ State.reset with sys := { held := false, done := [2, 1] }, regs := [(256, 0x8000001#64)], cfg := { selVal := 5 }
                          } : State) : State).sys.held = false ∧ ((fun (u : State) => u.phaseMay 3 [1, 2] ∧
     u.selectRead = none) (begin 0
     ({ State.reset with sys := { held := false, done := [2, 1] }, regs := [(256, 0x8000001#64)], cfg := { selVal := 5 }
                           } : State)) : Prop)) ∧
  ((({ State.reset with sys := { held := false, done := [2, 1] }, regs := [(256, 0x8000001#64)] } : State) :
     State).sys.held = false ∧ ((fun (v : Nat) (u : State) => u.phaseMay 3 [1, 2] ∧ u.selectRead = some v) 0 (begin 0
     ({ State.reset with sys := { held := false, done := [2, 1] }, regs := [(256, 0x8000001#64)] } : State)) : Prop)) ∧
  ((({ State.reset with sys := { held := false, done := [3, 2, 1] }, regs := [(256, 0x8000001#64), (F.CLK_STATUS.addr,
                          0xFF0F#64)] } : State) : State).sys.held = false ∧ ((fun (u : State) => u.mode = 1 ∧
     u.phaseDone 1 ∧ !u.phaseDone 4 ∧ !u.sys.held ∧ [0, 1, 2, 3].all (fun k => (u.get F.CLK_STATUS_LOCKED).testBit k))
     (begin 0 ({ State.reset with sys := { held := false, done := [3, 2, 1] }, regs := [(256, 0x8000001#64),
                                    (F.CLK_STATUS.addr, 0xFF0F#64)] } : State)) : Prop)) ∧
  ((({ State.reset with sys := { held := false, done := [3, 2, 1] }, regs := [(0x100, 0x8000001#64), (0x20000,
                          0xfffff#64), (0x30114, 0x10000000#64)] } : State) : State).sys.held = false ∧ ((fun (k : Fin
     8) (u : State) => u.mode = 1 ∧ k.val ≤ 5 ∧ !u.phaseDone 6 ∧ (u.get (F.CLK_PLL_STATUS_STATE k.val) = 1 ∨ u.get
     (F.CLK_PLL_STATUS_STATE k.val) = 2) ∧ (u.pll k.val).since + 300000000 ≤ u.now) 0 (begin 300000000
     ({ State.reset with sys := { held := false, done := [3, 2, 1] }, regs := [(0x100, 0x8000001#64), (0x20000,
                           0xfffff#64), (0x30114, 0x10000000#64)] } : State)) : Prop)) ∧
  ((({ State.reset with sys := { held := false, done := [4, 3, 2, 1] }, regs := [(256, 0x8000001#64)], cfg := { selVal := 1, selNot := 0xFFFFFFFE, planeA := { state := 4 } }
                          } : State) : State).sys.held = false ∧ ((fun (valid : Bool) (drivers : Option Contend)
     (trees : List Nat) (u : State) => u.phaseMay 5 [3, 4] ∧ (u.phasePlane valid drivers trees).2) true none [] (begin
     0 ({ State.reset with sys := { held := false, done := [4, 3, 2, 1] }, regs := [(256, 0x8000001#64)], cfg := { selVal := 1, selNot := 0xFFFFFFFE, planeA := { state := 4 } }
                             } : State)) : Prop)) ∧
  ((({ State.reset with sys := { held := false, done := [4, 3, 2, 1] }, regs := [(256, 0x8000001#64)] } : State) :
     State).sys.held = false ∧ ((fun (u : State) => u.phaseMay 5 [3, 4] ∧ u.selectRead = some 0) (begin 0
     ({ State.reset with sys := { held := false, done := [4, 3, 2, 1] }, regs := [(256, 0x8000001#64)] } : State)) :
     Prop)) ∧
  ((({ State.reset with sys := { held := false, done := [4, 3, 2, 1] }, regs := [(256, 0x8000001#64)] } : State) :
     State).sys.held = false ∧ ((fun (m0 : Dimm) (m1 : Dimm) (u : State) => u.phaseMay 6 [4] ∧ !u.sys.dramFail ∧
     (u.dramTrain m0 m1).flag F.SYS_CALL_STATUS_DRAM_OK_0 ∧ (u.dramTrain m0 m1).flag F.SYS_CALL_STATUS_DRAM_OK_1)
     ({ capacity := 16, density := 16, rowBits := 16, colBits := 10, ranks := 1, width := 8, rating := 0, minPs := [],
                fail := none, full := false })
     ({ capacity := 16, density := 16, rowBits := 16, colBits := 10, ranks := 1, width := 8, rating := 0, minPs := [],
                fail := none, full := false }) (begin 0
     ({ State.reset with sys := { held := false, done := [4, 3, 2, 1] }, regs := [(256, 0x8000001#64)] } : State)) :
     Prop)) ∧
  ((({ State.reset with sys := { held := false, done := [6, 5, 4, 3, 2, 1] }, regs := [(256, 0x8000001#64)] } : State)
     : State).sys.held = false ∧ ((fun (u : State) => u.phaseMay 7 [5, 6] ∧ !u.flag F.SYS_CALL_STATUS_PROMPT_BAD)
     (begin 0 ({ State.reset with sys := { held := false, done := [6, 5, 4, 3, 2, 1] }, regs := [(256, 0x8000001#64)]
                                    } : State)) : Prop)) ∧
  ((({ State.reset with sys := { held := false, done := [7, 6, 5, 4, 3, 2, 1] }, regs := [(256, 0x8000001#64)] } :
     State) : State).sys.held = false ∧ ((fun (u : State) => u.phaseMay 8 [7] ∧ !u.ldg.scanned) (begin 0
     ({ State.reset with sys := { held := false, done := [7, 6, 5, 4, 3, 2, 1] }, regs := [(256, 0x8000001#64)] } :
     State)) : Prop)) ∧
  ((({ State.reset with sys := { held := false, done := [7, 6, 5, 4, 3, 2, 1] }, regs := [(256, 0x8000001#64)], ldg :=
                          { scanned := true } } : State) : State).sys.held = false ∧ ((fun (u : State) => u.mode = 1 ∧
     u.phaseDone 7 ∧ !u.phaseDone 8 ∧ u.ldg.scanned ∧ !u.sys.companyDone ∧ u.sys.promptAt + u.sys.joinMs * 1000000000
     ≤ u.now) (begin 100000000000
     ({ State.reset with sys := { held := false, done := [7, 6, 5, 4, 3, 2, 1] }, regs := [(256, 0x8000001#64)], ldg
                           := { scanned := true } } : State)) : Prop)) ∧
  ((({ State.reset with sys := { held := false, done := [7, 6, 5, 4, 3, 2, 1] }, regs := [(256, 0x8000001#64)], ldg :=
                          { scanned := true }, dpx := { configured := true } } : State) : State).sys.held = false ∧
     ((fun (u : State) => u.mode = 1 ∧ u.phaseDone 7 ∧ !u.phaseDone 8 ∧ u.ldg.scanned ∧ u.dpx.configured ∧
     !u.sys.roleDone ∧ u.sys.promptAt + 10000000000 ≤ u.now) (begin 10000000000
     ({ State.reset with sys := { held := false, done := [7, 6, 5, 4, 3, 2, 1] }, regs := [(256, 0x8000001#64)], ldg
                           := { scanned := true }, dpx := { configured := true } } : State)) : Prop)) ∧
  ((({ State.reset with sys := { held := false, done := [8, 7, 6, 5, 4, 3, 2, 1], armStarted := true }, regs := [(256,
                          0x8000001#64)] } : State) : State).sys.held = false ∧ ((fun (u : State) => !u.lanesBusy ∧
     u.marksWritten ∧ !u.sys.held ∧ !u.sys.armFail ∧ !u.sys.printReset ∧ u.mode = 1 ∧ u.sys.armStarted ∧ !u.phaseDone
     9 ∧ u.headsPlace.2 ∧ ((u.headsPlace.1.tracksArm.phaseEnd 9).put F.SYS_CALL_STATUS_DONE 1).role ≠ 2) (begin 0
     ({ State.reset with sys := { held := false, done := [8, 7, 6, 5, 4, 3, 2, 1], armStarted := true }, regs :=
                           [(256, 0x8000001#64)] } : State)) : Prop)) := by
  refine ⟨⟨by decide, ?_⟩, ⟨by decide, ?_⟩, ⟨by decide, ?_⟩, ⟨by decide, ?_⟩, ⟨by decide, ?_⟩, ⟨by decide, ?_⟩, ⟨by
    decide, ?_⟩, ⟨by decide, ?_⟩, ⟨by decide, ?_⟩, ⟨by decide, ?_⟩, ⟨by decide, ?_⟩, ⟨by decide, ?_⟩, ⟨by decide, ?_⟩, ⟨by
    decide, ?_⟩, ⟨by decide, ?_⟩, ⟨by decide, ?_⟩⟩
  all_goals try dsimp only
  all_goals decide +kernel

theorem witness_ModeRequestsComplete :
  ((({ State.reset with sys := { held := false }, regs := [(256, 0x8000003#64)] } : State) : State).sys.held = false ∧
     ((fun (m : Master) (u : State) => u.granted m F.SYS_MODE_REQ true ∧ !(u.withReg F.SYS_MODE_REQ 2).flag
     F.SYS_MODE_BUSY ∧ (u.withReg F.SYS_MODE_REQ 2).mode = 3) .prompter (begin 0
     ({ State.reset with sys := { held := false }, regs := [(256, 0x8000003#64)] } : State)) : Prop)) ∧
  ((({ State.reset with sys := { held := false }, regs := [(256, 0x8000004#64)] } : State) : State).sys.held = false ∧
     ((fun (m : Master) (u : State) => u.granted m F.SYS_MODE_REQ true ∧ !(u.withReg F.SYS_MODE_REQ 2).flag
     F.SYS_MODE_BUSY ∧ (u.withReg F.SYS_MODE_REQ 2).mode = 4) .prompter (begin 0
     ({ State.reset with sys := { held := false }, regs := [(256, 0x8000004#64)] } : State)) : Prop)) ∧
  ((({ State.reset with sys := { held := false }, regs := [(256, 0x8000006#64)] } : State) : State).sys.held = false ∧
     ((fun (m : Master) (u : State) => u.granted m F.SYS_MODE_REQ true ∧ !(u.withReg F.SYS_MODE_REQ 2).flag
     F.SYS_MODE_BUSY ∧ ((u.withReg F.SYS_MODE_REQ 2).mode = 1 ∨ (u.withReg F.SYS_MODE_REQ 2).mode = 2 ∨ (u.withReg
     F.SYS_MODE_REQ 2).mode = 6)) .prompter (begin 0
     ({ State.reset with sys := { held := false }, regs := [(256, 0x8000006#64)] } : State)) : Prop)) ∧
  ((({ State.reset with sys := { held := false }, regs := [(256, 0x8000002#64)] } : State) : State).sys.held = false ∧
     ((fun (m : Master) (u : State) => u.granted m F.SYS_MODE_REQ true ∧ !(u.withReg F.SYS_MODE_REQ 3).flag
     F.SYS_MODE_BUSY ∧ (u.withReg F.SYS_MODE_REQ 3).mode = 2) .prompter (begin 0
     ({ State.reset with sys := { held := false }, regs := [(256, 0x8000002#64)] } : State)) : Prop)) ∧
  ((({ State.reset with sys := { held := false }, regs := [(256, 0x800000B#64)] } : State) : State).sys.held = false ∧
     ((fun (m : Master) (u : State) => u.granted m F.SYS_MODE_REQ true ∧ (u.withReg F.SYS_MODE_REQ 3).flag
     F.SYS_MODE_BUSY) .prompter (begin 0 ({ State.reset with sys := { held := false }, regs := [(256, 0x800000B#64)] }
     : State)) : Prop)) ∧
  ((({ State.reset with sys := { held := false }, regs := [(256, 0x8000002#64)] } : State) : State).sys.held = false ∧
     ((fun (m : Master) (u : State) => u.granted m F.SYS_MODE_REQ true ∧ !(u.withReg F.SYS_MODE_REQ 4).flag
     F.SYS_MODE_BUSY ∧ (u.withReg F.SYS_MODE_REQ 4).mode = 2) .prompter (begin 0
     ({ State.reset with sys := { held := false }, regs := [(256, 0x8000002#64)] } : State)) : Prop)) ∧
  ((({ State.reset with sys := { held := false }, regs := [(256, 0x8000002#64)] } : State) : State).sys.held = false ∧
     ((fun (m : Master) (u : State) => u.granted m F.SYS_MODE_REQ true ∧ !(u.withReg F.SYS_MODE_REQ 5).flag
     F.SYS_MODE_BUSY ∧ (u.withReg F.SYS_MODE_REQ 5).mode = 2) .prompter (begin 0
     ({ State.reset with sys := { held := false }, regs := [(256, 0x8000002#64)] } : State)) : Prop)) ∧
  ((({ State.reset with sys := { held := false }, regs := [(256, 0x8000006#64)] } : State) : State).sys.held = false ∧
     ((fun (m : Master) (u : State) => u.granted m F.SYS_MODE_REQ true ∧ !(u.withReg F.SYS_MODE_REQ 7).flag
     F.SYS_MODE_BUSY ∧ ((u.withReg F.SYS_MODE_REQ 7).mode = 0 ∨ (u.withReg F.SYS_MODE_REQ 7).mode = 2 ∨ (u.withReg
     F.SYS_MODE_REQ 7).mode = 6)) .prompter (begin 0
     ({ State.reset with sys := { held := false }, regs := [(256, 0x8000006#64)] } : State)) : Prop)) ∧
  ((({ State.reset with sys := { held := false }, regs := [(256, 0x8000001#64)] } : State) : State).sys.held = false ∧
     ((fun (m : Master) (u : State) => u.granted m F.SYS_CALL_CTRL true) .prompter (begin 0
     ({ State.reset with sys := { held := false }, regs := [(256, 0x8000001#64)] } : State)) : Prop)) ∧
  ((({ State.reset with sys := { held := false }, regs := [(256, 0x8000001#64)] } : State) : State).sys.held = false ∧
     ((fun (m : Master) (u : State) => u.granted m F.SYS_CALL_CTRL true) .prompter (begin 0
     ({ State.reset with sys := { held := false }, regs := [(256, 0x8000001#64)] } : State)) : Prop)) ∧
  ((({ State.reset with sys := { held := false }, regs := [(256, 0x8000002#64)] } : State) : State).sys.held = false ∧
     ((fun (m : Master) (u : State) => u.granted m F.SYS_RESET_REQ true) .prompter (begin 0
     ({ State.reset with sys := { held := false }, regs := [(256, 0x8000002#64)] } : State)) : Prop)) ∧
  ((({ State.reset with sys := { held := false }, regs := [(256, 0x8000002#64)] } : State) : State).sys.held = false ∧
     ((fun (m : Master) (u : State) => u.granted m F.SYS_RESET_REQ true) .prompter (begin 0
     ({ State.reset with sys := { held := false }, regs := [(256, 0x8000002#64)] } : State)) : Prop)) ∧
  ((({ State.reset with sys := { held := false }, regs := [(256, 0x8000002#64)] } : State) : State).sys.held = false ∧
     ((fun (m : Master) (u : State) => u.granted m F.SYS_RESET_REQ true) .prompter (begin 0
     ({ State.reset with sys := { held := false }, regs := [(256, 0x8000002#64)] } : State)) : Prop)) := by
  refine ⟨⟨by decide, ?_⟩, ⟨by decide, ?_⟩, ⟨by decide, ?_⟩, ⟨by decide, ?_⟩, ⟨by decide, ?_⟩, ⟨by decide, ?_⟩, ⟨by
    decide, ?_⟩, ⟨by decide, ?_⟩, ⟨by decide, ?_⟩, ⟨by decide, ?_⟩, ⟨by decide, ?_⟩, ⟨by decide, ?_⟩, ⟨by decide, ?_⟩⟩
  all_goals try dsimp only
  all_goals decide +kernel

theorem witness_ResetsComplete :
  ((({ State.reset with sys := { held := false }, cue := { pinEnd := [(0, 5)] } } : State) : State).sys.held = false ∧
     ((fun (k : Fin 8) (u : State) => 0 < tblGet 0 u.cue.pinEnd k.val ∧ tblGet 0 u.cue.pinEnd k.val ≤ u.now) 0 (begin
     9 ({ State.reset with sys := { held := false }, cue := { pinEnd := [(0, 5)] } } : State)) : Prop)) ∧
  (((fun (u : State) => u.sys.held ∧ u.sys.por) (begin 0 State.reset) : Prop)) ∧
  (((fun (u : State) => u.sys.held ∧ !u.sys.por) (begin 0 ({ State.reset with sys := { por := false } } : State)) :
     Prop)) ∧
  (((fun (_u : State) => True) (begin 0 ({ State.reset with sys := { held := false }, regs := [(256, 0x8000002#64)] }
     : State)) : Prop)) ∧
  (((fun (u : State) => !u.sys.held) (begin 0
     ({ State.reset with sys := { held := false }, regs := [(256, 0x8000002#64)] } : State)) : Prop)) ∧
  ((({ State.reset with sys := { held := false }, regs := [(256, 0x8000002#64)] } : State) : State).sys.held = false ∧
     ((fun (_u : State) => True) (begin 0
     ({ State.reset with sys := { held := false }, regs := [(256, 0x8000002#64)] } : State)) : Prop)) ∧
  (((fun (u : State) => !u.sys.earlyWarning) (begin 0
     ({ State.reset with sys := { held := false }, regs := [(256, 0x8000002#64)] } : State)) : Prop)) ∧
  (((fun (u : State) => u.sys.earlyWarning) (begin 0
     ({ State.reset with sys := { held := false, earlyWarning := true }, regs := [(256, 0x8000002#64)] } : State)) :
     Prop)) ∧
  ((({ State.reset with sys := { held := false, reset := some (1, 3) }, regs := [(256, 0x8000002#64)] } : State) :
     State).sys.held = false ∧ ((fun (u : State) => u.resetDue 1 ∧ (u.resetTaken.mode = 2 ∨ u.resetTaken.mode = 7))
     (begin 3 ({ State.reset with sys := { held := false, reset := some (1, 3) }, regs := [(256, 0x8000002#64)] } :
     State)) : Prop)) ∧
  ((({ State.reset with sys := { held := false, reset := some (2, 3) }, regs := [(256, 0x8000002#64)] } : State) :
     State).sys.held = false ∧ ((fun (u : State) => u.resetDue 2) (begin 3
     ({ State.reset with sys := { held := false, reset := some (2, 3) }, regs := [(256, 0x8000002#64)] } : State)) :
     Prop)) ∧
  ((({ State.reset with sys := { held := false, reset := some (3, 3) }, regs := [(256, 0x8000002#64)] } : State) :
     State).sys.held = false ∧ ((fun (u : State) => u.resetDue 3) (begin 3
     ({ State.reset with sys := { held := false, reset := some (3, 3) }, regs := [(256, 0x8000002#64)] } : State)) :
     Prop)) ∧
  ((({ State.reset with sys := { held := false }, lcy := { resetAt := some 0 } } : State) : State).sys.held = false ∧
     ((fun (a : Nat) (u : State) => u.lcy.resetAt = some a ∧ a ≤ u.now) 0 (begin 0
     ({ State.reset with sys := { held := false }, lcy := { resetAt := some 0 } } : State)) : Prop)) := by
  refine ⟨⟨by decide, ?_⟩, ?_, ?_, ?_, ?_, ⟨by decide, ?_⟩, ?_, ?_, ⟨by decide, ?_⟩, ⟨by decide, ?_⟩, ⟨by decide, ?_⟩, ⟨by
    decide, ?_⟩⟩
  all_goals try dsimp only
  all_goals decide +kernel

theorem witness_RegisterAccessesComplete :
  ((({ State.reset with sys := { held := false } } : State) : State).sys.held = false ∧ ((fun (m : Master) (addr :
     Nat) (data : Option Nat) (u : State) => !inWindow addr ∧ u.granted m ⟨addr, 0, 0, 0⟩ data.isSome) .prompter 0x200
     none (begin 0 ({ State.reset with sys := { held := false } } : State)) : Prop)) ∧
  ((({ State.reset with sys := { held := false } } : State) : State).sys.held = false ∧ ((fun (b : Nat) (addr : Nat)
     (data : Option Nat) (u : State) => !u.boxMayReg b addr data.isSome) 0 0x70000 (some 1) (begin 0
     ({ State.reset with sys := { held := false } } : State)) : Prop)) ∧
  ((({ State.reset with sys := { held := false } } : State) : State).sys.held = false ∧ ((fun (m : Master) (addr :
     Nat) (data : Option Nat) (u : State) => findReg addr = none ∧ !inWindow addr ∧ u.granted m ⟨addr, 0, 0, 0⟩
     data.isSome) .prompter 0x250 none (begin 0 ({ State.reset with sys := { held := false } } : State)) : Prop)) ∧
  ((({ State.reset with sys := { held := false } } : State) : State).sys.held = false ∧ ((fun (addr : Nat) (data :
     Option Nat) (u : State) => u.cfg.swap = none ∧ !inWindow addr ∧ u.granted .fabric ⟨addr, 0, 0, 0⟩ data.isSome)
     0x200 none (begin 0 ({ State.reset with sys := { held := false } } : State)) : Prop)) ∧
  ((({ State.reset with sys := { held := false } } : State) : State).sys.held = false ∧ ((fun (addr : Nat) (data :
     Option Nat) (u : State) => u.cfg.swap = none ∧ data.isSome ∧ !(u.get F.PRB_CP_WMASK).testBit (blockOf addr))
     0x200 (some 1) (begin 0 ({ State.reset with sys := { held := false } } : State)) : Prop)) ∧
  ((({ State.reset with sys := { held := false }, regs := [(0x100, 0x8000002#64), (0x20000, 0xfffff#64), (0x80008,
                          0x10000000#64)] } : State) : State).sys.held = false ∧ ((fun (addr : Nat) (wide : Bool) (u :
     State) => u.cfg.swap = none ∧ addr + (if wide then 8 else 4) ≤ u.dramSize ∧ u.get F.PWR_STATUS_STATE = 0) 0 false
     (begin 0 ({ State.reset with sys := { held := false }, regs := [(0x100, 0x8000002#64), (0x20000, 0xfffff#64),
                                    (0x80008, 0x10000000#64)] } : State)) : Prop)) ∧
  ((({ State.reset with sys := { held := false }, regs := [(0x100, 0x8000002#64), (0x20000, 0xfffff#64)], regions :=
                          [{ kind := 0, base := 0, size := 4096 }] } : State) : State).sys.held = false ∧ ((fun (addr
     : Nat) (wide : Bool) (u : State) => u.cfg.swap = none ∧ u.cpMayWrite addr (if wide then 8 else 4) ∧ u.get
     F.PWR_STATUS_STATE = 0) 64 false (begin 0
     ({ State.reset with sys := { held := false }, regs := [(0x100, 0x8000002#64), (0x20000, 0xfffff#64)], regions :=
                           [{ kind := 0, base := 0, size := 4096 }] } : State)) : Prop)) ∧
  ((({ State.reset with sys := { held := false }, regs := [(F.PRB_CP_STATUS.addr, 0xFFFFFFFF#64)] } : State) :
     State).sys.held = false ∧ ((fun (m : Master) (addr : Nat) (data : Option Nat) (u : State) => inWindow addr ∧
     u.granted m ⟨addr, 0, 0, 0⟩ data.isSome ∧ u.cfg.swap = none ∧ u.flag F.PRB_CP_STATUS_SLAVE) .prompter 0x158000
     none (begin 0 ({ State.reset with sys := { held := false }, regs := [(F.PRB_CP_STATUS.addr, 0xFFFFFFFF#64)] } :
     State)) : Prop)) ∧
  ((({ State.reset with sys := { held := false }, window := [⟨.cp, { master := .fabric, addr := 0x158000, wide := false, data := none },
                          0⟩] } : State) : State).sys.held = false ∧ ((fun (x : RegWait) (l : List RegWait) (u :
     State) => u.window = x :: l ∧ u.cfg.swap = none) (⟨.cp,
     { master := .fabric, addr := 0x158000, wide := false, data := none }, 0⟩) [] (begin 0
     ({ State.reset with sys := { held := false }, window := [⟨.cp, { master := .fabric, addr := 0x158000, wide := false, data := none },
                           0⟩] } : State)) : Prop)) ∧
  ((({ State.reset with sys := { held := false }, window := [⟨.cp, { master := .fabric, addr := 0x158000, wide := false, data := none },
                          0⟩] } : State) : State).sys.held = false ∧ ((fun (x : RegWait) (l : List RegWait) (u :
     State) => u.window = x :: l ∧ u.cfg.swap = none ∧ x.at_ + max 1 (u.get F.PRB_CP_CFG_SLAVE_TIMEOUT) * 10000 ≤
     u.now) (⟨.cp, { master := .fabric, addr := 0x158000, wide := false, data := none }, 0⟩) [] (begin 100000000
     ({ State.reset with sys := { held := false }, window := [⟨.cp, { master := .fabric, addr := 0x158000, wide := false, data := none },
                           0⟩] } : State)) : Prop)) ∧
  ((({ State.reset with sys := { held := false, done := [5] } } : State) : State).sys.held = false ∧ ((fun (u : State)
     => u.phaseDone 5) (begin 0 ({ State.reset with sys := { held := false, done := [5] } } : State)) : Prop)) ∧
  ((({ State.reset with sys := { held := false } } : State) : State).sys.held = false ∧ ((fun (m : Master) (n : Fin
     16) (u : State) => u.granted m (F.PRB_SEL n.val) true ∧ tblGet none u.hits (F.PRB_SEL n.val).addr = none)
     .prompter 0 (begin 0 ({ State.reset with sys := { held := false } } : State)) : Prop)) ∧
  ((({ State.reset with sys := { held := false } } : State) : State).sys.held = false ∧ ((fun (_u : State) => True)
     (begin 0 ({ State.reset with sys := { held := false } } : State)) : Prop)) := by
  refine ⟨⟨by decide, ?_⟩, ⟨by decide, ?_⟩, ⟨by decide, ?_⟩, ⟨by decide, ?_⟩, ⟨by decide, ?_⟩, ⟨by decide, ?_⟩, ⟨by
    decide, ?_⟩, ⟨by decide, ?_⟩, ⟨by decide, ?_⟩, ⟨by decide, ?_⟩, ⟨by decide, ?_⟩, ⟨by decide, ?_⟩, ⟨by decide, ?_⟩⟩
  all_goals try dsimp only
  all_goals decide +kernel

theorem witness_TrackCommandsComplete :
  ((({ State.reset with sys := { held := false }, regs := [(F.PWR_STATUS.addr, 0xFFFFF#64)] } : State) :
     State).sys.held = false ∧ ((fun (n : Fin 16) (u : State) => u.inCurtain n.val) 0 (begin 0
     ({ State.reset with sys := { held := false }, regs := [(F.PWR_STATUS.addr, 0xFFFFF#64)] } : State)) : Prop)) ∧
  ((({ State.reset with sys := { held := false }, regs := [(F.PWR_STATUS.addr, 0xFFFFF#64)] } : State) :
     State).sys.held = false ∧ ((fun (m : Master) (n : Fin 16) (r : Fin 12) (u : State) => u.granted m ((stagedTrk
     n.val).getD r.val (F.TRK_CTRL n.val)) true ∧ r ≠ 8) .prompter 0 0 (begin 0
     ({ State.reset with sys := { held := false }, regs := [(F.PWR_STATUS.addr, 0xFFFFF#64)] } : State)) : Prop)) ∧
  ((({ State.reset with sys := { held := false }, regs := [(F.PWR_STATUS.addr, 0xFFFFF#64)] } : State) :
     State).sys.held = false ∧ ((fun (m : Master) (n : Fin 16) (u : State) => u.granted m (F.TRK_SCHED n.val) true)
     .prompter 0 (begin 0 ({ State.reset with sys := { held := false }, regs := [(F.PWR_STATUS.addr, 0xFFFFF#64)] } :
     State)) : Prop)) ∧
  ((({ State.reset with sys := { held := false }, regs := [(F.PWR_STATUS.addr, 0xFFFFF#64)] } : State) :
     State).sys.held = false ∧ ((fun (m : Master) (n : Fin 16) (r : Fin 3) (u : State) => u.granted m ((posTrk
     n.val).getD r.val (F.TRK_POS n.val)) false) .prompter 0 0 (begin 0
     ({ State.reset with sys := { held := false }, regs := [(F.PWR_STATUS.addr, 0xFFFFF#64)] } : State)) : Prop)) ∧
  ((({ State.reset with sys := { held := false }, regs := [(F.PWR_STATUS.addr, 0xFFFFF#64)], trk := [(0, { armed := true })]
                          } : State) : State).sys.held = false ∧ ((fun (n : Sampled) (u : State) => u.takes n ∧
     (u.track n.track.val).armed) (⟨0, 16⟩) (begin 0
     ({ State.reset with sys := { held := false }, regs := [(F.PWR_STATUS.addr, 0xFFFFF#64)], trk := [(0, { armed := true })]
                           } : State)) : Prop)) ∧
  ((({ State.reset with sys := { held := false }, regs := [(F.PWR_STATUS.addr, 0xFFFFF#64)] } : State) :
     State).sys.held = false ∧ ((fun (n : Sampled) (u : State) => u.takes n ∧ !(u.track n.track.val).armed) (⟨0, 16⟩)
     (begin 0 ({ State.reset with sys := { held := false }, regs := [(F.PWR_STATUS.addr, 0xFFFFF#64)] } : State)) :
     Prop)) ∧
  ((({ State.reset with sys := { held := false }, regs := [(F.PWR_STATUS.addr, 0xFFFFF#64)], trk := [(0, { armed := true })]
                          } : State) : State).sys.held = false ∧ ((fun (n : Sampled) (u : State) => u.takes n ∧
     (u.track n.track.val).armed) (⟨0, 16⟩) (begin 0
     ({ State.reset with sys := { held := false }, regs := [(F.PWR_STATUS.addr, 0xFFFFF#64)], trk := [(0, { armed := true })]
                           } : State)) : Prop)) ∧
  ((({ State.reset with sys := { held := false }, regs := [(F.PWR_STATUS.addr, 0xFFFFF#64)], trk := [(0, { armed := true })],
                          active := [((F.TRK_INPUT 0).addr, 0x104#64)] } : State) : State).sys.held = false ∧ ((fun (n
     : Sampled) (u : State) => u.takes n ∧ !(u.edgeComes n.track.val) ∧ (u.track n.track.val).late = [] ∧ (u.track
     n.track.val).armed ∧ u.act (F.TRK_INPUT_Z_MODE n.track.val) = 1 ∧ !(u.track n.track.val).back) (⟨0, 16⟩) (begin 0
     ({ State.reset with sys := { held := false }, regs := [(F.PWR_STATUS.addr, 0xFFFFF#64)], trk := [(0, { armed := true })],
                           active := [((F.TRK_INPUT 0).addr, 0x104#64)] } : State)) : Prop)) ∧
  ((({ State.reset with sys := { held := false }, regs := [(F.PWR_STATUS.addr, 0xFFFFF#64)], trk := [(0, { armed := true, st := .rejoin, period := 16, lastEdge := some 0 })]
                          } : State) : State).sys.held = false ∧ ((fun (n : Fin 16) (e : Ps) (u : State) => u.tracksOn
     ∧ (u.track n.val).armed ∧ (u.track n.val).lastEdge = some e ∧ e + u.timeoutPs n.val ≤ u.now ∧ !(u.edgeComes
     n.val) ∧ ((u.track n.val).st = .rejoin ∨ ((u.track n.val).st = .locked ∧ 0 < u.act (F.TRK_COAST_DISTANCE
     n.val)))) 0 0 (begin 1000000000
     ({ State.reset with sys := { held := false }, regs := [(F.PWR_STATUS.addr, 0xFFFFF#64)], trk := [(0, { armed := true, st := .rejoin, period := 16, lastEdge := some 0 })]
                           } : State)) : Prop)) ∧
  ((({ State.reset with sys := { held := false }, regs := [(F.PWR_STATUS.addr, 0xFFFFF#64)], trk := [(0, { armed := true, st := .locked, period := 16, lastEdge := some 0 })],
                          active := [((F.TRK_COAST 0).addr, 0#64)] } : State) : State).sys.held = false ∧ ((fun (n :
     Fin 16) (e : Ps) (u : State) => u.tracksOn ∧ (u.track n.val).armed ∧ (u.track n.val).lastEdge = some e ∧ e +
     u.timeoutPs n.val ≤ u.now ∧ !(u.edgeComes n.val) ∧ (u.track n.val).st = .locked ∧ u.act (F.TRK_COAST_DISTANCE
     n.val) = 0) 0 0 (begin 1000000000
     ({ State.reset with sys := { held := false }, regs := [(F.PWR_STATUS.addr, 0xFFFFF#64)], trk := [(0, { armed := true, st := .locked, period := 16, lastEdge := some 0 })],
                           active := [((F.TRK_COAST 0).addr, 0#64)] } : State)) : Prop)) ∧
  ((({ State.reset with sys := { held := false }, regs := [(F.PWR_STATUS.addr, 0xFFFFF#64)], trk := [(0, { armed := true, st := .coast, coastUsed := 1000000000000000 })]
                          } : State) : State).sys.held = false ∧ ((fun (n : Fin 16) (u : State) => u.tracksOn ∧
     (u.track n.val).armed ∧ (u.track n.val).st = .coast ∧ !(u.edgeComes n.val) ∧ u.coastLeft n.val ≤ u.psMove n.val
     u.now) 0 (begin 0
     ({ State.reset with sys := { held := false }, regs := [(F.PWR_STATUS.addr, 0xFFFFF#64)], trk := [(0, { armed := true, st := .coast, coastUsed := 1000000000000000 })]
                           } : State)) : Prop)) ∧
  ((({ State.reset with sys := { held := false }, regs := [(F.PWR_STATUS.addr, 0xFFFFF#64)], trk := [(0, { armed := true })],
                          active := [((F.TRK_CUE_CFG 0).addr, 8#64), ((F.TRK_CTRL 0).addr, 1#64)] } : State) :
     State).sys.held = false ∧ ((fun (n : Sampled) (k : Fin 8) (level : Bool) (u : State) => u.takes n ∧ !(u.edgeComes
     n.track.val) ∧ (u.track n.track.val).late = [] ∧ (u.track n.track.val).cueLevel.testBit k.val ≠ level ∧ tblGet
     none (u.track n.track.val).cues k.val = none ∧ u.cueEn n.track.val k.val ∧ u.act (F.TRK_CTRL_ENABLE n.track.val)
     = 1 ∧ level ≠ (u.track n.track.val).cueStable.testBit k.val) (⟨0, 16⟩) 0 true (begin 0
     ({ State.reset with sys := { held := false }, regs := [(F.PWR_STATUS.addr, 0xFFFFF#64)], trk := [(0, { armed := true })],
                           active := [((F.TRK_CUE_CFG 0).addr, 8#64), ((F.TRK_CTRL 0).addr, 1#64)] } : State)) : Prop)) ∧
  ((({ State.reset with sys := { held := false }, regs := [(F.PWR_STATUS.addr, 0xFFFFF#64)], trk := [(0, { armed := true, cueLevel := 1, cues := [(0, some { level := true, at_ := 0, pos :=
                                                                                                                                                                  0, st := .acquire,
                                                                                                                                                                  lockedOnce := false, reverse
                                                                                                                                                                  := false, inhibited :=
                                                                                                                                                                  false, inCall := false })]
                                                                                                                })],
                          active := [((F.TRK_CUE_CFG 0).addr, 8#64), ((F.TRK_CTRL 0).addr, 1#64)] } : State) :
     State).sys.held = false ∧ ((fun (n : Sampled) (k : Fin 8) (level : Bool) (c : CuePending) (u : State) => u.takes
     n ∧ !(u.edgeComes n.track.val) ∧ (u.track n.track.val).late = [] ∧ (u.track n.track.val).cueLevel.testBit k.val ≠
     level ∧ tblGet none (u.track n.track.val).cues k.val = some c ∧ u.stamp n.track.val < c.at_ + u.act
     (F.TRK_CUE_DEBOUNCE n.track.val) * 1000000 ∧ u.cueEn n.track.val k.val ∧ u.act (F.TRK_CTRL_ENABLE n.track.val) =
     1 ∧ level = (u.track n.track.val).cueStable.testBit k.val) (⟨0, 16⟩) 0 false
     ({ level := true, at_ := 0, pos := 0, st := .acquire, lockedOnce := false, reverse := false, inhibited := false,
             inCall := false }) (begin 0
     ({ State.reset with sys := { held := false }, regs := [(F.PWR_STATUS.addr, 0xFFFFF#64)], trk := [(0, { armed := true, cueLevel := 1, cues := [(0, some { level := true, at_ := 0, pos :=
                                                                                                                                                                   0, st := .acquire,
                                                                                                                                                                   lockedOnce := false,
                                                                                                                                                                   reverse := false, inhibited
                                                                                                                                                                   := false, inCall := false
                                                                                                                                                                   })] })],
                           active := [((F.TRK_CUE_CFG 0).addr, 8#64), ((F.TRK_CTRL 0).addr, 1#64)] } : State)) : Prop)) ∧
  ((({ State.reset with sys := { held := false }, regs := [(F.PWR_STATUS.addr, 0xFFFFF#64)], trk := [(0, { armed := true, st := .locked, cueLevel := 1, cues := [(0, some { level := false,
                                                                                                                                                                                 at_ := 0, pos
                                                                                                                                                                                 := 0, st :=
                                                                                                                                                                                 .locked,
                                                                                                                                                                                 lockedOnce :=
                                                                                                                                                                                 true, reverse
                                                                                                                                                                                 := false,
                                                                                                                                                                                 inhibited :=
                                                                                                                                                                                 false, inCall
                                                                                                                                                                                 := false })]
                                                                                                                })],
                          active := [((F.TRK_CUE_CFG 0).addr, 8#64), ((F.TRK_CTRL 0).addr, 1#64), ((F.TRK_CUE 0).addr,
                          0#64)] } : State) : State).sys.held = false ∧ ((fun (n : Fin 16) (k : Fin 8) (c :
     CuePending) (u : State) => u.tracksOn ∧ tblGet none (u.track n.val).cues k.val = some c ∧ c.at_ + u.act
     (F.TRK_CUE_DEBOUNCE n.val) * 1000000 ≤ u.now ∧ (let x := (u.settle n.val u.now).track n.val;
                                                     let a := (u.settle n.val u.now).setTrack n.val
                                                         { x with cues := tblPut none x.cues k.val none, cueStable :=
                                                                    if c.level then x.cueStable ||| 2 ^ k.val else
                                                                    x.cueStable &&& (255 - 2 ^ k.val) };
                                                     (c.level = a.cueEdge n.val k.val ∨ !(a.cueEn n.val k.val)))) 0 0
     ({ level := false, at_ := 0, pos := 0, st := .locked, lockedOnce := true, reverse := false, inhibited := false,
             inCall := false }) (begin 1000000000
     ({ State.reset with sys := { held := false }, regs := [(F.PWR_STATUS.addr, 0xFFFFF#64)], trk := [(0, { armed := true, st := .locked, cueLevel := 1, cues := [(0, some { level := false,
                                                                                                                                                                                  at_ := 0,
                                                                                                                                                                                  pos := 0, st
                                                                                                                                                                                  := .locked,
                                                                                                                                                                                  lockedOnce
                                                                                                                                                                                  := true,
                                                                                                                                                                                  reverse :=
                                                                                                                                                                                  false,
                                                                                                                                                                                  inhibited :=
                                                                                                                                                                                  false,
                                                                                                                                                                                  inCall :=
                                                                                                                                                                                  false })]
                                                                                                                 })],
                           active := [((F.TRK_CUE_CFG 0).addr, 8#64), ((F.TRK_CTRL 0).addr, 1#64), ((F.TRK_CUE
                           0).addr, 0#64)] } : State)) : Prop)) ∧
  ((({ State.reset with sys := { held := false }, regs := [(F.PWR_STATUS.addr, 0xFFFFF#64)], trk := [(0, { armed := true, st := .locked, cueLevel := 1, cues := [(0, some { level := true, at_
                                                                                                                                                                                 := 0, pos :=
                                                                                                                                                                                 0, st :=
                                                                                                                                                                                 .locked,
                                                                                                                                                                                 lockedOnce :=
                                                                                                                                                                                 true, reverse
                                                                                                                                                                                 := false,
                                                                                                                                                                                 inhibited :=
                                                                                                                                                                                 false, inCall
                                                                                                                                                                                 := false })]
                                                                                                                })],
                          active := [((F.TRK_CUE_CFG 0).addr, 8#64), ((F.TRK_CTRL 0).addr, 1#64), ((F.TRK_CUE 0).addr,
                          7#64)] } : State) : State).sys.held = false ∧ ((fun (n : Fin 16) (k : Fin 8) (c :
     CuePending) (u : State) => u.tracksOn ∧ tblGet none (u.track n.val).cues k.val = some c ∧ c.at_ + u.act
     (F.TRK_CUE_DEBOUNCE n.val) * 1000000 ≤ u.now ∧ (let x := (u.settle n.val u.now).track n.val;
                                                     let a := (u.settle n.val u.now).setTrack n.val
                                                         { x with cues := tblPut none x.cues k.val none, cueStable :=
                                                                    if c.level then x.cueStable ||| 2 ^ k.val else
                                                                    x.cueStable &&& (255 - 2 ^ k.val) };
                                                     c.level ≠ a.cueEdge n.val k.val ∧ a.cueEn n.val k.val ∧ (a.track
                                                       n.val).armed ∧ a.act (F.TRK_CUE_BIND_SEL n.val) ≠ k.val ∧
                                                       !(a.cueInhibits n.val k.val))) 0 0
     ({ level := true, at_ := 0, pos := 0, st := .locked, lockedOnce := true, reverse := false, inhibited := false,
             inCall := false }) (begin 1000000000
     ({ State.reset with sys := { held := false }, regs := [(F.PWR_STATUS.addr, 0xFFFFF#64)], trk := [(0, { armed := true, st := .locked, cueLevel := 1, cues := [(0, some { level := true,
                                                                                                                                                                                  at_ := 0,
                                                                                                                                                                                  pos := 0, st
                                                                                                                                                                                  := .locked,
                                                                                                                                                                                  lockedOnce
                                                                                                                                                                                  := true,
                                                                                                                                                                                  reverse :=
                                                                                                                                                                                  false,
                                                                                                                                                                                  inhibited :=
                                                                                                                                                                                  false,
                                                                                                                                                                                  inCall :=
                                                                                                                                                                                  false })]
                                                                                                                 })],
                           active := [((F.TRK_CUE_CFG 0).addr, 8#64), ((F.TRK_CTRL 0).addr, 1#64), ((F.TRK_CUE
                           0).addr, 7#64)] } : State)) : Prop)) ∧
  ((({ State.reset with sys := { held := false }, regs := [(256, 0x8000003#64), (F.PWR_STATUS.addr, 0xFFFFF#64)], trk
                          := [(0, { armed := true, st := .locked, cueLevel := 1, cues := [(0, some { level := true, at_ := 0, pos := 0, st := .locked, lockedOnce := true, reverse := false,
                                                                                                          inhibited := false, inCall := false })]
                                         })], active := [((F.TRK_CUE_CFG 0).addr, 8#64), ((F.TRK_CTRL 0).addr, 1#64),
                          ((F.TRK_CUE 0).addr, 0#64)] } : State) : State).sys.held = false ∧ ((fun (n : Fin 16) (k :
     Fin 8) (c : CuePending) (u : State) => u.tracksOn ∧ tblGet none (u.track n.val).cues k.val = some c ∧ c.at_ +
     u.act (F.TRK_CUE_DEBOUNCE n.val) * 1000000 ≤ u.now ∧ (let x := (u.settle n.val u.now).track n.val;
                                                           let a := (u.settle n.val u.now).setTrack n.val
                                                               { x with cues := tblPut none x.cues k.val none, cueStable := if c.level then x.cueStable ||| 2 ^ k.val else x.cueStable &&&
                                                                          (255 - 2 ^ k.val) };
                                                           c.level ≠ a.cueEdge n.val k.val ∧ a.cueEn n.val k.val ∧
                                                             (a.track n.val).armed ∧ a.act (F.TRK_CUE_BIND_SEL n.val)
                                                             = k.val ∧ !c.inCall ∧ a.accepting ∧ !c.reverse ∧
                                                             !c.inhibited ∧ c.st ≠ .acquire ∧ a.act (F.TRK_CUE_LOCKOUT
                                                             n.val) = 0 ∧ a.mode ≠ 4)) 0 0
     ({ level := true, at_ := 0, pos := 0, st := .locked, lockedOnce := true, reverse := false, inhibited := false,
             inCall := false }) (begin 1000000000
     ({ State.reset with sys := { held := false }, regs := [(256, 0x8000003#64), (F.PWR_STATUS.addr, 0xFFFFF#64)], trk
                           := [(0, { armed := true, st := .locked, cueLevel := 1, cues := [(0, some { level := true, at_ := 0, pos := 0, st := .locked, lockedOnce := true, reverse := false,
                                                                                                           inhibited := false, inCall := false })]
                                          })], active := [((F.TRK_CUE_CFG 0).addr, 8#64), ((F.TRK_CTRL 0).addr, 1#64),
                           ((F.TRK_CUE 0).addr, 0#64)] } : State)) : Prop)) ∧
  ((({ State.reset with sys := { held := false }, regs := [(F.PWR_STATUS.addr, 0xFFFFF#64)], trk := [(0, { armed := true, st := .locked, cueLevel := 1, cues := [(0, some { level := true, at_
                                                                                                                                                                                 := 0, pos :=
                                                                                                                                                                                 0, st :=
                                                                                                                                                                                 .locked,
                                                                                                                                                                                 lockedOnce :=
                                                                                                                                                                                 true, reverse
                                                                                                                                                                                 := true,
                                                                                                                                                                                 inhibited :=
                                                                                                                                                                                 false, inCall
                                                                                                                                                                                 := false })]
                                                                                                                })],
                          active := [((F.TRK_CUE_CFG 0).addr, 8#64), ((F.TRK_CTRL 0).addr, 1#64), ((F.TRK_CUE 0).addr,
                          0#64)] } : State) : State).sys.held = false ∧ ((fun (n : Fin 16) (k : Fin 8) (c :
     CuePending) (u : State) => u.tracksOn ∧ tblGet none (u.track n.val).cues k.val = some c ∧ c.at_ + u.act
     (F.TRK_CUE_DEBOUNCE n.val) * 1000000 ≤ u.now ∧ (let x := (u.settle n.val u.now).track n.val;
                                                     let a := (u.settle n.val u.now).setTrack n.val
                                                         { x with cues := tblPut none x.cues k.val none, cueStable :=
                                                                    if c.level then x.cueStable ||| 2 ^ k.val else
                                                                    x.cueStable &&& (255 - 2 ^ k.val) };
                                                     c.level ≠ a.cueEdge n.val k.val ∧ a.cueEn n.val k.val ∧ (a.track
                                                       n.val).armed ∧ a.act (F.TRK_CUE_BIND_SEL n.val) = k.val ∧
                                                       (c.inCall ∨ !a.accepting ∨ c.reverse ∨ c.inhibited ∨ (c.st =
                                                       .acquire ∧ !c.lockedOnce)))) 0 0
     ({ level := true, at_ := 0, pos := 0, st := .locked, lockedOnce := true, reverse := true, inhibited := false,
             inCall := false }) (begin 1000000000
     ({ State.reset with sys := { held := false }, regs := [(F.PWR_STATUS.addr, 0xFFFFF#64)], trk := [(0, { armed := true, st := .locked, cueLevel := 1, cues := [(0, some { level := true,
                                                                                                                                                                                  at_ := 0,
                                                                                                                                                                                  pos := 0, st
                                                                                                                                                                                  := .locked,
                                                                                                                                                                                  lockedOnce
                                                                                                                                                                                  := true,
                                                                                                                                                                                  reverse :=
                                                                                                                                                                                  true,
                                                                                                                                                                                  inhibited :=
                                                                                                                                                                                  false,
                                                                                                                                                                                  inCall :=
                                                                                                                                                                                  false })]
                                                                                                                 })],
                           active := [((F.TRK_CUE_CFG 0).addr, 8#64), ((F.TRK_CTRL 0).addr, 1#64), ((F.TRK_CUE
                           0).addr, 0#64)] } : State)) : Prop)) := by
  refine ⟨⟨by decide, ?_⟩, ⟨by decide, ?_⟩, ⟨by decide, ?_⟩, ⟨by decide, ?_⟩, ⟨by decide, ?_⟩, ⟨by decide, ?_⟩, ⟨by
    decide, ?_⟩, ⟨by decide, ?_⟩, ⟨by decide, ?_⟩, ⟨by decide, ?_⟩, ⟨by decide, ?_⟩, ⟨by decide, ?_⟩, ⟨by decide, ?_⟩, ⟨by
    decide, ?_⟩, ⟨by decide, ?_⟩, ⟨by decide, ?_⟩, ⟨by decide, ?_⟩⟩
  all_goals try dsimp only
  all_goals decide +kernel

theorem witness_LinesAndItemsComplete :
  ((({ State.reset with sys := { held := false } } : State) : State).sys.held = false ∧ ((fun (_u : State) => True)
     (begin 0 ({ State.reset with sys := { held := false } } : State)) : Prop)) ∧
  ((({ State.reset with sys := { held := false }, regs := [(256, 0x8000002#64)], trk := [(0, { armed := true, st := .locked })],
                          wq := [(0, { items := [{ id := 1, phase := .printing, lines := 1, pitch := 64 }] })] } :
     State) : State).sys.held = false ∧ ((fun (n : Fin 16) (l : NextLine) (u : State) => (u.atFire n.val).fires n.val
     ∧ !((u.atFire n.val).reverseComes n.val) ∧ (u.atFire n.val).reached n.val = some l) 0 (⟨1, 0, 0, 0⟩) (begin 0
     ({ State.reset with sys := { held := false }, regs := [(256, 0x8000002#64)], trk := [(0, { armed := true, st := .locked })],
                           wq := [(0, { items := [{ id := 1, phase := .printing, lines := 1, pitch := 64 }] })] } :
     State)) : Prop)) ∧
  ((({ State.reset with sys := { held := false }, regs := [(256, 0x8000002#64)], trk := [(0, { armed := true, st := .locked, overspeed := true, lastFire := some 0 })],
                          wq := [(0, { items := [{ id := 1, phase := .printing, lines := 1, pitch := 64 }] })] } :
     State) : State).sys.held = false ∧ ((fun (n : Fin 16) (l : NextLine) (a : Ps) (u : State) => (u.atFire
     n.val).fires n.val ∧ !((u.atFire n.val).reverseComes n.val) ∧ ((u.atFire n.val).track n.val).overspeed ∧
     (u.atFire n.val).reached n.val = some l ∧ ((u.atFire n.val).track n.val).lastFire = some a ∧ a + (u.atFire
     n.val).spacingPs n.val ≤ (u.atFire n.val).now) 0 (⟨1, 0, 0, 0⟩) 0 (begin 1000000000000
     ({ State.reset with sys := { held := false }, regs := [(256, 0x8000002#64)], trk := [(0, { armed := true, st := .locked, overspeed := true, lastFire := some 0 })],
                           wq := [(0, { items := [{ id := 1, phase := .printing, lines := 1, pitch := 64 }] })] } :
     State)) : Prop)) ∧
  ((({ State.reset with sys := { held := false }, boxes := [(0, { isOpen := true, port := 0 })], regs :=
                          [((F.IZX_PORT_STATUS 0).addr, 4#64)] } : State) : State).sys.held = false ∧ ((fun (p : Fin
     2) (b : Fin 15) (seq : Nat) (payload : List Byte) (u : State) => u.get (F.IZX_PORT_STATUS_STATE p.val) = 4 ∧
     u.get F.PWR_STATUS_STATE = 0 ∧ u.izxMay p.val b.val (frameBlocks payload) ∧ u.seqDist b.val (seq % 2 ^ 32) = 1) 0
     0 1 [] (begin 0
     ({ State.reset with sys := { held := false }, boxes := [(0, { isOpen := true, port := 0 })], regs :=
                           [((F.IZX_PORT_STATUS 0).addr, 4#64)] } : State)) : Prop)) ∧
  ((({ State.reset with sys := { held := false }, boxes := [(0, { isOpen := true, port := 0 })], regs :=
                          [((F.IZX_PORT_STATUS 0).addr, 4#64)] } : State) : State).sys.held = false ∧ ((fun (p : Fin
     2) (b : Fin 15) (seq : Nat) (payload : List Byte) (u : State) => u.get (F.IZX_PORT_STATUS_STATE p.val) = 4 ∧
     u.get F.PWR_STATUS_STATE = 0 ∧ u.izxMay p.val b.val (frameBlocks payload) ∧ u.seqDist b.val (seq % 2 ^ 32) = 1) 0
     0 1 [] (begin 0
     ({ State.reset with sys := { held := false }, boxes := [(0, { isOpen := true, port := 0 })], regs :=
                           [((F.IZX_PORT_STATUS 0).addr, 4#64)] } : State)) : Prop)) ∧
  ((({ State.reset with sys := { held := false }, boxes := [(15, { isOpen := true })] } : State) : State).sys.held =
     false ∧ ((fun (seq : Nat) (u : State) => (u.box 15).isOpen ∧ (u.box 15).due.length + (u.box 15).retries.length <
     16 ∧ u.cfg.swap = none ∧ u.seqDist 15 (seq % 2 ^ 32) = 1) 1 (begin 0
     ({ State.reset with sys := { held := false }, boxes := [(15, { isOpen := true })] } : State)) : Prop)) ∧
  ((({ State.reset with sys := { held := false }, wq := [(0, { items := [{ id := 1, phase := .serial 0 }] })] } :
     State) : State).sys.held = false ∧ ((fun (n : Fin 16) (x : Item) (u : State) => u.serialLate n.val = some x) 0
     ({ id := 1, phase := .serial 0 }) (begin 100000000000
     ({ State.reset with sys := { held := false }, wq := [(0, { items := [{ id := 1, phase := .serial 0 }] })] } :
     State)) : Prop)) ∧
  ((({ State.reset with sys := { held := false }, regs := [(0x100, 0x8000002#64), (0x20000, 0xfffff#64), (0x80000,
                          0x20000000#64), (0x90000, 0x20000000#64)], wq := [(0, { items := [{ id := 1 }] })], dreq :=
                          [{ cls := 3, addr := 0, len := 64, data := some [], who := .record 0 1, since := 0 }] } :
     State) : State).sys.held = false ∧ ((fun (n : Fin 16) (x : Item) (i : Nat) (u : State) => (u.queue
     n.val).items.find? (fun x => x.phase = .writing) = some x ∧ u.dramOf (.record n.val x.id) = some i ∧ u.dramFree
     i) 0 ({ id := 1 }) 0 (begin 0
     ({ State.reset with sys := { held := false }, regs := [(0x100, 0x8000002#64), (0x20000, 0xfffff#64), (0x80000,
                           0x20000000#64), (0x90000, 0x20000000#64)], wq := [(0, { items := [{ id := 1 }] })], dreq :=
                           [{ cls := 3, addr := 0, len := 64, data := some [], who := .record 0 1, since := 0 }] } :
     State)) : Prop)) ∧
  ((({ State.reset with sys := { held := false }, wq := [(0, { holdAt := some 0 })] } : State) : State).sys.held =
     false ∧ ((fun (n : Fin 16) (a : Ps) (u : State) => (u.queue n.val).holdAt = some a ∧ a + u.act
     (F.WQ_CFG_RETRY_HOLD n.val) * 1000000000 ≤ u.now) 0 0 (begin 1000000000000
     ({ State.reset with sys := { held := false }, wq := [(0, { holdAt := some 0 })] } : State)) : Prop)) ∧
  ((({ State.reset with sys := { held := false }, wq := [(0, { items := [{ id := 1, phase := .head }] })] } : State) :
     State).sys.held = false ∧ ((fun (n : Fin 16) (id : Nat) (x : Item) (u : State) => id ≠ 0 ∧ u.item? n.val id =
     some x ∧ (x.phase = .head ∨ x.running) ∧ !x.delivered) 0 1 ({ id := 1, phase := .head }) (begin 0
     ({ State.reset with sys := { held := false }, wq := [(0, { items := [{ id := 1, phase := .head }] })] } : State))
     : Prop)) ∧
  ((({ State.reset with sys := { held := false }, trk := [(0, { starves := [{ layout := 0, version := 0, c := 0, offset := 0, pitch := 64, lines := 1 }] })]
                          } : State) : State).sys.held = false ∧ ((fun (n : Fin 16) (v : Starve) (u : State) =>
     (u.track n.val).starves.find? (fun x => !x.ready) = some v) 0
     ({ layout := 0, version := 0, c := 0, offset := 0, pitch := 64, lines := 1 }) (begin 0
     ({ State.reset with sys := { held := false }, trk := [(0, { starves := [{ layout := 0, version := 0, c := 0, offset := 0, pitch := 64, lines := 1 }] })]
                           } : State)) : Prop)) ∧
  ((({ State.reset with sys := { held := false } } : State) : State).sys.held = false ∧ ((fun (m : Master) (n : Fin
     16) (u : State) => u.granted m (F.WQ_FLUSH n.val) true) .prompter 0 (begin 0
     ({ State.reset with sys := { held := false } } : State)) : Prop)) ∧
  ((({ State.reset with sys := { held := false } } : State) : State).sys.held = false ∧ ((fun (m : Master) (n : Fin
     16) (u : State) => u.granted m (F.WQ_FLUSH n.val) true) .prompter 0 (begin 0
     ({ State.reset with sys := { held := false } } : State)) : Prop)) ∧
  ((({ State.reset with sys := { held := false } } : State) : State).sys.held = false ∧ ((fun (m : Master) (n : Fin
     16) (u : State) => u.granted m (F.WQ_FLUSH n.val) true) .prompter 0 (begin 0
     ({ State.reset with sys := { held := false } } : State)) : Prop)) := by
  refine ⟨⟨by decide, ?_⟩, ⟨by decide, ?_⟩, ⟨by decide, ?_⟩, ⟨by decide, ?_⟩, ⟨by decide, ?_⟩, ⟨by decide, ?_⟩, ⟨by
    decide, ?_⟩, ⟨by decide, ?_⟩, ⟨by decide, ?_⟩, ⟨by decide, ?_⟩, ⟨by decide, ?_⟩, ⟨by decide, ?_⟩, ⟨by decide, ?_⟩, ⟨by
    decide, ?_⟩⟩
  all_goals try dsimp only
  all_goals decide +kernel

theorem witness_ForgeCommandsComplete :
  ((({ State.reset with sys := { held := false }, regs := [(256, 0x8000002#64), (F.PWR_STATUS.addr, 0xFFFFF#64)], frg
                          := { layouts := [{ id := 1, version := 1 }], lines := [{ track := 0, item := 1, c := 0, index := 0, fire := 0, layout := 1, version := 1, announced := 0 }]
                                      } } : State) : State).sys.held = false ∧ ((fun (k : Fin 8) (l : Line) (u :
     State) => (u.get F.FRG_CTRL_PIPE_EN).testBit k.val ∧ !u.pipesBusy.testBit k.val ∧ u.accepting ∧
     (u.frg.lines.filter u.eligible).foldl (fun b x => match b with
     | none => some x
     | some y => if u.lineBefore x y then some x else some y) none = some l) 0
     ({ track := 0, item := 1, c := 0, index := 0, fire := 0, layout := 1, version := 1, announced := 0 }) (begin 0
     ({ State.reset with sys := { held := false }, regs := [(256, 0x8000002#64), (F.PWR_STATUS.addr, 0xFFFFF#64)], frg
                           := { layouts := [{ id := 1, version := 1 }], lines := [{ track := 0, item := 1, c := 0, index := 0, fire := 0, layout := 1, version := 1, announced := 0 }]
                                       } } : State)) : Prop)) ∧
  ((({ State.reset with sys := { held := false }, regs := [(256, 0x8000002#64), (F.PWR_STATUS.addr, 0xFFFFF#64)], frg
                          := { lines := [{ track := 0, item := 1, c := 0, index := 0, fire := 0, layout := 1, version
                                                := 1, announced := 0, st := .composing 0 none }] } } : State) :
     State).sys.held = false ∧ ((fun (k : Fin 8) (l : Line) (u : State) => u.frg.lines.find? (fun l => match l.st with
     | .composing j _ => j = k.val
     | _ => false) = some l ∧ !u.reading l ∧ !u.lateNow l) 0
     ({ track := 0, item := 1, c := 0, index := 0, fire := 0, layout := 1, version := 1, announced := 0, st :=
             .composing 0 none }) (begin 0
     ({ State.reset with sys := { held := false }, regs := [(256, 0x8000002#64), (F.PWR_STATUS.addr, 0xFFFFF#64)], frg
                           := { lines := [{ track := 0, item := 1, c := 0, index := 0, fire := 0, layout := 1, version
                                                 := 1, announced := 0, st := .composing 0 none }] } } : State)) :
     Prop)) ∧
  ((({ State.reset with sys := { held := false }, regs := [(256, 0x8000002#64), (F.PWR_STATUS.addr, 0xFFFFF#64)], frg
                          := { lines := [{ track := 0, item := 1, c := 0, index := 0, fire := 0, layout := 1, version
                                                := 1, announced := 0, st := .left 0 }] } } : State) : State).sys.held
     = false ∧ ((fun (n : Fin 16) (l : Line) (u : State) => (u.settle n.val u.now).firstLine n.val Line.out = some l ∧
     !(u.settle n.val u.now).lateNow l) 0
     ({ track := 0, item := 1, c := 0, index := 0, fire := 0, layout := 1, version := 1, announced := 0, st := .left 0
             }) (begin 0
     ({ State.reset with sys := { held := false }, regs := [(256, 0x8000002#64), (F.PWR_STATUS.addr, 0xFFFFF#64)], frg
                           := { lines := [{ track := 0, item := 1, c := 0, index := 0, fire := 0, layout := 1, version
                                                 := 1, announced := 0, st := .left 0 }] } } : State)) : Prop)) ∧
  ((({ State.reset with sys := { held := false }, regs := [(256, 0x8000002#64), (F.PWR_STATUS.addr, 0xFFFFF#64)], frg
                          := { lines := [{ track := 0, item := 1, c := 0, index := 0, fire := 0, layout := 1, version
                                                := 1, announced := 0, st := .composing 0 none }] } } : State) :
     State).sys.held = false ∧ ((fun (k : Fin 8) (u : State) => (u.frg.lines.find? (fun l => match l.st with
     | .composing j _ => j = k.val
     | _ => false)).isSome) 0 (begin 0
     ({ State.reset with sys := { held := false }, regs := [(256, 0x8000002#64), (F.PWR_STATUS.addr, 0xFFFFF#64)], frg
                           := { lines := [{ track := 0, item := 1, c := 0, index := 0, fire := 0, layout := 1, version
                                                 := 1, announced := 0, st := .composing 0 none }] } } : State)) :
     Prop)) ∧
  ((({ State.reset with sys := { held := false }, regs := [(256, 0x8000002#64), (F.PWR_STATUS.addr, 0xFFFFF#64)] } :
     State) : State).sys.held = false ∧ ((fun (u : State) => u.forgeOn) (begin 0
     ({ State.reset with sys := { held := false }, regs := [(256, 0x8000002#64), (F.PWR_STATUS.addr, 0xFFFFF#64)] } :
     State)) : Prop)) ∧
  ((({ State.reset with sys := { held := false }, regs := [(256, 0x8000002#64), (F.PWR_STATUS.addr, 0xFFFFF#64)], frg
                          := { lines := [{ track := 0, item := 1, c := 0, index := 0, fire := 0, layout := 1, version
                                                := 1, announced := 0 }] }, trk := [(0, { armed := true, st := .locked, v := 1000 })]
                          } : State) : State).sys.held = false ∧ ((fun (n : Fin 16) (l : Line) (u : State) =>
     (u.settle n.val u.now).firstLine n.val (u.settle n.val u.now).lateNow = some l) 0
     ({ track := 0, item := 1, c := 0, index := 0, fire := 0, layout := 1, version := 1, announced := 0 }) (begin 0
     ({ State.reset with sys := { held := false }, regs := [(256, 0x8000002#64), (F.PWR_STATUS.addr, 0xFFFFF#64)], frg
                           := { lines := [{ track := 0, item := 1, c := 0, index := 0, fire := 0, layout := 1, version
                                                 := 1, announced := 0 }] }, trk := [(0, { armed := true, st := .locked, v := 1000 })]
                           } : State)) : Prop)) ∧
  ((({ State.reset with sys := { held := false } } : State) : State).sys.held = false ∧ ((fun (m : Master) (u : State)
     => u.granted m F.FRG_DL_POP true) .prompter (begin 0 ({ State.reset with sys := { held := false } } : State)) :
     Prop)) ∧
  ((({ State.reset with sys := { held := false }, regs := [(256, 0x8000002#64), (F.PWR_STATUS.addr, 0xFFFFF#64)] } :
     State) : State).sys.held = false ∧ ((fun (m : Master) (track : Fin 16) (id : Nat) (u : State) => u.granted m
     F.FRG_LAYOUT_OP true ∧ (u.withReg F.FRG_LAYOUT_OP ((layoutValue 1 track.val id))).frg.op = none ∧ ((u.withReg
     F.FRG_LAYOUT_OP ((layoutValue 1 track.val id))).accepting ∨ (u.withReg F.FRG_LAYOUT_OP ((layoutValue 1 track.val
     id))).mode = 7)) .prompter 0 0 (begin 0
     ({ State.reset with sys := { held := false }, regs := [(256, 0x8000002#64), (F.PWR_STATUS.addr, 0xFFFFF#64)] } :
     State)) : Prop)) ∧
  ((({ State.reset with sys := { held := false }, regs := [(256, 0x8000002#64), (F.PWR_STATUS.addr, 0xFFFFF#64)] } :
     State) : State).sys.held = false ∧ ((fun (m : Master) (track : Fin 16) (id : Nat) (u : State) => u.granted m
     F.FRG_LAYOUT_OP true ∧ (u.withReg F.FRG_LAYOUT_OP ((layoutValue 2 track.val id))).frg.op = none ∧ ((u.withReg
     F.FRG_LAYOUT_OP ((layoutValue 2 track.val id))).accepting ∨ (u.withReg F.FRG_LAYOUT_OP ((layoutValue 2 track.val
     id))).mode = 7)) .prompter 0 0 (begin 0
     ({ State.reset with sys := { held := false }, regs := [(256, 0x8000002#64), (F.PWR_STATUS.addr, 0xFFFFF#64)] } :
     State)) : Prop)) ∧
  ((({ State.reset with sys := { held := false }, regs := [(256, 0x8000002#64), (F.PWR_STATUS.addr, 0xFFFFF#64)] } :
     State) : State).sys.held = false ∧ ((fun (m : Master) (track : Fin 16) (id : Nat) (u : State) => u.granted m
     F.FRG_LAYOUT_OP true ∧ (u.withReg F.FRG_LAYOUT_OP ((layoutValue 3 track.val id))).frg.op = none) .prompter 0 0
     (begin 0 ({ State.reset with sys := { held := false }, regs := [(256, 0x8000002#64), (F.PWR_STATUS.addr,
                                    0xFFFFF#64)] } : State)) : Prop)) ∧
  ((({ State.reset with sys := { held := false }, regs := [(256, 0x8000002#64), (F.PWR_STATUS.addr, 0xFFFFF#64)], frg
                          := { op := some { op := 3, track := 0, id := 1, addr := 0, mirror := none }, layouts := [{ id := 1, version := 1 }]
                                 } } : State) : State).sys.held = false ∧ ((fun (o : LayoutOp) (u : State) => u.frg.op
     = some o ∧ (o.op = 3 ∨ (u.dramMay 4 o.addr 64 ∧ !u.nzc.op.any (fun p => p.op = 3))) ∧ (o.op = 1 ∨ !u.more) ∧
     o.waiting = none ∧ (o.op = 3 → u.removeFault o = none) ∧ (!u.mirrors ∨ u.layoutFails o) ∧ o.mirror = none)
     ({ op := 3, track := 0, id := 1, addr := 0, mirror := none }) (begin 0
     ({ State.reset with sys := { held := false }, regs := [(256, 0x8000002#64), (F.PWR_STATUS.addr, 0xFFFFF#64)], frg
                           := { op := some { op := 3, track := 0, id := 1, addr := 0, mirror := none }, layouts := [{ id := 1, version := 1 }]
                                  } } : State)) : Prop)) ∧
  ((({ State.reset with sys := { held := false } } : State) : State).sys.held = false ∧ ((fun (m : Master) (u : State)
     => u.granted m F.FRG_BUDGET true) .prompter (begin 0 ({ State.reset with sys := { held := false } } : State)) :
     Prop)) ∧
  ((({ State.reset with sys := { held := false } } : State) : State).sys.held = false ∧ ((fun (m : Master) (u : State)
     => u.granted m F.FRG_CTRL true) .prompter (begin 0 ({ State.reset with sys := { held := false } } : State)) :
     Prop)) ∧
  ((({ State.reset with sys := { held := false } } : State) : State).sys.held = false ∧ ((fun (m : Master) (u : State)
     => u.granted m F.FRG_CACHE_CFG true) .prompter (begin 0 ({ State.reset with sys := { held := false } } : State))
     : Prop)) ∧
  ((({ State.reset with sys := { held := false } } : State) : State).sys.held = false ∧ ((fun (m : Master) (k : Fin 8)
     (u : State) => u.granted m (F.FRG_TAP_CTRL k.val) true) .prompter 0 (begin 0
     ({ State.reset with sys := { held := false } } : State)) : Prop)) ∧
  ((({ State.reset with sys := { held := false }, regs := [(256, 0x8000002#64), (F.PWR_STATUS.addr, 0xFFFFF#64)], frg
                          := { rebuilding := true } } : State) : State).sys.held = false ∧ ((fun (u : State) =>
     u.frg.rebuilding) (begin 0
     ({ State.reset with sys := { held := false }, regs := [(256, 0x8000002#64), (F.PWR_STATUS.addr, 0xFFFFF#64)], frg
                           := { rebuilding := true } } : State)) : Prop)) ∧
  ((({ State.reset with sys := { held := false } } : State) : State).sys.held = false ∧ ((fun (m : Master) (u : State)
     => u.granted m F.FRG_VD_OP true ∧ !u.flag F.FRG_VD_RESULT_BUSY) .prompter (begin 0
     ({ State.reset with sys := { held := false } } : State)) : Prop)) ∧
  ((({ State.reset with sys := { held := false } } : State) : State).sys.held = false ∧ ((fun (m : Master) (u : State)
     => u.granted m F.FRG_VD_OP true ∧ !u.flag F.FRG_VD_RESULT_BUSY) .prompter (begin 0
     ({ State.reset with sys := { held := false } } : State)) : Prop)) ∧
  ((({ State.reset with sys := { held := false } } : State) : State).sys.held = false ∧ ((fun (m : Master) (u : State)
     => u.granted m F.FRG_VD_OP true ∧ !u.flag F.FRG_VD_RESULT_BUSY) .prompter (begin 0
     ({ State.reset with sys := { held := false } } : State)) : Prop)) ∧
  ((({ State.reset with sys := { held := false } } : State) : State).sys.held = false ∧ ((fun (m : Master) (u : State)
     => u.granted m F.FRG_VD_OP true ∧ !u.flag F.FRG_VD_RESULT_BUSY) .prompter (begin 0
     ({ State.reset with sys := { held := false } } : State)) : Prop)) ∧
  ((({ State.reset with sys := { held := false }, regs := [(256, 0x8000002#64), (F.PWR_STATUS.addr, 0xFFFFF#64)], vd
                          := { op := some (1, 0) } } : State) : State).sys.held = false ∧ ((fun (u : State) =>
     u.vd.op.isSome) (begin 0
     ({ State.reset with sys := { held := false }, regs := [(256, 0x8000002#64), (F.PWR_STATUS.addr, 0xFFFFF#64)], vd
                           := { op := some (1, 0) } } : State)) : Prop)) ∧
  ((({ State.reset with sys := { held := false } } : State) : State).sys.held = false ∧ ((fun (m : Master) (k : Fin
     64) (w : Fin 3) (u : State) => u.granted m (F.FRG_VD_CNT_VAL k.val w.val) true) .prompter 0 0 (begin 0
     ({ State.reset with sys := { held := false } } : State)) : Prop)) := by
  refine ⟨⟨by decide, ?_⟩, ⟨by decide, ?_⟩, ⟨by decide, ?_⟩, ⟨by decide, ?_⟩, ⟨by decide, ?_⟩, ⟨by decide, ?_⟩, ⟨by
    decide, ?_⟩, ⟨by decide, ?_⟩, ⟨by decide, ?_⟩, ⟨by decide, ?_⟩, ⟨by decide, ?_⟩, ⟨by decide, ?_⟩, ⟨by decide, ?_⟩, ⟨by
    decide, ?_⟩, ⟨by decide, ?_⟩, ⟨by decide, ?_⟩, ⟨by decide, ?_⟩, ⟨by decide, ?_⟩, ⟨by decide, ?_⟩, ⟨by decide, ?_⟩, ⟨by
    decide, ?_⟩, ⟨by decide, ?_⟩⟩
  all_goals try dsimp only
  all_goals decide +kernel

theorem witness_NozzleMapCommandsComplete :
  ((({ State.reset with sys := { held := false }, regs := [(256, 0x8000002#64), (F.PWR_STATUS.addr, 0xFFFFF#64)] } :
     State) : State).sys.held = false ∧ ((fun (m : Master) (u : State) => u.granted m F.NZC_OP true ∧ (u.withReg
     F.NZC_OP 1).nzc.op = none ∧ (u.withReg F.NZC_OP 1).nzReady false ∧ (u.withReg F.NZC_OP 1).get F.NZC_STATUS_SHADOW
     ≠ 1 ∧ (u.withReg F.NZC_OP 1).get F.NZC_STATUS_SHADOW ≠ 3) .prompter (begin 0
     ({ State.reset with sys := { held := false }, regs := [(256, 0x8000002#64), (F.PWR_STATUS.addr, 0xFFFFF#64)] } :
     State)) : Prop)) ∧
  ((({ State.reset with sys := { held := false }, regs := [(256, 0x8000002#64), (F.PWR_STATUS.addr, 0xFFFFF#64)] } :
     State) : State).sys.held = false ∧ ((fun (m : Master) (u : State) => u.granted m F.NZC_OP true ∧ (u.withReg
     F.NZC_OP 2).nzc.op = none ∧ (u.withReg F.NZC_OP 2).nzReady false ∧ (u.withReg F.NZC_OP 2).get F.NZC_STATUS_SHADOW
     ≠ 1 ∧ (u.withReg F.NZC_OP 2).get F.NZC_STATUS_SHADOW ≠ 3) .prompter (begin 0
     ({ State.reset with sys := { held := false }, regs := [(256, 0x8000002#64), (F.PWR_STATUS.addr, 0xFFFFF#64)] } :
     State)) : Prop)) ∧
  ((({ State.reset with sys := { held := false }, regs := [(256, 0x8000002#64), (F.PWR_STATUS.addr, 0xFFFFF#64)] } :
     State) : State).sys.held = false ∧ ((fun (m : Master) (u : State) => u.granted m F.NZC_OP true ∧ (u.withReg
     F.NZC_OP 3).nzc.op = none ∧ (u.withReg F.NZC_OP 3).nzReady false ∧ (u.withReg F.NZC_OP 3).get F.NZC_STATUS_SHADOW
     ≠ 1 ∧ (u.withReg F.NZC_OP 3).get F.NZC_STATUS_SHADOW ≠ 3) .prompter (begin 0
     ({ State.reset with sys := { held := false }, regs := [(256, 0x8000002#64), (F.PWR_STATUS.addr, 0xFFFFF#64)] } :
     State)) : Prop)) ∧
  ((({ State.reset with sys := { held := false }, regs := [(0x100, 0x8000002#64), (0x20000, 0xfffff#64), (0x110004,
                          0x4#64)] } : State) : State).sys.held = false ∧ ((fun (m : Master) (u : State) => u.granted
     m F.NZC_OP true ∧ (u.withReg F.NZC_OP 4).nzc.op = none ∧ (u.withReg F.NZC_OP 4).nzReady false ∧ (u.withReg
     F.NZC_OP 4).get F.NZC_STATUS_SHADOW = 2) .prompter (begin 0
     ({ State.reset with sys := { held := false }, regs := [(0x100, 0x8000002#64), (0x20000, 0xfffff#64), (0x110004,
                           0x4#64)] } : State)) : Prop)) ∧
  ((({ State.reset with sys := { held := false }, regs := [(0x100, 0x8000002#64), (0x20000, 0xfffff#64), (0x110004,
                          0x4#64)] } : State) : State).sys.held = false ∧ ((fun (m : Master) (u : State) => u.granted
     m F.NZC_OP true ∧ (u.withReg F.NZC_OP 5).nzc.op = none ∧ (u.withReg F.NZC_OP 5).nzReady false ∧ (u.withReg
     F.NZC_OP 5).get F.NZC_STATUS_SHADOW = 2) .prompter (begin 0
     ({ State.reset with sys := { held := false }, regs := [(0x100, 0x8000002#64), (0x20000, 0xfffff#64), (0x110004,
                           0x4#64)] } : State)) : Prop)) ∧
  ((({ State.reset with sys := { held := false }, regs := [(256, 0x8000002#64), (F.PWR_STATUS.addr, 0xFFFFF#64)], nzc
                          := { op := some { op := 1 } } } : State) : State).sys.held = false ∧ ((fun (o : NzOp) (u :
     State) => u.nzc.op = some o ∧ o.waiting = false ∧ o.op = 1) ({ op := 1 }) (begin 0
     ({ State.reset with sys := { held := false }, regs := [(256, 0x8000002#64), (F.PWR_STATUS.addr, 0xFFFFF#64)], nzc
                           := { op := some { op := 1 } } } : State)) : Prop)) ∧
  ((({ State.reset with sys := { held := false }, regs := [(256, 0x8000002#64), (F.PWR_STATUS.addr, 0xFFFFF#64)], nzc
                          := { op := some { op := 2 } } } : State) : State).sys.held = false ∧ ((fun (o : NzOp) (u :
     State) => u.nzc.op = some o ∧ o.waiting = false ∧ o.op = 2 ∧ (!u.nzLoadRange ∨ u.dramMay 4 (u.get
     F.NZC_LOAD_ADDR_ADDR) 64)) ({ op := 2 }) (begin 0
     ({ State.reset with sys := { held := false }, regs := [(256, 0x8000002#64), (F.PWR_STATUS.addr, 0xFFFFF#64)], nzc
                           := { op := some { op := 2 } } } : State)) : Prop)) ∧
  ((({ State.reset with sys := { held := false }, regs := [(256, 0x8000002#64), (F.PWR_STATUS.addr, 0xFFFFF#64)], nzc
                          := { op := some { op := 3 } } } : State) : State).sys.held = false ∧ ((fun (o : NzOp) (u :
     State) => u.nzc.op = some o ∧ o.waiting = false ∧ o.op = 3) ({ op := 3 }) (begin 0
     ({ State.reset with sys := { held := false }, regs := [(256, 0x8000002#64), (F.PWR_STATUS.addr, 0xFFFFF#64)], nzc
                           := { op := some { op := 3 } } } : State)) : Prop)) ∧
  ((({ State.reset with sys := { held := false }, regs := [(256, 0x8000002#64), (F.PWR_STATUS.addr, 0xFFFFF#64)], nzc
                          := { op := some { op := 4 } } } : State) : State).sys.held = false ∧ ((fun (o : NzOp) (u :
     State) => u.nzc.op = some o ∧ o.waiting = false ∧ (o.op = 4 ∨ o.op = 5)) ({ op := 4 }) (begin 0
     ({ State.reset with sys := { held := false }, regs := [(256, 0x8000002#64), (F.PWR_STATUS.addr, 0xFFFFF#64)], nzc
                           := { op := some { op := 4 } } } : State)) : Prop)) ∧
  ((({ State.reset with sys := { held := false }, regs := [(256, 0x8000002#64), (F.PWR_STATUS.addr, 0xFFFFF#64)] } :
     State) : State).sys.held = false ∧ ((fun (m : Master) (v : Nat) (u : State) => u.granted m F.NZC_PATCH_ENTRY true
     ∧ u.patchCode (v % 2 ^ 32) false = 0) .prompter 0 (begin 0
     ({ State.reset with sys := { held := false }, regs := [(256, 0x8000002#64), (F.PWR_STATUS.addr, 0xFFFFF#64)] } :
     State)) : Prop)) ∧
  ((({ State.reset with sys := { held := false }, regs := [(256, 0x8000002#64), (F.PWR_STATUS.addr, 0xFFFFF#64)], nzc
                          := { restoring := true } } : State) : State).sys.held = false ∧ ((fun (u : State) =>
     u.nzc.restoring) (begin 0
     ({ State.reset with sys := { held := false }, regs := [(256, 0x8000002#64), (F.PWR_STATUS.addr, 0xFFFFF#64)], nzc
                           := { restoring := true } } : State)) : Prop)) := by
  refine ⟨⟨by decide, ?_⟩, ⟨by decide, ?_⟩, ⟨by decide, ?_⟩, ⟨by decide, ?_⟩, ⟨by decide, ?_⟩, ⟨by decide, ?_⟩, ⟨by
    decide, ?_⟩, ⟨by decide, ?_⟩, ⟨by decide, ?_⟩, ⟨by decide, ?_⟩, ⟨by decide, ?_⟩⟩
  all_goals try dsimp only
  all_goals decide +kernel

theorem witness_StageLanesComplete :
  ((({ State.reset with sys := { held := false }, regs := [(0x100, 0x8000002#64), (0x20000, 0xfffff#64), (0x120020,
                          0x100#64), (0x120104, 0x1#64)] } : State) : State).sys.held = false ∧ ((fun (k : Fin 32) (u
     : State) => u.laneState k.val = 1 ∧ u.flag (F.STG_QUAD_PLL_LOCKED (k.val / 4))) 0 (begin 0
     ({ State.reset with sys := { held := false }, regs := [(0x100, 0x8000002#64), (0x20000, 0xfffff#64), (0x120020,
                           0x100#64), (0x120104, 0x1#64)] } : State)) : Prop)) ∧
  ((({ State.reset with sys := { held := false }, regs := [(256, 0x8000002#64), (F.PWR_STATUS.addr, 0xFFFFF#64),
                          ((F.STG_LANE_STATUS 0).addr, 2#64)] } : State) : State).sys.held = false ∧ ((fun (k : Fin
     32) (u : State) => u.laneState k.val = 2) 0 (begin 0
     ({ State.reset with sys := { held := false }, regs := [(256, 0x8000002#64), (F.PWR_STATUS.addr, 0xFFFFF#64),
                           ((F.STG_LANE_STATUS 0).addr, 2#64)] } : State)) : Prop)) ∧
  ((({ State.reset with sys := { held := false }, regs := [(256, 0x8000002#64), (F.PWR_STATUS.addr, 0xFFFFF#64),
                          ((F.STG_LANE_STATUS 0).addr, 3#64)] } : State) : State).sys.held = false ∧ ((fun (k : Fin
     32) (u : State) => u.laneState k.val = 3) 0 (begin 0
     ({ State.reset with sys := { held := false }, regs := [(256, 0x8000002#64), (F.PWR_STATUS.addr, 0xFFFFF#64),
                           ((F.STG_LANE_STATUS 0).addr, 3#64)] } : State)) : Prop)) ∧
  ((({ State.reset with sys := { held := false }, regs := [(256, 0x8000002#64), (F.PWR_STATUS.addr, 0xFFFFF#64),
                          ((F.STG_LANE_STATUS 0).addr, 2#64)] } : State) : State).sys.held = false ∧ ((fun (k : Fin
     32) (u : State) => u.laneState k.val = 2 ∧ (u.lane k.val).since + 200000000 ≤ u.now) 0 (begin 1000000000
     ({ State.reset with sys := { held := false }, regs := [(256, 0x8000002#64), (F.PWR_STATUS.addr, 0xFFFFF#64),
                           ((F.STG_LANE_STATUS 0).addr, 2#64)] } : State)) : Prop)) ∧
  ((({ State.reset with sys := { held := false }, regs := [(256, 0x8000002#64), (F.PWR_STATUS.addr, 0xFFFFF#64),
                          (F.STG_CTRL.addr, 0xFFFFFFFF#64), ((F.STG_LANE_STATUS 0).addr, 261#64)] } : State) :
     State).sys.held = false ∧ ((fun (k : Fin 32) (u : State) => (u.laneState k.val = 5 ∨ u.laneState k.val = 6) ∧
     !(u.lane k.val).takenDown ∧ u.flag F.STG_CTRL_AUTO_RETRAIN ∧ u.laneNamed k.val ∧ (u.lane k.val).since +
     10000000000 ≤ u.now ∧ u.mode ≠ 0 ∧ u.mode ≠ 5) 0 (begin 20000000000
     ({ State.reset with sys := { held := false }, regs := [(256, 0x8000002#64), (F.PWR_STATUS.addr, 0xFFFFF#64),
                           (F.STG_CTRL.addr, 0xFFFFFFFF#64), ((F.STG_LANE_STATUS 0).addr, 261#64)] } : State)) : Prop)) ∧
  ((({ State.reset with sys := { held := false }, regs := [(256, 0x8000002#64), (F.PWR_STATUS.addr, 0xFFFFF#64),
                          ((F.STG_LANE_STATUS 0).addr, 4#64)] } : State) : State).sys.held = false ∧ ((fun (k : Fin
     32) (u : State) => u.laneUp k.val) 0 (begin 0
     ({ State.reset with sys := { held := false }, regs := [(256, 0x8000002#64), (F.PWR_STATUS.addr, 0xFFFFF#64),
                           ((F.STG_LANE_STATUS 0).addr, 4#64)] } : State)) : Prop)) ∧
  ((({ State.reset with sys := { held := false }, regs := [(256, 0x8000002#64), (F.PWR_STATUS.addr, 0xFFFFF#64),
                          ((F.STG_LANE_STATUS 0).addr, 256#64)] } : State) : State).sys.held = false ∧ ((fun (m :
     Master) (k : Fin 32) (u : State) => u.granted m F.STG_LANE_OP true ∧ (u.withReg F.STG_LANE_OP ((256 * k.val +
     1))).laneNamed k.val ∧ (u.withReg F.STG_LANE_OP ((256 * k.val + 1))).mode ≠ 0 ∧ (u.withReg F.STG_LANE_OP ((256 *
     k.val + 1))).mode ≠ 5 ∧ (u.withReg F.STG_LANE_OP ((256 * k.val + 1))).mode ≠ 1) .prompter 0 (begin 0
     ({ State.reset with sys := { held := false }, regs := [(256, 0x8000002#64), (F.PWR_STATUS.addr, 0xFFFFF#64),
                           ((F.STG_LANE_STATUS 0).addr, 256#64)] } : State)) : Prop)) ∧
  ((({ State.reset with sys := { held := false }, regs := [(256, 0x8000002#64), (F.PWR_STATUS.addr, 0xFFFFF#64),
                          ((F.STG_LANE_STATUS 0).addr, 256#64)] } : State) : State).sys.held = false ∧ ((fun (m :
     Master) (k : Fin 32) (u : State) => u.granted m F.STG_LANE_OP true ∧ (u.withReg F.STG_LANE_OP ((256 * k.val +
     2))).laneNamed k.val ∧ (u.withReg F.STG_LANE_OP ((256 * k.val + 2))).mode ≠ 0 ∧ (u.withReg F.STG_LANE_OP ((256 *
     k.val + 2))).mode ≠ 5 ∧ (u.withReg F.STG_LANE_OP ((256 * k.val + 2))).mode ≠ 1) .prompter 0 (begin 0
     ({ State.reset with sys := { held := false }, regs := [(256, 0x8000002#64), (F.PWR_STATUS.addr, 0xFFFFF#64),
                           ((F.STG_LANE_STATUS 0).addr, 256#64)] } : State)) : Prop)) ∧
  ((({ State.reset with sys := { held := false }, regs := [(256, 0x8000002#64), (F.PWR_STATUS.addr, 0xFFFFF#64),
                          ((F.STG_LANE_STATUS 0).addr, 256#64)] } : State) : State).sys.held = false ∧ ((fun (m :
     Master) (k : Fin 32) (u : State) => u.granted m F.STG_LANE_OP true ∧ (u.withReg F.STG_LANE_OP ((256 * k.val +
     3))).laneNamed k.val ∧ (u.withReg F.STG_LANE_OP ((256 * k.val + 3))).mode ≠ 0 ∧ (u.withReg F.STG_LANE_OP ((256 *
     k.val + 3))).mode ≠ 5 ∧ (u.withReg F.STG_LANE_OP ((256 * k.val + 3))).mode ≠ 1) .prompter 0 (begin 0
     ({ State.reset with sys := { held := false }, regs := [(256, 0x8000002#64), (F.PWR_STATUS.addr, 0xFFFFF#64),
                           ((F.STG_LANE_STATUS 0).addr, 256#64)] } : State)) : Prop)) ∧
  ((({ State.reset with sys := { held := false }, regs := [(256, 0x8000002#64), (F.PWR_STATUS.addr, 0xFFFFF#64),
                          ((F.STG_LANE_STATUS 0).addr, 4#64)], stg := { lanes := [(0, { window := 100, buf := [{ track := 0, head := 0, plane := 0, item := 1, c := 0, index := 0, fire := 0,
                                                                                                                      segment := 0, first := true, last := true, payload := [], handed := 0 }]
                                                                                              })] } } : State) :
     State).sys.held = false ∧ ((fun (k : Fin 32) (f : Frame) (rest : List Frame) (u : State) => (u.lane k.val).buf =
     f :: rest ∧ u.laneUp k.val ∧ (u.lane k.val).mayStart f ∧ u.laneRole f.track ≠ 3) 0
     ({ track := 0, head := 0, plane := 0, item := 1, c := 0, index := 0, fire := 0, segment := 0, first := true, last
             := true, payload := [], handed := 0 }) [] (begin 0
     ({ State.reset with sys := { held := false }, regs := [(256, 0x8000002#64), (F.PWR_STATUS.addr, 0xFFFFF#64),
                           ((F.STG_LANE_STATUS 0).addr, 4#64)], stg := { lanes := [(0, { window := 100, buf := [{ track := 0, head := 0, plane := 0, item := 1, c := 0, index := 0, fire := 0,
                                                                                                                       segment := 0, first := true, last := true, payload := [], handed := 0
                                                                                                                       }] })] }
                           } : State)) : Prop)) ∧
  ((({ State.reset with sys := { held := false }, regs := [(0x100, 0x8000002#64), (0x20000, 0xfffff#64), (0x111000,
                          0x200000#64), (0x120104, 0x4#64)], trk := [(0, { armed := true, st := .locked, v := 1000 })],
                          wq := [(0, { items := [{ id := 1, phase := .printing, lines := 1, pitch := 64 }] })], stg :=
                          { heads := [(0, { lane := 0 })] } } : State) : State).sys.held = false ∧ ((fun (k : Fin 32)
     (n : Fin 16) (l : NextLine) (u : State) => u.nextFireOn k.val n.val = some l ∧ (u.predict n.val l.fire).isSome ∧
     u.laneRole n.val ≠ 3 ∧ u.laneUp k.val ∧ (u.trackLanes n.val).contains k.val) 0 0 (⟨1, 0, 0, 0⟩) (begin 0
     ({ State.reset with sys := { held := false }, regs := [(0x100, 0x8000002#64), (0x20000, 0xfffff#64), (0x111000,
                           0x200000#64), (0x120104, 0x4#64)], trk := [(0, { armed := true, st := .locked, v := 1000 })],
                           wq := [(0, { items := [{ id := 1, phase := .printing, lines := 1, pitch := 64 }] })], stg
                           := { heads := [(0, { lane := 0 })] } } : State)) : Prop)) ∧
  ((({ State.reset with sys := { held := false }, regs := [(256, 0x8000002#64), (F.PWR_STATUS.addr, 0xFFFFF#64),
                          ((F.STG_LANE_STATUS 0).addr, 4#64)], stg := { lanes := [(0, { stalled := some 0 })] } } :
     State) : State).sys.held = false ∧ ((fun (k : Fin 32) (a : Ps) (u : State) => (u.lane k.val).stalled = some a ∧
     u.laneUp k.val ∧ a + 10000000 ≤ u.now ∧ !u.flag (F.STG_LANE_STATUS_CREDIT_STALL k.val)) 0 0 (begin 10000000
     ({ State.reset with sys := { held := false }, regs := [(256, 0x8000002#64), (F.PWR_STATUS.addr, 0xFFFFF#64),
                           ((F.STG_LANE_STATUS 0).addr, 4#64)], stg := { lanes := [(0, { stalled := some 0 })] } } :
     State)) : Prop)) ∧
  ((({ State.reset with sys := { held := false }, regs := [(256, 0x8000002#64), (F.PWR_STATUS.addr, 0xFFFFF#64)] } :
     State) : State).sys.held = false ∧ ((fun (_u : State) => True) (begin 0
     ({ State.reset with sys := { held := false }, regs := [(256, 0x8000002#64), (F.PWR_STATUS.addr, 0xFFFFF#64)] } :
     State)) : Prop)) ∧
  ((({ State.reset with sys := { held := false }, regs := [(256, 0x8000002#64), (F.PWR_STATUS.addr, 0xFFFFF#64),
                          ((F.STG_LANE_STATUS 0).addr, 4#64)] } : State) : State).sys.held = false ∧ ((fun (k : Fin
     32) (u : State) => u.laneUp k.val) 0 (begin 0
     ({ State.reset with sys := { held := false }, regs := [(256, 0x8000002#64), (F.PWR_STATUS.addr, 0xFFFFF#64),
                           ((F.STG_LANE_STATUS 0).addr, 4#64)] } : State)) : Prop)) ∧
  ((({ State.reset with sys := { held := false }, regs := [(256, 0x8000002#64), (F.PWR_STATUS.addr, 0xFFFFF#64),
                          ((F.STG_LANE_STATUS 0).addr, 4#64), ((F.STG_HEAD_CFG 0).addr, 0x8000#64)] } : State) :
     State).sys.held = false ∧ ((fun (k : Fin 32) (h : Fin 256) (u : State) => u.laneUp k.val ∧ u.headValid h.val) 0 0
     (begin 0 ({ State.reset with sys := { held := false }, regs := [(256, 0x8000002#64), (F.PWR_STATUS.addr,
                                    0xFFFFF#64), ((F.STG_LANE_STATUS 0).addr, 4#64), ((F.STG_HEAD_CFG 0).addr,
                                    0x8000#64)] } : State)) : Prop)) ∧
  ((({ State.reset with sys := { held := false }, regs := [(256, 0x8000002#64), (F.PWR_STATUS.addr, 0xFFFFF#64),
                          ((F.STG_LANE_STATUS 0).addr, 4#64)] } : State) : State).sys.held = false ∧ ((fun (k : Fin
     32) (u : State) => u.laneUp k.val) 0 (begin 0
     ({ State.reset with sys := { held := false }, regs := [(256, 0x8000002#64), (F.PWR_STATUS.addr, 0xFFFFF#64),
                           ((F.STG_LANE_STATUS 0).addr, 4#64)] } : State)) : Prop)) ∧
  ((({ State.reset with sys := { held := false }, regs := [(256, 0x8000002#64), (F.PWR_STATUS.addr, 0xFFFFF#64),
                          ((F.STG_LANE_STATUS 0).addr, 4#64)] } : State) : State).sys.held = false ∧ ((fun (k : Fin
     32) (u : State) => u.laneUp k.val) 0 (begin 0
     ({ State.reset with sys := { held := false }, regs := [(256, 0x8000002#64), (F.PWR_STATUS.addr, 0xFFFFF#64),
                           ((F.STG_LANE_STATUS 0).addr, 4#64)] } : State)) : Prop)) ∧
  ((({ State.reset with sys := { held := false }, regs := [(256, 0x8000002#64), (F.PWR_STATUS.addr, 0xFFFFF#64),
                          ((F.STG_LANE_STATUS 0).addr, 4#64)] } : State) : State).sys.held = false ∧ ((fun (k : Fin
     32) (u : State) => u.laneState k.val ≠ 0) 0 (begin 0
     ({ State.reset with sys := { held := false }, regs := [(256, 0x8000002#64), (F.PWR_STATUS.addr, 0xFFFFF#64),
                           ((F.STG_LANE_STATUS 0).addr, 4#64)] } : State)) : Prop)) := by
  refine ⟨⟨by decide, ?_⟩, ⟨by decide, ?_⟩, ⟨by decide, ?_⟩, ⟨by decide, ?_⟩, ⟨by decide, ?_⟩, ⟨by decide, ?_⟩, ⟨by
    decide, ?_⟩, ⟨by decide, ?_⟩, ⟨by decide, ?_⟩, ⟨by decide, ?_⟩, ⟨by decide, ?_⟩, ⟨by decide, ?_⟩, ⟨by decide, ?_⟩, ⟨by
    decide, ?_⟩, ⟨by decide, ?_⟩, ⟨by decide, ?_⟩, ⟨by decide, ?_⟩, ⟨by decide, ?_⟩⟩
  all_goals try dsimp only
  all_goals decide +kernel

theorem witness_LinkTrainingCompletes :
  ((({ State.reset with sys := { held := false, done := [4] }, regs := [(256, 0x8000002#64), (F.PWR_STATUS.addr,
                          0xFFFFF#64)], links := [(0, { state := 1 })] } : State) : State).sys.held = false ∧ ((fun (k
     : Fin 4) (u : State) => u.linksOn ∧ (u.link k.val).state = 1) 0 (begin 0
     ({ State.reset with sys := { held := false, done := [4] }, regs := [(256, 0x8000002#64), (F.PWR_STATUS.addr,
                           0xFFFFF#64)], links := [(0, { state := 1 })] } : State)) : Prop)) ∧
  ((({ State.reset with sys := { held := false, done := [4] }, regs := [(256, 0x8000002#64), (F.PWR_STATUS.addr,
                          0xFFFFF#64)], links := [(4, { state := 2 })] } : State) : State).sys.held = false ∧ ((fun (p
     : Fin 2) (u : State) => u.linksOn ∧ !u.sole ∧ (u.link (4 + p.val)).state = 2) 0 (begin 0
     ({ State.reset with sys := { held := false, done := [4] }, regs := [(256, 0x8000002#64), (F.PWR_STATUS.addr,
                           0xFFFFF#64)], links := [(4, { state := 2 })] } : State)) : Prop)) ∧
  ((({ State.reset with sys := { held := false, done := [4] }, regs := [(256, 0x8000002#64), (F.PWR_STATUS.addr,
                          0xFFFFF#64)], links := [(6, { state := 3 })] } : State) : State).sys.held = false ∧ ((fun (p
     : Fin 2) (k : Fin 4) (u : State) => u.linksOn ∧ !(u.port p.val).takenDown ∧ (u.link (6 + 4 * p.val +
     k.val)).state = 3) 0 0 (begin 0
     ({ State.reset with sys := { held := false, done := [4] }, regs := [(256, 0x8000002#64), (F.PWR_STATUS.addr,
                           0xFFFFF#64)], links := [(6, { state := 3 })] } : State)) : Prop)) ∧
  ((({ State.reset with sys := { held := false, done := [4] }, regs := [(256, 0x8000002#64), (F.PWR_STATUS.addr,
                          0xFFFFF#64)], links := [(0, { state := 3 })] } : State) : State).sys.held = false ∧ ((fun (k
     : Fin 4) (u : State) => u.linksOn ∧ (u.link k.val).state = 3 ∧ (u.link k.val).since + 50000000 ≤ u.now) 0 (begin
     50000000 ({ State.reset with sys := { held := false, done := [4] }, regs := [(256, 0x8000002#64),
                                    (F.PWR_STATUS.addr, 0xFFFFF#64)], links := [(0, { state := 3 })] } : State)) :
     Prop)) ∧
  ((({ State.reset with sys := { held := false, done := [4] }, regs := [(256, 0x8000002#64), (F.PWR_STATUS.addr,
                          0xFFFFF#64)], links := [(4, { state := 5 })] } : State) : State).sys.held = false ∧ ((fun (p
     : Fin 2) (u : State) => u.linksOn ∧ u.flag F.STG_CTRL_AUTO_RETRAIN ∧ !u.sole ∧ ((u.link (4 + p.val)).state = 5 ∨
     (u.link (4 + p.val)).state = 6) ∧ (u.link (4 + p.val)).since + 10000000000 ≤ u.now) 0 (begin 10000000000
     ({ State.reset with sys := { held := false, done := [4] }, regs := [(256, 0x8000002#64), (F.PWR_STATUS.addr,
                           0xFFFFF#64)], links := [(4, { state := 5 })] } : State)) : Prop)) ∧
  ((({ State.reset with sys := { held := false, done := [4] }, regs := [(256, 0x8000002#64), (F.PWR_STATUS.addr,
                          0xFFFFF#64)], links := [(6, { state := 4 })] } : State) : State).sys.held = false ∧ ((fun (p
     : Fin 2) (k : Fin 4) (u : State) => (u.link (6 + 4 * p.val + k.val)).state = 4) 0 0 (begin 0
     ({ State.reset with sys := { held := false, done := [4] }, regs := [(256, 0x8000002#64), (F.PWR_STATUS.addr,
                           0xFFFFF#64)], links := [(6, { state := 4 })] } : State)) : Prop)) ∧
  ((({ State.reset with sys := { held := false }, regs := [(256, 0x8000002#64), (F.PWR_STATUS.addr, 0xFFFFF#64),
                          (F.DPX_STATUS.addr, 0xFFFFFFFF#64)] } : State) : State).sys.held = false ∧ ((fun (u : State)
     => u.flag F.DPX_STATUS_LINK_UP) (begin 0
     ({ State.reset with sys := { held := false }, regs := [(256, 0x8000002#64), (F.PWR_STATUS.addr, 0xFFFFF#64),
                           (F.DPX_STATUS.addr, 0xFFFFFFFF#64)] } : State)) : Prop)) ∧
  ((({ State.reset with sys := { held := false }, regs := [(256, 0x8000002#64), (F.PWR_STATUS.addr, 0xFFFFF#64),
                          (F.CMP_STATUS.addr, 0xFFFFFFFF#64)] } : State) : State).sys.held = false ∧ ((fun (p : Fin 2)
     (u : State) => u.portTrained p.val) 0 (begin 0
     ({ State.reset with sys := { held := false }, regs := [(256, 0x8000002#64), (F.PWR_STATUS.addr, 0xFFFFF#64),
                           (F.CMP_STATUS.addr, 0xFFFFFFFF#64)] } : State)) : Prop)) ∧
  ((({ State.reset with sys := { held := false }, regs := [(256, 0x8000002#64), (F.PWR_STATUS.addr, 0xFFFFF#64),
                          ((F.IZX_PORT_STATUS 0).addr, 4#64)] } : State) : State).sys.held = false ∧ ((fun (p : Fin 2)
     (u : State) => u.get (F.IZX_PORT_STATUS_STATE p.val) = 4) 0 (begin 0
     ({ State.reset with sys := { held := false }, regs := [(256, 0x8000002#64), (F.PWR_STATUS.addr, 0xFFFFF#64),
                           ((F.IZX_PORT_STATUS 0).addr, 4#64)] } : State)) : Prop)) := by
  refine ⟨⟨by decide, ?_⟩, ⟨by decide, ?_⟩, ⟨by decide, ?_⟩, ⟨by decide, ?_⟩, ⟨by decide, ?_⟩, ⟨by decide, ?_⟩, ⟨by
    decide, ?_⟩, ⟨by decide, ?_⟩, ⟨by decide, ?_⟩⟩
  all_goals try dsimp only
  all_goals decide +kernel

theorem witness_InspectionCommandsComplete :
  ((({ State.reset with sys := { held := false }, regs := [(256, 0x8000002#64), (F.PWR_STATUS.addr, 0xFFFFF#64)],
                          active := [((F.INS_TRK_CFG 0).addr, 0xFFFFFFFF#64)], wq := [(0, { items := [{ id := 1, phase := .fired }] })],
                          trk := [(0, { h := 0x10000000000 })] } : State) : State).sys.held = false ∧ ((fun (n : Fin
     16) (id : Nat) (x : Item) (u : State) => u.more = false ∧ (u.settle n.val u.now).item? n.val id = some x ∧
     x.phase = .fired ∧ (u.settle n.val u.now).awaits n.val x ∧ (u.settle n.val u.now).firedLong x ∧ posDiff
     ((u.settle n.val u.now).track n.val).h (x.c + BitVec.ofNat 60 ((u.settle n.val u.now).act (F.INS_TRK_WINDOW
     n.val) * 4096)) ≥ 0 ∧ !x.passedAll ((u.settle n.val u.now).stations n.val)) 0 1 ({ id := 1, phase := .fired })
     (begin 4000000
     ({ State.reset with sys := { held := false }, regs := [(256, 0x8000002#64), (F.PWR_STATUS.addr, 0xFFFFF#64)],
                           active := [((F.INS_TRK_CFG 0).addr, 0xFFFFFFFF#64)], wq := [(0, { items := [{ id := 1, phase := .fired }] })],
                           trk := [(0, { h := 0x10000000000 })] } : State)) : Prop)) ∧
  ((({ State.reset with sys := { held := false }, regs := [(256, 0x8000002#64), (F.PWR_STATUS.addr, 0xFFFFF#64)], wq
                          := [(0, { items := [{ id := 1, phase := .fired }] })] } : State) : State).sys.held = false ∧
     ((fun (n : Fin 16) (id : Nat) (x : Item) (u : State) => u.item? n.val id = some x ∧ x.phase = .fired ∧
     u.firedLong x ∧ (!u.awaits n.val x ∨ x.passedAll (u.stations n.val))) 0 1 ({ id := 1, phase := .fired }) (begin
     4000000 ({ State.reset with sys := { held := false }, regs := [(256, 0x8000002#64), (F.PWR_STATUS.addr,
                                   0xFFFFF#64)], wq := [(0, { items := [{ id := 1, phase := .fired }] })] } : State))
     : Prop)) ∧
  ((({ State.reset with sys := { held := false }, regs := [(256, 0x8000002#64), (F.PWR_STATUS.addr, 0xFFFFF#64)],
                          active := [((F.INS_GATE_CFG 0).addr, 0xFFFFFFFF#64)], ins := { gates := [(0, { pend := [⟨0, 1⟩] })] }
                          } : State) : State).sys.held = false ∧ ((fun (g : Fin 32) (p : Pulse) (u : State) =>
     let k := u.act (F.INS_GATE_CFG_TRACK g.val);
     let a := u.settle k u.now;
     u.more = false ∧ a.act (F.INS_GATE_CFG_EN g.val) ≠ 0 ∧ (a.undecidedAt g.val k).head? = none ∧ (a.gate
       g.val).pend.find? (fun p => posDiff (a.track k).h p.start ≥ 0) = some p) 0 (⟨0, 1⟩) (begin 0
     ({ State.reset with sys := { held := false }, regs := [(256, 0x8000002#64), (F.PWR_STATUS.addr, 0xFFFFF#64)],
                           active := [((F.INS_GATE_CFG 0).addr, 0xFFFFFFFF#64)], ins := { gates := [(0, { pend := [⟨0, 1⟩] })] }
                           } : State)) : Prop)) ∧
  ((({ State.reset with sys := { held := false }, regs := [(256, 0x8000002#64), (F.PWR_STATUS.addr, 0xFFFFF#64)], ins
                          := { gates := [(0, { endAt := some 0 })] } } : State) : State).sys.held = false ∧ ((fun (g :
     Fin 32) (e : Ps) (u : State) => let a := u.settle (u.act (F.INS_GATE_CFG_TRACK g.val)) u.now;
                                     (a.gate g.val).endAt = some e ∧ e ≤ u.now ∧ (a.gate g.val).endPos = none) 0 0
     (begin 0 ({ State.reset with sys := { held := false }, regs := [(256, 0x8000002#64), (F.PWR_STATUS.addr,
                                    0xFFFFF#64)], ins := { gates := [(0, { endAt := some 0 })] } } : State)) : Prop)) ∧
  ((({ State.reset with sys := { held := false }, regs := [(256, 0x8000002#64), (F.PWR_STATUS.addr, 0xFFFFF#64)] } :
     State) : State).sys.held = false ∧ ((fun (m : Master) (r : Fin 4) (k : Fin 32) (u : State) => u.granted m
     (([(F.INS_TRK_CFG (k.val % 16)), (F.INS_TRK_WINDOW (k.val % 16)), (F.INS_GATE_CFG k.val), (F.INS_GATE_OFFSET
     k.val)] : List Fld).getD r.val (F.INS_TRK_CFG 0)) true) .prompter 0 0 (begin 0
     ({ State.reset with sys := { held := false }, regs := [(256, 0x8000002#64), (F.PWR_STATUS.addr, 0xFFFFF#64)] } :
     State)) : Prop)) ∧
  ((({ State.reset with sys := { held := false }, regs := [(256, 0x8000002#64), (F.PWR_STATUS.addr, 0xFFFFF#64)], dpx
                          := { configured := true }, ldg := { scanned := true } } : State) : State).sys.held = false ∧
     ((fun (u : State) => u.beats) (begin 0
     ({ State.reset with sys := { held := false }, regs := [(256, 0x8000002#64), (F.PWR_STATUS.addr, 0xFFFFF#64)], dpx
                           := { configured := true }, ldg := { scanned := true } } : State)) : Prop)) := by
  refine ⟨⟨by decide, ?_⟩, ⟨by decide, ?_⟩, ⟨by decide, ?_⟩, ⟨by decide, ?_⟩, ⟨by decide, ?_⟩, ⟨by decide, ?_⟩⟩
  all_goals try dsimp only
  all_goals decide +kernel

theorem witness_DuplexCommitFramesComplete :
  ((({ State.reset with sys := { held := false, done := [4] }, dpx := { configured := true } } : State) :
     State).sys.held = false ∧ ((fun (seq : Nat) (u : State) => u.dpx.configured ∧ u.phaseDone 4 ∧ seq % 2 ^ 32 =
     ((u.dpxHeard (seq % 2 ^ 32)).dpx.rxSeq + 1) % 2 ^ 32) 1 (begin 0
     ({ State.reset with sys := { held := false, done := [4] }, dpx := { configured := true } } : State)) : Prop)) ∧
  ((({ State.reset with sys := { held := false, done := [4] }, dpx := { configured := true } } : State) :
     State).sys.held = false ∧ ((fun (seq : Nat) (u : State) => u.dpx.configured ∧ u.phaseDone 4 ∧ seq % 2 ^ 32 =
     ((u.dpxHeard (seq % 2 ^ 32)).dpx.rxSeq + 1) % 2 ^ 32) 1 (begin 0
     ({ State.reset with sys := { held := false, done := [4] }, dpx := { configured := true } } : State)) : Prop)) ∧
  ((({ State.reset with sys := { held := false, done := [4] }, dpx := { configured := true } } : State) :
     State).sys.held = false ∧ ((fun (seq : Nat) (u : State) => u.dpx.configured ∧ u.phaseDone 4 ∧ seq % 2 ^ 32 =
     ((u.dpxHeard (seq % 2 ^ 32)).dpx.rxSeq + 1) % 2 ^ 32) 1 (begin 0
     ({ State.reset with sys := { held := false, done := [4] }, dpx := { configured := true } } : State)) : Prop)) ∧
  ((({ State.reset with sys := { held := false, done := [4] }, dpx := { configured := true } } : State) :
     State).sys.held = false ∧ ((fun (seq : Nat) (u : State) => u.dpx.configured ∧ u.phaseDone 4 ∧ seq % 2 ^ 32 =
     ((u.dpxHeard (seq % 2 ^ 32)).dpx.rxSeq + 1) % 2 ^ 32) 1 (begin 0
     ({ State.reset with sys := { held := false, done := [4] }, dpx := { configured := true } } : State)) : Prop)) ∧
  ((({ State.reset with sys := { held := false, done := [4] }, dpx := { configured := true } } : State) :
     State).sys.held = false ∧ ((fun (seq : Nat) (u : State) => u.dpx.configured ∧ u.phaseDone 4 ∧ seq % 2 ^ 32 =
     ((u.dpxHeard (seq % 2 ^ 32)).dpx.rxSeq + 1) % 2 ^ 32) 1 (begin 0
     ({ State.reset with sys := { held := false, done := [4] }, dpx := { configured := true } } : State)) : Prop)) ∧
  ((({ State.reset with sys := { held := false, done := [4] }, dpx := { configured := true } } : State) :
     State).sys.held = false ∧ ((fun (seq : Nat) (u : State) => u.dpx.configured ∧ u.phaseDone 4 ∧ seq % 2 ^ 32 =
     ((u.dpxHeard (seq % 2 ^ 32)).dpx.rxSeq + 1) % 2 ^ 32) 1 (begin 0
     ({ State.reset with sys := { held := false, done := [4] }, dpx := { configured := true } } : State)) : Prop)) ∧
  ((({ State.reset with sys := { held := false, done := [4] }, dpx := { configured := true } } : State) :
     State).sys.held = false ∧ ((fun (seq : Nat) (u : State) => u.dpx.configured ∧ u.phaseDone 4 ∧ seq % 2 ^ 32 =
     ((u.dpxHeard (seq % 2 ^ 32)).dpx.rxSeq + 1) % 2 ^ 32) 1 (begin 0
     ({ State.reset with sys := { held := false, done := [4] }, dpx := { configured := true } } : State)) : Prop)) := by
  refine ⟨⟨by decide, ?_⟩, ⟨by decide, ?_⟩, ⟨by decide, ?_⟩, ⟨by decide, ?_⟩, ⟨by decide, ?_⟩, ⟨by decide, ?_⟩, ⟨by
    decide, ?_⟩⟩
  all_goals try dsimp only
  all_goals decide +kernel

theorem witness_DuplexFramesComplete :
  ((({ State.reset with sys := { held := false, done := [4] }, dpx := { configured := true } } : State) :
     State).sys.held = false ∧ ((fun (seq : Nat) (u : State) => u.dpx.configured ∧ u.phaseDone 4 ∧ seq % 2 ^ 32 =
     ((u.dpxHeard (seq % 2 ^ 32)).dpx.rxSeq + 1) % 2 ^ 32) 1 (begin 0
     ({ State.reset with sys := { held := false, done := [4] }, dpx := { configured := true } } : State)) : Prop)) ∧
  ((({ State.reset with sys := { held := false, done := [4] }, dpx := { configured := true } } : State) :
     State).sys.held = false ∧ ((fun (seq : Nat) (u : State) => u.dpx.configured ∧ u.phaseDone 4 ∧ seq % 2 ^ 32 =
     ((u.dpxHeard (seq % 2 ^ 32)).dpx.rxSeq + 1) % 2 ^ 32) 1 (begin 0
     ({ State.reset with sys := { held := false, done := [4] }, dpx := { configured := true } } : State)) : Prop)) ∧
  ((({ State.reset with sys := { held := false, done := [4] }, dpx := { configured := true } } : State) :
     State).sys.held = false ∧ ((fun (seq : Nat) (u : State) => u.dpx.configured ∧ u.phaseDone 4 ∧ seq % 2 ^ 32 =
     ((u.dpxHeard (seq % 2 ^ 32)).dpx.rxSeq + 1) % 2 ^ 32) 1 (begin 0
     ({ State.reset with sys := { held := false, done := [4] }, dpx := { configured := true } } : State)) : Prop)) ∧
  ((({ State.reset with sys := { held := false, done := [4] }, dpx := { configured := true } } : State) :
     State).sys.held = false ∧ ((fun (seq : Nat) (u : State) => u.dpx.configured ∧ u.phaseDone 4 ∧ seq % 2 ^ 32 =
     ((u.dpxHeard (seq % 2 ^ 32)).dpx.rxSeq + 1) % 2 ^ 32) 1 (begin 0
     ({ State.reset with sys := { held := false, done := [4] }, dpx := { configured := true } } : State)) : Prop)) ∧
  ((({ State.reset with sys := { held := false, done := [4] }, dpx := { configured := true } } : State) :
     State).sys.held = false ∧ ((fun (seq : Nat) (u : State) => u.dpx.configured ∧ u.phaseDone 4 ∧ seq % 2 ^ 32 =
     ((u.dpxHeard (seq % 2 ^ 32)).dpx.rxSeq + 1) % 2 ^ 32) 1 (begin 0
     ({ State.reset with sys := { held := false, done := [4] }, dpx := { configured := true } } : State)) : Prop)) ∧
  ((({ State.reset with sys := { held := false, done := [4] }, dpx := { configured := true } } : State) :
     State).sys.held = false ∧ ((fun (seq : Nat) (u : State) => u.dpx.configured ∧ u.phaseDone 4 ∧ seq % 2 ^ 32 =
     ((u.dpxHeard (seq % 2 ^ 32)).dpx.rxSeq + 1) % 2 ^ 32) 1 (begin 0
     ({ State.reset with sys := { held := false, done := [4] }, dpx := { configured := true } } : State)) : Prop)) ∧
  ((({ State.reset with sys := { held := false, done := [4] }, dpx := { configured := true } } : State) :
     State).sys.held = false ∧ ((fun (seq : Nat) (u : State) => u.dpx.configured ∧ u.phaseDone 4 ∧ seq % 2 ^ 32 =
     ((u.dpxHeard (seq % 2 ^ 32)).dpx.rxSeq + 1) % 2 ^ 32) 1 (begin 0
     ({ State.reset with sys := { held := false, done := [4] }, dpx := { configured := true } } : State)) : Prop)) ∧
  ((({ State.reset with sys := { held := false, done := [4] }, dpx := { configured := true } } : State) :
     State).sys.held = false ∧ ((fun (seq : Nat) (u : State) => u.dpx.configured ∧ u.phaseDone 4 ∧ seq % 2 ^ 32 =
     ((u.dpxHeard (seq % 2 ^ 32)).dpx.rxSeq + 1) % 2 ^ 32) 1 (begin 0
     ({ State.reset with sys := { held := false, done := [4] }, dpx := { configured := true } } : State)) : Prop)) ∧
  ((({ State.reset with sys := { held := false, done := [4] }, dpx := { configured := true } } : State) :
     State).sys.held = false ∧ ((fun (seq : Nat) (u : State) => u.dpx.configured ∧ u.phaseDone 4 ∧ seq % 2 ^ 32 =
     ((u.dpxHeard (seq % 2 ^ 32)).dpx.rxSeq + 1) % 2 ^ 32) 1 (begin 0
     ({ State.reset with sys := { held := false, done := [4] }, dpx := { configured := true } } : State)) : Prop)) ∧
  ((({ State.reset with sys := { held := false, done := [4] }, dpx := { configured := true } } : State) :
     State).sys.held = false ∧ ((fun (seq : Nat) (u : State) => u.dpx.configured ∧ u.phaseDone 4 ∧ seq % 2 ^ 32 =
     ((u.dpxHeard (seq % 2 ^ 32)).dpx.rxSeq + 1) % 2 ^ 32) 1 (begin 0
     ({ State.reset with sys := { held := false, done := [4] }, dpx := { configured := true } } : State)) : Prop)) ∧
  ((({ State.reset with sys := { held := false, done := [4] }, dpx := { configured := true } } : State) :
     State).sys.held = false ∧ ((fun (seq : Nat) (u : State) => u.dpx.configured ∧ u.phaseDone 4 ∧ seq % 2 ^ 32 =
     ((u.dpxHeard (seq % 2 ^ 32)).dpx.rxSeq + 1) % 2 ^ 32) 1 (begin 0
     ({ State.reset with sys := { held := false, done := [4] }, dpx := { configured := true } } : State)) : Prop)) := by
  refine ⟨⟨by decide, ?_⟩, ⟨by decide, ?_⟩, ⟨by decide, ?_⟩, ⟨by decide, ?_⟩, ⟨by decide, ?_⟩, ⟨by decide, ?_⟩, ⟨by
    decide, ?_⟩, ⟨by decide, ?_⟩, ⟨by decide, ?_⟩, ⟨by decide, ?_⟩, ⟨by decide, ?_⟩⟩
  all_goals try dsimp only
  all_goals decide +kernel

theorem witness_DuplexEventsComplete :
  ((({ State.reset with sys := { held := false }, regs := [(0x100, 0x8000002#64), (0x20000, 0xfffff#64)], dpx := { configured := true }
                          } : State) : State).sys.held = false ∧ ((fun (u : State) => u.dpx.configured) (begin 0
     ({ State.reset with sys := { held := false }, regs := [(0x100, 0x8000002#64), (0x20000, 0xfffff#64)], dpx := { configured := true }
                           } : State)) : Prop)) ∧
  ((({ State.reset with sys := { held := false }, regs := [(0x100, 0x8000002#64), (0x20000, 0xfffff#64)], dpx := { configured := true }
                          } : State) : State).sys.held = false ∧ ((fun (u : State) => u.dpx.configured ∧
     u.frameSilent) (begin 0
     ({ State.reset with sys := { held := false }, regs := [(0x100, 0x8000002#64), (0x20000, 0xfffff#64)], dpx := { configured := true }
                           } : State)) : Prop)) ∧
  ((({ State.reset with sys := { held := false }, regs := [(0x100, 0x8000002#64), (0x20000, 0xfffff#64)], dpx := { configured := true, frameAt := some 0 }
                          } : State) : State).sys.held = false ∧ ((fun (u : State) => u.dpx.configured ∧
     !u.frameSilent) (begin 0
     ({ State.reset with sys := { held := false }, regs := [(0x100, 0x8000002#64), (0x20000, 0xfffff#64)], dpx := { configured := true, frameAt := some 0 }
                           } : State)) : Prop)) ∧
  ((({ State.reset with sys := { held := false }, regs := [(0x100, 0x8000002#64), (0x20000, 0xfffff#64)], dpx := { configured := true }
                          } : State) : State).sys.held = false ∧ ((fun (u : State) => u.dpx.configured ∧
     u.frameSilent) (begin 0
     ({ State.reset with sys := { held := false }, regs := [(0x100, 0x8000002#64), (0x20000, 0xfffff#64)], dpx := { configured := true }
                           } : State)) : Prop)) ∧
  ((({ State.reset with sys := { held := false }, regs := [(0x100, 0x8000002#64), (0x20000, 0xfffff#64), (0xc0008,
                          0x8#64)], dpx := { configured := true, unacked := [(1, 2, [])] } } : State) :
     State).sys.held = false ∧ ((fun (f : Nat × Nat × List Byte) (l : List (Nat × Nat × List Byte)) (u : State) =>
     u.dpx.unacked = f :: l ∧ u.dpx.ackAt + 4000000 ≤ u.now ∧ u.flag F.DPX_STATUS_LINK_UP) ((1, 2, [])) [] (begin
     4000000 ({ State.reset with sys := { held := false }, regs := [(0x100, 0x8000002#64), (0x20000, 0xfffff#64),
                                   (0xc0008, 0x8#64)], dpx := { configured := true, unacked := [(1, 2, [])] } } :
     State)) : Prop)) ∧
  ((({ State.reset with sys := { held := false }, regs := [(0x100, 0x8000002#64), (0x20000, 0xfffff#64), (0xc0008,
                          0x8#64)], dpx := { configured := true } } : State) : State).sys.held = false ∧ ((fun (u :
     State) => u.flag F.DPX_STATUS_LINK_UP ∧ u.dpx.sentAt + 1000000 ≤ u.now) (begin 1000000
     ({ State.reset with sys := { held := false }, regs := [(0x100, 0x8000002#64), (0x20000, 0xfffff#64), (0xc0008,
                           0x8#64)], dpx := { configured := true } } : State)) : Prop)) ∧
  ((({ State.reset with sys := { held := false }, regs := [(0x100, 0x8000002#64), (0x20000, 0xfffff#64), (0xc0008,
                          0x1#64)], trk := [(0, { armed := true })], dpx := { configured := true } } : State) :
     State).sys.held = false ∧ ((fun (n : Fin 16) (u : State) => (u.settle n.val u.now).role = 1 ∧ ((u.settle n.val
     u.now).track n.val).armed) 0 (begin 0
     ({ State.reset with sys := { held := false }, regs := [(0x100, 0x8000002#64), (0x20000, 0xfffff#64), (0xc0008,
                           0x1#64)], trk := [(0, { armed := true })], dpx := { configured := true } } : State)) :
     Prop)) ∧
  ((({ State.reset with sys := { held := false }, regs := [(0x100, 0x8000002#64), (0x20000, 0xfffff#64)], dpx := { configured := true, commits := [{ seq := 0, kind := 3, track := 0, what :=
                                                                                                                                                        .layout, at_ := 0 }] }
                          } : State) : State).sys.held = false ∧ ((fun (c : Commit) (l : List Commit) (u : State) =>
     u.dpx.commits = c :: l ∧ c.at_ + u.ackPs ≤ u.now)
     ({ seq := 0, kind := 3, track := 0, what := .layout, at_ := 0 }) [] (begin 1000000000000
     ({ State.reset with sys := { held := false }, regs := [(0x100, 0x8000002#64), (0x20000, 0xfffff#64)], dpx := { configured := true, commits := [{ seq := 0, kind := 3, track := 0, what :=
                                                                                                                                                         .layout, at_ := 0 }] }
                           } : State)) : Prop)) ∧
  ((({ State.reset with sys := { held := false }, regs := [(0x100, 0x8000003#64), (0x20000, 0xfffff#64), (0xc0004,
                          0x15#64), (0xc0008, 0x5#64)] } : State) : State).sys.held = false ∧ ((fun (m : Master) (u :
     State) => u.granted m F.DPX_CO_REQ true ∧ (u.withReg F.DPX_CO_REQ 1).role = 1 ∧ (u.withReg F.DPX_CO_REQ
     1).coEnabled 5 ∧ (u.withReg F.DPX_CO_REQ 1).dpx.switch = none ∧ (u.withReg F.DPX_CO_REQ 1).flag
     F.DPX_STATUS_READY ∧ (u.withReg F.DPX_CO_REQ 1).mode = 3) .prompter (begin 0
     ({ State.reset with sys := { held := false }, regs := [(0x100, 0x8000003#64), (0x20000, 0xfffff#64), (0xc0004,
                           0x15#64), (0xc0008, 0x5#64)] } : State)) : Prop)) ∧
  ((({ State.reset with sys := { held := false }, regs := [(0x100, 0x8000002#64), (0x20000, 0xfffff#64), (0xc0004,
                          0x15#64), (0xc0008, 0x2#64)] } : State) : State).sys.held = false ∧ ((fun (m : Master) (u :
     State) => u.granted m F.DPX_CO_REQ true ∧ (u.withReg F.DPX_CO_REQ 2).role = 2 ∧ (u.withReg F.DPX_CO_REQ
     2).coEnabled 5) .prompter (begin 0
     ({ State.reset with sys := { held := false }, regs := [(0x100, 0x8000002#64), (0x20000, 0xfffff#64), (0xc0004,
                           0x15#64), (0xc0008, 0x2#64)] } : State)) : Prop)) ∧
  ((({ State.reset with sys := { held := false }, regs := [(0x100, 0x8000002#64), (0x20000, 0xfffff#64)], dpx := { configured := true, taking := some 0 }
                          } : State) : State).sys.held = false ∧ ((fun (a : Ps) (u : State) => u.dpx.taking = some a ∧
     a + 3000000 ≤ u.now ∧ u.dpx.switch = none) 0 (begin 3000000
     ({ State.reset with sys := { held := false }, regs := [(0x100, 0x8000002#64), (0x20000, 0xfffff#64)], dpx := { configured := true, taking := some 0 }
                           } : State)) : Prop)) ∧
  ((({ State.reset with sys := { held := false }, regs := [(0x100, 0x8000002#64), (0x20000, 0xfffff#64)], dpx := { configured := true, switch := some ⟨0, false, 5, 0⟩ }
                          } : State) : State).sys.held = false ∧ ((fun (w : Switch) (u : State) => u.more = false ∧
     u.dpx.switch = some w ∧ w.at_ ≤ u.now) (⟨0, false, 5, 0⟩) (begin 0
     ({ State.reset with sys := { held := false }, regs := [(0x100, 0x8000002#64), (0x20000, 0xfffff#64)], dpx := { configured := true, switch := some ⟨0, false, 5, 0⟩ }
                           } : State)) : Prop)) ∧
  ((({ State.reset with sys := { held := false, done := [7] }, regs := [(0x100, 0x8000001#64), (0x20000, 0xfffff#64)],
                          ldg := { scanned := true }, dpx := { configured := true } } : State) : State).sys.held =
     false ∧ ((fun (u : State) => u.dpx.configured ∧ u.resolving ∧ !u.dpx.resolved) (begin 0
     ({ State.reset with sys := { held := false, done := [7] }, regs := [(0x100, 0x8000001#64), (0x20000,
                           0xfffff#64)], ldg := { scanned := true }, dpx := { configured := true } } : State)) : Prop)) := by
  refine ⟨⟨by decide, ?_⟩, ⟨by decide, ?_⟩, ⟨by decide, ?_⟩, ⟨by decide, ?_⟩, ⟨by decide, ?_⟩, ⟨by decide, ?_⟩, ⟨by
    decide, ?_⟩, ⟨by decide, ?_⟩, ⟨by decide, ?_⟩, ⟨by decide, ?_⟩, ⟨by decide, ?_⟩, ⟨by decide, ?_⟩, ⟨by decide, ?_⟩⟩
  all_goals try dsimp only
  all_goals decide +kernel

theorem witness_RingFramesComplete :
  ((({ State.reset with sys := { held := false, done := [7] }, regs := [(0x100, 0x8000002#64), (0x20000, 0xfffff#64),
                          (0xb0000, 0xffc00001#64)], ldg := { scanned := true }, cmp := { seats := 5 } } : State) :
     State).sys.held = false ∧ ((fun (p : Fin 2) (src : Nat) (seq : Nat) (hops : Nat) (payload : List Byte) (u :
     State) => u.onRing ∧ u.portTrained p.val ∧ payload.length = 112 ∧ u.ringFresh 0x01 (src % 2 ^ 16) (seq % 2 ^ 32)
     (hops % 2 ^ 16) payload) 0 3 0 0 ((List.replicate 112 0)) (begin 0
     ({ State.reset with sys := { held := false, done := [7] }, regs := [(0x100, 0x8000002#64), (0x20000, 0xfffff#64),
                           (0xb0000, 0xffc00001#64)], ldg := { scanned := true }, cmp := { seats := 5 } } : State)) :
     Prop)) ∧
  ((({ State.reset with sys := { held := false, done := [7] }, regs := [(0x100, 0x8000002#64), (0x20000, 0xfffff#64),
                          (0xb0000, 0xffc00001#64)], ldg := { scanned := true }, cmp := { seats := 5 } } : State) :
     State).sys.held = false ∧ ((fun (p : Fin 2) (src : Nat) (seq : Nat) (hops : Nat) (payload : List Byte) (u :
     State) => u.onRing ∧ u.portTrained p.val ∧ payload.length = 72 ∧ u.ringFresh 0x02 (src % 2 ^ 16) (seq % 2 ^ 32)
     (hops % 2 ^ 16) payload) 0 3 0 0 ((List.replicate 72 0)) (begin 0
     ({ State.reset with sys := { held := false, done := [7] }, regs := [(0x100, 0x8000002#64), (0x20000, 0xfffff#64),
                           (0xb0000, 0xffc00001#64)], ldg := { scanned := true }, cmp := { seats := 5 } } : State)) :
     Prop)) ∧
  ((({ State.reset with sys := { held := false, done := [7] }, regs := [(0x100, 0x8000002#64), (0x20000, 0xfffff#64),
                          (0xb0000, 0xffc00001#64)], ldg := { scanned := true }, cmp := { seats := 5 } } : State) :
     State).sys.held = false ∧ ((fun (p : Fin 2) (src : Nat) (seq : Nat) (hops : Nat) (payload : List Byte) (u :
     State) => u.onRing ∧ u.portTrained p.val ∧ payload.length = 328 ∧ u.ringFresh 0x03 (src % 2 ^ 16) (seq % 2 ^ 32)
     (hops % 2 ^ 16) payload) 0 3 0 0 ((List.replicate 328 0)) (begin 0
     ({ State.reset with sys := { held := false, done := [7] }, regs := [(0x100, 0x8000002#64), (0x20000, 0xfffff#64),
                           (0xb0000, 0xffc00001#64)], ldg := { scanned := true }, cmp := { seats := 5 } } : State)) :
     Prop)) ∧
  ((({ State.reset with sys := { held := false, done := [7] }, regs := [(0x100, 0x8000002#64), (0x20000, 0xfffff#64),
                          (0xb0000, 0xffc00001#64)], ldg := { scanned := true }, cmp := { seats := 5 } } : State) :
     State).sys.held = false ∧ ((fun (p : Fin 2) (src : Nat) (seq : Nat) (hops : Nat) (payload : List Byte) (u :
     State) => u.onRing ∧ u.portTrained p.val ∧ payload.length = 24 ∧ u.ringFresh 0x04 (src % 2 ^ 16) (seq % 2 ^ 32)
     (hops % 2 ^ 16) payload) 0 3 0 0 ((List.replicate 24 0)) (begin 0
     ({ State.reset with sys := { held := false, done := [7] }, regs := [(0x100, 0x8000002#64), (0x20000, 0xfffff#64),
                           (0xb0000, 0xffc00001#64)], ldg := { scanned := true }, cmp := { seats := 5 } } : State)) :
     Prop)) ∧
  ((({ State.reset with sys := { held := false, done := [7] }, regs := [(0x100, 0x8000002#64), (0x20000, 0xfffff#64),
                          (0xb0000, 0xffc00003#64)], ldg := { scanned := true } } : State) : State).sys.held = false ∧
     ((fun (p : Fin 2) (u : State) => u.onRing ∧ u.portTrained p.val) 0 (begin 0
     ({ State.reset with sys := { held := false, done := [7] }, regs := [(0x100, 0x8000002#64), (0x20000, 0xfffff#64),
                           (0xb0000, 0xffc00003#64)], ldg := { scanned := true } } : State)) : Prop)) ∧
  ((({ State.reset with sys := { held := false, done := [7] }, regs := [(0x100, 0x8000002#64), (0x20000, 0xfffff#64),
                          (0xb0000, 0xffc00003#64)], ldg := { scanned := true } } : State) : State).sys.held = false ∧
     ((fun (p : Fin 2) (u : State) => u.onRing ∧ u.portTrained p.val) 0 (begin 0
     ({ State.reset with sys := { held := false, done := [7] }, regs := [(0x100, 0x8000002#64), (0x20000, 0xfffff#64),
                           (0xb0000, 0xffc00003#64)], ldg := { scanned := true } } : State)) : Prop)) := by
  refine ⟨⟨by decide, ?_⟩, ⟨by decide, ?_⟩, ⟨by decide, ?_⟩, ⟨by decide, ?_⟩, ⟨by decide, ?_⟩, ⟨by decide, ?_⟩⟩
  all_goals try dsimp only
  all_goals decide +kernel

theorem witness_LeaseFramesComplete :
  ((({ State.reset with sys := { held := false, done := [7] }, regs := [(0x100, 0x8000002#64), (0x20000, 0xfffff#64),
                          (0xb0000, 0xffc00001#64)], ldg := { scanned := true }, cmp := { seats := 5 } } : State) :
     State).sys.held = false ∧ ((fun (p : Fin 2) (src : Nat) (seq : Nat) (hops : Nat) (payload : List Byte) (u :
     State) => u.onRing ∧ u.portTrained p.val ∧ payload.length = 8 ∧ u.ringFresh 0x07 (src % 2 ^ 16) (seq % 2 ^ 32)
     (hops % 2 ^ 16) payload) 0 3 0 0 ((List.replicate 8 0)) (begin 0
     ({ State.reset with sys := { held := false, done := [7] }, regs := [(0x100, 0x8000002#64), (0x20000, 0xfffff#64),
                           (0xb0000, 0xffc00001#64)], ldg := { scanned := true }, cmp := { seats := 5 } } : State)) :
     Prop)) ∧
  ((({ State.reset with sys := { held := false, done := [7] }, regs := [(0x100, 0x8000002#64), (0x20000, 0xfffff#64),
                          (0xb0000, 0xffc00001#64)], ldg := { scanned := true }, cmp := { seats := 5 } } : State) :
     State).sys.held = false ∧ ((fun (p : Fin 2) (src : Nat) (seq : Nat) (hops : Nat) (payload : List Byte) (u :
     State) => u.onRing ∧ u.portTrained p.val ∧ payload.length = 80 ∧ u.ringFresh 0x08 (src % 2 ^ 16) (seq % 2 ^ 32)
     (hops % 2 ^ 16) payload) 0 3 0 0 ((List.replicate 80 0)) (begin 0
     ({ State.reset with sys := { held := false, done := [7] }, regs := [(0x100, 0x8000002#64), (0x20000, 0xfffff#64),
                           (0xb0000, 0xffc00001#64)], ldg := { scanned := true }, cmp := { seats := 5 } } : State)) :
     Prop)) ∧
  ((({ State.reset with sys := { held := false, done := [7] }, regs := [(0x100, 0x8000002#64), (0x20000, 0xfffff#64),
                          (0xb0000, 0xffc00001#64)], ldg := { scanned := true }, cmp := { seats := 5 } } : State) :
     State).sys.held = false ∧ ((fun (p : Fin 2) (src : Nat) (seq : Nat) (hops : Nat) (payload : List Byte) (u :
     State) => u.onRing ∧ u.portTrained p.val ∧ payload.length = 16 ∧ u.ringFresh 0x09 (src % 2 ^ 16) (seq % 2 ^ 32)
     (hops % 2 ^ 16) payload) 0 3 0 0 ((List.replicate 16 0)) (begin 0
     ({ State.reset with sys := { held := false, done := [7] }, regs := [(0x100, 0x8000002#64), (0x20000, 0xfffff#64),
                           (0xb0000, 0xffc00001#64)], ldg := { scanned := true }, cmp := { seats := 5 } } : State)) :
     Prop)) ∧
  ((({ State.reset with sys := { held := false, done := [7] }, regs := [(0x100, 0x8000002#64), (0x20000, 0xfffff#64),
                          (0xb0000, 0xffc00001#64)], ldg := { scanned := true }, cmp := { seats := 5 } } : State) :
     State).sys.held = false ∧ ((fun (p : Fin 2) (src : Nat) (seq : Nat) (hops : Nat) (payload : List Byte) (u :
     State) => u.onRing ∧ u.portTrained p.val ∧ payload.length = 64 ∧ u.ringFresh 0x0A (src % 2 ^ 16) (seq % 2 ^ 32)
     (hops % 2 ^ 16) payload) 0 3 0 0 ((List.replicate 64 0)) (begin 0
     ({ State.reset with sys := { held := false, done := [7] }, regs := [(0x100, 0x8000002#64), (0x20000, 0xfffff#64),
                           (0xb0000, 0xffc00001#64)], ldg := { scanned := true }, cmp := { seats := 5 } } : State)) :
     Prop)) ∧
  ((({ State.reset with sys := { held := false, done := [7] }, regs := [(0x100, 0x8000002#64), (0x20000, 0xfffff#64),
                          (0xb0000, 0xffc00001#64)], ldg := { scanned := true }, cmp := { seats := 5 } } : State) :
     State).sys.held = false ∧ ((fun (p : Fin 2) (src : Nat) (seq : Nat) (hops : Nat) (payload : List Byte) (u :
     State) => u.onRing ∧ u.portTrained p.val ∧ payload.length = 8 ∧ u.ringFresh 0x0B (src % 2 ^ 16) (seq % 2 ^ 32)
     (hops % 2 ^ 16) payload) 0 3 0 0 ((List.replicate 8 0)) (begin 0
     ({ State.reset with sys := { held := false, done := [7] }, regs := [(0x100, 0x8000002#64), (0x20000, 0xfffff#64),
                           (0xb0000, 0xffc00001#64)], ldg := { scanned := true }, cmp := { seats := 5 } } : State)) :
     Prop)) ∧
  ((({ State.reset with sys := { held := false, done := [7] }, regs := [(0x100, 0x8000002#64), (0x20000, 0xfffff#64),
                          (0xb0000, 0xffc00001#64)], ldg := { scanned := true }, cmp := { seats := 5 } } : State) :
     State).sys.held = false ∧ ((fun (p : Fin 2) (src : Nat) (seq : Nat) (hops : Nat) (payload : List Byte) (u :
     State) => u.onRing ∧ u.portTrained p.val ∧ payload.length = 8 ∧ u.ringFresh 0x0C (src % 2 ^ 16) (seq % 2 ^ 32)
     (hops % 2 ^ 16) payload) 0 3 0 0 ((List.replicate 8 0)) (begin 0
     ({ State.reset with sys := { held := false, done := [7] }, regs := [(0x100, 0x8000002#64), (0x20000, 0xfffff#64),
                           (0xb0000, 0xffc00001#64)], ldg := { scanned := true }, cmp := { seats := 5 } } : State)) :
     Prop)) ∧
  ((({ State.reset with sys := { held := false, done := [7] }, regs := [(0x100, 0x8000002#64), (0x20000, 0xfffff#64),
                          (0xb0000, 0xffc00001#64)], ldg := { scanned := true }, cmp := { seats := 5 } } : State) :
     State).sys.held = false ∧ ((fun (p : Fin 2) (src : Nat) (seq : Nat) (hops : Nat) (payload : List Byte) (u :
     State) => u.onRing ∧ u.portTrained p.val ∧ payload.length = 264 ∧ u.ringFresh 0x0D (src % 2 ^ 16) (seq % 2 ^ 32)
     (hops % 2 ^ 16) payload) 0 3 0 0 ((List.replicate 264 0)) (begin 0
     ({ State.reset with sys := { held := false, done := [7] }, regs := [(0x100, 0x8000002#64), (0x20000, 0xfffff#64),
                           (0xb0000, 0xffc00001#64)], ldg := { scanned := true }, cmp := { seats := 5 } } : State)) :
     Prop)) := by
  refine ⟨⟨by decide, ?_⟩, ⟨by decide, ?_⟩, ⟨by decide, ?_⟩, ⟨by decide, ?_⟩, ⟨by decide, ?_⟩, ⟨by decide, ?_⟩, ⟨by
    decide, ?_⟩⟩
  all_goals try dsimp only
  all_goals decide +kernel

theorem witness_CompanyTimersComplete :
  ((({ State.reset with sys := { held := false, done := [7] }, regs := [(0x100, 0x8000002#64), (0x20000, 0xfffff#64)],
                          ldg := { scanned := true } } : State) : State).sys.held = false ∧ ((fun (u : State) =>
     u.onRing) (begin 0
     ({ State.reset with sys := { held := false, done := [7] }, regs := [(0x100, 0x8000002#64), (0x20000,
                           0xfffff#64)], ldg := { scanned := true } } : State)) : Prop)) ∧
  ((({ State.reset with sys := { held := false, done := [7] }, regs := [(0x100, 0x8000002#64), (0x20000, 0xfffff#64)],
                          cmp := { keeper := true }, ldg := { scanned := true } } : State) : State).sys.held = false ∧
     ((fun (u : State) => u.cmp.keeper ∧ u.onRing) (begin 0
     ({ State.reset with sys := { held := false, done := [7] }, regs := [(0x100, 0x8000002#64), (0x20000,
                           0xfffff#64)], cmp := { keeper := true }, ldg := { scanned := true } } : State)) : Prop)) ∧
  ((({ State.reset with sys := { held := false, done := [7] }, regs := [(0x100, 0x8000002#64), (0x20000, 0xfffff#64)],
                          cmp := { keeper := true }, ldg := { scanned := true } } : State) : State).sys.held = false ∧
     ((fun (u : State) => u.cmp.keeper ∧ u.onRing) (begin 0
     ({ State.reset with sys := { held := false, done := [7] }, regs := [(0x100, 0x8000002#64), (0x20000,
                           0xfffff#64)], cmp := { keeper := true }, ldg := { scanned := true } } : State)) : Prop)) ∧
  ((({ State.reset with sys := { held := false, done := [7] }, regs := [(0x100, 0x8000002#64), (0x20000, 0xfffff#64)],
                          cmp := { keeper := true }, ldg := { scanned := true } } : State) : State).sys.held = false ∧
     ((fun (u : State) => u.cmp.keeper ∧ u.onRing) (begin 0
     ({ State.reset with sys := { held := false, done := [7] }, regs := [(0x100, 0x8000002#64), (0x20000,
                           0xfffff#64)], cmp := { keeper := true }, ldg := { scanned := true } } : State)) : Prop)) ∧
  ((({ State.reset with sys := { held := false, done := [7] }, regs := [(0x100, 0x8000002#64), (0x20000, 0xfffff#64)],
                          ldg := { scanned := true } } : State) : State).sys.held = false ∧ ((fun (u : State) =>
     u.onRing) (begin 0
     ({ State.reset with sys := { held := false, done := [7] }, regs := [(0x100, 0x8000002#64), (0x20000,
                           0xfffff#64)], ldg := { scanned := true } } : State)) : Prop)) ∧
  ((({ State.reset with sys := { held := false, done := [7] }, regs := [(0x100, 0x8000002#64), (0x20000, 0xfffff#64)],
                          ldg := { scanned := true } } : State) : State).sys.held = false ∧ ((fun (u : State) =>
     u.onRing ∧ u.keeperLost) (begin 0
     ({ State.reset with sys := { held := false, done := [7] }, regs := [(0x100, 0x8000002#64), (0x20000,
                           0xfffff#64)], ldg := { scanned := true } } : State)) : Prop)) ∧
  ((({ State.reset with sys := { held := false, done := [7] }, regs := [(0x100, 0x8000002#64), (0x20000, 0xfffff#64)],
                          ldg := { scanned := true } } : State) : State).sys.held = false ∧ ((fun (u : State) =>
     u.onRing ∧ !u.hasQuorum) (begin 0
     ({ State.reset with sys := { held := false, done := [7] }, regs := [(0x100, 0x8000002#64), (0x20000,
                           0xfffff#64)], ldg := { scanned := true } } : State)) : Prop)) ∧
  ((({ State.reset with sys := { held := false }, regs := [(0x100, 0x8000002#64), (0x20000, 0xfffff#64)], cmp := { proposals := [{ lease := {}, next := 0, sent := true }] }
                          } : State) : State).sys.held = false ∧ ((fun (q : Proposal) (u : State) =>
     u.cmp.proposals.find? (fun q => q.sent ∧ q.at_ + u.leasePs ≤ u.now) = some q)
     ({ lease := {}, next := 0, sent := true }) (begin 1000000000000
     ({ State.reset with sys := { held := false }, regs := [(0x100, 0x8000002#64), (0x20000, 0xfffff#64)], cmp := { proposals := [{ lease := {}, next := 0, sent := true }] }
                           } : State)) : Prop)) ∧
  ((({ State.reset with sys := { held := false }, regs := [(0x100, 0x8000002#64), (0x20000, 0xfffff#64)], cmp := { waits := [(0, some ⟨0, 0⟩)] }
                          } : State) : State).sys.held = false ∧ ((fun (k : Fin 256) (w : LeaseWait) (u : State) =>
     u.leaseWait k.val = some w ∧ w.at_ + 2 * u.leasePs ≤ u.now) 0 (⟨0, 0⟩) (begin 1000000000000
     ({ State.reset with sys := { held := false }, regs := [(0x100, 0x8000002#64), (0x20000, 0xfffff#64)], cmp := { waits := [(0, some ⟨0, 0⟩)] }
                           } : State)) : Prop)) ∧
  ((({ State.reset with sys := { held := false }, regs := [(0x100, 0x8000002#64), (0x20000, 0xfffff#64)], house := { set := true }
                          } : State) : State).sys.held = false ∧ ((fun (c : Nat) (u : State) => u.more = false ∧
     u.holdoverCause = some c ∧ u.cmp.holdoverAt = none) 1 (begin 0
     ({ State.reset with sys := { held := false }, regs := [(0x100, 0x8000002#64), (0x20000, 0xfffff#64)], house := { set := true }
                           } : State)) : Prop)) ∧
  ((({ State.reset with sys := { held := false }, regs := [(0x100, 0x8000002#64), (0x20000, 0xfffff#64), (0xb0020,
                          0x0#64)], house := { set := true }, cmp := { holdoverAt := some 0, holdE := 1 } } : State) :
     State).sys.held = false ∧ ((fun (u : State) => u.cmp.holdoverAt.isSome ∧ !u.cmp.holdLimitRaised ∧ u.get
     F.CMP_HOLD_LIMIT * 1000000 < u.timeBound) (begin 1000000000000000000
     ({ State.reset with sys := { held := false }, regs := [(0x100, 0x8000002#64), (0x20000, 0xfffff#64), (0xb0020,
                           0x0#64)], house := { set := true }, cmp := { holdoverAt := some 0, holdE := 1 } } : State))
     : Prop)) ∧
  ((({ State.reset with sys := { held := false }, regs := [(0x100, 0x8000002#64), (0x20000, 0xfffff#64)], cmp := { keeper := true },
                          ldg := { scanned := true } } : State) : State).sys.held = false ∧ ((fun (m : Master) (u :
     State) => u.granted m F.CMP_TIME_OP true ∧ (u.withReg F.CMP_TIME_OP 1).cmp.keeper) .prompter (begin 0
     ({ State.reset with sys := { held := false }, regs := [(0x100, 0x8000002#64), (0x20000, 0xfffff#64)], cmp := { keeper := true },
                           ldg := { scanned := true } } : State)) : Prop)) ∧
  ((({ State.reset with sys := { held := false }, regs := [(0x100, 0x8000002#64), (0x20000, 0xfffff#64)], cmp := { keeper := true },
                          ldg := { scanned := true } } : State) : State).sys.held = false ∧ ((fun (m : Master) (u :
     State) => u.granted m F.CMP_TIME_OP true ∧ (u.withReg F.CMP_TIME_OP 2).cmp.keeper) .prompter (begin 0
     ({ State.reset with sys := { held := false }, regs := [(0x100, 0x8000002#64), (0x20000, 0xfffff#64)], cmp := { keeper := true },
                           ldg := { scanned := true } } : State)) : Prop)) := by
  refine ⟨⟨by decide, ?_⟩, ⟨by decide, ?_⟩, ⟨by decide, ?_⟩, ⟨by decide, ?_⟩, ⟨by decide, ?_⟩, ⟨by decide, ?_⟩, ⟨by
    decide, ?_⟩, ⟨by decide, ?_⟩, ⟨by decide, ?_⟩, ⟨by decide, ?_⟩, ⟨by decide, ?_⟩, ⟨by decide, ?_⟩, ⟨by decide, ?_⟩⟩
  all_goals try dsimp only
  all_goals decide +kernel

theorem witness_LedgerCommandsComplete :
  ((({ State.reset with sys := { held := false }, regs := [(0x100, 0x8000002#64), (0x20000, 0xfffff#64)], ldg := { queue := [{ entry := .epoch 1 0 }] }
                          } : State) : State).sys.held = false ∧ ((fun (fails : Nat) (r : LdgReq) (u : State) =>
     (u.ldgWrite fails).2 = some r ∧ fails < 3) 0 ({ entry := .epoch 1 0 }) (begin 0
     ({ State.reset with sys := { held := false }, regs := [(0x100, 0x8000002#64), (0x20000, 0xfffff#64)], ldg := { queue := [{ entry := .epoch 1 0 }] }
                           } : State)) : Prop)) ∧
  (upState.sys.held = false ∧ ((fun (u : State) => u.ldg.queue = [] ∧ !u.sys.earlyWarning) (begin 0 upState) : Prop)) ∧
  ((({ State.reset with sys := { held := false }, regs := [(0x100, 0x8000002#64), (0x20000, 0xfffff#64), (0xf0000,
                          0x80000000#64)] } : State) : State).sys.held = false ∧ ((fun (m : Master) (u : State) =>
     u.granted m F.LDG_RESEAL true ∧ (u.withReg F.LDG_RESEAL 0x5EA1).flag F.LDG_STATUS_LOG_FAULT ∧ !(u.withReg
     F.LDG_RESEAL 0x5EA1).ldg.resealing) .prompter (begin 0
     ({ State.reset with sys := { held := false }, regs := [(0x100, 0x8000002#64), (0x20000, 0xfffff#64), (0xf0000,
                           0x80000000#64)] } : State)) : Prop)) := by
  refine ⟨⟨by decide, ?_⟩, ⟨by decide, ?_⟩, ⟨by decide, ?_⟩⟩
  all_goals try dsimp only
  all_goals decide +kernel

theorem witness_IzrexLinkComplete :
  ((({ State.reset with sys := { held := false, done := [4] }, regs := [(0x100, 0x8000002#64), (0x20000, 0xfffff#64),
                          (0xa0010, 0x4#64)] } : State) : State).sys.held = false ∧ ((fun (p : Fin 2) (u : State) =>
     u.linksOn ∧ !(u.port p.val).takenDown ∧ u.get (F.IZX_PORT_STATUS_STATE p.val) ≠ 0) 0 (begin 0
     ({ State.reset with sys := { held := false, done := [4] }, regs := [(0x100, 0x8000002#64), (0x20000, 0xfffff#64),
                           (0xa0010, 0x4#64)] } : State)) : Prop)) ∧
  ((({ State.reset with sys := { held := false, done := [4] }, regs := [(0x100, 0x8000002#64), (0x20000, 0xfffff#64),
                          (0xa0000, 0x3c0001#64), (0xa0010, 0x5#64)] } : State) : State).sys.held = false ∧ ((fun (p :
     Fin 2) (u : State) => u.linksOn ∧ u.flag F.IZX_CTRL_AUTO_RETRAIN ∧ !(u.port p.val).takenDown ∧ (u.get
     (F.IZX_PORT_STATUS_STATE p.val) = 5 ∨ u.get (F.IZX_PORT_STATUS_STATE p.val) = 6) ∧ (u.port p.val).since +
     10000000000 ≤ u.now) 0 (begin 10000000000
     ({ State.reset with sys := { held := false, done := [4] }, regs := [(0x100, 0x8000002#64), (0x20000, 0xfffff#64),
                           (0xa0000, 0x3c0001#64), (0xa0010, 0x5#64)] } : State)) : Prop)) ∧
  ((({ State.reset with sys := { held := false, done := [4] }, regs := [(0x100, 0x8000002#64), (0x20000, 0xfffff#64)]
                          } : State) : State).sys.held = false ∧ ((fun (m : Master) (p : Fin 2) (u : State) =>
     u.granted m F.IZX_PORT_OP true ∧ (u.withReg F.IZX_PORT_OP ((256 * p.val + 1))).phaseDone 4) .prompter 0 (begin 0
     ({ State.reset with sys := { held := false, done := [4] }, regs := [(0x100, 0x8000002#64), (0x20000, 0xfffff#64)]
                           } : State)) : Prop)) ∧
  ((({ State.reset with sys := { held := false, done := [4] }, regs := [(0x100, 0x8000002#64), (0x20000, 0xfffff#64)]
                          } : State) : State).sys.held = false ∧ ((fun (m : Master) (p : Fin 2) (u : State) =>
     u.granted m F.IZX_PORT_OP true ∧ (u.withReg F.IZX_PORT_OP ((256 * p.val + 2))).phaseDone 4) .prompter 0 (begin 0
     ({ State.reset with sys := { held := false, done := [4] }, regs := [(0x100, 0x8000002#64), (0x20000, 0xfffff#64)]
                           } : State)) : Prop)) ∧
  (upState.sys.held = false ∧ ((fun (m : Master) (b : Fin 16) (u : State) => u.granted m F.IZX_BOX_OP true ∧ b.val <
     15) .prompter 0 (begin 0 upState) : Prop)) ∧
  ((({ State.reset with sys := { held := false }, regs := [(0x100, 0x8000002#64), (0x20000, 0xfffff#64), (0xa0010,
                          0x4#64)] } : State) : State).sys.held = false ∧ ((fun (p : Fin 2) (u : State) => u.get
     (F.IZX_PORT_STATUS_STATE p.val) = 4) 0 (begin 0
     ({ State.reset with sys := { held := false }, regs := [(0x100, 0x8000002#64), (0x20000, 0xfffff#64), (0xa0010,
                           0x4#64)] } : State)) : Prop)) ∧
  ((({ State.reset with sys := { held := false }, regs := [(0x100, 0x8000002#64), (0x20000, 0xfffff#64), (0xa0010,
                          0x4#64)] } : State) : State).sys.held = false ∧ ((fun (p : Fin 2) (b : Fin 16) (host : Nat)
     (u : State) => u.get (F.IZX_PORT_STATUS_STATE p.val) = 4 ∧ b.val < 15 ∧ !u.boxBare b.val ∧ (u.boxPorts
     b.val).testBit p.val ∧ !(u.promptDone ∧ (u.box b.val).hostReq ≠ 0 ∧ (u.box b.val).hostReq ≠ host % 2 ^ 64) ∧
     !(u.box b.val).isOpen) 0 0 0 (begin 0
     ({ State.reset with sys := { held := false }, regs := [(0x100, 0x8000002#64), (0x20000, 0xfffff#64), (0xa0010,
                           0x4#64)] } : State)) : Prop)) ∧
  ((({ State.reset with sys := { held := false }, regs := [(0x100, 0x8000002#64), (0x20000, 0xfffff#64), (0xa0010,
                          0x4#64)], boxes := [(0, { isOpen := true })] } : State) : State).sys.held = false ∧ ((fun (p
     : Fin 2) (b : Fin 16) (u : State) => u.get (F.IZX_PORT_STATUS_STATE p.val) = 4 ∧ u.openOn p.val b.val) 0 0 (begin
     0 ({ State.reset with sys := { held := false }, regs := [(0x100, 0x8000002#64), (0x20000, 0xfffff#64), (0xa0010,
                             0x4#64)], boxes := [(0, { isOpen := true })] } : State)) : Prop)) ∧
  ((({ State.reset with sys := { held := false }, regs := [(0x100, 0x8000002#64), (0x20000, 0xfffff#64), (0xa0010,
                          0x4#64)] } : State) : State).sys.held = false ∧ ((fun (p : Fin 2) (u : State) => u.get
     (F.IZX_PORT_STATUS_STATE p.val) = 4) 0 (begin 0
     ({ State.reset with sys := { held := false }, regs := [(0x100, 0x8000002#64), (0x20000, 0xfffff#64), (0xa0010,
                           0x4#64)] } : State)) : Prop)) ∧
  ((({ State.reset with sys := { held := false }, regs := [(0x100, 0x8000002#64), (0x20000, 0xfffff#64)], boxes :=
                          [(0, { isOpen := true, held := true })] } : State) : State).sys.held = false ∧ ((fun (b :
     Fin 16) (u : State) => (u.box b.val).isOpen ∧ (u.box b.val).held ∧ (u.box b.val).heldAt + max 1 (u.get
     F.IZX_CTRL_BOX_HOLD) * 10 ^ 12 ≤ u.now) 0 (begin 1000000000000000
     ({ State.reset with sys := { held := false }, regs := [(0x100, 0x8000002#64), (0x20000, 0xfffff#64)], boxes :=
                           [(0, { isOpen := true, held := true })] } : State)) : Prop)) := by
  refine ⟨⟨by decide, ?_⟩, ⟨by decide, ?_⟩, ⟨by decide, ?_⟩, ⟨by decide, ?_⟩, ⟨by decide, ?_⟩, ⟨by decide, ?_⟩, ⟨by
    decide, ?_⟩, ⟨by decide, ?_⟩, ⟨by decide, ?_⟩, ⟨by decide, ?_⟩⟩
  all_goals try dsimp only
  all_goals decide +kernel

theorem witness_IzrexCommandsComplete :
  ((({ State.reset with sys := { held := false }, boxes := [(0, { isOpen := true, port := 0 })], regs :=
                          [((F.IZX_PORT_STATUS 0).addr, 4#64)] } : State) : State).sys.held = false ∧ ((fun (p : Fin
     2) (b : Fin 16) (seq : Nat) (payload : List Byte) (u : State) => payload.length ≤ 4160 ∧ u.get
     (F.IZX_PORT_STATUS_STATE p.val) = 4 ∧ u.get F.PWR_STATUS_STATE = 0 ∧ u.izxMay p.val b.val (frameBlocks payload) ∧
     u.seqDist b.val (seq % 2 ^ 32) = 1) 0 0 1 [] (begin 0
     ({ State.reset with sys := { held := false }, boxes := [(0, { isOpen := true, port := 0 })], regs :=
                           [((F.IZX_PORT_STATUS 0).addr, 4#64)] } : State)) : Prop)) ∧
  ((({ State.reset with sys := { held := false }, boxes := [(0, { isOpen := true, port := 0 })], regs :=
                          [((F.IZX_PORT_STATUS 0).addr, 4#64)] } : State) : State).sys.held = false ∧ ((fun (p : Fin
     2) (b : Fin 16) (seq : Nat) (payload : List Byte) (u : State) => payload.length ≤ 4160 ∧ u.get
     (F.IZX_PORT_STATUS_STATE p.val) = 4 ∧ u.get F.PWR_STATUS_STATE = 0 ∧ u.izxMay p.val b.val (frameBlocks payload) ∧
     u.seqDist b.val (seq % 2 ^ 32) = 1) 0 0 1 [] (begin 0
     ({ State.reset with sys := { held := false }, boxes := [(0, { isOpen := true, port := 0 })], regs :=
                           [((F.IZX_PORT_STATUS 0).addr, 4#64)] } : State)) : Prop)) ∧
  ((({ State.reset with sys := { held := false }, boxes := [(0, { isOpen := true, port := 0 })], regs :=
                          [((F.IZX_PORT_STATUS 0).addr, 4#64)] } : State) : State).sys.held = false ∧ ((fun (p : Fin
     2) (b : Fin 16) (seq : Nat) (payload : List Byte) (u : State) => payload.length ≤ 4160 ∧ u.get
     (F.IZX_PORT_STATUS_STATE p.val) = 4 ∧ u.get F.PWR_STATUS_STATE = 0 ∧ u.izxMay p.val b.val (frameBlocks payload) ∧
     u.seqDist b.val (seq % 2 ^ 32) = 1) 0 0 1 [] (begin 0
     ({ State.reset with sys := { held := false }, boxes := [(0, { isOpen := true, port := 0 })], regs :=
                           [((F.IZX_PORT_STATUS 0).addr, 4#64)] } : State)) : Prop)) ∧
  ((({ State.reset with sys := { held := false }, boxes := [(0, { isOpen := true, port := 0 })], regs :=
                          [((F.IZX_PORT_STATUS 0).addr, 4#64)] } : State) : State).sys.held = false ∧ ((fun (p : Fin
     2) (b : Fin 16) (seq : Nat) (payload : List Byte) (u : State) => payload.length ≤ 4160 ∧ u.get
     (F.IZX_PORT_STATUS_STATE p.val) = 4 ∧ u.get F.PWR_STATUS_STATE = 0 ∧ u.izxMay p.val b.val (frameBlocks payload) ∧
     u.seqDist b.val (seq % 2 ^ 32) = 1) 0 0 1 [] (begin 0
     ({ State.reset with sys := { held := false }, boxes := [(0, { isOpen := true, port := 0 })], regs :=
                           [((F.IZX_PORT_STATUS 0).addr, 4#64)] } : State)) : Prop)) ∧
  ((({ State.reset with sys := { held := false }, boxes := [(0, { isOpen := true, port := 0 })], regs :=
                          [((F.IZX_PORT_STATUS 0).addr, 4#64)] } : State) : State).sys.held = false ∧ ((fun (p : Fin
     2) (b : Fin 16) (seq : Nat) (payload : List Byte) (u : State) => payload.length ≤ 4160 ∧ u.get
     (F.IZX_PORT_STATUS_STATE p.val) = 4 ∧ u.get F.PWR_STATUS_STATE = 0 ∧ u.izxMay p.val b.val (frameBlocks payload) ∧
     u.seqDist b.val (seq % 2 ^ 32) = 1) 0 0 1 [] (begin 0
     ({ State.reset with sys := { held := false }, boxes := [(0, { isOpen := true, port := 0 })], regs :=
                           [((F.IZX_PORT_STATUS 0).addr, 4#64)] } : State)) : Prop)) ∧
  ((({ State.reset with sys := { held := false }, boxes := [(0, { isOpen := true, port := 0 })], regs :=
                          [((F.IZX_PORT_STATUS 0).addr, 4#64)] } : State) : State).sys.held = false ∧ ((fun (p : Fin
     2) (b : Fin 16) (seq : Nat) (payload : List Byte) (u : State) => payload.length ≤ 4160 ∧ u.get
     (F.IZX_PORT_STATUS_STATE p.val) = 4 ∧ u.get F.PWR_STATUS_STATE = 0 ∧ u.izxMay p.val b.val (frameBlocks payload) ∧
     u.seqDist b.val (seq % 2 ^ 32) = 1) 0 0 1 [] (begin 0
     ({ State.reset with sys := { held := false }, boxes := [(0, { isOpen := true, port := 0 })], regs :=
                           [((F.IZX_PORT_STATUS 0).addr, 4#64)] } : State)) : Prop)) ∧
  ((({ State.reset with sys := { held := false }, boxes := [(0, { isOpen := true, port := 0 })], regs :=
                          [((F.IZX_PORT_STATUS 0).addr, 4#64)] } : State) : State).sys.held = false ∧ ((fun (p : Fin
     2) (b : Fin 16) (seq : Nat) (payload : List Byte) (u : State) => payload.length ≤ 4160 ∧ u.get
     (F.IZX_PORT_STATUS_STATE p.val) = 4 ∧ u.get F.PWR_STATUS_STATE = 0 ∧ u.izxMay p.val b.val (frameBlocks payload) ∧
     u.seqDist b.val (seq % 2 ^ 32) = 1) 0 0 1 [] (begin 0
     ({ State.reset with sys := { held := false }, boxes := [(0, { isOpen := true, port := 0 })], regs :=
                           [((F.IZX_PORT_STATUS 0).addr, 4#64)] } : State)) : Prop)) ∧
  ((({ State.reset with sys := { held := false }, boxes := [(0, { isOpen := true, port := 0 })], regs :=
                          [((F.IZX_PORT_STATUS 0).addr, 4#64)] } : State) : State).sys.held = false ∧ ((fun (p : Fin
     2) (b : Fin 16) (seq : Nat) (payload : List Byte) (u : State) => payload.length ≤ 4160 ∧ u.get
     (F.IZX_PORT_STATUS_STATE p.val) = 4 ∧ u.get F.PWR_STATUS_STATE = 0 ∧ u.izxMay p.val b.val (frameBlocks payload) ∧
     u.seqDist b.val (seq % 2 ^ 32) = 1) 0 0 1 [] (begin 0
     ({ State.reset with sys := { held := false }, boxes := [(0, { isOpen := true, port := 0 })], regs :=
                           [((F.IZX_PORT_STATUS 0).addr, 4#64)] } : State)) : Prop)) ∧
  ((({ State.reset with sys := { held := false }, boxes := [(0, { isOpen := true, port := 0 })], regs :=
                          [((F.IZX_PORT_STATUS 0).addr, 4#64)] } : State) : State).sys.held = false ∧ ((fun (p : Fin
     2) (b : Fin 16) (seq : Nat) (payload : List Byte) (u : State) => (leBytes 1 0 ++ payload).length ≤ 4160 ∧ u.get
     (F.IZX_PORT_STATUS_STATE p.val) = 4 ∧ u.get F.PWR_STATUS_STATE = 0 ∧ u.izxMay p.val b.val (frameBlocks (leBytes 1
     0 ++ payload)) ∧ u.seqDist b.val (seq % 2 ^ 32) = 1) 0 0 1 [] (begin 0
     ({ State.reset with sys := { held := false }, boxes := [(0, { isOpen := true, port := 0 })], regs :=
                           [((F.IZX_PORT_STATUS 0).addr, 4#64)] } : State)) : Prop)) ∧
  ((({ State.reset with sys := { held := false }, boxes := [(0, { isOpen := true, port := 0 })], regs :=
                          [((F.IZX_PORT_STATUS 0).addr, 4#64)] } : State) : State).sys.held = false ∧ ((fun (p : Fin
     2) (b : Fin 16) (seq : Nat) (payload : List Byte) (u : State) => (leBytes 1 0 ++ payload).length ≤ 4160 ∧ u.get
     (F.IZX_PORT_STATUS_STATE p.val) = 4 ∧ u.get F.PWR_STATUS_STATE = 0 ∧ u.izxMay p.val b.val (frameBlocks (leBytes 1
     0 ++ payload)) ∧ u.seqDist b.val (seq % 2 ^ 32) = 1) 0 0 1 [] (begin 0
     ({ State.reset with sys := { held := false }, boxes := [(0, { isOpen := true, port := 0 })], regs :=
                           [((F.IZX_PORT_STATUS 0).addr, 4#64)] } : State)) : Prop)) ∧
  ((({ State.reset with sys := { held := false }, boxes := [(0, { isOpen := true, port := 0 })], regs :=
                          [((F.IZX_PORT_STATUS 0).addr, 4#64)] } : State) : State).sys.held = false ∧ ((fun (p : Fin
     2) (b : Fin 16) (seq : Nat) (payload : List Byte) (u : State) => (leBytes 1 1 ++ payload).length ≤ 4160 ∧ u.get
     (F.IZX_PORT_STATUS_STATE p.val) = 4 ∧ u.get F.PWR_STATUS_STATE = 0 ∧ u.izxMay p.val b.val (frameBlocks (leBytes 1
     1 ++ payload)) ∧ u.seqDist b.val (seq % 2 ^ 32) = 1) 0 0 1 [] (begin 0
     ({ State.reset with sys := { held := false }, boxes := [(0, { isOpen := true, port := 0 })], regs :=
                           [((F.IZX_PORT_STATUS 0).addr, 4#64)] } : State)) : Prop)) ∧
  ((({ State.reset with sys := { held := false }, boxes := [(0, { isOpen := true, port := 0 })], regs :=
                          [((F.IZX_PORT_STATUS 0).addr, 4#64)] } : State) : State).sys.held = false ∧ ((fun (p : Fin
     2) (b : Fin 16) (seq : Nat) (payload : List Byte) (u : State) => (leBytes 1 1 ++ payload).length ≤ 4160 ∧ u.get
     (F.IZX_PORT_STATUS_STATE p.val) = 4 ∧ u.get F.PWR_STATUS_STATE = 0 ∧ u.izxMay p.val b.val (frameBlocks (leBytes 1
     1 ++ payload)) ∧ u.seqDist b.val (seq % 2 ^ 32) = 1) 0 0 1 [] (begin 0
     ({ State.reset with sys := { held := false }, boxes := [(0, { isOpen := true, port := 0 })], regs :=
                           [((F.IZX_PORT_STATUS 0).addr, 4#64)] } : State)) : Prop)) ∧
  ((({ State.reset with sys := { held := false }, boxes := [(0, { isOpen := true, port := 0 })], regs :=
                          [((F.IZX_PORT_STATUS 0).addr, 4#64)] } : State) : State).sys.held = false ∧ ((fun (p : Fin
     2) (b : Fin 16) (seq : Nat) (payload : List Byte) (u : State) => (leBytes 1 2 ++ payload).length ≤ 4160 ∧ u.get
     (F.IZX_PORT_STATUS_STATE p.val) = 4 ∧ u.get F.PWR_STATUS_STATE = 0 ∧ u.izxMay p.val b.val (frameBlocks (leBytes 1
     2 ++ payload)) ∧ u.seqDist b.val (seq % 2 ^ 32) = 1) 0 0 1 [] (begin 0
     ({ State.reset with sys := { held := false }, boxes := [(0, { isOpen := true, port := 0 })], regs :=
                           [((F.IZX_PORT_STATUS 0).addr, 4#64)] } : State)) : Prop)) ∧
  ((({ State.reset with sys := { held := false }, boxes := [(0, { isOpen := true, port := 0 })], regs :=
                          [((F.IZX_PORT_STATUS 0).addr, 4#64)] } : State) : State).sys.held = false ∧ ((fun (p : Fin
     2) (b : Fin 16) (seq : Nat) (payload : List Byte) (u : State) => (leBytes 1 2 ++ payload).length ≤ 4160 ∧ u.get
     (F.IZX_PORT_STATUS_STATE p.val) = 4 ∧ u.get F.PWR_STATUS_STATE = 0 ∧ u.izxMay p.val b.val (frameBlocks (leBytes 1
     2 ++ payload)) ∧ u.seqDist b.val (seq % 2 ^ 32) = 1) 0 0 1 [] (begin 0
     ({ State.reset with sys := { held := false }, boxes := [(0, { isOpen := true, port := 0 })], regs :=
                           [((F.IZX_PORT_STATUS 0).addr, 4#64)] } : State)) : Prop)) ∧
  ((({ State.reset with sys := { held := false }, regs := [(0x100, 0x8000002#64), (0x20000, 0xfffff#64), (0x80000,
                          0x20000000#64), (0x80008, 0x10000000#64), (0x90000, 0x20000000#64)], dreq := [{ cls := 6, addr := 0, len := 16, data := some [1, 2], who := .bulk 0 0, since := 0 }]
                          } : State) : State).sys.held = false ∧ ((fun (b : Fin 16) (seq : Nat) (i : Nat) (r :
     DramReq) (u : State) => u.dramOf (.bulk b.val (seq % 2 ^ 32)) = some i ∧ u.dreq[i]? = some r ∧ u.dramFree i ∧
     !(u.dramBarred (u.dreq.set i { r with since := u.now }) i)) 0 0 0
     ({ cls := 6, addr := 0, len := 16, data := some [1, 2], who := .bulk 0 0, since := 0 }) (begin 0
     ({ State.reset with sys := { held := false }, regs := [(0x100, 0x8000002#64), (0x20000, 0xfffff#64), (0x80000,
                           0x20000000#64), (0x80008, 0x10000000#64), (0x90000, 0x20000000#64)], dreq := [{ cls := 6, addr := 0, len := 16, data := some [1, 2], who := .bulk 0 0, since := 0
                                                                                                              }] } :
     State)) : Prop)) ∧
  ((({ State.reset with sys := { held := false }, regs := [(0x100, 0x8000002#64), (0x20000, 0xfffff#64)], promptUp :=
                          some { wait := some 0 } } : State) : State).sys.held = false ∧ ((fun (x : Transfer) (q :
     Nat) (u : State) => u.promptUp = some x ∧ x.wait = some q ∧ x.ready = false) ({ wait := some 0 }) 0 (begin 0
     ({ State.reset with sys := { held := false }, regs := [(0x100, 0x8000002#64), (0x20000, 0xfffff#64)], promptUp :=
                           some { wait := some 0 } } : State)) : Prop)) := by
  refine ⟨⟨by decide, ?_⟩, ⟨by decide, ?_⟩, ⟨by decide, ?_⟩, ⟨by decide, ?_⟩, ⟨by decide, ?_⟩, ⟨by decide, ?_⟩, ⟨by
    decide, ?_⟩, ⟨by decide, ?_⟩, ⟨by decide, ?_⟩, ⟨by decide, ?_⟩, ⟨by decide, ?_⟩, ⟨by decide, ?_⟩, ⟨by decide, ?_⟩, ⟨by
    decide, ?_⟩, ⟨by decide, ?_⟩, ⟨by decide, ?_⟩⟩
  all_goals try dsimp only
  all_goals decide +kernel

theorem witness_PlaneAndFlashCommandsComplete :
  (upState.sys.held = false ∧ ((fun (m : Master) (plane : Fin 4) (u : State) => u.granted m F.CFG_PLANE_SEL true ∧
     (plane = 1 ∨ plane = 2)) .prompter 1 (begin 0 upState) : Prop)) ∧
  ((({ State.reset with sys := { held := false }, regs := [(0x100, 0x8000002#64), (0x20000, 0xfffff#64)], cfg := { selecting := some 0 }
                          } : State) : State).sys.held = false ∧ ((fun (p : Nat) (u : State) => u.cfg.selecting = some
     p) 0 (begin 0
     ({ State.reset with sys := { held := false }, regs := [(0x100, 0x8000002#64), (0x20000, 0xfffff#64)], cfg := { selecting := some 0 }
                           } : State)) : Prop)) ∧
  ((({ State.reset with sys := { held := false }, regs := [(0x100, 0x8000002#64), (0x20000, 0xfffff#64)], regions :=
                          [{ kind := 0, base := 0, size := 4096 }] } : State) : State).sys.held = false ∧ ((fun (m :
     Master) (u : State) => u.granted m F.CFG_STAGE_OP true ∧ (u.withReg F.CFG_STAGE_OP 1).stageFree ∧ ((u.withReg
     F.CFG_STAGE_OP 1).plane (u.withReg F.CFG_STAGE_OP 1).stageTarget).state ≠ 7 ∧ (u.withReg F.CFG_STAGE_OP 1).get
     F.CFG_STAGE_ADDR % 64 = 0 ∧ (u.withReg F.CFG_STAGE_OP 1).imageRange ((u.withReg F.CFG_STAGE_OP 1).get
     F.CFG_STAGE_ADDR) ((u.withReg F.CFG_STAGE_OP 1).get F.CFG_STAGE_LEN)) .prompter (begin 0
     ({ State.reset with sys := { held := false }, regs := [(0x100, 0x8000002#64), (0x20000, 0xfffff#64)], regions :=
                           [{ kind := 0, base := 0, size := 4096 }] } : State)) : Prop)) ∧
  (upState.sys.held = false ∧ ((fun (m : Master) (u : State) => u.granted m F.CFG_STAGE_OP true ∧ (u.withReg
     F.CFG_STAGE_OP 2).disarm.stageFree) .prompter (begin 0 upState) : Prop)) ∧
  ((({ State.reset with sys := { held := false }, regs := [(0x100, 0x8000002#64), (0x20000, 0xfffff#64)], cfg := { stage := some { plane := 0 } }
                          } : State) : State).sys.held = false ∧ ((fun (m : Master) (g : Stage) (u : State) =>
     u.granted m F.CFG_STAGE_OP true ∧ (u.withReg F.CFG_STAGE_OP 3).disarm.cfg.stage = some g) .prompter
     ({ plane := 0 }) (begin 0
     ({ State.reset with sys := { held := false }, regs := [(0x100, 0x8000002#64), (0x20000, 0xfffff#64)], cfg := { stage := some { plane := 0 } }
                           } : State)) : Prop)) ∧
  ((({ State.reset with sys := { held := false }, regs := [(0x100, 0x8000002#64), (0x20000, 0xfffff#64)], cfg := { stage := some { plane := 0, step := 1 } }
                          } : State) : State).sys.held = false ∧ ((fun (g : Stage) (u : State) => u.cfg.stage = some g
     ∧ g.step = 1) ({ plane := 0, step := 1 }) (begin 0
     ({ State.reset with sys := { held := false }, regs := [(0x100, 0x8000002#64), (0x20000, 0xfffff#64)], cfg := { stage := some { plane := 0, step := 1 } }
                           } : State)) : Prop)) ∧
  ((({ State.reset with sys := { held := false }, regs := [(0x100, 0x8000002#64), (0x20000, 0xfffff#64)], cfg := { stage := some { plane := 0, step := 3 } }
                          } : State) : State).sys.held = false ∧ ((fun (g : Stage) (u : State) => u.cfg.stage = some g
     ∧ (g.step = 3 ∨ (g.step = 2 ∧ g.box.isNone))) ({ plane := 0, step := 3 }) (begin 0
     ({ State.reset with sys := { held := false }, regs := [(0x100, 0x8000002#64), (0x20000, 0xfffff#64)], cfg := { stage := some { plane := 0, step := 3 } }
                           } : State)) : Prop)) ∧
  ((({ State.reset with sys := { held := false }, regs := [(0x100, 0x8000002#64), (0x20000, 0xfffff#64)], cfg := { planeB := { state := 4 } },
                          trk := [(0, { armed := true })] } : State) : State).sys.held = false ∧ ((fun (m : Master)
     (tracks : Nat) (force : Bool) (trial : Bool) (u : State) => u.granted m F.CFG_SCENE_OP true ∧ (u.withReg
     F.CFG_SCENE_OP ((65536 * (tracks % 65536) + 16 * bit force + 8 * bit trial + 1))).armFault (tracks % 65536) force
     false = none ∧ !(u.withReg F.CFG_SCENE_OP ((65536 * (tracks % 65536) + 16 * bit force + 8 * bit trial +
     1))).mirrors) .prompter 1 false false (begin 0
     ({ State.reset with sys := { held := false }, regs := [(0x100, 0x8000002#64), (0x20000, 0xfffff#64)], cfg := { planeB := { state := 4 } },
                           trk := [(0, { armed := true })] } : State)) : Prop)) ∧
  ((({ State.reset with sys := { held := false }, regs := [(0x100, 0x8000002#64), (0x20000, 0xfffff#64), (0xc0008,
                          0x1#64)], cfg := { planeB := { state := 4 } }, trk := [(0, { armed := true })] } : State) :
     State).sys.held = false ∧ ((fun (m : Master) (tracks : Nat) (force : Bool) (trial : Bool) (u : State) =>
     u.granted m F.CFG_SCENE_OP true ∧ (u.withReg F.CFG_SCENE_OP ((65536 * (tracks % 65536) + 16 * bit force + 8 * bit
     trial + 1))).armFault (tracks % 65536) force false = none ∧ (u.withReg F.CFG_SCENE_OP ((65536 * (tracks % 65536)
     + 16 * bit force + 8 * bit trial + 1))).mirrors) .prompter 1 false false (begin 0
     ({ State.reset with sys := { held := false }, regs := [(0x100, 0x8000002#64), (0x20000, 0xfffff#64), (0xc0008,
                           0x1#64)], cfg := { planeB := { state := 4 } }, trk := [(0, { armed := true })] } : State))
     : Prop)) ∧
  ((({ State.reset with sys := { held := false }, regs := [(0x100, 0x8000002#64), (0x20000, 0xfffff#64)], cfg := { arm := some { tracks := 1, trial := false, at_ := 0 } }
                          } : State) : State).sys.held = false ∧ ((fun (m : Master) (u : State) => u.granted m
     F.CFG_SCENE_OP true ∧ (u.withReg F.CFG_SCENE_OP 2).cfg.arm.isSome) .prompter (begin 0
     ({ State.reset with sys := { held := false }, regs := [(0x100, 0x8000002#64), (0x20000, 0xfffff#64)], cfg := { arm := some { tracks := 1, trial := false, at_ := 0 } }
                           } : State)) : Prop)) ∧
  ((({ State.reset with sys := { held := false }, regs := [(0x100, 0x8000002#64), (0x20000, 0xfffff#64)], cfg := { arm := some { tracks := 1, trial := false, at_ := 0 } }
                          } : State) : State).sys.held = false ∧ ((fun (m : Master) (trial : Bool) (a : Arm) (u :
     State) => u.granted m F.CFG_SCENE_OP true ∧ (u.withReg F.CFG_SCENE_OP ((8 * bit trial + 3))).cfg.arm = some a ∧
     a.waiting = none) .prompter false ({ tracks := 1, trial := false, at_ := 0 }) (begin 0
     ({ State.reset with sys := { held := false }, regs := [(0x100, 0x8000002#64), (0x20000, 0xfffff#64)], cfg := { arm := some { tracks := 1, trial := false, at_ := 0 } }
                           } : State)) : Prop)) ∧
  ((({ State.reset with sys := { held := false }, regs := [(0x100, 0x8000002#64), (0x20000, 0xfffff#64)], cfg := { arm := some { tracks := 1, trial := false, at_ := 0 } }
                          } : State) : State).sys.held = false ∧ ((fun (a : Arm) (u : State) => u.cfg.arm = some a ∧
     a.waiting = none ∧ u.mode ≠ 6 ∧ (List.range 16).all (fun n => !(a.tracks.testBit n) || !(u.track n).armed ||
     u.inCurtain n)) ({ tracks := 1, trial := false, at_ := 0 }) (begin 0
     ({ State.reset with sys := { held := false }, regs := [(0x100, 0x8000002#64), (0x20000, 0xfffff#64)], cfg := { arm := some { tracks := 1, trial := false, at_ := 0 } }
                           } : State)) : Prop)) ∧
  ((({ State.reset with sys := { held := false }, regs := [(0x100, 0x8000002#64), (0x20000, 0xfffff#64)], cfg := { arm := some { tracks := 1, trial := false, at_ := 0 } }
                          } : State) : State).sys.held = false ∧ ((fun (a : Arm) (u : State) => u.cfg.arm = some a ∧
     a.waiting.isNone ∧ a.at_ + max 1 (u.get F.CFG_ARM_TIMEOUT) * 1000000000 ≤ u.now)
     ({ tracks := 1, trial := false, at_ := 0 }) (begin 1000000000000000
     ({ State.reset with sys := { held := false }, regs := [(0x100, 0x8000002#64), (0x20000, 0xfffff#64)], cfg := { arm := some { tracks := 1, trial := false, at_ := 0 } }
                           } : State)) : Prop)) ∧
  ((({ State.reset with sys := { held := false }, regs := [(0x100, 0x8000002#64), (0x20000, 0xfffff#64)], cfg := { swap := some (0, false) }
                          } : State) : State).sys.held = false ∧ ((fun (u : State) => u.cfg.swap.isSome) (begin 0
     ({ State.reset with sys := { held := false }, regs := [(0x100, 0x8000002#64), (0x20000, 0xfffff#64)], cfg := { swap := some (0, false) }
                           } : State)) : Prop)) ∧
  ((({ State.reset with sys := { held := false }, regs := [(0x100, 0x8000002#64), (0x20000, 0xfffff#64)], cfg := { recordDue := true }
                          } : State) : State).sys.held = false ∧ ((fun (u : State) => u.cfg.recordDue) (begin 0
     ({ State.reset with sys := { held := false }, regs := [(0x100, 0x8000002#64), (0x20000, 0xfffff#64)], cfg := { recordDue := true }
                           } : State)) : Prop)) ∧
  (upState.sys.held = false ∧ ((fun (m : Master) (u : State) => u.granted m F.FLC_CMD true ∧ (u.withReg F.FLC_CMD
     1).cfg.flc = none ∧ (u.withReg F.FLC_CMD 1).mode ≠ 5) .prompter (begin 0 upState) : Prop)) ∧
  (upState.sys.held = false ∧ ((fun (m : Master) (u : State) => u.granted m F.FLC_CMD true ∧ (u.withReg F.FLC_CMD
     2).cfg.flc = none ∧ (u.withReg F.FLC_CMD 2).mode ≠ 5) .prompter (begin 0 upState) : Prop)) ∧
  (upState.sys.held = false ∧ ((fun (m : Master) (u : State) => u.granted m F.FLC_CMD true ∧ (u.withReg F.FLC_CMD
     3).cfg.flc = none ∧ (u.withReg F.FLC_CMD 3).mode ≠ 5) .prompter (begin 0 upState) : Prop)) ∧
  (upState.sys.held = false ∧ ((fun (m : Master) (u : State) => u.granted m F.FLC_CMD true ∧ (u.withReg F.FLC_CMD
     4).cfg.flc = none ∧ (u.withReg F.FLC_CMD 4).mode ≠ 5) .prompter (begin 0 upState) : Prop)) ∧
  ((({ State.reset with sys := { held := false }, regs := [(0x100, 0x8000002#64), (0x20000, 0xfffff#64)], cfg := { flc := some { op := 1, addr := 0, data := [] } }
                          } : State) : State).sys.held = false ∧ ((fun (u : State) => u.cfg.flc.isSome) (begin 0
     ({ State.reset with sys := { held := false }, regs := [(0x100, 0x8000002#64), (0x20000, 0xfffff#64)], cfg := { flc := some { op := 1, addr := 0, data := [] } }
                           } : State)) : Prop)) := by
  refine ⟨⟨by decide, ?_⟩, ⟨by decide, ?_⟩, ⟨by decide, ?_⟩, ⟨by decide, ?_⟩, ⟨by decide, ?_⟩, ⟨by decide, ?_⟩, ⟨by
    decide, ?_⟩, ⟨by decide, ?_⟩, ⟨by decide, ?_⟩, ⟨by decide, ?_⟩, ⟨by decide, ?_⟩, ⟨by decide, ?_⟩, ⟨by decide, ?_⟩, ⟨by
    decide, ?_⟩, ⟨by decide, ?_⟩, ⟨by decide, ?_⟩, ⟨by decide, ?_⟩, ⟨by decide, ?_⟩, ⟨by decide, ?_⟩, ⟨by decide, ?_⟩⟩
  all_goals try dsimp only
  all_goals decide +kernel

theorem witness_DramCommandsComplete :
  ((({ State.reset with sys := { held := false }, regs := [(0x100, 0x8000002#64), (0x20000, 0xfffff#64), (0x80000,
                          0x20000000#64), (0x90000, 0x20000000#64)] } : State) : State).sys.held = false ∧ ((fun (c :
     Fin 2) (u : State) => u.mode ≠ 0 ∧ u.mode ≠ 5 ∧ 2 ≤ u.ctlState c.val ∧ u.ctlState c.val ≠ 7) 0 (begin 0
     ({ State.reset with sys := { held := false }, regs := [(0x100, 0x8000002#64), (0x20000, 0xfffff#64), (0x80000,
                           0x20000000#64), (0x90000, 0x20000000#64)] } : State)) : Prop)) ∧
  ((({ State.reset with sys := { held := false }, regs := [(0x100, 0x8000002#64), (0x20000, 0xfffff#64), (0x80000,
                          0x20000000#64), (0x90000, 0x20000000#64)] } : State) : State).sys.held = false ∧ ((fun (c :
     Fin 2) (u : State) => u.refreshes c.val ∧ (u.ctl c.val).since + u.interval c.val ≤ (u.now : Int) ∧ (u.ctl
     c.val).stall = none) 0 (begin 1000000000000
     ({ State.reset with sys := { held := false }, regs := [(0x100, 0x8000002#64), (0x20000, 0xfffff#64), (0x80000,
                           0x20000000#64), (0x90000, 0x20000000#64)] } : State)) : Prop)) ∧
  ((({ State.reset with sys := { held := false }, regs := [(0x100, 0x8000002#64), (0x20000, 0xfffff#64), (0x80000,
                          0x20000000#64), (0x90000, 0x20000000#64)], dmc := [(0, { debt := 1 })] } : State) :
     State).sys.held = false ∧ ((fun (c : Fin 2) (u : State) => u.refreshes c.val ∧ 1 ≤ (u.ctl c.val).debt ∧ (u.ctl
     c.val).stall.isNone ∧ !u.dramWaits) 0 (begin 0
     ({ State.reset with sys := { held := false }, regs := [(0x100, 0x8000002#64), (0x20000, 0xfffff#64), (0x80000,
                           0x20000000#64), (0x90000, 0x20000000#64)], dmc := [(0, { debt := 1 })] } : State)) : Prop)) ∧
  ((({ State.reset with sys := { held := false }, regs := [(0x100, 0x8000002#64), (0x20000, 0xfffff#64), (0x80000,
                          0x20000000#64), (0x90000, 0x20000000#64)], dmc := [(0, { stall := some (0, 0) })] } : State)
     : State).sys.held = false ∧ ((fun (c : Fin 2) (a : Ps) (e : Ps) (u : State) => (u.ctl c.val).stall = some (a, e)
     ∧ e ≤ u.now) 0 0 0 (begin 0
     ({ State.reset with sys := { held := false }, regs := [(0x100, 0x8000002#64), (0x20000, 0xfffff#64), (0x80000,
                           0x20000000#64), (0x90000, 0x20000000#64)], dmc := [(0, { stall := some (0, 0) })] } :
     State)) : Prop)) ∧
  ((({ State.reset with sys := { held := false }, regs := [(0x100, 0x8000002#64), (0x20000, 0xfffff#64), (0x80000,
                          0x20000000#64), (0x90000, 0x20000000#64)] } : State) : State).sys.held = false ∧ ((fun (m :
     Master) (fgr : Bool) (target : Fin 16) (u : State) => u.granted m F.DMC_FREQ_OP true ∧ (u.withReg F.DMC_FREQ_OP
     ((256 * bit fgr + 16 * target.val + 1))).freq = none ∧ ((u.withReg F.DMC_FREQ_OP ((256 * bit fgr + 16 *
     target.val + 1))).mode ≠ 0 ∧ (u.withReg F.DMC_FREQ_OP ((256 * bit fgr + 16 * target.val + 1))).mode ≠ 1 ∧
     (u.withReg F.DMC_FREQ_OP ((256 * bit fgr + 16 * target.val + 1))).mode ≠ 5 ∧ (u.withReg F.DMC_FREQ_OP ((256 * bit
     fgr + 16 * target.val + 1))).ctlState 0 < 5 ∧ (u.withReg F.DMC_FREQ_OP ((256 * bit fgr + 16 * target.val +
     1))).ctlState 1 < 5) ∧ ((u.withReg F.DMC_FREQ_OP ((256 * bit fgr + 16 * target.val + 1))).shadowBad 0 target.val
     = false ∧ (u.withReg F.DMC_FREQ_OP ((256 * bit fgr + 16 * target.val + 1))).shadowBad 1 target.val = false) ∧
     (target.val ≤ ((u.withReg F.DMC_FREQ_OP ((256 * bit fgr + 16 * target.val + 1))).ctl 0).rating ∧ target.val ≤
     ((u.withReg F.DMC_FREQ_OP ((256 * bit fgr + 16 * target.val + 1))).ctl 1).rating)) .prompter false 0 (begin 0
     ({ State.reset with sys := { held := false }, regs := [(0x100, 0x8000002#64), (0x20000, 0xfffff#64), (0x80000,
                           0x20000000#64), (0x90000, 0x20000000#64)] } : State)) : Prop)) ∧
  ((({ State.reset with sys := { held := false }, regs := [(0x100, 0x8000002#64), (0x20000, 0xfffff#64), (0x80000,
                          0x20000000#64), (0x90000, 0x20000000#64)], freq := some { fgr := false, target := 0, at_ := 0 }
                          } : State) : State).sys.held = false ∧ ((fun (o : FreqOp) (u : State) => u.freq = some o ∧
     o.started = none ∧ (o.again ∨ (u.mode ≠ 3 ∧ u.mode ≠ 4)) ∧ u.dramReady ∧ u.dreq.any (fun r => r.cls ≤ 3) = false)
     ({ fgr := false, target := 0, at_ := 0 }) (begin 0
     ({ State.reset with sys := { held := false }, regs := [(0x100, 0x8000002#64), (0x20000, 0xfffff#64), (0x80000,
                           0x20000000#64), (0x90000, 0x20000000#64)], freq := some { fgr := false, target := 0, at_ := 0 }
                           } : State)) : Prop)) ∧
  ((({ State.reset with sys := { held := false }, regs := [(0x100, 0x8000002#64), (0x20000, 0xfffff#64), (0x80000,
                          0x40000000#64), (0x90000, 0x40000000#64)], freq := some { fgr := false, target := 0, at_ := 0, started := some 0 }
                          } : State) : State).sys.held = false ∧ ((fun (o : FreqOp) (u : State) => u.freq = some o ∧
     o.started.isSome ∧ u.ctlState 0 = 4 ∧ u.ctlState 1 = 4)
     ({ fgr := false, target := 0, at_ := 0, started := some 0 }) (begin 0
     ({ State.reset with sys := { held := false }, regs := [(0x100, 0x8000002#64), (0x20000, 0xfffff#64), (0x80000,
                           0x40000000#64), (0x90000, 0x40000000#64)], freq := some { fgr := false, target := 0, at_ := 0, started := some 0 }
                           } : State)) : Prop)) ∧
  ((({ State.reset with sys := { held := false }, regs := [(0x100, 0x8000002#64), (0x20000, 0xfffff#64), (0x80000,
                          0x20000000#64), (0x90000, 0x20000000#64)], freq := some { fgr := false, target := 0, at_ := 0 }
                          } : State) : State).sys.held = false ∧ ((fun (o : FreqOp) (u : State) => u.freq = some o ∧
     o.started.isNone ∧ !o.again ∧ o.at_ + 10 ^ 12 ≤ u.now) ({ fgr := false, target := 0, at_ := 0 }) (begin
     1000000000000
     ({ State.reset with sys := { held := false }, regs := [(0x100, 0x8000002#64), (0x20000, 0xfffff#64), (0x80000,
                           0x20000000#64), (0x90000, 0x20000000#64)], freq := some { fgr := false, target := 0, at_ := 0 }
                           } : State)) : Prop)) ∧
  ((({ State.reset with sys := { held := false }, regs := [(0x100, 0x8000002#64), (0x20000, 0xfffff#64), (0x80000,
                          0x20000000#64), (0x90000, 0x20000000#64)] } : State) : State).sys.held = false ∧ ((fun (c :
     Fin 2) (u : State) => u.ctlState c.val ≠ 5 ∧ u.ctlState c.val ≠ 6) 0 (begin 0
     ({ State.reset with sys := { held := false }, regs := [(0x100, 0x8000002#64), (0x20000, 0xfffff#64), (0x80000,
                           0x20000000#64), (0x90000, 0x20000000#64)] } : State)) : Prop)) ∧
  ((({ State.reset with sys := { held := false }, regs := [(0x100, 0x8000002#64), (0x20000, 0xfffff#64), (0x80000,
                          0x20000000#64), (0x90000, 0x20000000#64)] } : State) : State).sys.held = false ∧ ((fun (c :
     Fin 2) (u : State) => u.ctlState c.val = 2 ∧ !(u.mode = 7)) 0 (begin 0
     ({ State.reset with sys := { held := false }, regs := [(0x100, 0x8000002#64), (0x20000, 0xfffff#64), (0x80000,
                           0x20000000#64), (0x90000, 0x20000000#64)] } : State)) : Prop)) ∧
  ((({ State.reset with sys := { held := false }, regs := [(0x100, 0x8000002#64), (0x20000, 0xfffff#64), (0x80000,
                          0x20000000#64), (0x90000, 0x20000000#64)] } : State) : State).sys.held = false ∧ ((fun (c :
     Fin 2) (u : State) => u.ctlState c.val = 2 ∧ !(u.mode = 7)) 0 (begin 0
     ({ State.reset with sys := { held := false }, regs := [(0x100, 0x8000002#64), (0x20000, 0xfffff#64), (0x80000,
                           0x20000000#64), (0x90000, 0x20000000#64)] } : State)) : Prop)) ∧
  ((({ State.reset with sys := { held := false }, regs := [(0x100, 0x8000002#64), (0x20000, 0xfffff#64), (0x80000,
                          0x40000000#64), (0x90000, 0x40000000#64)], freq := some { fgr := false, target := 0, at_ := 0, started := some 0 }
                          } : State) : State).sys.held = false ∧ ((fun (o : FreqOp) (a : Ps) (u : State) => u.pwr.step
     ≠ 4 ∧ u.freq = some o ∧ o.started = some a ∧ u.now ≤ a + 3000000 ∧ u.ctlState 0 = 4 ∧ u.ctlState 1 = 4)
     ({ fgr := false, target := 0, at_ := 0, started := some 0 }) 0 (begin 0
     ({ State.reset with sys := { held := false }, regs := [(0x100, 0x8000002#64), (0x20000, 0xfffff#64), (0x80000,
                           0x40000000#64), (0x90000, 0x40000000#64)], freq := some { fgr := false, target := 0, at_ := 0, started := some 0 }
                           } : State)) : Prop)) ∧
  ((({ State.reset with sys := { held := false }, regs := [(0x100, 0x8000002#64), (0x20000, 0xfffff#64), (0x80000,
                          0x20000000#64), (0x90000, 0x20000000#64)], dmc := [(0, { pllLost := some 0 })] } : State) :
     State).sys.held = false ∧ ((fun (c : Fin 2) (a : Ps) (u : State) => (u.ctl c.val).pllLost = some a ∧ a +
     1000000000 ≤ u.now) 0 0 (begin 1000000000
     ({ State.reset with sys := { held := false }, regs := [(0x100, 0x8000002#64), (0x20000, 0xfffff#64), (0x80000,
                           0x20000000#64), (0x90000, 0x20000000#64)], dmc := [(0, { pllLost := some 0 })] } : State))
     : Prop)) := by
  refine ⟨⟨by decide, ?_⟩, ⟨by decide, ?_⟩, ⟨by decide, ?_⟩, ⟨by decide, ?_⟩, ⟨by decide, ?_⟩, ⟨by decide, ?_⟩, ⟨by
    decide, ?_⟩, ⟨by decide, ?_⟩, ⟨by decide, ?_⟩, ⟨by decide, ?_⟩, ⟨by decide, ?_⟩, ⟨by decide, ?_⟩, ⟨by decide, ?_⟩⟩
  all_goals try dsimp only
  all_goals decide +kernel

theorem witness_ClockCommandsComplete :
  ((({ State.reset with sys := { held := false }, regs := [(0x100, 0x8000002#64), (0x20000, 0xfffff#64), (0x30000,
                          0x1#64)] } : State) : State).sys.held = false ∧ ((fun (u : State) => u.flag
     F.CLK_STATUS_REF_OK) (begin 0
     ({ State.reset with sys := { held := false }, regs := [(0x100, 0x8000002#64), (0x20000, 0xfffff#64), (0x30000,
                           0x1#64)] } : State)) : Prop)) ∧
  ((({ State.reset with sys := { held := false }, regs := [(0x100, 0x8000002#64), (0x20000, 0xfffff#64)], clk := { refLostAt := some 0 }
                          } : State) : State).sys.held = false ∧ ((fun (u : State) => u.clk.refLostAt.isSome) (begin 0
     ({ State.reset with sys := { held := false }, regs := [(0x100, 0x8000002#64), (0x20000, 0xfffff#64)], clk := { refLostAt := some 0 }
                           } : State)) : Prop)) ∧
  ((({ State.reset with sys := { held := false }, regs := [(0x100, 0x8000002#64), (0x20000, 0xfffff#64), (0x30114,
                          0x10000000#64)] } : State) : State).sys.held = false ∧ ((fun (k : Fin 8) (u : State) =>
     (u.get (F.CLK_PLL_STATUS_STATE k.val) = 1 ∨ u.get (F.CLK_PLL_STATUS_STATE k.val) = 2) ∧ (u.onRef k.val = false ∨
     u.clk.refLostAt = none)) 0 (begin 0
     ({ State.reset with sys := { held := false }, regs := [(0x100, 0x8000002#64), (0x20000, 0xfffff#64), (0x30114,
                           0x10000000#64)] } : State)) : Prop)) ∧
  ((({ State.reset with sys := { held := false }, regs := [(0x100, 0x8000002#64), (0x20000, 0xfffff#64), (0x30114,
                          0x30000000#64)] } : State) : State).sys.held = false ∧ ((fun (k : Fin 8) (u : State) =>
     u.get (F.CLK_PLL_STATUS_STATE k.val) = 3) 0 (begin 0
     ({ State.reset with sys := { held := false }, regs := [(0x100, 0x8000002#64), (0x20000, 0xfffff#64), (0x30114,
                           0x30000000#64)] } : State)) : Prop)) ∧
  ((({ State.reset with sys := { held := false }, regs := [(0x100, 0x8000002#64), (0x20000, 0xfffff#64), (0x30114,
                          0x20000000#64)] } : State) : State).sys.held = false ∧ ((fun (k : Fin 8) (u : State) =>
     !((k.val = 4 ∨ k.val = 5) ∧ u.ctlState (k.val - 4) = 4) ∧ u.get (F.CLK_PLL_STATUS_STATE k.val) = 2 ∧ (u.pll
     k.val).since + 20000000 ≤ u.now) 0 (begin 20000000
     ({ State.reset with sys := { held := false }, regs := [(0x100, 0x8000002#64), (0x20000, 0xfffff#64), (0x30114,
                           0x20000000#64)] } : State)) : Prop)) ∧
  (upState.sys.held = false ∧ ((fun (m : Master) (k : Fin 8) (u : State) => u.granted m (F.CLK_PLL_OP k.val) true ∧ 6
     ≤ k.val) .prompter 7 (begin 0 upState) : Prop)) ∧
  (upState.sys.held = false ∧ ((fun (m : Master) (k : Fin 8) (u : State) => u.granted m (F.CLK_PLL_OP k.val) true ∧ (6
     ≤ k.val ∨ (u.withReg (F.CLK_PLL_OP k.val) 2).mode = 7)) .prompter 7 (begin 0 upState) : Prop)) ∧
  (upState.sys.held = false ∧ ((fun (m : Master) (k : Fin 8) (u : State) => u.granted m (F.CLK_PLL_OP k.val) true ∧ (6
     ≤ k.val ∨ (u.withReg (F.CLK_PLL_OP k.val) 3).mode = 7)) .prompter 7 (begin 0 upState) : Prop)) ∧
  ((({ State.reset with sys := { held := false }, regs := [(0x100, 0x8000002#64), (0x20000, 0xfffff#64), (0x30000,
                          0xff00#64), (0x308c0, 0x36000050#64)] } : State) : State).sys.held = false ∧ ((fun (m :
     Master) (d : Fin 64) (u : State) => u.granted m F.CLK_DOM_OP true ∧ 48 ≤ d.val ∧ d.val < 64 ∧ ((u.withReg
     F.CLK_DOM_OP ((256 * d.val + 1))).get (F.CLK_DOM_STATE d.val) = 3 ∨ (u.withReg F.CLK_DOM_OP ((256 * d.val +
     1))).get (F.CLK_DOM_STATE d.val) = 4) ∧ ((u.withReg F.CLK_DOM_OP ((256 * d.val + 1))).pllOf d.val = 6 ∨
     (u.withReg F.CLK_DOM_OP ((256 * d.val + 1))).pllOf d.val = 7) ∧ ((u.withReg F.CLK_DOM_OP ((256 * d.val + 1))).get
     F.CLK_STATUS_LOCKED).testBit ((u.withReg F.CLK_DOM_OP ((256 * d.val + 1))).pllOf d.val)) .prompter 48 (begin 0
     ({ State.reset with sys := { held := false }, regs := [(0x100, 0x8000002#64), (0x20000, 0xfffff#64), (0x30000,
                           0xff00#64), (0x308c0, 0x36000050#64)] } : State)) : Prop)) ∧
  (upState.sys.held = false ∧ ((fun (m : Master) (d : Fin 64) (u : State) => u.granted m (F.CLK_DOM d.val) true ∧ 48 ≤
     d.val) .prompter 48 (begin 0 upState) : Prop)) := by
  refine ⟨⟨by decide, ?_⟩, ⟨by decide, ?_⟩, ⟨by decide, ?_⟩, ⟨by decide, ?_⟩, ⟨by decide, ?_⟩, ⟨by decide, ?_⟩, ⟨by
    decide, ?_⟩, ⟨by decide, ?_⟩, ⟨by decide, ?_⟩, ⟨by decide, ?_⟩⟩
  all_goals try dsimp only
  all_goals decide +kernel

theorem witness_PowerCommandsComplete :
  ((({ State.reset with sys := { held := false }, regs := [(0x100, 0x8000002#64), (0x20000, 0xfffff#64)], pwr := { step := 1 }
                          } : State) : State).sys.held = false ∧ ((fun (u : State) => u.pwr.step = 1 ∧ u.pwr.due = 0 ∧
     (List.range 16).all (fun n => (!(u.track n).armed || u.inCurtain n) && !((u.queue n).items.any Item.committing)))
     (begin 0 ({ State.reset with sys := { held := false }, regs := [(0x100, 0x8000002#64), (0x20000, 0xfffff#64)],
                                    pwr := { step := 1 } } : State)) : Prop)) ∧
  ((({ State.reset with sys := { held := false }, regs := [(0x100, 0x8000002#64), (0x20000, 0xfffff#64)], pwr := { step := 2 }
                          } : State) : State).sys.held = false ∧ ((fun (u : State) => u.pwr.step = 2 ∧ u.pwr.due = 0 ∧
     (List.range 16).any (fun n => u.marksOut n ≠ 0) = false) (begin 0
     ({ State.reset with sys := { held := false }, regs := [(0x100, 0x8000002#64), (0x20000, 0xfffff#64)], pwr := { step := 2 }
                           } : State)) : Prop)) ∧
  ((({ State.reset with sys := { held := false }, regs := [(0x100, 0x8000002#64), (0x20000, 0xfffff#64)], pwr := { step := 3 }
                          } : State) : State).sys.held = false ∧ ((fun (u : State) => u.pwr.step = 3 ∧ u.pwr.due = 0)
     (begin 0 ({ State.reset with sys := { held := false }, regs := [(0x100, 0x8000002#64), (0x20000, 0xfffff#64)],
                                    pwr := { step := 3 } } : State)) : Prop)) ∧
  ((({ State.reset with sys := { held := false }, regs := [(0x100, 0x8000002#64), (0x20000, 0xfffff#64)], pwr := { step := 4 }
                          } : State) : State).sys.held = false ∧ ((fun (u : State) => u.pwr.step = 4 ∧ u.pwr.due = 0 ∧
     u.dreq = []) (begin 0
     ({ State.reset with sys := { held := false }, regs := [(0x100, 0x8000002#64), (0x20000, 0xfffff#64)], pwr := { step := 4 }
                           } : State)) : Prop)) ∧
  ((({ State.reset with sys := { held := false }, regs := [(0x100, 0x8000002#64), (0x20000, 0xfffff#64)], pwr := { step := 5 }
                          } : State) : State).sys.held = false ∧ ((fun (u : State) => u.pwr.step = 5) (begin 0
     ({ State.reset with sys := { held := false }, regs := [(0x100, 0x8000002#64), (0x20000, 0xfffff#64)], pwr := { step := 5 }
                           } : State)) : Prop)) ∧
  ((({ State.reset with sys := { held := false }, regs := [(0x100, 0x8000002#64), (0x20000, 0xfffff#64)], pwr := { step := 1 }
                          } : State) : State).sys.held = false ∧ ((fun (u : State) => u.pwr.step = 1 ∧ u.pwr.stepAt +
     max 1 (u.get F.PWR_ENTRY_TIMEOUT_MS) * 1000000000 ≤ u.now) (begin 100000000000000
     ({ State.reset with sys := { held := false }, regs := [(0x100, 0x8000002#64), (0x20000, 0xfffff#64)], pwr := { step := 1 }
                           } : State)) : Prop)) ∧
  ((({ State.reset with sys := { held := false }, regs := [(0x100, 0x8000002#64), (0x20000, 0x200fffff#64)] } : State)
     : State).sys.held = false ∧ ((fun (a : Access) (u : State) => !aonServed a.addr ∧ u.get F.PWR_STATUS_STATE = 2 ∧
     u.mayReg a.master a.addr a.data.isSome ∧ u.lcyAllows a)
     ({ master := .prompter, addr := 0xD0000, wide := false, data := none }) (begin 0
     ({ State.reset with sys := { held := false }, regs := [(0x100, 0x8000002#64), (0x20000, 0x200fffff#64)] } :
     State)) : Prop)) ∧
  ((({ State.reset with sys := { held := false }, regs := [(0x100, 0x8000002#64), (0x20000, 0x200fffff#64), (0x20008,
                          0x3f#64), (0x160008, 0x1#64)] } : State) : State).sys.held = false ∧ ((fun (u : State) =>
     u.get F.AON_ALARM ≠ 0 ∧ u.aonTimer = u.get F.AON_ALARM ∧ u.get F.PWR_STATUS_STATE = 2 ∧ (u.get
     F.PWR_WAKE_EN_SOURCES).testBit 0) (begin 1000000
     ({ State.reset with sys := { held := false }, regs := [(0x100, 0x8000002#64), (0x20000, 0x200fffff#64), (0x20008,
                           0x3f#64), (0x160008, 0x1#64)] } : State)) : Prop)) ∧
  ((({ State.reset with sys := { held := false }, regs := [(0x100, 0x8000002#64), (0x20000, 0x200fffff#64), (0x20008,
                          0x3f#64)] } : State) : State).sys.held = false ∧ ((fun (u : State) => u.get
     F.PWR_STATUS_STATE = 2 ∧ (u.get F.PWR_WAKE_EN_SOURCES).testBit 1) (begin 0
     ({ State.reset with sys := { held := false }, regs := [(0x100, 0x8000002#64), (0x20000, 0x200fffff#64), (0x20008,
                           0x3f#64)] } : State)) : Prop)) ∧
  ((({ State.reset with sys := { held := false }, regs := [(0x100, 0x8000002#64), (0x20000, 0x200fffff#64), (0x20008,
                          0x3f#64)] } : State) : State).sys.held = false ∧ ((fun (u : State) => u.get
     F.PWR_STATUS_STATE = 2 ∧ (u.get F.PWR_WAKE_EN_SOURCES).testBit 2) (begin 0
     ({ State.reset with sys := { held := false }, regs := [(0x100, 0x8000002#64), (0x20000, 0x200fffff#64), (0x20008,
                           0x3f#64)] } : State)) : Prop)) ∧
  ((({ State.reset with sys := { held := false }, regs := [(0x100, 0x8000002#64), (0x20000, 0x200fffff#64), (0x20008,
                          0x3f#64)], active := [((F.TRK_CTRL 0).addr, 0xFFFFFFFF#64)], trk := [(0, { armed := true })]
                          } : State) : State).sys.held = false ∧ ((fun (n : Fin 16) (u : State) => u.act
     (F.TRK_CTRL_KEEP_IN_INTERVAL n.val) = 1 ∧ (u.track n.val).armed ∧ u.get F.PWR_STATUS_STATE = 2 ∧ (u.get
     F.PWR_WAKE_EN_SOURCES).testBit 3) 0 (begin 0
     ({ State.reset with sys := { held := false }, regs := [(0x100, 0x8000002#64), (0x20000, 0x200fffff#64), (0x20008,
                           0x3f#64)], active := [((F.TRK_CTRL 0).addr, 0xFFFFFFFF#64)], trk := [(0, { armed := true })]
                           } : State)) : Prop)) ∧
  ((({ State.reset with sys := { held := false, done := [5] }, regs := [(0x100, 0x8000002#64), (0x20000,
                          0x200fffff#64), (0x20004, 0xf#64), (0x20008, 0x3f#64)] } : State) : State).sys.held = false
     ∧ ((fun (q : Fin 4) (u : State) => (u.get F.PWR_INTERVAL_CFG_FQ_KEEP).testBit q.val ∧ u.phaseDone 5 ∧ u.get
     F.PWR_STATUS_STATE = 2 ∧ (u.get F.PWR_WAKE_EN_SOURCES).testBit 4) 0 (begin 0
     ({ State.reset with sys := { held := false, done := [5] }, regs := [(0x100, 0x8000002#64), (0x20000,
                           0x200fffff#64), (0x20004, 0xf#64), (0x20008, 0x3f#64)] } : State)) : Prop)) ∧
  ((({ State.reset with sys := { held := false }, regs := [(0x100, 0x8000002#64), (0x20000, 0x200fffff#64)] } : State)
     : State).sys.held = false ∧ ((fun (m : Master) (u : State) => u.granted m F.PWR_OP true ∧ (u.withReg F.PWR_OP
     1).get F.PWR_STATUS_STATE = 2) .prompter (begin 0
     ({ State.reset with sys := { held := false }, regs := [(0x100, 0x8000002#64), (0x20000, 0x200fffff#64)] } :
     State)) : Prop)) ∧
  ((({ State.reset with sys := { held := false }, regs := [(0x100, 0x8000002#64), (0x20000, 0x400fffff#64)] } : State)
     : State).sys.held = false ∧ ((fun (m : Master) (u : State) => u.granted m F.PWR_OP true ∧ (u.withReg F.PWR_OP
     2).get F.PWR_STATUS_STATE = 4) .prompter (begin 0
     ({ State.reset with sys := { held := false }, regs := [(0x100, 0x8000002#64), (0x20000, 0x400fffff#64)] } :
     State)) : Prop)) ∧
  ((({ State.reset with sys := { held := false }, regs := [(0x100, 0x8000002#64), (0x20000, 0x300fffff#64)], pwr := { wake := 1 }
                          } : State) : State).sys.held = false ∧ ((fun (u : State) => 1 ≤ u.pwr.wake ∧ u.pwr.wake ≤ 7)
     (begin 0 ({ State.reset with sys := { held := false }, regs := [(0x100, 0x8000002#64), (0x20000, 0x300fffff#64)],
                                    pwr := { wake := 1 } } : State)) : Prop)) ∧
  ((({ State.reset with sys := { held := false }, regs := [(0x100, 0x8000002#64), (0x20000, 0x300fffff#64)], pwr := { wake := 1 }
                          } : State) : State).sys.held = false ∧ ((fun (u : State) => u.pwr.wake ≠ 0 ∧ u.get
     F.PWR_STATUS_STATE = 3) (begin 0
     ({ State.reset with sys := { held := false }, regs := [(0x100, 0x8000002#64), (0x20000, 0x300fffff#64)], pwr := { wake := 1 }
                           } : State)) : Prop)) ∧
  ((({ State.reset with sys := { held := false }, regs := [(0x100, 0x8000002#64), (0x20000, 0xfffff#64)], pwr := { stalls := [{ at_ := 0, what := .reg .cp { master := .prompter, addr := 0,
                                                                                                                                                                   wide := false, data := none
                                                                                                                                                                   } }] }
                          } : State) : State).sys.held = false ∧ ((fun (u : State) => u.pwr.stalls.any (fun x =>
     !x.long ∧ x.at_ + max 1 (u.get F.PWR_STALL_CFG_LIMIT_US) * 1000000 < u.now)) (begin 100000000000000
     ({ State.reset with sys := { held := false }, regs := [(0x100, 0x8000002#64), (0x20000, 0xfffff#64)], pwr := { stalls := [{ at_ := 0, what := .reg .cp { master := .prompter, addr := 0,
                                                                                                                                                                    wide := false, data :=
                                                                                                                                                                    none } }] }
                           } : State)) : Prop)) ∧
  (upState.sys.held = false ∧ ((fun (m : Master) (u : State) => u.granted m F.PWR_RET_RELEASE true) .prompter (begin 0
     upState) : Prop)) := by
  refine ⟨⟨by decide, ?_⟩, ⟨by decide, ?_⟩, ⟨by decide, ?_⟩, ⟨by decide, ?_⟩, ⟨by decide, ?_⟩, ⟨by decide, ?_⟩, ⟨by
    decide, ?_⟩, ⟨by decide, ?_⟩, ⟨by decide, ?_⟩, ⟨by decide, ?_⟩, ⟨by decide, ?_⟩, ⟨by decide, ?_⟩, ⟨by decide, ?_⟩, ⟨by
    decide, ?_⟩, ⟨by decide, ?_⟩, ⟨by decide, ?_⟩, ⟨by decide, ?_⟩, ⟨by decide, ?_⟩⟩
  all_goals try dsimp only
  all_goals decide +kernel

theorem witness_PeripheralCommandsComplete :
  (upState.sys.held = false ∧ ((fun (m : Master) (pin : Fin 640) (u : State) => u.granted m (F.GPIO_PIN pin.val) true)
     .prompter 0 (begin 0 upState) : Prop)) ∧
  ((({ State.reset with sys := { held := false }, regs := [(0x100, 0x8000002#64), (0x20000, 0xfffff#64)], per := { handing := [(0, some (0, 5))] }
                          } : State) : State).sys.held = false ∧ ((fun (pin : Fin 640) (a : Ps) (v : Nat) (u : State)
     => tblGet none u.per.handing pin.val = some (a, v) ∧ a + 20000 ≤ u.now) 0 0 5 (begin 20000
     ({ State.reset with sys := { held := false }, regs := [(0x100, 0x8000002#64), (0x20000, 0xfffff#64)], per := { handing := [(0, some (0, 5))] }
                           } : State)) : Prop)) ∧
  (upState.sys.held = false ∧ ((fun (m : Master) (k : Fin 40) (u : State) => u.granted m (F.GPIO_MWR k.val) true)
     .prompter 0 (begin 0 upState) : Prop)) ∧
  (upState.sys.held = false ∧ ((fun (m : Master) (k : Fin 40) (u : State) => u.granted m (F.GPIO_MOE k.val) true)
     .prompter 0 (begin 0 upState) : Prop)) ∧
  ((({ State.reset with sys := { held := false }, regs := [(0x100, 0x8000002#64), (0x20000, 0xfffff#64), (0x70600,
                          0x80000000#64)] } : State) : State).sys.held = false ∧ ((fun (k : Fin 8) (u : State) =>
     u.flag (F.GPIO_PAT_CFG_EN k.val) ∧ u.mode ≠ 5) 0 (begin 0
     ({ State.reset with sys := { held := false }, regs := [(0x100, 0x8000002#64), (0x20000, 0xfffff#64), (0x70600,
                           0x80000000#64)] } : State)) : Prop)) ∧
  (upState.sys.held = false ∧ ((fun (n : Fin 16) (code : Fin 8) (u : State) => u.get (F.GPIO_BANK_VCCIO n.val) ≠
     code.val ∧ code.val ≤ 5) 0 1 (begin 0 upState) : Prop)) ∧
  ((({ State.reset with sys := { held := false }, regs := [(0x100, 0x8000002#64), (0x20000, 0xfffff#64), (0x140000,
                          0x80000036#64)] } : State) : State).sys.held = false ∧ ((fun (k : Fin 4) (u : State) =>
     u.flag (F.UART_CTRL_EN k.val) ∧ u.mode ≠ 5) 0 (begin 0
     ({ State.reset with sys := { held := false }, regs := [(0x100, 0x8000002#64), (0x20000, 0xfffff#64), (0x140000,
                           0x80000036#64)] } : State)) : Prop)) ∧
  (upState.sys.held = false ∧ ((fun (m : Master) (k : Fin 4) (u : State) => u.granted m (F.UART_DATA k.val) true)
     .prompter 0 (begin 0 upState) : Prop)) ∧
  (upState.sys.held = false ∧ ((fun (m : Master) (k : Fin 4) (u : State) => u.granted m (F.UART_DATA k.val) false)
     .prompter 0 (begin 0 upState) : Prop)) ∧
  ((({ State.reset with sys := { held := false }, regs := [(0x100, 0x8000002#64), (0x20000, 0xfffff#64), (0x140000,
                          0x80000036#64)], per := { uart := [(0, { busy := true })] } } : State) : State).sys.held =
     false ∧ ((fun (k : Fin 4) (u : State) => let a := u.uartGo k.val;
                                              (a.uart k.val).busy ∧ (a.uart k.val).tx = [] ∧ (a.uart
                                                k.val).shifting.isNone) 0 (begin 0
     ({ State.reset with sys := { held := false }, regs := [(0x100, 0x8000002#64), (0x20000, 0xfffff#64), (0x140000,
                           0x80000036#64)], per := { uart := [(0, { busy := true })] } } : State)) : Prop)) ∧
  (upState.sys.held = false ∧ ((fun (_u : State) => True) (begin 0 upState) : Prop)) ∧
  ((({ State.reset with sys := { held := false }, regs := [(0x100, 0x8000002#64), (0x20000, 0xfffff#64), (0x140000,
                          0x80000036#64)] } : State) : State).sys.held = false ∧ ((fun (k : Fin 4) (u : State) =>
     u.flag (F.UART_CTRL_EN k.val) ∧ u.mode ≠ 5) 0 (begin 0
     ({ State.reset with sys := { held := false }, regs := [(0x100, 0x8000002#64), (0x20000, 0xfffff#64), (0x140000,
                           0x80000036#64)] } : State)) : Prop)) ∧
  (upState.sys.held = false ∧ ((fun (m : Master) (k : Fin 4) (u : State) => u.granted m (F.SPI_DATA k.val) true)
     .prompter 0 (begin 0 upState) : Prop)) ∧
  (upState.sys.held = false ∧ ((fun (m : Master) (k : Fin 4) (u : State) => u.granted m (F.SPI_DATA k.val) false)
     .prompter 0 (begin 0 upState) : Prop)) ∧
  ((({ State.reset with sys := { held := false }, regs := [(0x100, 0x8000002#64), (0x20000, 0xfffff#64)], per := { spi := [(0, { shifting := some 1 })] }
                          } : State) : State).sys.held = false ∧ ((fun (k : Fin 4) (u : State) => (u.spi
     k.val).shifting.isSome) 0 (begin 0
     ({ State.reset with sys := { held := false }, regs := [(0x100, 0x8000002#64), (0x20000, 0xfffff#64)], per := { spi := [(0, { shifting := some 1 })] }
                           } : State)) : Prop)) ∧
  ((({ State.reset with sys := { held := false }, regs := [(0x100, 0x8000002#64), (0x20000, 0xfffff#64), (0x140404,
                          0x2#64)] } : State) : State).sys.held = false ∧ ((fun (k : Fin 4) (u : State) => u.flag
     (F.SPI_STATUS_BUSY k.val) ∧ (u.spi k.val).tx = [] ∧ (u.spi k.val).shifting.isNone ∧ !u.flag (F.SPI_CTRL_CS_HOLD
     k.val)) 0 (begin 0
     ({ State.reset with sys := { held := false }, regs := [(0x100, 0x8000002#64), (0x20000, 0xfffff#64), (0x140404,
                           0x2#64)] } : State)) : Prop)) ∧
  (upState.sys.held = false ∧ ((fun (m : Master) (k : Fin 4) (u : State) => u.granted m (F.I2C_CMD k.val) true ∧
     (u.i2c k.val).cmds.length < 32) .prompter 0 (begin 0 upState) : Prop)) ∧
  (upState.sys.held = false ∧ ((fun (m : Master) (k : Fin 4) (u : State) => u.granted m (F.I2C_CMD k.val) true ∧
     (u.i2c k.val).cmds.length < 32) .prompter 0 (begin 0 upState) : Prop)) ∧
  (upState.sys.held = false ∧ ((fun (m : Master) (k : Fin 4) (u : State) => u.granted m (F.I2C_CMD k.val) true ∧
     (u.i2c k.val).cmds.length < 32) .prompter 0 (begin 0 upState) : Prop)) ∧
  (upState.sys.held = false ∧ ((fun (m : Master) (k : Fin 4) (u : State) => u.granted m (F.I2C_CMD k.val) true ∧
     (u.i2c k.val).cmds.length < 32) .prompter 0 (begin 0 upState) : Prop)) ∧
  (upState.sys.held = false ∧ ((fun (m : Master) (k : Fin 4) (u : State) => u.granted m (F.I2C_CMD k.val) true ∧
     (u.i2c k.val).cmds.length < 32) .prompter 0 (begin 0 upState) : Prop)) ∧
  (upState.sys.held = false ∧ ((fun (m : Master) (k : Fin 4) (u : State) => u.granted m (F.I2C_RXDATA k.val) false)
     .prompter 0 (begin 0 upState) : Prop)) ∧
  ((({ State.reset with sys := { held := false }, regs := [(0x100, 0x8000002#64), (0x20000, 0xfffff#64), (0x140800,
                          0x80000000#64)], per := { i2c := [(0, { cmds := [(1, 0)] })] } } : State) : State).sys.held
     = false ∧ ((fun (k : Fin 4) (u : State) => (u.i2c k.val).cmds ≠ [] ∧ u.flag (F.I2C_CTRL_EN k.val) ∧ u.mode ≠ 5) 0
     (begin 0 ({ State.reset with sys := { held := false }, regs := [(0x100, 0x8000002#64), (0x20000, 0xfffff#64),
                                    (0x140800, 0x80000000#64)], per := { i2c := [(0, { cmds := [(1, 0)] })] } } :
     State)) : Prop)) ∧
  ((({ State.reset with sys := { held := false }, regs := [(0x100, 0x8000002#64), (0x20000, 0xfffff#64)], per := { i2c := [(0, { cmds := [(1, 0)] })] }
                          } : State) : State).sys.held = false ∧ ((fun (k : Fin 4) (u : State) => (u.i2c k.val).cmds ≠
     []) 0 (begin 0
     ({ State.reset with sys := { held := false }, regs := [(0x100, 0x8000002#64), (0x20000, 0xfffff#64)], per := { i2c := [(0, { cmds := [(1, 0)] })] }
                           } : State)) : Prop)) ∧
  ((({ State.reset with sys := { held := false }, regs := [(0x100, 0x8000002#64), (0x20000, 0xfffff#64), (0x140c00,
                          0x80000000#64)], per := { timer := [(0, { period := 0 })] } } : State) : State).sys.held =
     false ∧ ((fun (k : Fin 8) (u : State) => u.flag (F.TIMER_CTRL_EN k.val) ∧ u.mode ≠ 5 ∧ (if u.get
     (F.TIMER_CTRL_MODE k.val) = 1 then (u.timer k.val).period else (u.timer k.val).period + 1) ≤ u.timerRaw k.val) 0
     (begin 1000000000000
     ({ State.reset with sys := { held := false }, regs := [(0x100, 0x8000002#64), (0x20000, 0xfffff#64), (0x140c00,
                           0x80000000#64)], per := { timer := [(0, { period := 0 })] } } : State)) : Prop)) ∧
  ((({ State.reset with sys := { held := false }, regs := [(0x100, 0x8000002#64), (0x20000, 0xfffff#64), (0x140c00,
                          0xc0000000#64)] } : State) : State).sys.held = false ∧ ((fun (k : Fin 8) (u : State) =>
     u.flag (F.TIMER_CTRL_EN k.val) ∧ u.get (F.TIMER_CTRL_MODE k.val) = 2 ∧ u.mode ≠ 5) 0 (begin 0
     ({ State.reset with sys := { held := false }, regs := [(0x100, 0x8000002#64), (0x20000, 0xfffff#64), (0x140c00,
                           0xc0000000#64)] } : State)) : Prop)) ∧
  (upState.sys.held = false ∧ ((fun (m : Master) (k : Fin 8) (u : State) => u.granted m (F.TIMER_CAPTURE k.val) false)
     .prompter 0 (begin 0 upState) : Prop)) := by
  refine ⟨⟨by decide, ?_⟩, ⟨by decide, ?_⟩, ⟨by decide, ?_⟩, ⟨by decide, ?_⟩, ⟨by decide, ?_⟩, ⟨by decide, ?_⟩, ⟨by
    decide, ?_⟩, ⟨by decide, ?_⟩, ⟨by decide, ?_⟩, ⟨by decide, ?_⟩, ⟨by decide, ?_⟩, ⟨by decide, ?_⟩, ⟨by decide, ?_⟩, ⟨by
    decide, ?_⟩, ⟨by decide, ?_⟩, ⟨by decide, ?_⟩, ⟨by decide, ?_⟩, ⟨by decide, ?_⟩, ⟨by decide, ?_⟩, ⟨by decide, ?_⟩, ⟨by
    decide, ?_⟩, ⟨by decide, ?_⟩, ⟨by decide, ?_⟩, ⟨by decide, ?_⟩, ⟨by decide, ?_⟩, ⟨by decide, ?_⟩, ⟨by decide, ?_⟩⟩
  all_goals try dsimp only
  all_goals decide +kernel

theorem witness_LifeCycleCommandsComplete :
  ((({ State.reset with sys := { held := false }, regs := [(0x100, 0x8000002#64), (0x20000, 0xfffff#64)], lcy := { value := 0x0, compl := 0xffffffffffffffff }
                          } : State) : State).sys.held = false ∧ ((fun (m : Master) (holdup : Bool) (u : State) =>
     (u.put F.LCY_STATUS_HOLDUP (bit holdup)).granted m F.LCY_TRANSITION true ∧ (((u.put F.LCY_STATUS_HOLDUP (bit
     holdup)).withReg F.LCY_TRANSITION 1).put F.LCY_STATUS_HOLDUP (bit (((u.put F.LCY_STATUS_HOLDUP (bit
     holdup)).withReg F.LCY_TRANSITION 1).flag F.LCY_STATUS_HOLDUP))).lcyFault 1 (((u.put F.LCY_STATUS_HOLDUP (bit
     holdup)).withReg F.LCY_TRANSITION 1).flag F.LCY_STATUS_HOLDUP) = none) .prompter true (begin 0
     ({ State.reset with sys := { held := false }, regs := [(0x100, 0x8000002#64), (0x20000, 0xfffff#64)], lcy := { value := 0x0, compl := 0xffffffffffffffff }
                           } : State)) : Prop)) ∧
  ((({ State.reset with sys := { held := false }, regs := [(0x100, 0x8000002#64), (0x20000, 0xfffff#64)], lcy := { value := 0xff, compl := 0xffffffffffffff00 }
                          } : State) : State).sys.held = false ∧ ((fun (m : Master) (holdup : Bool) (u : State) =>
     (u.put F.LCY_STATUS_HOLDUP (bit holdup)).granted m F.LCY_TRANSITION true ∧ (((u.put F.LCY_STATUS_HOLDUP (bit
     holdup)).withReg F.LCY_TRANSITION 2).put F.LCY_STATUS_HOLDUP (bit (((u.put F.LCY_STATUS_HOLDUP (bit
     holdup)).withReg F.LCY_TRANSITION 2).flag F.LCY_STATUS_HOLDUP))).lcyFault 2 (((u.put F.LCY_STATUS_HOLDUP (bit
     holdup)).withReg F.LCY_TRANSITION 2).flag F.LCY_STATUS_HOLDUP) = none) .prompter true (begin 0
     ({ State.reset with sys := { held := false }, regs := [(0x100, 0x8000002#64), (0x20000, 0xfffff#64)], lcy := { value := 0xff, compl := 0xffffffffffffff00 }
                           } : State)) : Prop)) ∧
  ((({ State.reset with sys := { held := false }, regs := [(0x100, 0x8000002#64), (0x20000, 0xfffff#64)], lcy := { value := 0xffff, compl := 0xffffffffffff0000 }
                          } : State) : State).sys.held = false ∧ ((fun (m : Master) (holdup : Bool) (u : State) =>
     (u.put F.LCY_STATUS_HOLDUP (bit holdup)).granted m F.LCY_TRANSITION true ∧ (((u.put F.LCY_STATUS_HOLDUP (bit
     holdup)).withReg F.LCY_TRANSITION 3).put F.LCY_STATUS_HOLDUP (bit (((u.put F.LCY_STATUS_HOLDUP (bit
     holdup)).withReg F.LCY_TRANSITION 3).flag F.LCY_STATUS_HOLDUP))).lcyFault 3 (((u.put F.LCY_STATUS_HOLDUP (bit
     holdup)).withReg F.LCY_TRANSITION 3).flag F.LCY_STATUS_HOLDUP) = none) .prompter true (begin 0
     ({ State.reset with sys := { held := false }, regs := [(0x100, 0x8000002#64), (0x20000, 0xfffff#64)], lcy := { value := 0xffff, compl := 0xffffffffffff0000 }
                           } : State)) : Prop)) ∧
  ((({ State.reset with sys := { held := false }, regs := [(0x100, 0x8000002#64), (0x20000, 0xfffff#64)], lcy := { value := 0xffffff, compl := 0xffffffffff000000, tokVal := 0, tokNot := 0xFF
                                                                                                                        }
                          } : State) : State).sys.held = false ∧ ((fun (m : Master) (holdup : Bool) (u : State) =>
     (u.put F.LCY_STATUS_HOLDUP (bit holdup)).granted m F.LCY_TRANSITION true ∧ (((u.put F.LCY_STATUS_HOLDUP (bit
     holdup)).withReg F.LCY_TRANSITION 4).put F.LCY_STATUS_HOLDUP (bit (((u.put F.LCY_STATUS_HOLDUP (bit
     holdup)).withReg F.LCY_TRANSITION 4).flag F.LCY_STATUS_HOLDUP))).lcyFault 4 (((u.put F.LCY_STATUS_HOLDUP (bit
     holdup)).withReg F.LCY_TRANSITION 4).flag F.LCY_STATUS_HOLDUP) = none) .prompter true (begin 0
     ({ State.reset with sys := { held := false }, regs := [(0x100, 0x8000002#64), (0x20000, 0xfffff#64)], lcy := { value := 0xffffff, compl := 0xffffffffff000000, tokVal := 0, tokNot :=
                                                                                                                         0xFF }
                           } : State)) : Prop)) ∧
  ((({ State.reset with sys := { held := false }, regs := [(0x100, 0x8000002#64), (0x20000, 0xfffff#64)], lcy := { value := 0xffff, compl := 0xffffffffffff0000 }
                          } : State) : State).sys.held = false ∧ ((fun (m : Master) (holdup : Bool) (u : State) =>
     (u.put F.LCY_STATUS_HOLDUP (bit holdup)).granted m F.LCY_TRANSITION true ∧ (((u.put F.LCY_STATUS_HOLDUP (bit
     holdup)).withReg F.LCY_TRANSITION 5).put F.LCY_STATUS_HOLDUP (bit (((u.put F.LCY_STATUS_HOLDUP (bit
     holdup)).withReg F.LCY_TRANSITION 5).flag F.LCY_STATUS_HOLDUP))).lcyFault 5 (((u.put F.LCY_STATUS_HOLDUP (bit
     holdup)).withReg F.LCY_TRANSITION 5).flag F.LCY_STATUS_HOLDUP) = none) .prompter true (begin 0
     ({ State.reset with sys := { held := false }, regs := [(0x100, 0x8000002#64), (0x20000, 0xfffff#64)], lcy := { value := 0xffff, compl := 0xffffffffffff0000 }
                           } : State)) : Prop)) ∧
  ((({ State.reset with sys := { held := false }, regs := [(0x100, 0x8000002#64), (0x20000, 0xfffff#64)], lcy := { value := 0xff, compl := 0xffffffffffffff00 }
                          } : State) : State).sys.held = false ∧ ((fun (m : Master) (holdup : Bool) (u : State) =>
     (u.put F.LCY_STATUS_HOLDUP (bit holdup)).granted m F.LCY_TRANSITION true ∧ (((u.put F.LCY_STATUS_HOLDUP (bit
     holdup)).withReg F.LCY_TRANSITION 6).put F.LCY_STATUS_HOLDUP (bit (((u.put F.LCY_STATUS_HOLDUP (bit
     holdup)).withReg F.LCY_TRANSITION 6).flag F.LCY_STATUS_HOLDUP))).lcyFault 6 (((u.put F.LCY_STATUS_HOLDUP (bit
     holdup)).withReg F.LCY_TRANSITION 6).flag F.LCY_STATUS_HOLDUP) = none) .prompter true (begin 0
     ({ State.reset with sys := { held := false }, regs := [(0x100, 0x8000002#64), (0x20000, 0xfffff#64)], lcy := { value := 0xff, compl := 0xffffffffffffff00 }
                           } : State)) : Prop)) ∧
  ((({ State.reset with sys := { held := false }, regs := [(0x100, 0x8000002#64), (0x20000, 0xfffff#64)], lcy := { op := some (.transition 1) }
                          } : State) : State).sys.held = false ∧ ((fun (k : Nat) (u : State) => u.lcy.op = some
     (.transition k)) 1 (begin 0
     ({ State.reset with sys := { held := false }, regs := [(0x100, 0x8000002#64), (0x20000, 0xfffff#64)], lcy := { op := some (.transition 1) }
                           } : State)) : Prop)) ∧
  ((({ State.reset with sys := { held := false }, regs := [(0x100, 0x8000002#64), (0x20000, 0xfffff#64)], lcy := { value := 0xffffff, compl := 0xffffffffff000000, nonce := some ([], 0) }
                          } : State) : State).sys.held = false ∧ ((fun (m : Master) (u : State) => u.granted m
     F.LCY_DEBUG_OP true ∧ (u.withReg F.LCY_DEBUG_OP 1).debugFault = none ∧ (∀ a, (u.withReg F.LCY_DEBUG_OP
     1).lcy.failedAt = some a → a + 10000000000000 ≤ (u.withReg F.LCY_DEBUG_OP 1).now)) .prompter (begin 0
     ({ State.reset with sys := { held := false }, regs := [(0x100, 0x8000002#64), (0x20000, 0xfffff#64)], lcy := { value := 0xffffff, compl := 0xffffffffff000000, nonce := some ([], 0) }
                           } : State)) : Prop)) ∧
  ((({ State.reset with sys := { held := false }, regs := [(0x100, 0x8000002#64), (0x20000, 0xfffff#64)], lcy := { value := 0xffffff, compl := 0xffffffffff000000, nonce := some ([], 0) }
                          } : State) : State).sys.held = false ∧ ((fun (m : Master) (u : State) => u.granted m
     F.LCY_DEBUG_OP true ∧ (u.withReg F.LCY_DEBUG_OP 2).debugFault = none ∧ (u.withReg F.LCY_DEBUG_OP
     2).lcy.nonce.isSome) .prompter (begin 0
     ({ State.reset with sys := { held := false }, regs := [(0x100, 0x8000002#64), (0x20000, 0xfffff#64)], lcy := { value := 0xffffff, compl := 0xffffffffff000000, nonce := some ([], 0) }
                           } : State)) : Prop)) ∧
  ((({ State.reset with sys := { held := false }, regs := [(0x100, 0x8000002#64), (0x20000, 0xfffff#64)], lcy := { op := some .verify }
                          } : State) : State).sys.held = false ∧ ((fun (u : State) => u.lcy.op = some .verify) (begin
     0 ({ State.reset with sys := { held := false }, regs := [(0x100, 0x8000002#64), (0x20000, 0xfffff#64)], lcy := { op := some .verify }
                             } : State)) : Prop)) ∧
  ((({ State.reset with sys := { held := false }, regs := [(0x100, 0x8000002#64), (0x20000, 0xfffff#64)], lcy := { nonce := some ([], 0) }
                          } : State) : State).sys.held = false ∧ ((fun (b : List Byte) (a : Ps) (u : State) =>
     u.lcy.nonce = some (b, a) ∧ a + 600000000000000 ≤ u.now) [] 0 (begin 600000000000000
     ({ State.reset with sys := { held := false }, regs := [(0x100, 0x8000002#64), (0x20000, 0xfffff#64)], lcy := { nonce := some ([], 0) }
                           } : State)) : Prop)) ∧
  ((({ State.reset with sys := { held := false }, regs := [(0x100, 0x8000002#64), (0x100d0, 0x8a9136aa#64), (0x20000,
                          0xfffff#64)], lcy := { value := 0xff, compl := 0xffffffffffffff00 } } : State) :
     State).sys.held = false ∧ ((fun (m : Master) (slot : Fin 256) (u : State) => u.granted m F.LCY_KEY_OP true ∧
     (u.withReg F.LCY_KEY_OP ((256 * slot.val + 1))).lcy.op = none ∧ ((u.withReg F.LCY_KEY_OP ((256 * slot.val +
     1))).lcyState = 1 ∨ (u.withReg F.LCY_KEY_OP ((256 * slot.val + 1))).lcyState = 2 ∨ (u.withReg F.LCY_KEY_OP ((256
     * slot.val + 1))).lcyState = 5) ∧ slot.val < 16 ∧ (u.withReg F.LCY_KEY_OP ((256 * slot.val + 1))).lcy.keys.any
     (fun x => x.1 = slot.val) = false ∧ crc32c ((List.range 8).flatMap (fun k => leBytes 4 ((u.withReg F.LCY_KEY_OP
     ((256 * slot.val + 1))).get (F.LCY_KEY_DATA k)))) = (u.withReg F.LCY_KEY_OP ((256 * slot.val + 1))).get
     F.LCY_KEY_CRC) .prompter 0 (begin 0
     ({ State.reset with sys := { held := false }, regs := [(0x100, 0x8000002#64), (0x100d0, 0x8a9136aa#64), (0x20000,
                           0xfffff#64)], lcy := { value := 0xff, compl := 0xffffffffffffff00 } } : State)) : Prop)) ∧
  ((({ State.reset with sys := { held := false }, regs := [(0x100, 0x8000002#64), (0x100d0, 0x8a9136aa#64), (0x20000,
                          0xfffff#64)], lcy := { value := 0xff, compl := 0xffffffffffffff00 } } : State) :
     State).sys.held = false ∧ ((fun (m : Master) (slot : Fin 256) (u : State) => u.granted m F.LCY_KEY_OP true ∧
     (u.withReg F.LCY_KEY_OP ((256 * slot.val + 2))).lcy.op = none ∧ ((u.withReg F.LCY_KEY_OP ((256 * slot.val +
     2))).lcyState = 1 ∨ (u.withReg F.LCY_KEY_OP ((256 * slot.val + 2))).lcyState = 2 ∨ (u.withReg F.LCY_KEY_OP ((256
     * slot.val + 2))).lcyState = 5) ∧ slot.val < 16 ∧ (u.withReg F.LCY_KEY_OP ((256 * slot.val + 2))).lcy.keys.any
     (fun x => x.1 = slot.val) = false ∧ crc32c ((List.range 8).flatMap (fun k => leBytes 4 ((u.withReg F.LCY_KEY_OP
     ((256 * slot.val + 2))).get (F.LCY_KEY_DATA k)))) = (u.withReg F.LCY_KEY_OP ((256 * slot.val + 2))).get
     F.LCY_KEY_CRC) .prompter 0 (begin 0
     ({ State.reset with sys := { held := false }, regs := [(0x100, 0x8000002#64), (0x100d0, 0x8a9136aa#64), (0x20000,
                           0xfffff#64)], lcy := { value := 0xff, compl := 0xffffffffffffff00 } } : State)) : Prop)) ∧
  ((({ State.reset with sys := { held := false }, regs := [(0x100, 0x8000002#64), (0x100d0, 0x8a9136aa#64), (0x20000,
                          0xfffff#64)], lcy := { value := 0xff, compl := 0xffffffffffffff00 } } : State) :
     State).sys.held = false ∧ ((fun (m : Master) (u : State) => u.granted m F.LCY_KEY_OP true ∧ (u.withReg
     F.LCY_KEY_OP 3).lcy.op = none ∧ ((u.withReg F.LCY_KEY_OP 3).lcyState = 1 ∨ (u.withReg F.LCY_KEY_OP 3).lcyState =
     2 ∨ (u.withReg F.LCY_KEY_OP 3).lcyState = 5) ∧ (u.withReg F.LCY_KEY_OP 3).lcy.pubs.lookup 3 = none ∧ crc32c
     ((List.range 8).flatMap (fun k => leBytes 4 ((u.withReg F.LCY_KEY_OP 3).get (F.LCY_KEY_DATA k)))) = (u.withReg
     F.LCY_KEY_OP 3).get F.LCY_KEY_CRC) .prompter (begin 0
     ({ State.reset with sys := { held := false }, regs := [(0x100, 0x8000002#64), (0x100d0, 0x8a9136aa#64), (0x20000,
                           0xfffff#64)], lcy := { value := 0xff, compl := 0xffffffffffffff00 } } : State)) : Prop)) ∧
  ((({ State.reset with sys := { held := false }, regs := [(0x100, 0x8000002#64), (0x100d0, 0x8a9136aa#64), (0x20000,
                          0xfffff#64)], lcy := { value := 0xff, compl := 0xffffffffffffff00 } } : State) :
     State).sys.held = false ∧ ((fun (m : Master) (u : State) => u.granted m F.LCY_KEY_OP true ∧ (u.withReg
     F.LCY_KEY_OP 4).lcy.op = none ∧ ((u.withReg F.LCY_KEY_OP 4).lcyState = 1 ∨ (u.withReg F.LCY_KEY_OP 4).lcyState =
     2 ∨ (u.withReg F.LCY_KEY_OP 4).lcyState = 5) ∧ (u.withReg F.LCY_KEY_OP 4).lcy.pubs.lookup 4 = none ∧ crc32c
     ((List.range 8).flatMap (fun k => leBytes 4 ((u.withReg F.LCY_KEY_OP 4).get (F.LCY_KEY_DATA k)))) = (u.withReg
     F.LCY_KEY_OP 4).get F.LCY_KEY_CRC) .prompter (begin 0
     ({ State.reset with sys := { held := false }, regs := [(0x100, 0x8000002#64), (0x100d0, 0x8a9136aa#64), (0x20000,
                           0xfffff#64)], lcy := { value := 0xff, compl := 0xffffffffffffff00 } } : State)) : Prop)) ∧
  ((({ State.reset with sys := { held := false }, regs := [(0x100, 0x8000002#64), (0x100d0, 0x8a9136aa#64), (0x20000,
                          0xfffff#64)], lcy := { value := 0xff, compl := 0xffffffffffffff00 } } : State) :
     State).sys.held = false ∧ ((fun (m : Master) (u : State) => u.granted m F.LCY_KEY_OP true ∧ (u.withReg
     F.LCY_KEY_OP 5).lcy.op = none ∧ ((u.withReg F.LCY_KEY_OP 5).lcyState = 1 ∨ (u.withReg F.LCY_KEY_OP 5).lcyState =
     2 ∨ (u.withReg F.LCY_KEY_OP 5).lcyState = 5) ∧ (u.withReg F.LCY_KEY_OP 5).lcy.pubs.lookup 5 = none ∧ crc32c
     ((List.range 8).flatMap (fun k => leBytes 4 ((u.withReg F.LCY_KEY_OP 5).get (F.LCY_KEY_DATA k)))) = (u.withReg
     F.LCY_KEY_OP 5).get F.LCY_KEY_CRC) .prompter (begin 0
     ({ State.reset with sys := { held := false }, regs := [(0x100, 0x8000002#64), (0x100d0, 0x8a9136aa#64), (0x20000,
                           0xfffff#64)], lcy := { value := 0xff, compl := 0xffffffffffffff00 } } : State)) : Prop)) ∧
  ((({ State.reset with sys := { held := false }, regs := [(0x100, 0x8000002#64), (0x100d0, 0x8a9136aa#64), (0x20000,
                          0xfffff#64)], lcy := { value := 0xff, compl := 0xffffffffffffff00 } } : State) :
     State).sys.held = false ∧ ((fun (m : Master) (u : State) => u.granted m F.LCY_KEY_OP true ∧ (u.withReg
     F.LCY_KEY_OP 6).lcy.op = none ∧ ((u.withReg F.LCY_KEY_OP 6).lcyState = 1 ∨ (u.withReg F.LCY_KEY_OP 6).lcyState =
     2 ∨ (u.withReg F.LCY_KEY_OP 6).lcyState = 5) ∧ (u.withReg F.LCY_KEY_OP 6).lcy.pubs.lookup 6 = none ∧ crc32c
     ((List.range 8).flatMap (fun k => leBytes 4 ((u.withReg F.LCY_KEY_OP 6).get (F.LCY_KEY_DATA k)))) = (u.withReg
     F.LCY_KEY_OP 6).get F.LCY_KEY_CRC) .prompter (begin 0
     ({ State.reset with sys := { held := false }, regs := [(0x100, 0x8000002#64), (0x100d0, 0x8a9136aa#64), (0x20000,
                           0xfffff#64)], lcy := { value := 0xff, compl := 0xffffffffffffff00 } } : State)) : Prop)) ∧
  ((({ State.reset with sys := { held := false }, regs := [(0x100, 0x8000002#64), (0x20000, 0xfffff#64)], lcy := { op := some (.key 1 0 []) }
                          } : State) : State).sys.held = false ∧ ((fun (kind : Nat) (slot : Nat) (l : List Byte) (u :
     State) => u.lcy.op = some (.key kind slot l)) 1 0 [] (begin 0
     ({ State.reset with sys := { held := false }, regs := [(0x100, 0x8000002#64), (0x20000, 0xfffff#64)], lcy := { op := some (.key 1 0 []) }
                           } : State)) : Prop)) := by
  refine ⟨⟨by decide, ?_⟩, ⟨by decide, ?_⟩, ⟨by decide, ?_⟩, ⟨by decide, ?_⟩, ⟨by decide, ?_⟩, ⟨by decide, ?_⟩, ⟨by
    decide, ?_⟩, ⟨by decide, ?_⟩, ⟨by decide, ?_⟩, ⟨by decide, ?_⟩, ⟨by decide, ?_⟩, ⟨by decide, ?_⟩, ⟨by decide, ?_⟩, ⟨by
    decide, ?_⟩, ⟨by decide, ?_⟩, ⟨by decide, ?_⟩, ⟨by decide, ?_⟩, ⟨by decide, ?_⟩⟩
  all_goals try dsimp only
  all_goals decide +kernel

theorem witness_PrompterCommandsComplete :
  ((({ State.reset with sys := { held := false }, regs := [(0x100, 0x8000002#64), (0x20000, 0xfffff#64)], lcy := { value := 0xffffff, compl := 0xffffffffff000000 }
                          } : State) : State).sys.held = false ∧ ((fun (chars : List Nat) (u : State) => u.promptMay ∧
     u.promptClass (lineCmd chars) = none ∧ lineCmd chars ≠ .bad) ([73, 68]) (begin 0
     ({ State.reset with sys := { held := false }, regs := [(0x100, 0x8000002#64), (0x20000, 0xfffff#64)], lcy := { value := 0xffffff, compl := 0xffffffffff000000 }
                           } : State)) : Prop)) ∧
  ((({ State.reset with sys := { held := false }, regs := [(0x100, 0x8000002#64), (0x20000, 0xfffff#64)], lcy := { value := 0xffffff, compl := 0xffffffffff000000 }
                          } : State) : State).sys.held = false ∧ ((fun (u : State) => u.promptMay ∧ u.promptClass
     (.id) = none) (begin 0
     ({ State.reset with sys := { held := false }, regs := [(0x100, 0x8000002#64), (0x20000, 0xfffff#64)], lcy := { value := 0xffffff, compl := 0xffffffffff000000 }
                           } : State)) : Prop)) ∧
  ((({ State.reset with sys := { held := false }, regs := [(0x100, 0x8000002#64), (0x20000, 0xfffff#64)], lcy := { value := 0xffffff, compl := 0xffffffffff000000 }
                          } : State) : State).sys.held = false ∧ ((fun (u : State) => u.promptMay ∧ u.promptClass
     (.status) = none) (begin 0
     ({ State.reset with sys := { held := false }, regs := [(0x100, 0x8000002#64), (0x20000, 0xfffff#64)], lcy := { value := 0xffffff, compl := 0xffffffffff000000 }
                           } : State)) : Prop)) ∧
  ((({ State.reset with sys := { held := false }, regs := [(0x100, 0x8000002#64), (0x20000, 0xfffff#64)], lcy := { value := 0xffffff, compl := 0xffffffffff000000 }
                          } : State) : State).sys.held = false ∧ ((fun (addr : Nat) (u : State) => u.promptMay ∧
     u.promptClass (.read addr 1) = none ∧ !inWindow addr ∧ u.granted .prompter ⟨addr, 0, 0, 0⟩ false) 0x200 (begin 0
     ({ State.reset with sys := { held := false }, regs := [(0x100, 0x8000002#64), (0x20000, 0xfffff#64)], lcy := { value := 0xffffff, compl := 0xffffffffff000000 }
                           } : State)) : Prop)) ∧
  ((({ State.reset with sys := { held := false }, regs := [(0x100, 0x8000002#64), (0x20000, 0xfffff#64)], lcy := { value := 0xffffff, compl := 0xffffffffff000000 }
                          } : State) : State).sys.held = false ∧ ((fun (addr : Nat) (u : State) => u.promptMay ∧
     u.promptClass (.read64 addr) = none ∧ !inWindow addr ∧ u.granted .prompter ⟨addr, 0, 0, 0⟩ false) 0x0 (begin 0
     ({ State.reset with sys := { held := false }, regs := [(0x100, 0x8000002#64), (0x20000, 0xfffff#64)], lcy := { value := 0xffffff, compl := 0xffffffffff000000 }
                           } : State)) : Prop)) ∧
  ((({ State.reset with sys := { held := false }, regs := [(0x100, 0x8000002#64), (0x20000, 0xfffff#64)], lcy := { value := 0xffffff, compl := 0xffffffffff000000 }
                          } : State) : State).sys.held = false ∧ ((fun (addr : Nat) (value : Nat) (u : State) =>
     u.promptMay ∧ u.promptClass (.write addr value) = none ∧ !inWindow addr ∧ u.granted .prompter ⟨addr, 0, 0, 0⟩
     true) 0x200 0 (begin 0
     ({ State.reset with sys := { held := false }, regs := [(0x100, 0x8000002#64), (0x20000, 0xfffff#64)], lcy := { value := 0xffffff, compl := 0xffffffffff000000 }
                           } : State)) : Prop)) ∧
  ((({ State.reset with sys := { held := false }, regs := [(0x100, 0x8000002#64), (0x20000, 0xfffff#64)], lcy := { value := 0xffffff, compl := 0xffffffffff000000 }
                          } : State) : State).sys.held = false ∧ ((fun (addr : Nat) (value : Nat) (u : State) =>
     u.promptMay ∧ u.promptClass (.write64 addr value) = none ∧ !inWindow addr ∧ u.granted .prompter ⟨addr, 0, 0, 0⟩
     true) 0x200 0 (begin 0
     ({ State.reset with sys := { held := false }, regs := [(0x100, 0x8000002#64), (0x20000, 0xfffff#64)], lcy := { value := 0xffffff, compl := 0xffffffffff000000 }
                           } : State)) : Prop)) ∧
  ((({ State.reset with sys := { held := false }, regs := [(0x100, 0x8000002#64), (0x20000, 0xfffff#64)], lcy := { value := 0xffffff, compl := 0xffffffffff000000 }
                          } : State) : State).sys.held = false ∧ ((fun (mode : Fin 8) (u : State) => u.promptMay ∧
     u.promptClass (.mode mode.val) = none ∧ [2, 3, 4, 5, 7].contains mode.val ∧ !([3, 4, 5].contains ((u.modeReq
     mode.val).get F.SYS_MODE_REQ_RESULT))) 5 (begin 0
     ({ State.reset with sys := { held := false }, regs := [(0x100, 0x8000002#64), (0x20000, 0xfffff#64)], lcy := { value := 0xffffff, compl := 0xffffffffff000000 }
                           } : State)) : Prop)) ∧
  ((({ State.reset with sys := { held := false }, regs := [(0x100, 0x8000002#64), (0x20000, 0xfffff#64)], lcy := { value := 0xffffff, compl := 0xffffffffff000000 }
                          } : State) : State).sys.held = false ∧ ((fun (kind : Fin 4) (u : State) => u.promptMay ∧
     u.promptClass (.reset kind.val) = none ∧ kind.val ≠ 0) 1 (begin 0
     ({ State.reset with sys := { held := false }, regs := [(0x100, 0x8000002#64), (0x20000, 0xfffff#64)], lcy := { value := 0xffffff, compl := 0xffffffffff000000 }
                           } : State)) : Prop)) ∧
  ((({ State.reset with sys := { held := false }, regs := [(0x100, 0x8000002#64), (0x20000, 0xfffff#64)], lcy := { value := 0xffffff, compl := 0xffffffffff000000 }
                          } : State) : State).sys.held = false ∧ ((fun (count : Nat) (u : State) => u.promptMay ∧
     u.promptClass (.log count) = none ∧ 1 ≤ count ∧ count ≤ 64) 3 (begin 0
     ({ State.reset with sys := { held := false }, regs := [(0x100, 0x8000002#64), (0x20000, 0xfffff#64)], lcy := { value := 0xffffff, compl := 0xffffffffff000000 }
                           } : State)) : Prop)) ∧
  ((({ State.reset with sys := { held := false }, regs := [(0x100, 0x8000000#64), (0x20000, 0xfffff#64)], lcy := { value := 0xffffff, compl := 0xffffffffff000000 },
                          cfg := { planeA := { record := { header := leBytes 4 0x4E454353 ++ leBytes 2 1 ++ leBytes 2
                                                                 0x100 ++ leBytes 4 512 ++ leBytes 2 0x8400 ++ [1] ++
                                                                 List.replicate 9 0 ++ leBytes 2 2 ++ List.replicate 2
                                                                 0 ++ leBytes 4 256 ++ List.replicate 220 0 ++ leBytes
                                                                 4 0x212fb339 } } } } : State) : State).sys.held =
     false ∧ ((fun (plane : Fin 2) (u : State) => u.promptMay ∧ u.promptClass (.select plane.val) = none ∧
     !u.sys.earlyWarning ∧ u.recordSound plane.val) 0 (begin 0
     ({ State.reset with sys := { held := false }, regs := [(0x100, 0x8000000#64), (0x20000, 0xfffff#64)], lcy := { value := 0xffffff, compl := 0xffffffffff000000 },
                           cfg := { planeA := { record := { header := leBytes 4 0x4E454353 ++ leBytes 2 1 ++ leBytes 2
                                                                  0x100 ++ leBytes 4 512 ++ leBytes 2 0x8400 ++ [1] ++
                                                                  List.replicate 9 0 ++ leBytes 2 2 ++ List.replicate
                                                                  2 0 ++ leBytes 4 256 ++ List.replicate 220 0 ++
                                                                  leBytes 4 0x212fb339 } } } } : State)) : Prop)) ∧
  ((({ State.reset with sys := { held := false }, regs := [(0x100, 0x8000002#64), (0x10000, 0x8000000#64), (0x20000,
                          0xfffff#64)], lcy := { value := 0xffffff, compl := 0xffffffffff000000 } } : State) :
     State).sys.held = false ∧ ((fun (target : Fin 8) (u : State) => u.promptMay ∧ u.promptClass (.lcy target.val) =
     none ∧ u.lcyFault target.val (u.flag F.LCY_STATUS_HOLDUP) = none) 6 (begin 0
     ({ State.reset with sys := { held := false }, regs := [(0x100, 0x8000002#64), (0x10000, 0x8000000#64), (0x20000,
                           0xfffff#64)], lcy := { value := 0xffffff, compl := 0xffffffffff000000 } } : State)) : Prop)) ∧
  ((({ State.reset with sys := { held := false }, regs := [(0x100, 0x8000002#64), (0x20000, 0xfffff#64)], lcy := { value := 0xffffff, compl := 0xffffffffff000000, nonce := some ([], 0) }
                          } : State) : State).sys.held = false ∧ ((fun (u : State) => u.promptMay ∧ u.promptClass
     (.challenge) = none ∧ u.debugFault = none ∧ (∀ a, u.lcy.failedAt = some a → a + 10000000000000 ≤ u.now)) (begin 0
     ({ State.reset with sys := { held := false }, regs := [(0x100, 0x8000002#64), (0x20000, 0xfffff#64)], lcy := { value := 0xffffff, compl := 0xffffffffff000000, nonce := some ([], 0) }
                           } : State)) : Prop)) ∧
  ((({ State.reset with sys := { held := false }, regs := [(0x100, 0x8000002#64), (0x20000, 0xfffff#64)], lcy := { value := 0xffffff, compl := 0xffffffffff000000, nonce := some ([], 0) }
                          } : State) : State).sys.held = false ∧ ((fun (sig : List Byte) (u : State) => u.promptMay ∧
     u.promptClass (.respond (sig.take 64)) = none ∧ ((List.range 16).foldl (fun s k => s.put (F.LCY_RESP k) (leAt
     (sig.take 64) (4 * k) 4)) u).verifyStart.lcy.op = some .verify) [] (begin 0
     ({ State.reset with sys := { held := false }, regs := [(0x100, 0x8000002#64), (0x20000, 0xfffff#64)], lcy := { value := 0xffffff, compl := 0xffffffffff000000, nonce := some ([], 0) }
                           } : State)) : Prop)) := by
  refine ⟨⟨by decide, ?_⟩, ⟨by decide, ?_⟩, ⟨by decide, ?_⟩, ⟨by decide, ?_⟩, ⟨by decide, ?_⟩, ⟨by decide, ?_⟩, ⟨by
    decide, ?_⟩, ⟨by decide, ?_⟩, ⟨by decide, ?_⟩, ⟨by decide, ?_⟩, ⟨by decide, ?_⟩, ⟨by decide, ?_⟩, ⟨by decide, ?_⟩, ⟨by
    decide, ?_⟩⟩
  all_goals try dsimp only
  all_goals decide +kernel

/-! ### Each operand check refuses an ill-formed command -/

theorem test_illFormed_0 : ([
    .registerWrite ({ master := .prompter, addr := 2 ^ 21, wide := false, data := none }) 0,
    .registerWrite ({ master := .prompter, addr := 0, wide := false, data := some (2 ^ 32) }) 0,
    .registerWrite ({ master := .prompter, addr := 0, wide := true, data := some (2 ^ 64) }) 0,
    .sysDecodeFault ({ master := .prompter, addr := 2 ^ 21, wide := false, data := none }) 0,
    .sysDecodeFault ({ master := .prompter, addr := 0, wide := false, data := some (2 ^ 32) }) 0,
    .sysDecodeFault ({ master := .prompter, addr := 0, wide := true, data := some (2 ^ 64) }) 0,
    .powerOn (2 ^ 3) [] false 0,
    .powerOn 0 [(4, 0)] false 0,
    .powerOn 0 [(0, 8)] false 0,
    .powerOn 0 (List.replicate 17 (0, 0)) false 0,
    .phaseTrim false (2 ^ 18) false false 0,
    .phasePlane false (some { cls := 0, x := 0, y := 0, index := 0, drivers := 1, count := 1 }) [] 0,
    .phasePlane false (some { cls := 0, x := 552, y := 0, index := 0, drivers := 2, count := 1 }) [] 0,
    .phasePlane false none [16] 0,
    .phasePlane false none (List.replicate 17 0) 0,
    .phaseDram { capacity := 0, density := 0, rowBits := 2 ^ 8, colBits := 0, ranks := 0, width := 0, rating := 0, minPs := [], fail := none, full := false } { capacity := 16, density := 16, rowBits := 16, colBits := 10, ranks := 1, width := 8, rating := 0, minPs := [], fail := none, full := false } 0,
    .phaseDram { capacity := 16, density := 16, rowBits := 16, colBits := 10, ranks := 1, width := 8, rating := 0, minPs := [], fail := none, full := false } { capacity := 0, density := 0, rowBits := 2 ^ 8, colBits := 0, ranks := 0, width := 0, rating := 0, minPs := [], fail := none, full := false } 0,
    .phasePrompt (2 ^ 2) 0,
    .phaseJoin (2 ^ 16) 0,
    .printPathReset (2 ^ 16) 0,
    .trkConfigWrite .prompter 0 0 (2 ^ 64) 0,
    .trkSchedWrite .prompter 0 (2 ^ 64) 0,
    .encoderEdge (⟨0, 2 ^ 32⟩) false 0,
    .illegalQuadTransition (⟨0, 2 ^ 32⟩) 0,
    .zEdge (⟨0, 2 ^ 32⟩) 0,
    .cueTransition (⟨0, 2 ^ 32⟩) 0 false 0,
    .itemSubmit 0 0 (2 ^ 32) [] 0,
    .itemSubmit 0 0 0 (List.replicate 4161 0) 0,
    .itemBatch 0 0 (2 ^ 32) [] 0,
    .itemBatch 0 0 0 (List.replicate 4161 0) 0,
    .itemPortRecord (2 ^ 32) [] 0,
    .itemPortRecord 0 (List.replicate 65 0) 0,
    .preComposeDone 0 (2 ^ 64) 0,
    .lineComposed 0 [{ tap := 8, track := 0, item := 0, index := 0, plane := 0, groups := [] }] [] [] [] 0 0,
    .lineComposed 0 [{ tap := 0, track := 0, item := 0, index := 0, plane := 0, groups := [some (2 ^ 256)] }] [] [] [] 0 0,
    .lineComposed 0 [] [2 ^ 20] [] [] 0 0,
    .lineComposed 0 [] [] [(true, 16)] [] 0 0,
    .lineComposed 0 [] [] [] [2 ^ 24] 0 0,
    .lineComposed 0 [] [] [] [] (2 ^ 32) 0,
    .layoutInstall .prompter 0 (2 ^ 64) 0,
    .layoutReplace .prompter 0 (2 ^ 64) 0,
    .layoutRemove .prompter 0 (2 ^ 64) 0,
    .frgBudgetWrite .prompter (2 ^ 64) 0,
    .frgCtrlWrite .prompter (2 ^ 64) 0,
    .frgCacheCfgWrite .prompter (2 ^ 64) 0,
    .frgTapCtrlWrite .prompter 0 (2 ^ 64) 0,
    .frgVdCntWrite .prompter 0 0 (2 ^ 64) 0,
    .nzcPrepareDone (some (2 ^ 16)) 0] : List Instr).all (fun i => !i.wellFormed) = true := by
  decide +kernel

theorem test_illFormed_1 : ([
    .nzcPatchEntry .prompter (2 ^ 64) 0,
    .laneAlign (.ring 0) (2 ^ 32) 0 0,
    .laneAlign (.ring 0) 0 (2 ^ 8) 0,
    .stgLaneUp (.ring 0) (2 ^ 16) 0,
    .stgLaneDown (.ring 0) 0 (2 ^ 64) 0,
    .creditBlock 0 (2 ^ 32) 0,
    .fenceUpFrame 0 0 false (2 ^ 40) 0 0,
    .fenceUpFrame 0 0 false 0 (2 ^ 32) 0,
    .errorFrame 0 0 (2 ^ 40) 0,
    .verdictFrame 0 0 (2 ^ 64) 0 0 0 0 0,
    .verdictFrame 0 0 0 (2 ^ 16) 0 0 0 0,
    .verdictFrame 0 0 0 0 (2 ^ 8) 0 0 0,
    .verdictFrame 0 0 0 0 0 (2 ^ 8) 0 0,
    .verdictFrame 0 0 0 0 0 0 (2 ^ 8) 0,
    .verdictWindowClose 0 (2 ^ 64) 0,
    .rejectDecisionTimer 0 (2 ^ 64) 0,
    .insCfgWrite .prompter 0 0 (2 ^ 64) 0,
    .dpxHello (2 ^ 32) 0 [] 0,
    .dpxHello 0 (2 ^ 32) [] 0,
    .dpxHello 0 0 (List.replicate 513 0) 0,
    .dpxState (2 ^ 32) 0 [] 0,
    .dpxState 0 (2 ^ 32) [] 0,
    .dpxState 0 0 (List.replicate 513 0) 0,
    .dpxItem (2 ^ 32) 0 [] 0,
    .dpxItem 0 (2 ^ 32) [] 0,
    .dpxItem 0 0 (List.replicate 513 0) 0,
    .dpxCommitAck (2 ^ 32) 0 [] 0,
    .dpxCommitAck 0 (2 ^ 32) [] 0,
    .dpxCommitAck 0 0 (List.replicate 513 0) 0,
    .dpxAccession (2 ^ 32) 0 [] 0,
    .dpxAccession 0 (2 ^ 32) [] 0,
    .dpxAccession 0 0 (List.replicate 513 0) 0,
    .dpxLease (2 ^ 32) 0 [] 0,
    .dpxLease 0 (2 ^ 32) [] 0,
    .dpxLease 0 0 (List.replicate 513 0) 0,
    .dpxConfig (2 ^ 32) 0 [] 0,
    .dpxConfig 0 (2 ^ 32) [] 0,
    .dpxConfig 0 0 (List.replicate 513 0) 0,
    .dpxFlush (2 ^ 32) 0 [] 0,
    .dpxFlush 0 (2 ^ 32) [] 0,
    .dpxFlush 0 0 (List.replicate 513 0) 0,
    .dpxHead (2 ^ 32) 0 [] 0,
    .dpxHead 0 (2 ^ 32) [] 0,
    .dpxHead 0 0 (List.replicate 513 0) 0,
    .dpxBind (2 ^ 32) 0 [] 0,
    .dpxBind 0 (2 ^ 32) [] 0,
    .dpxBind 0 0 (List.replicate 513 0) 0,
    .dpxMark (2 ^ 32) 0 [] 0] : List Instr).all (fun i => !i.wellFormed) = true := by
  decide +kernel

theorem test_illFormed_2 : ([
    .dpxMark 0 (2 ^ 32) [] 0,
    .dpxMark 0 0 (List.replicate 513 0) 0,
    .dpxPos (2 ^ 32) 0 [] 0,
    .dpxPos 0 (2 ^ 32) [] 0,
    .dpxPos 0 0 (List.replicate 513 0) 0,
    .dpxCo (2 ^ 32) 0 [] 0,
    .dpxCo 0 (2 ^ 32) [] 0,
    .dpxCo 0 0 (List.replicate 513 0) 0,
    .dpxCoAck (2 ^ 32) 0 [] 0,
    .dpxCoAck 0 (2 ^ 32) [] 0,
    .dpxCoAck 0 0 (List.replicate 513 0) 0,
    .dpxNak (2 ^ 32) 0 [] 0,
    .dpxNak 0 (2 ^ 32) [] 0,
    .dpxNak 0 0 (List.replicate 513 0) 0,
    .dpxSubmitFwd (2 ^ 32) 0 [] 0,
    .dpxSubmitFwd 0 (2 ^ 32) [] 0,
    .dpxSubmitFwd 0 0 (List.replicate 513 0) 0,
    .dpxOutcomeFwd (2 ^ 32) 0 [] 0,
    .dpxOutcomeFwd 0 (2 ^ 32) [] 0,
    .dpxOutcomeFwd 0 0 (List.replicate 513 0) 0,
    .dpxSyncData (2 ^ 32) 0 (.finish 0) 0,
    .dpxSyncData 0 (2 ^ 32) (.finish 0) 0,
    .dpxSyncData 0 0 (.queue 16 0 0 0 []) 0,
    .dpxSyncData 0 0 (.series [] [(true, [])] []) 0,
    .dpxSyncData 0 0 (.config [(16, 0, 0, [])] []) 0,
    .dpxSyncData 0 0 (.finish (2 ^ 32)) 0,
    .ledgerEntryWritten (2 ^ 16) false 0,
    .beacon 0 (2 ^ 16) 0 0 0 [] 0,
    .beacon 0 0 (2 ^ 16) 0 0 [] 0,
    .beacon 0 0 0 (2 ^ 32) 0 [] 0,
    .beacon 0 0 0 0 (2 ^ 16) [] 0,
    .beacon 0 0 0 0 0 (List.replicate 513 0) 0,
    .castFrame 0 (2 ^ 16) 0 0 0 [] 0,
    .castFrame 0 0 (2 ^ 16) 0 0 [] 0,
    .castFrame 0 0 0 (2 ^ 32) 0 [] 0,
    .castFrame 0 0 0 0 (2 ^ 16) [] 0,
    .castFrame 0 0 0 0 0 (List.replicate 513 0) 0,
    .catalogue 0 (2 ^ 16) 0 0 0 [] 0,
    .catalogue 0 0 (2 ^ 16) 0 0 [] 0,
    .catalogue 0 0 0 (2 ^ 32) 0 [] 0,
    .catalogue 0 0 0 0 (2 ^ 16) [] 0,
    .catalogue 0 0 0 0 0 (List.replicate 513 0) 0,
    .timeFrame 0 (2 ^ 16) 0 0 0 [] 0 0,
    .timeFrame 0 0 (2 ^ 16) 0 0 [] 0 0,
    .timeFrame 0 0 0 (2 ^ 32) 0 [] 0 0,
    .timeFrame 0 0 0 0 (2 ^ 16) [] 0 0,
    .timeFrame 0 0 0 0 0 (List.replicate 513 0) 0 0,
    .timeFrame 0 0 0 0 0 [] (2 ^ 64) 0] : List Instr).all (fun i => !i.wellFormed) = true := by
  decide +kernel

theorem test_illFormed_3 : ([
    .pdelayReq 0 (2 ^ 64) 0,
    .pdelayResp 0 (2 ^ 64) 0 0 0,
    .pdelayResp 0 0 (2 ^ 64) 0 0,
    .pdelayResp 0 0 0 (2 ^ 64) 0,
    .leaseReq 0 (2 ^ 16) 0 0 0 [] 0,
    .leaseReq 0 0 (2 ^ 16) 0 0 [] 0,
    .leaseReq 0 0 0 (2 ^ 32) 0 [] 0,
    .leaseReq 0 0 0 0 (2 ^ 16) [] 0,
    .leaseReq 0 0 0 0 0 (List.replicate 513 0) 0,
    .propose 0 (2 ^ 16) 0 0 0 [] 0,
    .propose 0 0 (2 ^ 16) 0 0 [] 0,
    .propose 0 0 0 (2 ^ 32) 0 [] 0,
    .propose 0 0 0 0 (2 ^ 16) [] 0,
    .propose 0 0 0 0 0 (List.replicate 513 0) 0,
    .accept 0 (2 ^ 16) 0 0 0 [] 0,
    .accept 0 0 (2 ^ 16) 0 0 [] 0,
    .accept 0 0 0 (2 ^ 32) 0 [] 0,
    .accept 0 0 0 0 (2 ^ 16) [] 0,
    .accept 0 0 0 0 0 (List.replicate 513 0) 0,
    .grant 0 (2 ^ 16) 0 0 0 [] 0,
    .grant 0 0 (2 ^ 16) 0 0 [] 0,
    .grant 0 0 0 (2 ^ 32) 0 [] 0,
    .grant 0 0 0 0 (2 ^ 16) [] 0,
    .grant 0 0 0 0 0 (List.replicate 513 0) 0,
    .refuse 0 (2 ^ 16) 0 0 0 [] 0,
    .refuse 0 0 (2 ^ 16) 0 0 [] 0,
    .refuse 0 0 0 (2 ^ 32) 0 [] 0,
    .refuse 0 0 0 0 (2 ^ 16) [] 0,
    .refuse 0 0 0 0 0 (List.replicate 513 0) 0,
    .ringRecall 0 (2 ^ 16) 0 0 0 [] 0,
    .ringRecall 0 0 (2 ^ 16) 0 0 [] 0,
    .ringRecall 0 0 0 (2 ^ 32) 0 [] 0,
    .ringRecall 0 0 0 0 (2 ^ 16) [] 0,
    .ringRecall 0 0 0 0 0 (List.replicate 513 0) 0,
    .recallReply 0 (2 ^ 16) 0 0 0 [] 0,
    .recallReply 0 0 (2 ^ 16) 0 0 [] 0,
    .recallReply 0 0 0 (2 ^ 32) 0 [] 0,
    .recallReply 0 0 0 0 (2 ^ 16) [] 0,
    .recallReply 0 0 0 0 0 (List.replicate 513 0) 0,
    .izxRxCrc 0 false 0 (2 ^ 16) 0,
    .openBox 0 0 (2 ^ 64) 0 false 0,
    .openBox 0 0 0 (2 ^ 32) false 0,
    .regRead 0 0 (2 ^ 32) [] 0,
    .regRead 0 0 0 (List.replicate 4161 0) 0,
    .regWrite 0 0 (2 ^ 32) [] 0,
    .regWrite 0 0 0 (List.replicate 4161 0) 0,
    .dramWrite 0 0 (2 ^ 32) [] 0,
    .dramWrite 0 0 0 (List.replicate 4161 0) 0] : List Instr).all (fun i => !i.wellFormed) = true := by
  decide +kernel

theorem test_illFormed_4 : ([
    .dramWriteDone 0 (2 ^ 32) 0,
    .dramRead 0 0 (2 ^ 32) [] 0,
    .dramRead 0 0 0 (List.replicate 4161 0) 0,
    .itemQuery 0 0 (2 ^ 32) [] 0,
    .itemQuery 0 0 0 (List.replicate 4161 0) 0,
    .trackQuery 0 0 (2 ^ 32) [] 0,
    .trackQuery 0 0 0 (List.replicate 4161 0) 0,
    .sceneDataBegin 0 0 (2 ^ 32) [] 0,
    .sceneDataBegin 0 0 0 (List.replicate 4160 0) 0,
    .sceneDataChunk 0 0 (2 ^ 32) [] 0,
    .sceneDataChunk 0 0 0 (List.replicate 4160 0) 0,
    .sceneDataEnd 0 0 (2 ^ 32) [] 0,
    .sceneDataEnd 0 0 0 (List.replicate 4160 0) 0,
    .promptDataBegin 0 0 (2 ^ 32) [] 0,
    .promptDataBegin 0 0 0 (List.replicate 4160 0) 0,
    .promptDataChunk 0 0 (2 ^ 32) [] 0,
    .promptDataChunk 0 0 0 (List.replicate 4160 0) 0,
    .promptDataEnd 0 0 (2 ^ 32) [] 0,
    .promptDataEnd 0 0 0 (List.replicate 4160 0) 0,
    .subscribe 0 0 (2 ^ 32) [] 0,
    .subscribe 0 0 0 (List.replicate 4161 0) 0,
    .seriesQuery 0 0 (2 ^ 32) [] 0,
    .seriesQuery 0 0 0 (List.replicate 4161 0) 0,
    .cpMasterRegisterAccess (2 ^ 38) false none 0,
    .cpMasterRegisterAccess 0 false (some (2 ^ 64)) 0,
    .cpMasterDramAccess (2 ^ 38) false none 0,
    .cpMasterDramAccess 0 false (some (2 ^ 64)) 0,
    .slaveWindowAccess ({ master := .prompter, addr := 2 ^ 21, wide := false, data := none }) 0,
    .slaveWindowAccess ({ master := .prompter, addr := 0, wide := false, data := some (2 ^ 32) }) 0,
    .slaveWindowAccess ({ master := .prompter, addr := 0, wide := true, data := some (2 ^ 64) }) 0,
    .prbSelWrite .prompter 0 (2 ^ 64) 0,
    .stageEraseDone (2 ^ 16) 0,
    .stageChecksDone (2 ^ 32) none none false 0,
    .stageChecksDone 0 (some (2 ^ 16)) none false 0,
    .stageChecksDone 0 none (some { cls := 0, x := 0, y := 0, index := 0, drivers := 1, count := 1 }) false 0,
    .stageChecksDone 0 none (some { cls := 0, x := 552, y := 0, index := 0, drivers := 2, count := 1 }) false 0,
    .cfgSceneArm .prompter (2 ^ 16) false false 0,
    .cfgSceneChanged [16] 0,
    .cfgSceneChanged (List.replicate 17 0) 0,
    .flcOpDone 0 (2 ^ 16) false 0,
    .dmcFreqDone (some (2, 0, 0, 0)) 0,
    .dmcUncorrectable 0 { addr := 2 ^ 40, syndrome := 0, beat := 0, subch := false, hist := [] } 0,
    .dmcCaParity 0 { addr := 2 ^ 40, syndrome := 0, beat := 0, subch := false, hist := [] } 0,
    .clkDomWrite .prompter 0 (2 ^ 64) 0,
    .wakeAccess ({ master := .prompter, addr := 2 ^ 21, wide := false, data := none }) 0,
    .wakeAccess ({ master := .prompter, addr := 0, wide := false, data := some (2 ^ 32) }) 0,
    .wakeAccess ({ master := .prompter, addr := 0, wide := true, data := some (2 ^ 64) }) 0,
    .gpioPinWrite .prompter 0 (2 ^ 64) 0] : List Instr).all (fun i => !i.wellFormed) = true := by
  decide +kernel

theorem test_illFormed_5 : ([
    .gpioMwrWrite .prompter 0 (2 ^ 64) 0,
    .gpioMoeWrite .prompter 0 (2 ^ 64) 0,
    .gpioPattern 0 (2 ^ 32) 0 0,
    .gpioPattern 0 0 (2 ^ 32) 0,
    .uartDataWrite .prompter 0 (2 ^ 64) 0,
    .spiDataWrite .prompter 0 (2 ^ 64) 0,
    .prompterLine [2 ^ 7] 0,
    .prompterRead (2 ^ 40) 0 0,
    .prompterRead 0 (2 ^ 16) 0,
    .prompterRead64 (2 ^ 40) 0,
    .prompterWrite (2 ^ 40) 0 0,
    .prompterWrite 0 (2 ^ 64) 0,
    .prompterWrite64 (2 ^ 40) 0 0,
    .prompterWrite64 0 (2 ^ 64) 0,
    .prompterLog (2 ^ 16) 0,
    .prompterRespond (List.replicate 63 0) 0,
    .slaveWindowAck (2 ^ 64) 0 0] : List Instr).all (fun i => !i.wellFormed) = true := by
  decide +kernel

/-! ### The hypotheses of the other statements are met -/

theorem witness_EmptyQueueIdles :
    State.reset.pending = [] ∧ State.reset.fabRuns = false := by decide +kernel

theorem witness_EmptyQueueIdles_running :
    (let s : State := { State.reset with sys := { held := false, done := [5] }, regs := [(0x100, 0x8000002#64), (0x20000, 0xfffff#64)] }
     s.pending = [] ∧ s.fabRuns = true ∧ s.calm = true) := by decide +kernel

theorem witness_ResetHoldsTheResetValues :
    F.SYS_MODE_MODE.hi < 64 := by decide

theorem witness_EveryStepKeepsTheMemoryForm :
    ({ upState with pending := [.prbUser 31 0] } : State).memOk = true ∧
      ∃ t, step { upState with pending := [.prbUser 31 0] } = .next t := ⟨by decide +kernel, _, rfl⟩

theorem witness_AnyRunOfCommandsCompletes :
    ({ upState with pending := [.prbUser 0 0, .prbUser 1 5] } : State).memOk = true ∧
      2 ≤ ({ upState with pending := [.prbUser 0 0, .prbUser 1 5] } : State).pending.length := by decide +kernel

theorem witness_BytesOutsideTheStoresKeepTheirValue :
    (let b : State := { upState with stores := [.dram 8 [1], .flash 16 [2], .norErase 0 4096] }
     (∀ x ∈ b.settleAll.eventsSend.stores, x.dramHit 9 = false) ∧ (∀ x ∈ b.settleAll.eventsSend.stores, x.flashHit 15 = false) ∧
      (∀ x ∈ b.settleAll.eventsSend.stores, x.norHit 4096 = false) ∧ b.still = true) := by decide +kernel

theorem witness_FabricWriteStoresItsBytesOnly :
    (let s : State := { State.reset with sys := { held := false }, regs := [(0x100, 0x8000002#64), (0x20000, 0xfffff#64), (0x80000, 0x20000000#64), (0x90000, 0x20000000#64)], regions := [{ kind := 0, base := 0, size := 4096 }] }
     s.sys.held = false ∧ (begin 7 s).calm = true ∧ s.cfg.swap = none ∧ (begin 7 s).cpMayWrite 4088 (if true then 8 else 4) = true ∧
      (begin 7 s).dramReady = true ∧ s.get F.PWR_STATUS_STATE = 0) := by decide +kernel

theorem witness_FlashCommandsChangeTheirBytesOnly_Program :
    (let s : State := { State.reset with sys := { held := false }, regs := [(0x100, 0x8000002#64), (0x20000, 0xfffff#64)], cfg := { flc := some { op := 2, addr := 8388592, data := List.replicate 16 0x5A } } }
     let o : FlcOp := { op := 2, addr := 8388592, data := List.replicate 16 0x5A }
     s.sys.held = false ∧ (begin 7 s).still = true ∧ s.cfg.flc = some o ∧ bits o.addr 31 28 = 0 ∧
      bits o.addr 25 0 < 8388608 ∧ bits o.addr 25 0 % 16 = 0 ∧ (begin 7 s).flcRefused o = none ∧ o.op = 2 ∧ o.data.length = 16) := by decide +kernel

theorem witness_FlashCommandsChangeTheirBytesOnly_Erase :
    (let s : State := { State.reset with sys := { held := false }, regs := [(0x100, 0x8000002#64), (0x20000, 0xfffff#64)], cfg := { flc := some { op := 3, addr := 8388592, data := [] } } }
     let o : FlcOp := { op := 3, addr := 8388592, data := [] }
     s.sys.held = false ∧ (begin 7 s).still = true ∧ s.cfg.flc = some o ∧ bits o.addr 31 28 = 0 ∧
      bits o.addr 25 0 < 8388608 ∧ bits o.addr 25 0 % 16 = 0 ∧ (begin 7 s).flcRefused o = none ∧ o.op = 3) := by decide +kernel

theorem witness_GuardedRegistersStoreAndReadThePair :
    (findReg 0x108 = some (⟨⟨.SYS_MODE_REQ, 0x108, 0x0, 1, 0x0, 1, true, true, 0x7, 0x0, 0x0, 0x0, 0x0⟩, 0, 0, 0⟩ : RegAt) ∧ inWindow 0x108 = false ∧ 2 ^ 32 - 1 < 2 ^ 32) ∧
    (findReg 0x10C = some (⟨⟨.SYS_MODE_REQ, 0x108, 0x0, 1, 0x0, 1, true, true, 0x7, 0x0, 0x0, 0x0, 0x0⟩, 0, 0, 4⟩ : RegAt) ∧ inWindow 0x10C = false) ∧
    (∀ r ∈ [(⟨⟨.SYS_MODE_REQ, 0x108, 0x0, 1, 0x0, 1, true, true, 0x7, 0x0, 0x0, 0x0, 0x0⟩, 0, 0, 0⟩ : RegAt), ⟨⟨.SYS_MODE_REQ, 0x108, 0x0, 1, 0x0, 1, true, true, 0x7, 0x0, 0x0, 0x0, 0x0⟩, 0, 0, 4⟩], r.row.wg = true) ∧
    upState.sys.held = false ∧ (begin 7 upState).granted .prompter ⟨0x108, 0, 0, 0⟩ true = true ∧
    (begin 7 upState).granted (.box 3) ⟨0x10C, 0, 0, 0⟩ false = true := by decide +kernel

theorem witness_OtherWritesToGuardedRegistersAreDiscarded :
    findReg 0x108 = some (⟨⟨.SYS_MODE_REQ, 0x108, 0x0, 1, 0x0, 1, true, true, 0x7, 0x0, 0x0, 0x0, 0x0⟩, 0, 0, 0⟩ : RegAt) ∧ inWindow 0x108 = false ∧
    (0xFFFFFFFB00000005 < 2 ^ 64 ∧ 0xFFFFFFFB00000005 / 2 ^ 32 ≠ 0xFFFFFFFF - 0xFFFFFFFB00000005 % 2 ^ 32) ∧
    (begin 7 upState).granted .prompter ⟨0x108, 0, 0, 0⟩ true = true ∧ upState.sys.held = false := by decide +kernel

theorem witness_EmptyAddressesReadZeroAndRaiseTheFault :
    (findReg 0x250 = none ∧ findReg (0x250 + 4) = none ∧ inWindow 0x250 = false) ∧ upState.sys.held = false ∧
    (begin 7 upState).granted .prompter ⟨0x250, 0, 0, 0⟩ true = true ∧
    (begin 7 upState).granted .prompter ⟨0x250, 0, 0, 0⟩ false = true := by decide +kernel

theorem witness_ClosedLifeCyclesAnswerAsEmptyAddresses_scrap :
    (let s : State := { State.reset with sys := { held := false }, regs := [(0x100, 0x8000002#64), (0x20000, 0xfffff#64)], lcy := { value := 0xFFFFFFFFFFFFFFFF, compl := 0 } }
     let u := begin 7 s
     s.sys.held = false ∧ u.mayReg .prompter 0x10018 true = true ∧ (u.lcyState = 6) ∧
      ¬ ((some 5 : Option Nat) = none ∧ ((0x10018 : Nat) < 0x100 ∨ ((0x10000 : Nat) ≤ 0x10018 ∧ (0x10018 : Nat) < 0x20000)))) := by decide +kernel

theorem witness_ClosedLifeCyclesAnswerAsEmptyAddresses_limbo :
    (let s : State := { State.reset with sys := { held := false }, regs := [(0x100, 0x8000002#64), (0x20000, 0xfffff#64)], lcy := { value := 1, compl := 0 } }
     let u := begin 7 s
     s.sys.held = false ∧ u.mayReg .prompter 0x10018 true = true ∧ (u.lcyState = 7 ∧ ¬ ((0x10018 : Nat) = 0x10018 ∧ true = true ∧ some 5 = some (0xFFFFFFF9 * 2 ^ 32 + 6))) ∧
      ¬ ((some 5 : Option Nat) = none ∧ ((0x10018 : Nat) < 0x100 ∨ ((0x10000 : Nat) ≤ 0x10018 ∧ (0x10018 : Nat) < 0x20000)))) := by decide +kernel

theorem witness_WrittenBitsFollowTheirAccessCode :
    regRows.any (fun w => w.w1c != 0 && (w.rw &&& w.w1c == 0)) = true := by decide +kernel

theorem witness_RaisingSetsTheFlagAndCounts :
    1023 < 1024 ∧ 31 < 32 ∧ 1023 ≠ Ev.IZX_EVENT_LOST ∧ (upState.put (F.CUE_SRC_ROUTE_EN 1023) 0).cueGated = false ∧ (0 : Nat) ≠ 31 ∧
    ((upState.put (F.CUE_SRC_ROUTE_EN 1023) 0).before (F.CUE_SRC_ROUTE 1023)).testBit 15 = false := by decide +kernel

theorem witness_EventStoresKeepTheirDepth :
    State.reset.cue.log.length ≤ 4096 ∧ ∀ b, (State.reset.box b).events.length ≤ 256 := ⟨by decide, fun _ => Nat.zero_le _⟩

/-- The digits 3 and 9 are below the radices 4 and 10. -/
theorem witness_RadixWordsCompareByTheFirstUnequalDigit :
    [9, 3].length = ([{ radix := 10, alph := 0 }, { radix := 4, alph := 0 }] : List VDigit).length ∧
    (∀ k : Nat, ∀ d x, ([{ radix := 10, alph := 0 }, { radix := 4, alph := 0 }] : List VDigit)[k]? = some d →
      [9, 3][k]? = some x → x < d.radix) ∧
    ([9, 3] : List Nat)[1]? = some 3 ∧ ([9, 2] : List Nat)[1]? = some 2 ∧
    (∀ j, 1 < j → ([9, 3] : List Nat)[j]? = ([9, 2] : List Nat)[j]?) := by
  refine ⟨rfl, fun k d x hd hx => ?_, rfl, rfl, fun j hj => ?_⟩
  · match k, hd, hx with
    | 0, hd, hx => cases hd; cases hx; decide
    | 1, hd, hx => cases hd; cases hx; decide
    | k + 2, hd, _ => simp at hd
  · match j, hj with
    | j + 2, _ => simp

/-- A word of two ordinary digits at its highest value, and an addend below the capacity. -/
theorem witness_OrdinaryAdditionIsModuloTheCapacity :
    (∀ d ∈ ([{ radix := 10, alph := 0 }, { radix := 4, alph := 0 }] : List VDigit), 0 < d.radix ∧ d.carry = 0) ∧
    39 < capacity [{ radix := 10, alph := 0 }, { radix := 4, alph := 0 }] := by
  decide

theorem witness_RadixDigitsAndValuesRoundTrip :
    ∀ d ∈ ([{ radix := 10, alph := 0 }, { radix := 4, alph := 0 }] : List VDigit), 0 < d.radix := by decide

theorem witness_LifeCycleRefusesByTheFirstMatchingCode_2 :
    (let s : State := { State.reset with sys := { held := false }, regs := [(0x100, 0x8000002#64), (0x20000, 0xfffff#64)], lcy := { value := 0x0, compl := 0xffffffffffffffff, op := some .verify } }
     let u := begin 7 s
     let w := u.put F.LCY_STATUS_HOLDUP (bit true)
     s.sys.held = false ∧ w.granted .prompter F.LCY_TRANSITION true = true ∧
       ([(2, u.lcy.op.isSome),
          (3, !((u.lcyState = 0 ∧ 1 = 1) ∨ (u.lcyState = 1 ∧ 1 = 2) ∨ (u.lcyState = 2 ∧ 1 = 3) ∨
            (u.lcyState = 3 ∧ 1 = 4) ∨ (u.lcyState = 2 ∧ 1 = 5) ∨ (u.lcyState = 3 ∧ 1 = 5) ∨
            (u.lcyState = 4 ∧ 1 = 5) ∨ (u.lcyState ≠ 6 ∧ 1 = 6))),
          (4, !(u.mode = 0 ∨ u.mode = 1 ∨ u.mode = 2 ∨ u.mode = 7)),
          (5, 1 = 4 ∧ u.token = none), (6, u.sys.earlyWarning), (7, !true)] : List (Nat × Bool)).find? (fun x => x.2) =
          some (2, true)) := by decide +kernel

theorem witness_LifeCycleRefusesByTheFirstMatchingCode_3 :
    (let s : State := { State.reset with sys := { held := false }, regs := [(0x100, 0x8000002#64), (0x20000, 0xfffff#64)], lcy := { value := 0x0, compl := 0xffffffffffffffff } }
     let u := begin 7 s
     let w := u.put F.LCY_STATUS_HOLDUP (bit true)
     s.sys.held = false ∧ w.granted .prompter F.LCY_TRANSITION true = true ∧
       ([(2, u.lcy.op.isSome),
          (3, !((u.lcyState = 0 ∧ 2 = 1) ∨ (u.lcyState = 1 ∧ 2 = 2) ∨ (u.lcyState = 2 ∧ 2 = 3) ∨
            (u.lcyState = 3 ∧ 2 = 4) ∨ (u.lcyState = 2 ∧ 2 = 5) ∨ (u.lcyState = 3 ∧ 2 = 5) ∨
            (u.lcyState = 4 ∧ 2 = 5) ∨ (u.lcyState ≠ 6 ∧ 2 = 6))),
          (4, !(u.mode = 0 ∨ u.mode = 1 ∨ u.mode = 2 ∨ u.mode = 7)),
          (5, 2 = 4 ∧ u.token = none), (6, u.sys.earlyWarning), (7, !true)] : List (Nat × Bool)).find? (fun x => x.2) =
          some (3, true)) := by decide +kernel

theorem witness_LifeCycleRefusesByTheFirstMatchingCode_4 :
    (let s : State := { State.reset with sys := { held := false }, regs := [(0x100, 0x8000003#64), (0x20000, 0xfffff#64)], lcy := { value := 0x0, compl := 0xffffffffffffffff } }
     let u := begin 7 s
     let w := u.put F.LCY_STATUS_HOLDUP (bit true)
     s.sys.held = false ∧ w.granted .prompter F.LCY_TRANSITION true = true ∧
       ([(2, u.lcy.op.isSome),
          (3, !((u.lcyState = 0 ∧ 6 = 1) ∨ (u.lcyState = 1 ∧ 6 = 2) ∨ (u.lcyState = 2 ∧ 6 = 3) ∨
            (u.lcyState = 3 ∧ 6 = 4) ∨ (u.lcyState = 2 ∧ 6 = 5) ∨ (u.lcyState = 3 ∧ 6 = 5) ∨
            (u.lcyState = 4 ∧ 6 = 5) ∨ (u.lcyState ≠ 6 ∧ 6 = 6))),
          (4, !(u.mode = 0 ∨ u.mode = 1 ∨ u.mode = 2 ∨ u.mode = 7)),
          (5, 6 = 4 ∧ u.token = none), (6, u.sys.earlyWarning), (7, !true)] : List (Nat × Bool)).find? (fun x => x.2) =
          some (4, true)) := by decide +kernel

theorem witness_LifeCycleRefusesByTheFirstMatchingCode_5 :
    (let s : State := { State.reset with sys := { held := false }, regs := [(0x100, 0x8000002#64), (0x20000, 0xfffff#64)], lcy := { value := 0xffffff, compl := 0xffffffffff000000, tokVal := 0xFF, tokNot := 0 } }
     let u := begin 7 s
     let w := u.put F.LCY_STATUS_HOLDUP (bit true)
     s.sys.held = false ∧ w.granted .prompter F.LCY_TRANSITION true = true ∧
       ([(2, u.lcy.op.isSome),
          (3, !((u.lcyState = 0 ∧ 4 = 1) ∨ (u.lcyState = 1 ∧ 4 = 2) ∨ (u.lcyState = 2 ∧ 4 = 3) ∨
            (u.lcyState = 3 ∧ 4 = 4) ∨ (u.lcyState = 2 ∧ 4 = 5) ∨ (u.lcyState = 3 ∧ 4 = 5) ∨
            (u.lcyState = 4 ∧ 4 = 5) ∨ (u.lcyState ≠ 6 ∧ 4 = 6))),
          (4, !(u.mode = 0 ∨ u.mode = 1 ∨ u.mode = 2 ∨ u.mode = 7)),
          (5, 4 = 4 ∧ u.token = none), (6, u.sys.earlyWarning), (7, !true)] : List (Nat × Bool)).find? (fun x => x.2) =
          some (5, true)) := by decide +kernel

theorem witness_LifeCycleRefusesByTheFirstMatchingCode_6 :
    (let s : State := { State.reset with sys := { held := false, earlyWarning := true }, regs := [(0x100, 0x8000002#64), (0x20000, 0xfffff#64)], lcy := { value := 0xffff, compl := 0xffffffffffff0000 } }
     let u := begin 7 s
     let w := u.put F.LCY_STATUS_HOLDUP (bit true)
     s.sys.held = false ∧ w.granted .prompter F.LCY_TRANSITION true = true ∧
       ([(2, u.lcy.op.isSome),
          (3, !((u.lcyState = 0 ∧ 3 = 1) ∨ (u.lcyState = 1 ∧ 3 = 2) ∨ (u.lcyState = 2 ∧ 3 = 3) ∨
            (u.lcyState = 3 ∧ 3 = 4) ∨ (u.lcyState = 2 ∧ 3 = 5) ∨ (u.lcyState = 3 ∧ 3 = 5) ∨
            (u.lcyState = 4 ∧ 3 = 5) ∨ (u.lcyState ≠ 6 ∧ 3 = 6))),
          (4, !(u.mode = 0 ∨ u.mode = 1 ∨ u.mode = 2 ∨ u.mode = 7)),
          (5, 3 = 4 ∧ u.token = none), (6, u.sys.earlyWarning), (7, !true)] : List (Nat × Bool)).find? (fun x => x.2) =
          some (6, true)) := by decide +kernel

theorem witness_LifeCycleRefusesByTheFirstMatchingCode_7 :
    (let s : State := { State.reset with sys := { held := false }, regs := [(0x100, 0x8000002#64), (0x20000, 0xfffff#64)], lcy := { value := 0xffff, compl := 0xffffffffffff0000 } }
     let u := begin 7 s
     let w := u.put F.LCY_STATUS_HOLDUP (bit false)
     s.sys.held = false ∧ w.granted .prompter F.LCY_TRANSITION true = true ∧
       ([(2, u.lcy.op.isSome),
          (3, !((u.lcyState = 0 ∧ 5 = 1) ∨ (u.lcyState = 1 ∧ 5 = 2) ∨ (u.lcyState = 2 ∧ 5 = 3) ∨
            (u.lcyState = 3 ∧ 5 = 4) ∨ (u.lcyState = 2 ∧ 5 = 5) ∨ (u.lcyState = 3 ∧ 5 = 5) ∨
            (u.lcyState = 4 ∧ 5 = 5) ∨ (u.lcyState ≠ 6 ∧ 5 = 6))),
          (4, !(u.mode = 0 ∨ u.mode = 1 ∨ u.mode = 2 ∨ u.mode = 7)),
          (5, 5 = 4 ∧ u.token = none), (6, u.sys.earlyWarning), (7, !false)] : List (Nat × Bool)).find? (fun x => x.2) =
          some (7, true)) := by decide +kernel

theorem witness_EachNonceServesOneVerify :
    (let s : State := { State.reset with sys := { held := false }, regs := [(0x100, 0x8000002#64), (0x20000, 0xfffff#64)], lcy := { op := some .verify } }
     s.sys.held = false ∧ s.lcy.op = some .verify ∧ (begin 7 s).still = true) := by decide +kernel

theorem witness_MaskedWritesChangeTheMaskedBits :
    upState.sys.held = false ∧ 2 ^ 32 - 1 < 2 ^ 32 ∧ (begin 7 upState).calm = true ∧
    upState.granted .prompter (F.GPIO_MWR 39) true = true ∧ upState.granted .prompter (F.GPIO_MOE 39) true = true := by decide +kernel

theorem witness_SettingAndPortCommandsLeaveTheRest :
    upState.sys.held = false ∧ (begin 7 upState).calm = true ∧ upState.granted .prompter (F.PRB_SEL 15) true = true ∧
    tblGet none (begin 7 upState).hits (F.PRB_SEL 15).addr = none := by decide +kernel

theorem witness_WhatIsPutOffTakesPlaceWhenItsInstantEnds :
    upState.later = [] ∧ upState.more = false ∧ ({ upState with pending := [.prompterId 0] } : State).more = true ∧
    ({ upState with pending := [.prompterId 0] } : State).later = [] ∧ (Later.close 0 1).rank < Later.switch.rank := by decide +kernel

theorem witness_EventCommandsLeaveTheRest :
    (let s : State := { State.reset with sys := { held := false, done := [5] }, regs := [(0x100, 0x8000002#64), (0x20000, 0xfffff#64), (0x140300, 0x80000036#64), (0x140704, 0x2#64)] }
     s.sys.held = false ∧ (begin 7 s).still = true ∧ s.phaseDone 5 = true ∧
       (s.flag (F.UART_CTRL_EN 3) = true ∧ s.mode ≠ 5) ∧
       (s.flag (F.SPI_STATUS_BUSY 3) = true ∧ (s.spi 3).tx = [] ∧ (s.spi 3).shifting = none ∧
         s.flag (F.SPI_CTRL_CS_HOLD 3) = false)) := by decide +kernel

theorem witness_TransitionsBeginWithTheirFusesOnly :
    ∀ p ∈ [(({ State.reset with sys := { held := false }, regs := [(0x100, 0x8000002#64), (0x20000, 0xfffff#64)], lcy := { value := 0x0, compl := 0xffffffffffffffff } } : State), 1),
      (({ State.reset with sys := { held := false }, regs := [(0x100, 0x8000002#64), (0x20000, 0xfffff#64)], lcy := { value := 0xff, compl := 0xffffffffffffff00 } } : State), 2),
      (({ State.reset with sys := { held := false }, regs := [(0x100, 0x8000002#64), (0x20000, 0xfffff#64)], lcy := { value := 0xffff, compl := 0xffffffffffff0000 } } : State), 3),
      (({ State.reset with sys := { held := false }, regs := [(0x100, 0x8000002#64), (0x20000, 0xfffff#64)], lcy := { value := 0xffffff, compl := 0xffffffffff000000, tokVal := 0, tokNot := 0xFF } } : State), 4),
      (({ State.reset with sys := { held := false }, regs := [(0x100, 0x8000002#64), (0x20000, 0xfffff#64)], lcy := { value := 0xffff, compl := 0xffffffffffff0000 } } : State), 5),
      (({ State.reset with sys := { held := false }, regs := [(0x100, 0x8000002#64), (0x20000, 0xfffff#64)], lcy := { value := 0xff, compl := 0xffffffffffffff00 } } : State), 6)],
      p.1.sys.held = false ∧ (begin 7 p.1).calm = true ∧
      (p.1.put F.LCY_STATUS_HOLDUP 1).granted .prompter F.LCY_TRANSITION true = true ∧ p.1.lcyFault p.2 true = none := by decide +kernel

theorem witness_FlagsSetInTheInstantOfAnAccessStaySet_flag :
    (let r : RegAt := ⟨⟨.UART_STATUS, 0x140004, 0x100, 4, 0x0, 1, false, false, 0x0, 0xF, 0x0, 0x0, 0x0⟩, 3, 0, 0⟩
     let f := F.UART_STATUS_BREAK 3
     findReg f.addr = some r ∧ r.addr = f.addr ∧ r.reset = f.rst ∧ f.lo ≤ f.hi ∧ f.hi < 64 ∧ r.row.rw &&& r.row.w1c = 0 ∧
      Nat.testBit 1 0 = true ∧ f.lo + 0 ≤ f.hi ∧ r.row.w1c.testBit (f.lo + 0) = true) := by decide +kernel

theorem witness_FlagsSetInTheInstantOfAnAccessStaySet_count :
    (let r : RegAt := ⟨⟨.IZX_BOX_DENIED, 0xA0124, 0x40, 15, 0x0, 1, false, false, 0x0, 0x0, 0xFFFFFFFF, 0x0, 0x0⟩, 14, 0, 0⟩
     let f := F.IZX_BOX_DENIED 14
     findReg f.addr = some r ∧ r.addr = f.addr ∧ r.reset = f.rst ∧ f.lo ≤ f.hi ∧ f.hi < 64 ∧ r.row.rw &&& r.row.w1c = 0 ∧
      tblGet none upState.hits f.addr = none ∧ r.row.rc ≠ 0) := by decide +kernel

/-- Of the columns of the left half one stands first in the order of their keys. -/
theorem firstColumn : ∀ n : Nat, 0 < n → ∃ x, x < n ∧
    ∀ y, y < n → Config.columnKey x < Config.columnKey y ∨ (Config.columnKey x = Config.columnKey y ∧ x ≤ y)
  | 0, h => absurd h (Nat.lt_irrefl 0)
  | 1, _ => ⟨0, Nat.one_pos, fun y _ => by
      have : y = 0 := by omega
      subst this
      exact .inr ⟨rfl, Nat.le_refl 0⟩⟩
  | n + 2, _ => by
    obtain ⟨x, hx, h⟩ := firstColumn (n + 1) (Nat.succ_pos n)
    by_cases hk : Config.columnKey (n + 1) < Config.columnKey x
    · refine ⟨n + 1, Nat.lt_succ_self _, fun y hy => ?_⟩
      by_cases e : y = n + 1
      · exact .inr ⟨by rw [e], Nat.le_of_eq e.symm⟩
      · have := h y (by omega)
        exact .inl (by omega)
    · refine ⟨x, by omega, fun y hy => ?_⟩
      by_cases e : y = n + 1
      · subst e; omega
      · exact h y (by omega)

/-- A flip-flop in the column of logic blocks that stands first in its half. -/
theorem witness_FlipFlopsTakeTheirDataAtTheirEdges : ∃ (d : Design) (n : Nat) (c : FfCfg), d.ff? n = some c := by
  obtain ⟨x, hx, h⟩ := firstColumn 276 (by decide)
  have hr : columnRank x = 0 := by
    unfold columnRank
    rw [List.length_eq_zero_iff, List.filter_eq_nil_iff]
    intro j hj
    have hj := List.mem_range.1 hj
    have hd : x / 276 * 276 + j = j := by
      rw [Nat.div_eq_of_lt hx]
      omega
    have hk := h j hj
    dsimp only
    rw [hd]
    simp only [Bool.or_eq_true, decide_eq_true_eq, Bool.and_eq_true, beq_iff_eq]
    omega
  let c : FfCfg := { d := .high, clk := 0, ce := .high, sr := .low, srSet := false, arst := none, init := false }
  let e : CellCfg := { lut := .one 0 [], gen := none, ff0 := some c, ff1 := none }
  refine ⟨{ cells := [((x, 0, 0), e)] }, x * 4096, c, ?_⟩
  have h1 : x * 4096 / 4096 = x := by omega
  have h2 : x * 4096 / 16 % 256 = 0 := by omega
  have h3 : x * 4096 / 2 % 8 = 0 := by omega
  have h4 : x * 4096 % 2 = 0 := by omega
  have hc : ({ cells := [((x, 0, 0), e)] } : Design).cell? x 0 0 = some e := by
    unfold Design.cell? columnKind inGrid
    rw [hr, if_pos ⟨by simp; omega, by decide, by decide⟩]
    simp
  unfold Design.ff?
  rw [h1, h2, h3, hc]
  simp [h4, e]

theorem witness_TheTileCacheKeepsSixteenWays :
    (∀ n ≤ 16, (List.range n).length ≤ 16) ∧ (({ upState with frg := { upState.frg with cache := [(5, List.range 16)], pins := List.range 15 } } : State).cacheLine (cacheSet 8197)).length ≤ 16 ∧
    (∃ v ∈ ({ upState with frg := { upState.frg with cache := [(5, List.range 16)], pins := List.range 15 } } : State).cacheLine (cacheSet 8197),
      v ∉ List.range 15) := ⟨fun n h => by simpa using h, by decide +kernel, ⟨15, by decide +kernel, by decide⟩⟩

/-! ### Values from the spec -/

/-- The check value of CRC-32C over the digits 1 to 9. -/
theorem test_crc32c_check_value :
    crc32c [0x31, 0x32, 0x33, 0x34, 0x35, 0x36, 0x37, 0x38, 0x39] = 0xE3069283 := by decide +kernel

/-- The worked example of R18. -/
theorem test_guard_pair_of_five :
    guardPair 5 = 0xFFFFFFFA00000005 := by decide
end

section
/-! PROOFS. How a run of commands proceeds, what a step with no command does, the state after reset, and what a write leaves
of each bit of a register. -/

namespace Sys2Proof.Machine

/-! ### How a run of commands proceeds -/

/-- What a command ends in keeps the queue, advances the clock, leaves no store waiting and keeps the form of the memories. -/
theorem exec_ends (c : Instr) (s : State) : ∃ t : State, exec c s = .next t ∧ t.pending = s.pending ∧
    t.now = max s.now c.time ∧ t.stores = [] ∧ (s.memOk = true → t.memOk = true) := by
  obtain ⟨b, hb⟩ := exec_finishes c s
  exact ⟨_, hb, rfl, rfl, rfl, finish_memOk c.time s b⟩

/-- A step takes the command at the front of the queue, advances the clock to it and keeps the form of the memories. -/
theorem step_front {s : State} {c : Instr} {rest : List Instr} (hp : s.pending = c :: rest) : ∃ t : State,
    step s = .next t ∧ t.pending = rest ∧ t.now = max s.now c.time ∧ (s.memOk = true → t.memOk = true) := by
  obtain ⟨t, ht, hq, hn, -, hm⟩ := exec_ends c { s with pending := rest }
  refine ⟨t, ?_, hq, hn, hm⟩
  rw [← ht]
  unfold step
  rw [hp]

/-- Once one step has answered, the steps that follow go on from its answer. -/
theorem stepMany_succ {s t : State} (n : Nat) (h : step s = .next t) : stepMany (n + 1) s = stepMany n t := by
  simp only [stepMany, h]

/-- Settles O1: it is how step is defined on a queue that is not empty. -/
theorem stepRunsTheFrontCommand : Obligations.StepRunsTheFrontCommand := fun _ _ _ => rfl

/-- Settles O3: every arm of exec ends in `finish`, which restores the queue and empties the stores. -/
theorem everyCommandEndsInANextState : Obligations.EveryCommandEndsInANextState := by
  intro c s
  obtain ⟨t, ht, hp, hn, hs, -⟩ := exec_ends c s
  exact ⟨t, ht, hp, hn, hs⟩

/-- Settles O6, by induction on the number of steps, for every state at once. -/
theorem anyRunOfCommandsCompletes : Obligations.AnyRunOfCommandsCompletes := by
  intro s n hm hn
  induction n generalizing s with
  | zero => exact ⟨s, rfl, rfl, hm, Nat.le_refl _, by simp⟩
  | succ n ih =>
    cases hp : s.pending with
    | nil => simp [hp] at hn
    | cons c rest =>
      obtain ⟨u, hu, hur, hun, hum⟩ := step_front hp
      obtain ⟨t, ht, htp, htm, htn, htc⟩ := ih u (hum hm) (by rw [hur]; simpa [hp] using hn)
      have hc : max s.now c.time ≤ t.now := hun ▸ htn
      refine ⟨t, (stepMany_succ n hu).trans ht, by rw [htp, hur]; rfl, htm, Nat.le_trans (Nat.le_max_left _ _) hc, ?_⟩
      rw [List.take_succ_cons, List.forall_mem_cons, ← hur]
      exact ⟨Nat.le_trans (Nat.le_max_right _ _) hc, htc⟩

/-! ### A step with no command waiting -/

/-- Settling the fabric changes the fabric and the counter of free values only. -/
theorem State.fabSettle_only (s : State) : ∃ (f : Fab) (n : Nat), s.fabSettle = { s with fab := f, freeIx := n } := by
  unfold State.fabSettle
  split
  · exact ⟨s.fab, s.freeIx, rfl⟩
  · exact ⟨_, _, rfl⟩

/-- A tick of the fabric's clocks changes the fabric and the counter of free values only. -/
theorem State.fabTick_only (s : State) : ∃ (f : Fab) (n : Nat), s.fabTick = { s with fab := f, freeIx := n } := by
  obtain ⟨f, n, h⟩ := State.fabSettle_only
    { s with
      fab := s.fab.edges s.fabInputs s.fabInputs (Config.free s.freeIx % 2 ^ 16 &&& s.fabTrees) s.fabOn s.fabSources
      freeIx := s.freeIx + 1 }
  exact ⟨f, n, h⟩

/-- Where nothing waits and no event record is queued, none leaves. -/
theorem State.eventsSend_calm (s : State) (h : s.calm = true) : s.eventsSend = s := by
  have hs : s.still = true := by
    unfold State.calm at h
    rw [Bool.and_eq_true] at h
    exact h.1
  calc s.eventsSend = s.settleAll.eventsSend := by rw [State.settleAll_still s hs]
    _ = s := State.settle_calm s h

/-- Settles O2: a tick moves the fabric alone, and in a calm state no event record leaves with it. -/
theorem emptyQueueIdles : Obligations.EmptyQueueIdles := by
  intro s hp
  have hstep : step s = if s.fabRuns then run s.now s State.fabTick else .next s := by
    unfold step
    rw [hp]
  refine ⟨fun hr => by rw [hstep, hr]; rfl, fun hr hc => ?_⟩
  obtain ⟨f, n, hf⟩ := (begin s.now s).fabTick_only
  have hcalm : ({ begin s.now s with fab := f, freeIx := n } : State).calm = true := hc
  rw [hstep, if_pos hr]
  refine ⟨_, rfl, ?_⟩
  rw [hf, State.eventsSend_calm _ hcalm]
  simp [finish, begin]

/-! ### The reset state -/

/-- The bits of a field within 64 bits are those of the number cut to 64 bits. -/
theorem bits_mod_two_pow_64 (v hi lo : Nat) (h : hi < 64) : bits (v % 2 ^ 64) hi lo = bits v hi lo := by
  refine Nat.eq_of_testBit_eq (fun i => ?_)
  rw [testBit_bits, testBit_bits, Nat.testBit_mod_two_pow]
  by_cases hi' : i < hi + 1 - lo
  · simp [hi', show i + lo < 64 by omega]
  · simp [hi']

/-- Settles O4: no register is listed after reset, so each reads as its reset value. -/
theorem resetHoldsTheResetValues : Obligations.ResetHoldsTheResetValues := by
  refine ⟨rfl, rfl, rfl, fun f hf => ?_⟩
  show bits (BitVec.ofNat 64 f.rst).toNat f.hi f.lo = bits f.rst f.hi f.lo
  rw [BitVec.toNat_ofNat, bits_mod_two_pow_64 _ _ _ hf]

/-! ### Bits of a written register, and flags set in the instant of an access -/

/-- Each bit of a number without the bits of a mask. -/
theorem testBit_clearBits (x m i : Nat) : (clearBits x m).testBit i = (x.testBit i && !m.testBit i) :=
  testBit_clear i x m

/-- Each bit that a plain write leaves, read-write bits first. -/
theorem RegRow.testBit_merge (w : RegRow) (old m v i : Nat) : (w.merge old m v).testBit i =
    ((old.testBit i && !(w.rw.testBit i && m.testBit i) && !(w.w1c.testBit i && m.testBit i && v.testBit i)) ||
      (v.testBit i && (w.rw.testBit i && m.testBit i))) := by
  simp only [RegRow.merge, Nat.testBit_or, Nat.testBit_and, testBit_clearBits]

/-- A bit that is write-one-to-clear is not read-write where no bit is both. -/
theorem testBit_rw_of_w1c {w : RegRow} (h : w.rw &&& w.w1c = 0) {i : Nat} (hi : w.w1c.testBit i = true) :
    w.rw.testBit i = false := by
  have hb := congrArg (·.testBit i) h
  simpa [Nat.testBit_and, hi] using hb

/-- Settles O41: no row of the map has a bit of both codes, and the merge of a write treats each code by its mask. -/
theorem writtenBitsFollowTheirAccessCode : Obligations.WrittenBitsFollowTheirAccessCode := by
  refine ⟨by decide +kernel, fun w old m v i h => ?_⟩
  rw [RegRow.testBit_merge]
  cases hm : m.testBit i with
  | false => simp
  | true =>
    cases hc : w.w1c.testBit i with
    | true => simp [testBit_rw_of_w1c h hc]
    | false => cases w.rw.testBit i <;> simp

/-- A note adds the flags set to those noted of the register before, with the value that it had at first. -/
theorem State.hits_note (u : State) (f : Fld) (m : Nat) : tblGet none (u.note f m).hits f.addr =
    some { (tblGet none u.hits f.addr).getD ⟨0, u.regAt f.addr f.rst⟩ with
      bits := ((tblGet none u.hits f.addr).getD ⟨0, u.regAt f.addr f.rst⟩).bits ||| m } := by
  unfold State.note
  rw [tblGet_put_same]

/-- What hardware has noted of a register once it has set flags there, with those flags. -/
theorem State.hits_setFlags (u : State) (f : Fld) (m : Nat) : ∃ h : Hit,
    tblGet none (u.setFlags f m).hits f.addr = some h ∧ ∀ i, (m * 2 ^ f.lo).testBit i = true → h.bits.testBit i = true := by
  refine ⟨_, u.hits_note f (m * 2 ^ f.lo), fun i hi => ?_⟩
  simp [Nat.testBit_or, hi]

/-- A flag that hardware sets stands in its register. -/
theorem State.testBit_setFlags (u : State) (f : Fld) (m i : Nat) (hl : f.lo ≤ f.hi) (hh : f.hi < 64)
    (hm : m.testBit i = true) (hi : f.lo + i ≤ f.hi) :
    ((u.setFlags f m).regAt f.addr f.rst).testBit (f.lo + i) = true := by
  show (((u.note f (m * 2 ^ f.lo)).setRegAt f.addr f.rst _).regAt f.addr f.rst).testBit (f.lo + i) = true
  rw [State.regAt_setRegAt, Nat.testBit_mod_two_pow, testBit_setBits _ _ _ _ _ hl, if_pos ⟨by omega, hi⟩,
    Nat.add_sub_cancel_left, Nat.testBit_or, hm, Bool.or_true, Bool.and_true, decide_eq_true_eq]
  omega

/-- A write of the instant clears no flag that hardware has set in it (R19). -/
theorem State.testBit_clearable (s : State) (r : RegAt) (v i : Nat) (h : Hit) (hh : tblGet none s.hits r.addr = some h)
    (hw : r.row.w1c.testBit i = true) (hb : h.bits.testBit i = true) : (s.clearable r v).testBit i = false := by
  have h0 : r.row.w1c ≠ 0 := by
    intro e
    simp [e] at hw
  unfold State.clearable
  rw [if_neg h0, hh]
  simp [testBit_clearBits, hw, hb]

/-- Adding to a register that hardware had not yet changed in this instant notes its value from before. -/
theorem State.hits_addSat (u : State) (f : Fld) (n : Nat) (h : tblGet none u.hits f.addr = none) :
    tblGet none (u.addSat f n).hits f.addr = some ⟨0, u.regAt f.addr f.rst⟩ := by
  refine (u.hits_note f 0).trans ?_
  rw [h]
  simp

/-- Settles O54: what hardware noted in the instant guards the flag against the write and the count against the read. -/
theorem flagsSetInTheInstantOfAnAccessStaySet : Obligations.FlagsSetInTheInstantOfAnAccessStaySet := by
  intro u f m v i r ha hs hl hh hd
  refine ⟨fun hm hi hw => ?_, fun hn hc => ?_⟩
  · obtain ⟨h, hget, hbits⟩ := u.hits_setFlags f m
    have hset : (m * 2 ^ f.lo).testBit (f.lo + i) = true := by
      rw [Nat.testBit_mul_two_pow]
      simp [hm]
    rw [RegRow.testBit_merge, State.testBit_setFlags u f m i hl hh hm hi, testBit_rw_of_w1c hd hw,
      State.testBit_clearable _ r v _ h (ha ▸ hget) hw (hbits _ hset)]
    simp
  · have hget := u.hits_addSat f m hn
    rw [← ha, ← hs] at hget
    refine ⟨?_, fun k hk => ?_⟩
    · unfold State.readClear
      simp [hget]
    · unfold State.seen
      rw [if_neg hc, hget, ← ha, ← hs]
      simp [Nat.testBit_or, testBit_clearBits, hk]

end Sys2Proof.Machine
end

section
/-! PROOFS. Register accesses: guarded pairs, empty addresses, rights, the fabric ports and the slave window. -/

namespace Sys2Proof.Machine

/-! ### What an access by a master ends in -/

/-- A granted 32-bit access shows its data and status. -/
theorem State.accRun_granted32 (u : State) (m : Master) (a : Nat) (data : Option Nat) (x : State) (v st : Nat)
    (hin : inWindow a = false) (hok : u.granted m ⟨a, 0, 0, 0⟩ data.isSome = true) (hx : u.access32 m a data = (x, v, st)) :
    u.accRun (.bare m) { master := m, addr := a, wide := false, data } = x.emit (.reg m v st) := by
  rw [State.accRun_granted u m { master := m, addr := a, wide := false, data } ⟨a, 0, 0, 0⟩ rfl rfl hin hok]
  simp [hx]

/-- A granted 64-bit access shows its data and status. -/
theorem State.accRun_granted64 (u : State) (m : Master) (a : Nat) (data : Option Nat) (x : State) (v st : Nat)
    (hin : inWindow a = false) (hok : u.granted m ⟨a, 0, 0, 0⟩ data.isSome = true) (hx : u.access64 m a data = (x, v, st)) :
    u.accRun (.bare m) { master := m, addr := a, wide := true, data } = x.emit (.reg m v st) := by
  rw [State.accRun_granted u m { master := m, addr := a, wide := true, data } ⟨a, 0, 0, 0⟩ rfl rfl hin hok]
  simp [hx]

/-- REGISTER_WRITE completes with what its access leaves. -/
theorem runs_registerWrite {a : Access} {t : Nat} {G : State → Prop} {E : State → State}
    (h : ∀ u : State, G u → u.accRun (.bare a.master) a = E u) : Runs (.registerWrite a t) G E :=
  runs_of_runU _ (fun s => s.accRun (.bare a.master) a) E G (fun _ => rfl) h

/-- REGISTER_WRITE of a granted 32-bit access completes with the access's data and status. -/
theorem runs_registerWrite32 {m : Master} {a : Nat} {data : Option Nat} {t : Nat} {x : State → State} {v : State → Nat}
    {st : Nat} (hin : inWindow a = false) (hx : ∀ u : State, u.access32 m a data = (x u, v u, st)) :
    Runs (.registerWrite { master := m, addr := a, wide := false, data } t)
      (fun u => u.granted m ⟨a, 0, 0, 0⟩ data.isSome = true) (fun u => (x u).emit (.reg m (v u) st)) :=
  runs_registerWrite fun u hok => State.accRun_granted32 u m a data _ _ _ hin hok (hx u)

/-- REGISTER_WRITE of a granted 64-bit access completes with the access's data and status. -/
theorem runs_registerWrite64 {m : Master} {a : Nat} {data : Option Nat} {t : Nat} {x : State → State} {v : State → Nat}
    {st : Nat} (hin : inWindow a = false) (hx : ∀ u : State, u.access64 m a data = (x u, v u, st)) :
    Runs (.registerWrite { master := m, addr := a, wide := true, data } t)
      (fun u => u.granted m ⟨a, 0, 0, 0⟩ data.isSome = true) (fun u => (x u).emit (.reg m (v u) st)) :=
  runs_registerWrite fun u hok => State.accRun_granted64 u m a data _ _ _ hin hok (hx u)

/-! ### Guarded registers -/

section Guarded

variable {a : Nat} {r : RegAt} (hr : findReg a = some r) (hg : r.row.wg = true)

include hr hg

/-- A 64-bit write of a guarded register goes to its guard, whatever the guard answers. -/
theorem State.access64_writeGuard (u : State) (m : Master) (p : Nat) (h0 : r.off = 0) :
    u.access64 m a (some p) = ((u.writeGuard r (p % 2 ^ 64)).1, 0, (u.writeGuard r (p % 2 ^ 64)).2) := by
  unfold State.access64
  rw [hr]
  dsimp only
  rw [if_pos ⟨(wg_facts hr hg).1, h0⟩, if_pos hg]

/-- A value with its complement is stored without its reserved bits, and acts (R15, R18). -/
theorem State.access64_pair (u : State) (m : Master) (v : Nat) (h0 : r.off = 0) (hv : v < 2 ^ 32) :
    u.access64 m a (some (guardPair v)) =
      ((u.setRegAt r.addr r.reset (v &&& r.row.rw)).guardAct r.row.id r.i (v &&& r.row.rw), 0, 0) := by
  have hpair : guardPair v / 2 ^ 32 = 0xFFFFFFFF - guardPair v % 2 ^ 32 := by
    rw [guardPair_high v hv, guardPair_low v hv]
  rw [State.access64_writeGuard hr hg u m _ h0, guardPair_lt v hv]
  unfold State.writeGuard
  rw [if_neg (fun h => h hpair), and_low _ _ (wg_facts hr hg).2.2.1, guardPair_low v hv]

/-- A 64-bit value whose halves are no complements is discarded (R16). -/
theorem State.access64_noPair (u : State) (m : Master) (p : Nat) (h0 : r.off = 0) (hp : p < 2 ^ 64)
    (hn : p / 2 ^ 32 ≠ 0xFFFFFFFF - p % 2 ^ 32) :
    u.access64 m a (some p) = (u.raise Ev.SYS_GUARD_FAULT, 0, 2) := by
  rw [State.access64_writeGuard hr hg u m _ h0, Nat.mod_eq_of_lt hp]
  unfold State.writeGuard
  rw [if_pos hn]

/-- A 64-bit read answers the pair of the stored value (R18). -/
theorem State.access64_readPair (u : State) (m : Master) (h0 : r.off = 0) :
    u.access64 m a none = (u, guardPair (u.regAt r.addr r.reset), 0) := by
  unfold State.access64
  rw [hr]
  dsimp only
  rw [if_pos ⟨(wg_facts hr hg).1, h0⟩, readWhole_wg u hr hg]
  dsimp only
  rw [State.readClear_plain u r _ (wg_facts hr hg).2.1]

/-- A 32-bit read answers the half of the pair that its address names (R17). -/
theorem State.access32_readHalf (u : State) (m : Master) :
    u.access32 m a none = (u, if r.off = 0 then guardPair (u.regAt r.addr r.reset) % 2 ^ 32
      else guardPair (u.regAt r.addr r.reset) / 2 ^ 32 % 2 ^ 32, 0) := by
  unfold State.access32 State.read32
  rw [hr]
  dsimp only
  rw [if_pos hg, readWhole_wg u hr hg]

/-- A 32-bit write of a half is discarded (R16). -/
theorem State.access32_writeHalf (u : State) (m : Master) (p : Nat) :
    u.access32 m a (some p) = (u.raise Ev.SYS_GUARD_FAULT, 0, 2) := by
  unfold State.access32 State.write32
  rw [hr]
  dsimp only
  rw [if_pos hg]

end Guarded

/-- Settles O37: the pair reaches the guard, and the guard's register reads as the pair of its value. -/
theorem guardedRegistersStoreAndReadThePair : Obligations.GuardedRegistersStoreAndReadThePair := by
  intro m a v t r hr hg hin hv
  refine ⟨fun h0 => ⟨?_, ?_⟩, ?_⟩
  · exact runs_registerWrite64 hin fun u => State.access64_pair hr hg u m v h0 hv
  · exact runs_registerWrite64 hin fun u => State.access64_readPair hr hg u m h0
  · exact runs_registerWrite32 hin fun u => State.access32_readHalf hr hg u m

/-- The indices of a register found lie within those of its row. -/
theorem findReg_indices {a : Nat} {r : RegAt} (h : findReg a = some r) : r.i < r.row.n1 ∧ r.j < r.row.n2 := by
  obtain ⟨w, -, he⟩ := List.exists_of_findSome?_eq_some h
  unfold RegRow.at? at he
  simp only [Option.ite_none_left_eq_some, Option.ite_none_right_eq_some, Option.some.injEq] at he
  obtain ⟨-, ⟨hi, hj, -⟩, rfl⟩ := he
  exact ⟨hi, hj⟩

/-- A row lies on 8-byte boundaries, and outside the event registers of the boxes. -/
def RegRow.awayFromEvents (w : RegRow) : Bool :=
  decide (w.base % 8 = 0 ∧ w.s1 % 8 = 0 ∧ w.s2 % 8 = 0) &&
    (decide (0xA0500 ≤ w.base) || decide (w.base + w.s1 * (w.n1 - 1) + w.s2 * (w.n2 - 1) < 0xA0128))

/-- Every guarded register is away from the registers that events change. -/
theorem wg_awayFromEvents : regRows.all (fun w => !w.wg || w.awayFromEvents) = true := by decide +kernel

/-- No guarded register is one of those that raising an event changes. -/
theorem wg_addr {a : Nat} {r : RegAt} (hr : findReg a = some r) (hg : r.row.wg = true) :
    r.addr % 8 = 0 ∧ (0xA0500 ≤ r.addr ∨ r.addr < 0xA0128) := by
  have hrow := List.all_eq_true.1 wg_awayFromEvents _ (findReg_row hr)
  obtain ⟨hi, hj⟩ := findReg_indices hr
  simp only [hg, RegRow.awayFromEvents, Bool.not_true, Bool.false_or, Bool.and_eq_true, Bool.or_eq_true,
    decide_eq_true_eq] at hrow
  obtain ⟨⟨hb, h1, h2⟩, hfar⟩ := hrow
  have m1 : r.row.s1 * r.i ≤ r.row.s1 * (r.row.n1 - 1) := Nat.mul_le_mul_left _ (by omega)
  have m2 : r.row.s2 * r.j ≤ r.row.s2 * (r.row.n2 - 1) := Nat.mul_le_mul_left _ (by omega)
  have d1 : r.row.s1 * r.i % 8 = 0 := by rw [Nat.mul_mod, h1]; simp
  have d2 : r.row.s2 * r.j % 8 = 0 := by rw [Nat.mul_mod, h2]; simp
  unfold RegAt.addr
  omega

/-- The whole of a register is its field of all 64 bits. -/
theorem State.regAt_eq_get (u : State) (a rst : Nat) : u.regAt a rst = u.get ⟨a, 63, 0, rst⟩ := by
  show (tblGet (BitVec.ofNat 64 rst) u.regs a).toNat = (tblGet (BitVec.ofNat 64 rst) u.regs a).toNat / 2 ^ 0 % 2 ^ 64
  have := (tblGet (BitVec.ofNat 64 rst) u.regs a).isLt
  omega

/-- Raising an event leaves every guarded register as it stands. -/
theorem State.regAt_raise_wg (u : State) (src inst : Nat) {a : Nat} {r : RegAt} (hr : findReg a = some r)
    (hg : r.row.wg = true) : (u.raise src inst).regAt r.addr r.reset = u.regAt r.addr r.reset := by
  obtain ⟨h8, hfar⟩ := wg_addr hr hg
  obtain ⟨-, -, hkeep⟩ := u.raise_only src inst
  rw [State.regAt_eq_get, State.regAt_eq_get]
  refine hkeep _ (fun n => ?_) (fun n hn => ?_) (fun n hn => ?_)
  · show r.addr ≠ 0x40004 + 0x10 * n
    omega
  · show r.addr ≠ 0xA0128 + 0x40 * n
    omega
  · show r.addr ≠ 0xA012C + 0x40 * n
    omega

/-- Settles O38: the guard turns away what is no pair, and the fault it raises touches no guarded register. -/
theorem otherWritesToGuardedRegistersAreDiscarded : Obligations.OtherWritesToGuardedRegistersAreDiscarded := by
  intro m a p t r hr hg hin
  refine ⟨fun h0 hp hn => ?_, ?_, fun u => u.regAt_raise_wg _ _ hr hg⟩
  · exact runs_registerWrite64 hin fun u => State.access64_noPair hr hg u m p h0 hp hn
  · exact runs_registerWrite32 hin fun u => State.access32_writeHalf hr hg u m p

/-- Settles O39: each empty half raises the fault and answers 0 with status DECODE. -/
theorem emptyAddressesReadZeroAndRaiseTheFault : Obligations.EmptyAddressesReadZeroAndRaiseTheFault := by
  intro m a data t hr hin
  refine ⟨?_, fun h4 => ?_⟩
  · exact runs_registerWrite32 hin fun u => u.access32_empty m data hr
  · exact runs_registerWrite64 hin fun u => u.access64_empty m data hr h4

/-! ### Rights, the fabric ports and the slave window -/

/-- An access of a box without the right is counted, raised and answered as DENIED (R528, R529). -/
theorem State.accRun_boxDenied (u : State) (a : Access) (b : Nat) (hm : a.master = .box b)
    (h : u.boxMayReg b a.addr a.data.isSome = false) :
    u.accRun (.bare (.box b)) a =
      ((u.addSat (F.IZX_BOX_DENIED b) 1).raise Ev.IZX_DENIED b).emit (.reg (.box b) 0 3) := by
  unfold State.accRun State.access
  rw [hm]
  simp only [h]
  rfl

/-- A write of the fabric master without the right is noted, raised and answered as DENIED (R554). -/
theorem State.accRun_cpDenied (u : State) (a : Access) (hm : a.master = .fabric) (hs : u.cfg.swap = none)
    (h : u.cpMay a = false) :
    u.accRun .cp a = ((u.put F.PRB_CP_FAULT_ADDR a.addr).raise Ev.PRB_CP_DENIED).emit (.cp 0 3) := by
  have hc : (u.cpDenied a.addr).cfg.swap = none := by
    unfold State.cpDenied
    rw [State.onlyEvents_cfg (State.raise_only _ _ _)]
    exact hs
  unfold State.accRun State.access
  rw [hm]
  simp only [h]
  show (if (u.cpDenied a.addr).cfg.swap.isSome then _ else _) = _
  rw [hc]
  rfl

/-- A DRAM access of the fabric master that it may make waits for its turn while the device is awake (R554). -/
theorem State.cpDram_awake (u : State) (a : Nat) (wide : Bool) (data : Option Nat)
    (hr : data = none → a + (if wide then 8 else 4) ≤ u.dramSize)
    (hw : data.isSome = true → u.cpMayWrite a (if wide then 8 else 4) = true)
    (hp : u.get F.PWR_STATUS_STATE = 0) : u.cpDram a wide data = u.cpDramRun a wide data := by
  unfold State.cpDram
  dsimp only
  rw [if_neg, State.wakeSource_awake u 0 hp, if_neg (by omega), if_pos (.inl hp)]
  cases data with
  | none => simpa using hr rfl
  | some v => simpa using hw rfl

/-- A granted access in the slave window waits for the fabric that serves it (R555). -/
theorem State.accRun_window (u : State) (m : Master) (a : Access) (hm : a.master = m) (hin : inWindow a.addr = true)
    (hok : u.granted m ⟨a.addr, 0, 0, 0⟩ a.data.isSome = true) (hs : u.cfg.swap = none)
    (hf : u.flag F.PRB_CP_STATUS_SLAVE = true) :
    u.accRun (.bare m) a = (u.emit (.window a.addr a.wide a.data)).accWait (.bare m) a .window := by
  unfold State.accRun
  rw [State.access_window u m a ⟨a.addr, 0, 0, 0⟩ rfl hm hin hok, hs, if_neg (by simp), if_pos hf]

/-- The fabric's answer ends the oldest access in its slave window (R555). -/
theorem State.windowAck_oldest (u : State) (data st : Nat) (x : RegWait) (l : List RegWait) (hw : u.window = x :: l)
    (hs : u.cfg.swap = none) :
    u.windowAck data st = ({ u with window := l } : State).accDone x.who x.acc
      (if x.acc.data.isNone then data % (if x.acc.wide then 2 ^ 64 else 2 ^ 32) else 0) st := by
  unfold State.windowAck
  rw [hw, hs]
  rfl

/-- The fabric's silence past SLAVE_TIMEOUT ends the oldest access in its slave window (R556). -/
theorem State.windowTimeout_oldest (u : State) (x : RegWait) (l : List RegWait) (hw : u.window = x :: l)
    (hs : u.cfg.swap = none) (ht : x.at_ + max 1 (u.get F.PRB_CP_CFG_SLAVE_TIMEOUT) * 10000 ≤ u.now) :
    u.windowTimeout = ({ u with window := l } : State).windowMiss x := by
  unfold State.windowTimeout
  rw [hw]
  dsimp only
  rw [if_neg]
  rw [hs]
  simpa using ht

/-- A write of a probe selection that hardware has not changed in the instant stores its read-write bits (R562, R565). -/
theorem State.writePlain_PRB_SEL (u : State) (r : RegAt) (f : Fld) (rw v : Nat) (hid : r.row.id = .PRB_SEL)
    (ha : r.addr = f.addr) (hs : r.reset = f.rst) (hrw : r.row.rw &&& 0xFFFFFFFF = rw) (hc : r.row.w1c = 0)
    (hh : tblGet none u.hits f.addr = none) : u.writePlain r 0xFFFFFFFF (v % 2 ^ 32) = u.withRW f rw v := by
  unfold State.writePlain
  rw [hid]
  dsimp only
  rw [ha, hs, hh, if_neg (by simp), State.clearable_plain u r _ hc, State.rwValue_merge u f r.row rw v rfl rfl hrw hc]
  rfl

/-- The probe selections lie below the slave window. -/
theorem inWindow_PRB_SEL (n : Fin 16) : inWindow (F.PRB_SEL n.val).addr = false := by
  revert n
  decide

/-- Settles O11: each command is its access, and the access goes where the rights and the window send it. -/
theorem registerAccessesComplete : Obligations.RegisterAccessesComplete := by
  refine ⟨fun t m addr wide data => ?_, fun t b addr wide data => ?_, fun t m addr data => ?_, fun addr wide data t => ?_,
    fun addr wide data t => ?_, fun addr wide t => ?_, fun addr wide t v => ?_, fun t m addr wide data => ?_,
    fun data status t x l => ?_, fun t x l => ?_, fun k t => ?_, fun m n v t => ?_, fun high trees t => ?_⟩
  · refine runs_registerWrite fun u ⟨hin, hok⟩ => ?_
    exact State.accRun_granted u m _ ⟨addr, 0, 0, 0⟩ rfl rfl (by simpa using hin) hok
  · refine runs_registerWrite fun u h => ?_
    exact State.accRun_boxDenied u _ b rfl (by simpa using h)
  · refine runs_of_runU _ _ _ _ (fun _ => rfl) fun u ⟨hr, hin, hok⟩ => ?_
    rw [when, if_pos (by simp [hr, hin])]
    exact State.accRun_granted32 u m addr data _ _ _ (by simpa using hin) hok (u.access32_empty m data hr)
  · refine runs_of_runU _ _ _ _ (fun _ => rfl) fun u ⟨hs, hin, hok⟩ => ?_
    rw [when, if_pos (by simp [hs])]
    exact State.accRun_ends u .fabric { master := .fabric, addr, wide, data } ⟨addr, 0, 0, 0⟩ .cp rfl rfl
      (by simpa using hin) hok
  · refine runs_of_runU _ _ _ _ (fun _ => rfl) fun u ⟨hs, hd, hw⟩ => ?_
    rw [when, if_pos (by simp [hs])]
    refine State.accRun_cpDenied u _ rfl hs ?_
    cases data with
    | none => exact absurd hd (by simp)
    | some v => simpa [State.cpMay] using hw
  · refine runs_of_runU _ _ _ _ (fun _ => rfl) fun u ⟨hs, ha, hp⟩ => ?_
    rw [when, if_pos (by simp [hs])]
    exact State.cpDram_awake u addr wide none (fun _ => ha) (by simp) hp
  · refine runs_of_runU _ _ _ _ (fun _ => rfl) fun u ⟨hs, ha, hp⟩ => ?_
    rw [when, if_pos (by simp [hs])]
    exact State.cpDram_awake u addr wide (some v) (by simp) (fun _ => ha) hp
  · refine runs_of_runU _ _ _ _ (fun _ => rfl) fun u ⟨hin, hok, hs, hf⟩ => ?_
    rw [when, if_pos hin]
    exact State.accRun_window u m _ rfl hin hok hs hf
  · exact runs_of_runU _ _ _ _ (fun _ => rfl) fun u ⟨hw, hs⟩ => State.windowAck_oldest u _ _ x l hw hs
  · exact runs_of_runU _ _ _ _ (fun _ => rfl) fun u ⟨hw, hs, ht⟩ => State.windowTimeout_oldest u x l hw hs ht
  · exact runs_of_runU _ _ _ _ (fun _ => rfl) fun u h => if_pos h
  · refine runs_of_runU _ _ _ _ (fun _ => rfl) fun u ⟨hok, hh⟩ => ?_
    rw [State.busWrite_granted u m _ v _ (findReg_PRB_SEL n) rfl rfl (inWindow_PRB_SEL n) hok,
      State.writePlain_PRB_SEL u _ _ 0xBF v rfl rfl rfl (by simp) rfl hh]
  · exact runs_of_runU _ _ _ _ (fun _ => rfl) fun u _ => rfl

end Sys2Proof.Machine
end

section
/-! PROOFS. Lines, items and queues: what the commands of boxes, of the item port, of the tracks' lines and of the work
queues complete with. -/

namespace Sys2Proof.Machine

/-! ### Commands of a box, and records of the item port -/

/-- A command whose SEQ follows HIGH raises HIGH and starts (R521). -/
theorem State.izxSeq_next (u : State) (d : Due) (b : Nat) (h : u.seqDist b d.seq = 1) :
    u.izxSeq d b =
      ((u.setBox b { u.box b with slots := tblPut {} (u.box b).slots (d.seq % 256) {} }).put (F.IZX_BOX_HIGH b)
        d.seq).izxStart d none b :=
  if_pos h

/-- A box's command in order, on its open port and within its credits, starts (R511, R514, R516, R521). -/
theorem State.izxCommand_next (u : State) (p b op q : Nat) (l : List Byte) (hup : u.get (F.IZX_PORT_STATUS_STATE p) = 4)
    (hwake : u.get F.PWR_STATUS_STATE = 0) (hmay : u.izxMay p b (frameBlocks l) = true) (hseq : u.seqDist b q = 1) :
    u.izxCommand p b op q l =
      ((u.setBox b { u.box b with slots := tblPut {} (u.box b).slots (q % 256) {} }).put (F.IZX_BOX_HIGH b) q).izxStart
        { seq := q, opcode := op, blocks := frameBlocks l, port := p, crc := crc32c l, payload := l } none b := by
  simp only [State.izxMay, Bool.and_eq_true, decide_eq_true_eq, Bool.not_eq_true'] at hmay
  obtain ⟨⟨⟨⟨⟨hb, hopen⟩, hheld⟩, hport⟩, hclosing⟩, hcredit⟩ := hmay
  unfold State.izxCommand
  rw [if_neg (fun h => h hup), State.wakeSource_awake u 0 hwake]
  dsimp only
  rw [if_neg (by simp [hb, hopen, hheld, hport, hclosing]), if_neg (Nat.not_lt.2 hcredit)]
  exact u.izxSeq_next _ b hseq

/-- A record of the item port in order starts where its box has room and no scene swaps (R557 to R559). -/
theorem State.itemPort_next (u : State) (q : Nat) (l : List Byte) (hopen : (u.box 15).isOpen = true)
    (hroom : (u.box 15).due.length + (u.box 15).retries.length < 16) (hswap : u.cfg.swap = none)
    (hseq : u.seqDist 15 q = 1) :
    u.itemPort q l =
      ((u.setBox 15 { u.box 15 with slots := tblPut {} (u.box 15).slots (q % 256) {} }).put (F.IZX_BOX_HIGH 15)
        q).izxStart
        { seq := q, opcode := 0x20, blocks := 0, port := 0, crc := crc32c l, payload := l } none 15 := by
  unfold State.itemPort
  rw [if_neg (by simp [hopen, hswap]; omega)]
  exact u.izxSeq_next _ 15 hseq

/-! ### Lines that are reached -/

/-- A line that the moving track has reached fires at the next instant of the grid, or is held by MIN_SPACING (R105,
R113, R116). -/
theorem State.fireInstant_reached (u : State) (n : Nat) (l : NextLine) (hf : (u.settle n u.now).fires n = true)
    (hr : (!(u.settle n u.now).reverseComes n) = true) (hl : (u.settle n u.now).reached n = some l) :
    u.fireInstant n =
      let a := u.settle n u.now
      match (a.track n).lastFire with
      | none => a.fireLine n l (onGrid a.now) false
      | some b =>
        if onGrid a.now < b + a.spacingPs n then a.setTrack n { a.track n with overspeed := true }
        else a.fireLine n l (onGrid a.now) false := by
  unfold State.fireInstant
  dsimp only
  rw [if_neg (by simpa [hf] using hr), hl]
  dsimp only
  cases ((u.settle n u.now).track n).lastFire <;> simp

/-- A held line fires once MIN_SPACING has passed since the fire before it (R116). -/
theorem State.heldFire_due (u : State) (n : Nat) (l : NextLine) (b : Ps) (hf : (u.settle n u.now).fires n = true)
    (hr : (!(u.settle n u.now).reverseComes n) = true) (ho : ((u.settle n u.now).track n).overspeed = true)
    (hl : (u.settle n u.now).reached n = some l) (hb : ((u.settle n u.now).track n).lastFire = some b)
    (ht : b + (u.settle n u.now).spacingPs n ≤ (u.settle n u.now).now) :
    u.heldFire n = (u.settle n u.now).fireLine n l (b + (u.settle n u.now).spacingPs n) true := by
  unfold State.heldFire
  dsimp only
  rw [if_neg (by simpa [hf, ho] using hr), hl, hb]
  exact if_pos ht

/-! ### Items on their way through the queue -/

/-- The item that has waited past SERIES_WAIT for its serial fails to commit (R157, R276). -/
theorem State.serialWait_late (u : State) (n : Nat) (x : Item) (h : u.serialLate n = some x) :
    u.serialWait n = (u.commitFail n x.id).raise Ev.FRG_VD_SERIAL_WAIT := by
  unfold State.serialWait
  rw [h]

/-- A record whose request goes first of its bank stands in the queue ring, and its item is mirrored or ready (R35, R39,
R428). -/
theorem State.recordWritten_served (u : State) (n : Nat) (x : Item) (i : Nat)
    (hx : (u.queue n).items.find? (fun x => x.phase = .writing) = some x) (hi : u.dramOf (.record n x.id) = some i)
    (hfree : u.dramFree i = true) :
    u.recordWritten n =
      let w := u.dramTake i
      if w.mirrors then
        let m := w.modItem n x.id (fun y => { y with phase := .mirror w.dpx.commitSeq })
        m.dpxCommit 0x03 n (.item n x.id) (x.bytes n ++ m.issueBytes x)
      else (w.modItem n x.id (fun y => { y with phase := .ready })).acceptReady n := by
  unfold State.recordWritten
  rw [hx]
  dsimp only
  rw [hi]
  dsimp only
  rw [if_neg (by simp [hfree])]

/-- A retry hold that has lasted RETRY_HOLD ends (R158). -/
theorem State.holdExpire_due (u : State) (n : Nat) (a : Ps) (ha : (u.queue n).holdAt = some a)
    (ht : a + u.act (F.WQ_CFG_RETRY_HOLD n) * 1000000000 ≤ u.now) : u.holdExpire n = u.holdEnd n := by
  unfold State.holdExpire
  rw [ha]
  exact if_pos ht

/-- An item in pre-compose has its fields delivered (R297). -/
theorem State.preComposed_item (u : State) (n id : Nat) (x : Item) (h0 : id ≠ 0) (hx : u.item? n id = some x)
    (hp : x.phase = .head ∨ x.running = true) (hd : (!x.delivered) = true) : u.preComposed n id = u.deliver n x := by
  unfold State.preComposed
  rw [if_neg h0, hx]
  exact if_pos ⟨hp, hd⟩

/-- The oldest starvation print in pre-compose has its fields delivered (R164, R297). -/
theorem State.preComposed_starve (u : State) (n : Nat) (v : Starve)
    (hv : (u.track n).starves.find? (fun x => !x.ready) = some v) :
    u.preComposed n 0 =
      ((u.setTrack n { u.track n with
        starves := (u.track n).starves.map (fun x => if x = v then { x with ready := true, readyAt := u.now } else x)
        }).fieldEvents v.formedMarks).enginesShow := by
  unfold State.preComposed
  rw [if_pos rfl, hv]

/-! ### Flushes -/

/-- The flush registers lie below the slave window. -/
theorem inWindow_WQ_FLUSH (n : Fin 16) : inWindow (F.WQ_FLUSH n.val).addr = false := by
  revert n
  decide

/-- A granted write of a scope to WQ_FLUSH acts on the queue, and the master is answered (R189). -/
theorem State.guardWrite_WQ_FLUSH (u : State) (m : Master) (n : Fin 16) (scope : Nat) (hs : scope < 4)
    (hok : u.granted m (F.WQ_FLUSH n.val) true = true) :
    u.guardWrite m (F.WQ_FLUSH n.val) scope =
      ((u.withReg (F.WQ_FLUSH n.val) scope).flushWrite n.val scope).answered m 0 := by
  have hscope : scope % 2 ^ 2 = scope := Nat.mod_eq_of_lt hs
  have hmask : scope &&& 3 = scope := (Nat.and_two_pow_sub_one_eq_mod scope 2).trans hscope
  rw [State.guardWrite_granted u m _ scope _ (findReg_WQ_FLUSH n) rfl rfl rfl (by simp [RegAt.addr, F.WQ_FLUSH]) rfl
    hmask (show (3 : Nat) < 2 ^ 32 by decide) (by omega) (inWindow_WQ_FLUSH n) hok]
  show ((u.withReg (F.WQ_FLUSH n.val) scope).flushWrite n.val (bits scope 1 0)).answered m 0 = _
  rw [show bits scope 1 0 = scope by unfold bits; omega]

/-- A flush of scope 1 or 2 spares what is in COMMITTING; it goes to the partner first, waits for a cue of its cycle or
takes place (R165, R175, R428). -/
theorem State.flushWrite_scope (u : State) (n scope : Nat) (h0 : scope ≠ 0) (h3 : scope ≠ 3) :
    u.flushWrite n scope =
      let l := ((u.queue n).items.filter Item.committing).map Item.id
      if u.mirrors then u.dpxCommit 0x08 n (.flush n scope l) (leBytes 1 n ++ leBytes 1 scope ++ leBytes 6 0)
      else if u.cueComes n then u.setQueue n { u.queue n with lateFlush := some (scope, l) }
      else u.flush n scope l := by
  unfold State.flushWrite
  rw [if_neg h0, if_neg h3]
  rfl

/-- Settles O13: each command meets the branch of its operation in which nothing turns it away. -/
theorem linesAndItemsComplete : Obligations.LinesAndItemsComplete := by
  refine ⟨fun n t => ?_, fun n t l => ?_, fun n t l a => ?_, fun p b seq payload t => ?_, fun p b seq payload t => ?_,
    fun seq payload t => ?_, fun n t x => ?_, fun n t x i => ?_, fun n t a => ?_, fun n id t x => ?_, fun n t v => ?_,
    fun m n t => ?_, fun m n t => ?_, fun m n t => ?_⟩
  · exact runs_of_runU _ _ _ _ (fun _ => rfl) fun u _ => u.announce_lineDue n.val
  · exact runs_of_runU _ _ _ _ (fun _ => rfl) fun u ⟨hf, hr, hl⟩ =>
      State.fireInstant_reached _ n.val l hf hr hl
  · exact runs_of_runU _ _ _ _ (fun _ => rfl) fun u ⟨hf, hr, ho, hl, ha, ht⟩ =>
      State.heldFire_due _ n.val l a hf hr ho hl ha ht
  · exact runs_of_runU _ _ _ _ (fun _ => rfl) fun u ⟨hup, hwake, hmay, hseq⟩ =>
      u.izxCommand_next p.val b.val _ _ payload hup hwake hmay hseq
  · exact runs_of_runU _ _ _ _ (fun _ => rfl) fun u ⟨hup, hwake, hmay, hseq⟩ =>
      u.izxCommand_next p.val b.val _ _ payload hup hwake hmay hseq
  · exact runs_of_runU _ _ _ _ (fun _ => rfl) fun u ⟨hopen, hroom, hswap, hseq⟩ =>
      u.itemPort_next _ payload hopen hroom hswap hseq
  · exact runs_of_runU _ _ _ _ (fun _ => rfl) fun u h => u.serialWait_late n.val x h
  · exact runs_of_runU _ _ _ _ (fun _ => rfl) fun u ⟨hx, hi, hfree⟩ => u.recordWritten_served n.val x i hx hi hfree
  · exact runs_of_runU _ _ _ _ (fun _ => rfl) fun u ⟨ha, ht⟩ => u.holdExpire_due n.val a ha ht
  · exact runs_of_runU _ _ _ _ (fun _ => rfl) fun u ⟨h0, hx, hp, hd⟩ =>
      u.preComposed_item n.val id x h0 hx hp hd
  · exact runs_of_runU _ _ _ _ (fun _ => rfl) fun u hv => u.preComposed_starve n.val v hv
  · refine runs_of_runU _ _ _ _ (fun _ => rfl) fun u hok => ?_
    rw [u.guardWrite_WQ_FLUSH m n 1 (by decide) hok, State.flushWrite_scope _ n.val 1 (by decide) (by decide)]
  · refine runs_of_runU _ _ _ _ (fun _ => rfl) fun u hok => ?_
    rw [u.guardWrite_WQ_FLUSH m n 2 (by decide) hok, State.flushWrite_scope _ n.val 2 (by decide) (by decide)]
  · exact runs_of_runU _ _ _ _ (fun _ => rfl) fun u hok => u.guardWrite_WQ_FLUSH m n 3 (by decide) hok

end Sys2Proof.Machine
end

section
/-! PROOFS. Modes and CALL: what the phases and bounds of CALL, requests for modes and resets, and resets and supply events
complete with. -/

namespace Sys2Proof.Machine

/-! ### Phases TRIM to CLOCKS -/

/-- A trim word that disagrees stops CALL in DARK (R72). -/
theorem State.phaseTrim_unsound (u : State) (fault : Bool) (keyBad : Nat) (tableBad ext : Bool)
    (hm : u.phaseMay 1 [] = true) (ht : (!(u.trimDamage fault).trimSound) = true) :
    u.phaseTrim fault keyBad tableBad ext = ((u.trimDamage fault).raise Ev.SYS_TRIM_FAULT).goDark 7 := by
  unfold State.phaseTrim
  rw [if_neg (by simp [hm])]
  exact if_pos ht

/-- Where the trim words agree, TRIM shows what the part keeps, checks keys and tables, and starts the clocks (R64). -/
theorem State.phaseTrim_sound (u : State) (fault : Bool) (keyBad : Nat) (tableBad ext : Bool)
    (hm : u.phaseMay 1 [] = true) (ht : (u.trimDamage fault).trimSound = true) :
    u.phaseTrim fault keyBad tableBad ext =
      let k := (((u.trimDamage fault).put F.CLK_REF_EXT (bit ext)).keptShow).keysCheck keyBad
      let k := when tableBad
        (fun s => ({ s with cfg := { s.cfg with tableFault := true } } : State).raise Ev.FLC_TABLE_FAULT) k
      let k := when k.cfg.cutPulse
        (fun s => ({ s with cfg := { s.cfg with cutPulse := false } } : State).raise Ev.FLC_INTERRUPTED) k
      ((when k.wipeDue (fun s => s.put F.LCY_STATUS_WIPE_PENDING 1) k).clocksBegin).phaseEnd 1 := by
  simp only [State.phaseTrim, when, hm, ht, Bool.not_true, Bool.false_eq_true, if_false]

/-- LIFE completes in a life cycle that is neither LIMBO nor SCRAP (R706). -/
theorem State.phaseLifeEnd_alive (u : State) (hm : u.phaseMay 2 [1] = true) (hok : u.phaseLife.2 = true)
    (h6 : u.phaseLife.1.lcyState ≠ 6) : u.phaseLifeEnd = u.phaseLife.1.phaseEnd 2 := by
  unfold State.phaseLifeEnd
  rw [if_neg (by simp [hm])]
  split
  next s ok hq =>
    rw [hq] at hok h6 ⊢
    exact if_pos ⟨hok, h6⟩

/-- LIMBO stops CALL in DARK (R706). -/
theorem State.phaseLifeEnd_limbo (u : State) (hm : u.phaseMay 2 [1] = true) (hok : (!u.phaseLife.2) = true) :
    u.phaseLifeEnd = u.phaseLife.1.goDark 7 := by
  unfold State.phaseLifeEnd
  rw [if_neg (by simp [hm])]
  split
  next s ok hq =>
    rw [hq] at hok ⊢
    exact if_neg (fun ⟨h, _⟩ => by simp [h] at hok)

/-- A torn select record stops CALL in DARK (R72, R570). -/
theorem State.phaseSelectEnd_torn (u : State) (hm : u.phaseMay 3 [1, 2] = true) (hr : u.selectRead = none) :
    u.phaseSelectEnd = (u.raise Ev.CFG_SELECT_FAULT).goDark 7 := by
  have hq : u.phaseSelect = (u.raise Ev.CFG_SELECT_FAULT, false) := by
    unfold State.phaseSelect
    rw [hr]
  unfold State.phaseSelectEnd
  rw [if_neg (by simp [hm]), hq]
  exact if_neg Bool.false_ne_true

/-- A select record that reads back sound completes SELECT (R570). -/
theorem State.phaseSelectEnd_sound (u : State) (v : Nat) (hm : u.phaseMay 3 [1, 2] = true)
    (hr : u.selectRead = some v) :
    u.phaseSelectEnd = (u.put F.CFG_STATUS_SELECT_NONE (bit (decide (v = 0)))).phaseEnd 3 := by
  have hq : u.phaseSelect = (u.put F.CFG_STATUS_SELECT_NONE (bit (decide (v = 0))), true) := by
    unfold State.phaseSelect
    rw [hr]
  unfold State.phaseSelectEnd
  rw [if_neg (by simp [hm]), hq]
  exact if_pos rfl

/-- CLOCKS completes once PLL_0 to PLL_3 have locked in CALL: every domain is on and the links train (R64, R645). -/
theorem State.phaseClocks_locked (u : State) (hm : u.mode = 1) (h1 : u.phaseDone 1 = true)
    (h4 : (!u.phaseDone 4) = true) (hh : (!u.sys.held) = true)
    (hl : [0, 1, 2, 3].all (fun k => (u.get F.CLK_STATUS_LOCKED).testBit k) = true) :
    u.phaseClocks = ((u.put F.PWR_STATUS_ON 0xFFFFF).phaseEnd 4).linksTrain := by
  unfold State.phaseClocks
  rw [hm, h1, h4, hh, hl]
  rfl

/-! ### Phases PLANE to PROMPT -/

/-- PLANE completes where the selected plane takes its scene, whose fabric then starts (R64, R543). -/
theorem State.phasePlaneEnd_taken (u : State) (valid : Bool) (drivers : Option Contend) (trees : List Nat)
    (hm : u.phaseMay 5 [3, 4] = true) (hok : (u.phasePlane valid drivers trees).2 = true) :
    u.phasePlaneEnd valid drivers trees =
      ((u.phasePlane valid drivers trees).1.phaseEnd 5).fabStart
        (planeBase ((u.phasePlane valid drivers trees).1.get F.CFG_STATUS_ACTIVE)) := by
  unfold State.phasePlaneEnd
  rw [if_neg (by simp [hm])]
  split
  next s ok hq =>
    rw [hq] at hok ⊢
    exact if_pos hok

/-- A part with no plane selected stops CALL in DARK (R72, R570). -/
theorem State.phasePlaneEnd_none (u : State) (valid : Bool) (drivers : Option Contend) (trees : List Nat)
    (hm : u.phaseMay 5 [3, 4] = true) (hr : u.selectRead = some 0) :
    u.phasePlaneEnd valid drivers trees = (u.raise Ev.CFG_NO_SCENE).goDark 6 := by
  have hq : u.phasePlane valid drivers trees = (u.raise Ev.CFG_NO_SCENE, false) := by
    unfold State.phasePlane
    rw [hr]
  unfold State.phasePlaneEnd
  rw [if_neg (by simp [hm]), hq]
  exact if_neg Bool.false_ne_true

/-- DRAM completes once both controllers have trained (R622). -/
theorem State.phaseDram_trained (u : State) (m0 m1 : Dimm) (hm : u.phaseMay 6 [4] = true)
    (hf : (!u.sys.dramFail) = true) (h0 : (u.dramTrain m0 m1).flag F.SYS_CALL_STATUS_DRAM_OK_0 = true)
    (h1 : (u.dramTrain m0 m1).flag F.SYS_CALL_STATUS_DRAM_OK_1 = true) :
    u.phaseDram m0 m1 = (u.dramTrain m0 m1).phaseEnd 6 := by
  unfold State.phaseDram
  rw [if_neg (by simpa [hm] using hf)]
  exact if_pos ⟨h0, h1⟩

/-- PROMPT takes the book that it finds, and completes or waits in PROMPT_BAD (R76, R183). -/
theorem State.phasePromptEnd_runs (u : State) (mute : Nat) (hm : u.phaseMay 7 [5, 6] = true)
    (hb : (!u.flag F.SYS_CALL_STATUS_PROMPT_BAD) = true) :
    u.phasePromptEnd mute =
      let q := u.phasePrompt mute
      if q.2 then ({ q.1 with sys := { q.1.sys with promptAt := q.1.now } } : State).phaseEnd 7
      else (q.1.put F.SYS_CALL_STATUS_PROMPT_BAD 1).raise Ev.CFG_PROMPT_BAD := by
  unfold State.phasePromptEnd
  exact if_neg (by simpa [hm] using hb)

/-! ### Phases JOIN and ARM, and the bounds of CALL -/

/-- A PLL that CALL waits for has not locked within its bound (R645). -/
theorem State.clkLockFail_due (u : State) (k : Nat) (hm : u.mode = 1) (hk : k ≤ 5) (h6 : (!u.phaseDone 6) = true)
    (hs : u.get (F.CLK_PLL_STATUS_STATE k) = 1 ∨ u.get (F.CLK_PLL_STATUS_STATE k) = 2)
    (ht : (u.pll k).since + 300000000 ≤ u.now) :
    u.clkLockFail k = (({ u with sys := { u.sys with clkFail := true } } : State).put (F.CLK_PLL_STATUS_STATE k) 4).raise
      Ev.CLK_LOCK_FAIL k :=
  if_pos ⟨hm, hs, hk, h6, ht⟩

/-- The company's side of JOIN ends at the join timeout (R67). -/
theorem State.joinLate_waiting (u : State) (hm : u.mode = 1) (h7 : u.phaseDone 7 = true) (h8 : (!u.phaseDone 8) = true)
    (hs : u.ldg.scanned = true) (hc : (!u.sys.companyDone) = true) :
    u.joinLate =
      let x := (u.put F.SYS_CALL_STATUS_JOIN_LATE 1).raise Ev.CMP_JOIN_LATE
      ({ x with sys := { x.sys with companyDone := true } } : State).joinTry :=
  if_pos ⟨hm, h7, h8, hs, hc⟩

/-- A device that has heard no HELLO goes SOLO (R448). -/
theorem State.roleTimeout_waiting (u : State) (hm : u.mode = 1) (h7 : u.phaseDone 7 = true)
    (h8 : (!u.phaseDone 8) = true) (hs : u.ldg.scanned = true) (hd : u.dpx.configured = true)
    (hr : (!u.sys.roleDone) = true) :
    u.roleTimeout = (((({ u with sys := { u.sys with roleDone := true } } : State).setRole 3).put F.SYS_CALL_STATUS_SOLO
      1).earlySettle).joinTry :=
  if_pos ⟨hm, h7, h8, hs, hd, hr⟩

/-- ARM completes in CALL once the lanes have trained, the marks are written and every head has its lane: a device that is no
understudy enters its start mode (R64). -/
theorem State.phaseArm_ready (u : State) (hb : (!u.lanesBusy) = true) (hw : u.marksWritten = true)
    (hh : (!u.sys.held) = true) (hf : (!u.sys.armFail) = true) (hp : (!u.sys.printReset) = true) (hm : u.mode = 1)
    (hs : u.sys.armStarted = true) (h9 : (!u.phaseDone 9) = true) (hok : u.headsPlace.2 = true)
    (hr : ((u.headsPlace.1.tracksArm.phaseEnd 9).put F.SYS_CALL_STATUS_DONE 1).role ≠ 2) :
    u.phaseArm =
      let x := ((u.headsPlace.1.tracksArm).phaseEnd 9).put F.SYS_CALL_STATUS_DONE 1
      x.setMode (if x.sys.startPerf then 3 else 2) 0 := by
  rw [Bool.not_eq_true'] at hb hh hf hp
  unfold State.phaseArm
  rw [if_neg (by simp [hb, hw, hh, hf]), if_neg (by simp [hp]), if_pos ⟨hm, hs, h9⟩]
  dsimp only
  rw [if_neg (by simp [hok]), if_neg hr]

/-- Settles O8: each phase meets the branch of its operation in which the phases before it have completed. -/
theorem phasesOfCallComplete : Obligations.PhasesOfCallComplete := by
  refine ⟨fun fault keyBad tableBad ext t => ?_, fun fault keyBad tableBad ext t => ?_, fun t => ?_, fun t => ?_,
    fun t => ?_, fun t v => ?_, fun t => ?_, fun k t => ?_, fun valid drivers trees t => ?_,
    fun valid drivers trees t => ?_, fun m0 m1 t => ?_, fun mute t => ?_, fun aonBad t => ?_, fun t => ?_, fun t => ?_,
    fun t => ?_⟩
  · exact runs_of_runU _ _ _ _ (fun _ => rfl) fun u ⟨hm, ht⟩ => u.phaseTrim_unsound fault keyBad tableBad ext hm ht
  · exact runs_of_runU _ _ _ _ (fun _ => rfl) fun u ⟨hm, ht⟩ => u.phaseTrim_sound fault keyBad tableBad ext hm ht
  · exact runs_of_runU _ _ _ _ (fun _ => rfl) fun u ⟨hm, hok, h6⟩ => u.phaseLifeEnd_alive hm hok h6
  · exact runs_of_runU _ _ _ _ (fun _ => rfl) fun u ⟨hm, hok⟩ => u.phaseLifeEnd_limbo hm hok
  · exact runs_of_runU _ _ _ _ (fun _ => rfl) fun u ⟨hm, hr⟩ => u.phaseSelectEnd_torn hm hr
  · exact runs_of_runU _ _ _ _ (fun _ => rfl) fun u ⟨hm, hr⟩ => u.phaseSelectEnd_sound v hm hr
  · exact runs_of_runU _ _ _ _ (fun _ => rfl) fun u ⟨hm, h1, h4, hh, hl⟩ => u.phaseClocks_locked hm h1 h4 hh hl
  · exact runs_of_runU _ _ _ _ (fun _ => rfl) fun u ⟨hm, hk, h6, hs, ht⟩ => u.clkLockFail_due k.val hm hk h6 hs ht
  · exact runs_of_runU _ _ _ _ (fun _ => rfl) fun u ⟨hm, hok⟩ => u.phasePlaneEnd_taken valid drivers trees hm hok
  · exact runs_of_runU _ _ _ _ (fun _ => rfl) fun u ⟨hm, hr⟩ => u.phasePlaneEnd_none valid drivers trees hm hr
  · exact runs_of_runU _ _ _ _ (fun _ => rfl) fun u ⟨hm, hf, h0, h1⟩ => u.phaseDram_trained m0 m1 hm hf h0 h1
  · exact runs_of_runU _ _ _ _ (fun _ => rfl) fun u ⟨hm, hb⟩ => u.phasePromptEnd_runs mute hm hb
  · exact runs_of_runU _ _ _ _ (fun _ => rfl) fun u _ => rfl
  · refine runs_of_runU _ _ _ _ (fun _ => rfl) fun u ⟨hm, h7, h8, hs, hc, ht⟩ => ?_
    rw [when, if_pos (decide_eq_true ht)]
    exact u.joinLate_waiting hm h7 h8 hs hc
  · refine runs_of_runU _ _ _ _ (fun _ => rfl) fun u ⟨hm, h7, h8, hs, hd, hr, ht⟩ => ?_
    rw [when, if_pos (decide_eq_true ht)]
    exact u.roleTimeout_waiting hm h7 h8 hs hd hr
  · exact runs_of_runU _ _ _ _ (fun _ => rfl) fun u ⟨hb, hw, hh, hf, hp, hm, hs, h9, hok, hr⟩ =>
      u.phaseArm_ready hb hw hh hf hp hm hs h9 hok hr

/-! ### Requests for a mode -/

/-- A granted request for a mode is stored and judged, and the master is answered (R59 to R62). -/
theorem State.guardWrite_SYS_MODE_REQ (u : State) (m : Master) (v : Nat) (hv : v < 8)
    (hok : u.granted m F.SYS_MODE_REQ true = true) :
    u.guardWrite m F.SYS_MODE_REQ v = ((u.withReg F.SYS_MODE_REQ v).modeReq v).answered m 0 := by
  have hmask : v &&& 7 = v := (Nat.and_two_pow_sub_one_eq_mod v 3).trans (Nat.mod_eq_of_lt hv)
  rw [State.guardWrite_granted u m _ v _ findReg_SYS_MODE_REQ rfl rfl rfl rfl rfl hmask (show (7 : Nat) < 2 ^ 32 by decide)
    (by omega) (by decide) hok]
  show ((u.withReg F.SYS_MODE_REQ v).modeReq (bits v 2 0)).answered m 0 = _
  rw [show bits v 2 0 = v by unfold bits; omega]

/-- A request while a transition runs cancels it, or is refused (R61, R62). -/
theorem State.modeReq_busy (s : State) (m : Nat) (hb : s.flag F.SYS_MODE_BUSY = true) :
    s.modeReq m = if s.perTrackTo.isSome ∧ m = s.mode then s.modeCancel else s.modeRefuse 4 :=
  if_pos hb

section Idle

variable (s : State) (hb : (!s.flag F.SYS_MODE_BUSY) = true)

include hb

/-- A device that shows BUSY clear is not busy, as the branch of a request tests it. -/
theorem State.not_modeBusy : ¬s.flag F.SYS_MODE_BUSY = true := by simpa using hb

/-- PERFORMANCE goes back to REHEARSAL track by track (R59, R60). -/
theorem State.modeReq_rehearsal_of_performance (hm : s.mode = 3) : s.modeReq 2 = s.modeStart 2 := by
  unfold State.modeReq
  rw [if_neg (s.not_modeBusy hb)]
  simp only [hm]

/-- An understudy that leaves its mode is SOLO in REHEARSAL (R59). -/
theorem State.modeReq_rehearsal_of_understudy (hm : s.mode = 4) :
    s.modeReq 2 = (((s.put F.SYS_MODE_REQ_RESULT 1).setRole 3).setMode 2 1).dpxState := by
  unfold State.modeReq
  rw [if_neg (s.not_modeBusy hb)]
  simp only [hm]

/-- The table of modes has no way from CALL, REHEARSAL or HOLD to REHEARSAL by request (R59, R62). -/
theorem State.modeReq_rehearsal_refused (hm : s.mode = 1 ∨ s.mode = 2 ∨ s.mode = 6) : s.modeReq 2 = s.modeRefuse 3 := by
  unfold State.modeReq
  rw [if_neg (s.not_modeBusy hb)]
  obtain hm | hm | hm := hm <;> simp only [hm]

/-- REHEARSAL goes to PERFORMANCE track by track, but not on an understudy (R59, R60). -/
theorem State.modeReq_performance (hm : s.mode = 2) :
    s.modeReq 3 = if s.role = 2 then s.modeRefuse 5 else s.modeStart 3 := by
  unfold State.modeReq
  rw [if_neg (s.not_modeBusy hb)]
  simp only [hm]

/-- REHEARSAL goes to UNDERSTUDY where the link is up and the partner performs (R59). -/
theorem State.modeReq_understudy (hm : s.mode = 2) :
    s.modeReq 4 = if s.flag F.DPX_STATUS_LINK_UP ∧ s.dpx.partnerMode = 3 then
      (s.put F.SYS_MODE_REQ_RESULT 1).understudyEnter 1 else s.modeRefuse 5 := by
  unfold State.modeReq
  rw [if_neg (s.not_modeBusy hb)]
  simp only [hm]

/-- REHEARSAL begins the entry to INTERVAL (R59, R664). -/
theorem State.modeReq_interval (hm : s.mode = 2) : s.modeReq 5 = s.entryBegin := by
  unfold State.modeReq
  rw [if_neg (s.not_modeBusy hb)]
  simp only [hm]

/-- DARK, REHEARSAL and HOLD go to SERVICE where debug is open (R59). -/
theorem State.modeReq_service (hm : s.mode = 0 ∨ s.mode = 2 ∨ s.mode = 6) :
    s.modeReq 7 = if s.debugOpen then s.serviceEnter else s.modeRefuse 5 := by
  unfold State.modeReq
  rw [if_neg (s.not_modeBusy hb)]
  obtain hm | hm | hm := hm <;> simp only [hm]

end Idle

/-! ### Writes of CALL_CTRL, and requests for a reset -/

/-- A write of CALL_CTRL stores STOP_BEFORE_ARM and does what its two commands ask (R85). -/
theorem State.writePlain_SYS_CALL_CTRL (u : State) (r : RegAt) (v : Nat) (hid : r.row.id = .SYS_CALL_CTRL)
    (ha : r.addr = F.SYS_CALL_CTRL.addr) (hs : r.reset = F.SYS_CALL_CTRL.rst) (hrw : r.row.rw &&& 0xFFFFFFFF = 1)
    (hc : r.row.w1c = 0) :
    u.writePlain r 0xFFFFFFFF (v % 2 ^ 32) =
      let w := u.withRW F.SYS_CALL_CTRL 1 v
      let w := if (v % 2 ^ 32).testBit 1 then w.retryPrompt else w
      if (v % 2 ^ 32).testBit 2 then w.callContinue else w := by
  unfold State.writePlain
  rw [hid]
  dsimp only
  rw [ha, hs, State.clearable_plain u r _ hc, State.rwValue_merge u F.SYS_CALL_CTRL r.row 1 v rfl rfl hrw hc]
  rfl

/-- The commands of CALL_CTRL are not stored. -/
theorem State.withRW_SYS_CALL_CTRL (u : State) (v : Nat) :
    u.withRW F.SYS_CALL_CTRL 1 v = u.withRW F.SYS_CALL_CTRL 1 (v % 2) := by
  simp [State.withRW, State.rwValue, Nat.and_one_is_mod]

/-- A granted write of CALL_CTRL stores STOP_BEFORE_ARM, does what its two commands ask, and the master is answered (R68,
R76, R85). -/
theorem State.busWrite_SYS_CALL_CTRL (u : State) (m : Master) (v : Nat) (hv : v < 8)
    (hok : u.granted m F.SYS_CALL_CTRL true = true) :
    u.busWrite m F.SYS_CALL_CTRL v =
      (let w := u.withRW F.SYS_CALL_CTRL 1 (v % 2)
       let w := if v.testBit 1 then w.retryPrompt else w
       if v.testBit 2 then w.callContinue else w).answered m 0 := by
  rw [State.busWrite_granted u m _ v _ findReg_SYS_CALL_CTRL rfl rfl (by decide) hok,
    State.writePlain_SYS_CALL_CTRL u _ v rfl rfl rfl rfl rfl, State.withRW_SYS_CALL_CTRL,
    Nat.mod_eq_of_lt (show v < 2 ^ 32 by omega)]

/-- CONTINUE, with STOP_BEFORE_ARM and without RETRY_PROMPT. -/
theorem continue_bits : ∀ stop : Bool, 4 + bit stop < 8 ∧ (4 + bit stop) % 2 = bit stop ∧
    (4 + bit stop).testBit 1 = false ∧ (4 + bit stop).testBit 2 = true := by decide

/-- RETRY_PROMPT, with STOP_BEFORE_ARM and without CONTINUE. -/
theorem retryPrompt_bits : ∀ stop : Bool, 2 + bit stop < 8 ∧ (2 + bit stop) % 2 = bit stop ∧
    (2 + bit stop).testBit 1 = true ∧ (2 + bit stop).testBit 2 = false := by decide

/-- A granted request for a reset is stored and judged, and the master is answered (R87). -/
theorem State.guardWrite_SYS_RESET_REQ (u : State) (m : Master) (v : Nat) (hv : v < 4)
    (hok : u.granted m F.SYS_RESET_REQ true = true) :
    u.guardWrite m F.SYS_RESET_REQ v = ((u.withReg F.SYS_RESET_REQ v).resetReq v).answered m 0 := by
  have hmask : v &&& 3 = v := (Nat.and_two_pow_sub_one_eq_mod v 2).trans (Nat.mod_eq_of_lt hv)
  rw [State.guardWrite_granted u m _ v _ findReg_SYS_RESET_REQ rfl rfl rfl rfl rfl hmask
    (show (3 : Nat) < 2 ^ 32 by decide) (by omega) (by decide) hok]
  show ((u.withReg F.SYS_RESET_REQ v).resetReq (bits v 1 0)).answered m 0 = _
  rw [show bits v 1 0 = v by unfold bits; omega]

/-- A print-path reset begins 1 us after its request in REHEARSAL or SERVICE, and is refused elsewhere (R80, R87). -/
theorem State.resetReq_printPath (s : State) :
    s.resetReq 1 = if !(s.mode = 2 ∨ s.mode = 7) then s.raise Ev.SYS_RESET_FAULT
      else ({ s with sys := { s.sys with reset := some (1, s.now + 1000000) } } : State) := by
  unfold State.resetReq
  rw [if_neg (by decide)]
  simp only [true_and]

/-- A warm or cold reset begins 1 us after its request in any mode (R87). -/
theorem State.resetReq_device (s : State) (kind : Nat) (hk : kind = 2 ∨ kind = 3) :
    s.resetReq kind = ({ s with sys := { s.sys with reset := some (kind, s.now + 1000000) } } : State) := by
  unfold State.resetReq
  rw [if_neg (by omega), if_neg (fun h => by omega)]

/-- Settles O9: each request is a granted write of its register, judged by the row of the table of modes that it meets. -/
theorem modeRequestsComplete : Obligations.ModeRequestsComplete := by
  refine ⟨fun m t => ?_, fun m t => ?_, fun m t => ?_, fun m t => ?_, fun m t => ?_, fun m t => ?_, fun m t => ?_,
    fun m t => ?_, fun m stop t => ?_, fun m stop t => ?_, fun m t => ?_, fun m t => ?_, fun m t => ?_⟩
  · refine runs_of_runU _ _ _ _ (fun _ => rfl) fun u ⟨hok, hb, hm⟩ => ?_
    rw [u.guardWrite_SYS_MODE_REQ m 2 (by decide) hok, State.modeReq_rehearsal_of_performance _ hb hm]
  · refine runs_of_runU _ _ _ _ (fun _ => rfl) fun u ⟨hok, hb, hm⟩ => ?_
    rw [u.guardWrite_SYS_MODE_REQ m 2 (by decide) hok, State.modeReq_rehearsal_of_understudy _ hb hm]
  · refine runs_of_runU _ _ _ _ (fun _ => rfl) fun u ⟨hok, hb, hm⟩ => ?_
    rw [u.guardWrite_SYS_MODE_REQ m 2 (by decide) hok, State.modeReq_rehearsal_refused _ hb hm]
  · refine runs_of_runU _ _ _ _ (fun _ => rfl) fun u ⟨hok, hb, hm⟩ => ?_
    rw [u.guardWrite_SYS_MODE_REQ m 3 (by decide) hok, State.modeReq_performance _ hb hm]
  · refine runs_of_runU _ _ _ _ (fun _ => rfl) fun u ⟨hok, hb⟩ => ?_
    rw [u.guardWrite_SYS_MODE_REQ m 3 (by decide) hok, State.modeReq_busy _ 3 hb]
  · refine runs_of_runU _ _ _ _ (fun _ => rfl) fun u ⟨hok, hb, hm⟩ => ?_
    rw [u.guardWrite_SYS_MODE_REQ m 4 (by decide) hok, State.modeReq_understudy _ hb hm]
  · refine runs_of_runU _ _ _ _ (fun _ => rfl) fun u ⟨hok, hb, hm⟩ => ?_
    rw [u.guardWrite_SYS_MODE_REQ m 5 (by decide) hok, State.modeReq_interval _ hb hm]
  · refine runs_of_runU _ _ _ _ (fun _ => rfl) fun u ⟨hok, hb, hm⟩ => ?_
    rw [u.guardWrite_SYS_MODE_REQ m 7 (by decide) hok, State.modeReq_service _ hb hm]
  · refine runs_of_runU _ _ _ _ (fun _ => rfl) fun u hok => ?_
    obtain ⟨hlt, hstop, hretry, hcontinue⟩ := continue_bits stop
    rw [u.busWrite_SYS_CALL_CTRL m _ hlt hok, hstop, hretry, hcontinue]
    simp only [Bool.false_eq_true, if_false, if_true, State.callContinue]
  · refine runs_of_runU _ _ _ _ (fun _ => rfl) fun u hok => ?_
    obtain ⟨hlt, hstop, hretry, hcontinue⟩ := retryPrompt_bits stop
    rw [u.busWrite_SYS_CALL_CTRL m _ hlt hok, hstop, hretry, hcontinue]
    simp only [Bool.false_eq_true, if_false, if_true, State.retryPrompt]
  · refine runs_of_runU _ _ _ _ (fun _ => rfl) fun u hok => ?_
    rw [u.guardWrite_SYS_RESET_REQ m 1 (by decide) hok, State.resetReq_printPath]
  · refine runs_of_runU _ _ _ _ (fun _ => rfl) fun u hok => ?_
    rw [u.guardWrite_SYS_RESET_REQ m 2 (by decide) hok, State.resetReq_device _ 2 (.inl rfl)]
  · refine runs_of_runU _ _ _ _ (fun _ => rfl) fun u hok => ?_
    rw [u.guardWrite_SYS_RESET_REQ m 3 (by decide) hok, State.resetReq_device _ 3 (.inr rfl)]

/-! ### Resets and supply events -/

/-- A command that no held reset closes and that waits for a condition completes where it holds. -/
theorem runsHeld_of_when (c : Instr) (p : State → Bool) (E : State → State)
    (hc : ∀ s, exec c s = runW c.time s (fun u => when (p u) E u)) : RunsHeld c (fun u => p u = true) E :=
  runsHeld_of_runW c _ E _ hc fun _ h => if_pos h

/-- The first release of reset after power-on samples the straps, and CALL starts (R747). -/
theorem State.powerOn_por (u : State) (refSel : Nat) (banks : List (Nat × Nat)) (holdup : Bool) (hh : u.sys.held = true)
    (hp : u.sys.por = true) :
    u.powerOn refSel banks holdup =
      let p : State := { u with porAt := u.now, clk := { u.clk with refSel := refSel % 8 } }
      let p := (List.range 16).foldl (fun s b => s.put (F.GPIO_BANK_STRAP b)
        (if [0, 6, 7].contains (((banks[b]?).getD (0, 0)).2 % 8) then 0 else ((banks[b]?).getD (0, 0)).1))
        ((p.put F.CLK_REF_SEL refSel).put F.CLK_REF_FREQ (refFreq (refSel % 8)))
      let p := (List.range 16).foldl (fun s b => s.put (F.GPIO_BANK_VCCIO b)
        (if ((banks[b]?).getD (0, 0)).2 % 8 = 6 then 7 else ((banks[b]?).getD (0, 0)).2 % 8)) p
      (p.put F.LCY_STATUS_HOLDUP (bit holdup)).callStart := by
  unfold State.powerOn
  rw [if_neg (by simp [hh]), if_pos hp]

/-- A later release samples the banks' supplies only, and CALL starts (R747). -/
theorem State.powerOn_again (u : State) (refSel : Nat) (banks : List (Nat × Nat)) (holdup : Bool) (hh : u.sys.held = true)
    (hp : (!u.sys.por) = true) :
    u.powerOn refSel banks holdup =
      let p := (List.range 16).foldl (fun s b => s.put (F.GPIO_BANK_VCCIO b)
        (if ((banks[b]?).getD (0, 0)).2 % 8 = 6 then 7 else ((banks[b]?).getD (0, 0)).2 % 8)) u
      (p.put F.LCY_STATUS_HOLDUP (bit holdup)).callStart := by
  unfold State.powerOn
  rw [if_neg (by simp [hh]), if_neg (by simpa using hp)]

/-- SYS_RST_N low resets a running device and holds it (R78). -/
theorem State.pinReset_running (u : State) (hh : (!u.sys.held) = true) :
    u.pinReset = (u.deviceReset 1 true).setFlags F.SYS_RESET_CAUSE_PIN 1 :=
  if_neg (by simpa using hh)

/-- A print-path reset in REHEARSAL or SERVICE drops what the print path does, and phase ARM runs again (R80). -/
theorem State.printPathReset_runs (u : State) (aonBad : Nat) (hm : u.mode = 2 ∨ u.mode = 7) :
    u.printPathReset aonBad =
      let p := (List.range 16).foldl (fun s n => s.markRequest n 2) u
      let p := (((p.setFlags F.SYS_RESET_CAUSE_PRINT_PATH 1).transitionDrop).put F.SYS_MODE_BUSY 1).printClear
      let p := p.put F.PWR_RET_STATUS_HELD (p.get F.PWR_RET_STATUS_HELD &&& (255 - 4))
      (((({ p with sys := { p.sys with printReset := true, armStarted := false, armFail := false } } :
        State).fabSettle).aonDamage aonBad).lanesReset).armStart false := by
  unfold State.printPathReset
  rw [if_neg (by simp [hm])]

/-- Settles O10: each reset or supply event meets the condition of its row. -/
theorem resetsComplete : Obligations.ResetsComplete := by
  refine ⟨fun k t => ?_, fun refSel banks holdup t => ?_, fun refSel banks holdup t => ?_, fun aonKept t => ?_, fun t => ?_,
    fun t => ?_, fun cut t => ?_, fun t => ?_, fun aonBad t => ?_, fun t => ?_, fun t => ?_, fun t a => ?_⟩
  · refine runs_of_runU _ _ _ _ (fun _ => rfl) fun u ⟨hp, he⟩ => ?_
    exact if_pos (by simp [hp, he])
  · exact runsHeld_of_runW _ (fun s => s.powerOn refSel banks holdup) _ _ (fun _ => rfl) fun u ⟨hh, hp⟩ =>
      u.powerOn_por refSel banks holdup hh hp
  · exact runsHeld_of_runW _ (fun s => s.powerOn refSel banks holdup) _ _ (fun _ => rfl) fun u ⟨hh, hp⟩ =>
      u.powerOn_again refSel banks holdup hh hp
  · exact runsHeld_of_runW _ (fun s => s.brownOut aonKept) _ _ (fun _ => rfl) fun u _ => rfl
  · exact runsHeld_of_runW _ State.pinReset _ _ (fun _ => rfl) fun u hh => u.pinReset_running hh
  · exact runs_of_runU _ _ _ _ (fun _ => rfl) fun u _ => rfl
  · exact runsHeld_of_when _ (fun u => !u.sys.earlyWarning) _ (fun _ => rfl)
  · exact runsHeld_of_when _ (fun u => u.sys.earlyWarning) _ (fun _ => rfl)
  · refine runs_of_runU _ _ _ _ (fun _ => rfl) fun u ⟨hd, hm⟩ => ?_
    rw [when, if_pos hd]
    exact u.resetTaken.printPathReset_runs aonBad hm
  · exact runs_of_runU _ _ _ _ (fun _ => rfl) fun u h => if_pos h
  · refine runs_of_runU _ _ _ _ (fun _ => rfl) fun u h => ?_
    exact if_pos (by simp [h])
  · refine runs_of_runU _ _ _ _ (fun _ => rfl) fun u ⟨ha, ht⟩ => ?_
    exact if_pos (by simp [ha, ht])

end Sys2Proof.Machine
end

section
/-! PROOFS. Tracks: what writes of their staged registers, reads of their positions, edges, bounds of the synthesiser and cues
complete with. -/

namespace Sys2Proof.Machine

/-! ### Staged registers of a track -/

/-- Register `r` of the staged set of track `n`, in the order of R123. -/
def stagedFld (n r : Nat) : Fld := (stagedTrk n).getD r (F.TRK_CTRL n)

/-- Its row in the register map: the rows of the tracks that a write changes are the staged set, in the order of R123. -/
def stagedRow (r : Fin 12) : RegRow :=
  (trkRows.filter (fun w => decide (w.rw ≠ 0)))[r.val]'(Nat.lt_of_lt_of_eq r.isLt (by decide))

/-- The register map finds each staged register in its row. -/
theorem findReg_staged (n : Fin 16) (r : Fin 12) :
    findReg (stagedFld n.val r.val).addr = some ⟨stagedRow r, n.val, 0, 0⟩ :=
  match r with
  | 0 => findReg_TRK_CTRL n
  | 1 => findReg_TRK_INPUT n
  | 2 => findReg_TRK_PITCH n
  | 3 => findReg_TRK_LOCK n
  | 4 => findReg_TRK_COAST n
  | 5 => findReg_TRK_DECEL n
  | 6 => findReg_TRK_REJOIN n
  | 7 => findReg_TRK_REV n
  | 8 => findReg_TRK_SCHED n
  | 9 => findReg_TRK_CUE n
  | 10 => findReg_TRK_CUE_CFG n
  | 11 => findReg_TRK_Z n

/-- That register stands at its field's address with its field's reset value, below the slave window. -/
theorem stagedRow_at : ∀ (n : Fin 16) (r : Fin 12),
    (⟨stagedRow r, n.val, 0, 0⟩ : RegAt).addr = (stagedFld n.val r.val).addr ∧
    (⟨stagedRow r, n.val, 0, 0⟩ : RegAt).reset = (stagedFld n.val r.val).rst ∧
    inWindow (stagedFld n.val r.val).addr = false := by decide +kernel

/-- The bits of each staged register that a write stores. -/
theorem stagedRow_rw : ∀ r : Fin 12, (stagedRow r).rw &&& 0xFFFFFFFF = ([0x7, 0xFF0305, 0xFFFFFFFF, 0xFFFF0FFF, 0xFFFF80FF,
    0xFFFFFFFF, 0xFFFF0FFF, 0xFFFF, 0xFFFFFFFF, 0xFFFFFFF7, 0xFFFFFFFF, 0xFFFFFFFF] : List Nat).getD r.val 0 := by
  decide

/-- No staged register is guarded, and none has a bit that a write of 1 clears. -/
theorem stagedRow_plain : ∀ r : Fin 12, (stagedRow r).wg = false ∧ (stagedRow r).w1c = 0 := by decide

/-- A write of a staged register other than TRK_SCHED stages its value (R123). -/
theorem State.writePlain_staged (u : State) (n : Fin 16) (r : Fin 12) (m v : Nat) (h8 : r ≠ 8) :
    u.writePlain ⟨stagedRow r, n.val, 0, 0⟩ m v =
      u.stageWrite n.val (fun s => s.setRegAt (⟨stagedRow r, n.val, 0, 0⟩ : RegAt).addr
        (⟨stagedRow r, n.val, 0, 0⟩ : RegAt).reset ((stagedRow r).merge
          (u.regAt (⟨stagedRow r, n.val, 0, 0⟩ : RegAt).addr (⟨stagedRow r, n.val, 0, 0⟩ : RegAt).reset) m
          (u.clearable ⟨stagedRow r, n.val, 0, 0⟩ v))) :=
  match r with
  | 0 | 1 | 2 | 3 | 4 | 5 | 6 | 7 | 9 | 10 | 11 => rfl
  | 8 => absurd rfl h8

/-- A granted write of a staged register other than TRK_SCHED stages the value that its bits take, and the set is applied at
once in a curtain window (R123). -/
theorem State.busWrite_staged (u : State) (m : Master) (n : Fin 16) (r : Fin 12) (v rw : Nat) (h8 : r ≠ 8)
    (hrw : (stagedRow r).rw &&& 0xFFFFFFFF = rw) (hok : u.granted m (stagedFld n.val r.val) true = true) :
    u.busWrite m (stagedFld n.val r.val) v =
      let w := u.withRW (stagedFld n.val r.val) rw v
      ((w.setTrack n.val { w.track n.val with cfgPending := true }).curtain n.val).answered m 0 := by
  obtain ⟨ha, hs, hin⟩ := stagedRow_at n r
  obtain ⟨hg, hc⟩ := stagedRow_plain r
  rw [State.busWrite_granted u m _ v _ (findReg_staged n r) hg rfl hin hok, State.writePlain_staged u n r _ _ h8,
    State.clearable_plain u _ _ hc, State.rwValue_merge u (stagedFld n.val r.val) _ rw v ha hs hrw hc, ha, hs]
  rfl

/-- A granted write of TRK_SCHED is checked and staged with the value that its bits take (R222, R225). -/
theorem State.busWrite_TRK_SCHED (u : State) (m : Master) (n : Fin 16) (v : Nat)
    (hok : u.granted m (F.TRK_SCHED n.val) true = true) :
    u.busWrite m (F.TRK_SCHED n.val) v =
      (u.schedWrite n.val (u.rwValue (F.TRK_SCHED n.val) 0xFFFFFFFF v)).answered m 0 := by
  have hf : F.TRK_SCHED n.val = stagedFld n.val (8 : Fin 12).val := rfl
  obtain ⟨ha, hs, hin⟩ := stagedRow_at n 8
  obtain ⟨hg, hc⟩ := stagedRow_plain 8
  rw [hf] at hok ⊢
  have hw : u.writePlain ⟨stagedRow 8, n.val, 0, 0⟩ 0xFFFFFFFF (v % 2 ^ 32) = u.schedWrite n.val ((stagedRow 8).merge
      (u.regAt (⟨stagedRow 8, n.val, 0, 0⟩ : RegAt).addr (⟨stagedRow 8, n.val, 0, 0⟩ : RegAt).reset) 0xFFFFFFFF
      (u.clearable ⟨stagedRow 8, n.val, 0, 0⟩ (v % 2 ^ 32))) := rfl
  rw [State.busWrite_granted u m _ v _ (findReg_staged n 8) hg rfl hin hok, hw, State.clearable_plain u _ _ hc,
    State.rwValue_merge u (stagedFld n.val (8 : Fin 12).val) _ 0xFFFFFFFF v ha hs (stagedRow_rw 8) hc]

/-! ### Reads of a position -/

/-- The position registers lie below the slave window. -/
theorem inWindow_posTrk : ∀ (n : Fin 16) (r : Fin 3),
    inWindow ((posTrk n.val).getD r.val (F.TRK_POS n.val)).addr = false := by
  decide +kernel

/-- A read of the lower half of a 64-bit register without read-to-clear bits answers it and latches the upper half (R131). -/
theorem State.read32_lowHalf (u : State) (m : Master) (x : RegAt) (v : Nat) (hg : x.row.wg = false)
    (hw : x.row.wide = true) (h0 : x.off = 0) (hc : x.row.rc = 0) (hv : u.readWhole x = (u, v)) :
    u.read32 m x = ({ u with latch := tblPut none u.latch (m.code * 2 ^ 32 + x.addr) (some (BitVec.ofNat 32 (v / 2 ^ 32))) },
      v % 2 ^ 32) := by
  unfold State.read32
  rw [hg, hw, h0, hv]
  dsimp only
  rw [State.readClear_plain u x _ hc]
  rfl

/-- A granted read of the lower half of such a register answers the master with it, and latches the upper half (R131). -/
theorem State.busRead_lowHalf (u : State) (m : Master) (f : Fld) (x : RegAt) (v : Nat) (hr : findReg f.addr = some x)
    (ha : x.addr = f.addr) (hg : x.row.wg = false) (hw : x.row.wide = true) (h0 : x.off = 0) (hc : x.row.rc = 0)
    (hv : u.readWhole x = (u, v)) (hin : inWindow f.addr = false) (hok : u.granted m f false = true) :
    u.busRead m f =
      ({ u with latch := tblPut none u.latch (m.code * 2 ^ 32 + f.addr) (some (BitVec.ofNat 32 (v / 2 ^ 32))) } :
        State).answered m (v % 2 ^ 32) := by
  rw [State.busRead_granted u m f x hr hin hok, u.read32_lowHalf m x v hg hw h0 hc hv, ha]

/-- TRK_CUE_POS reads as it is stored. -/
theorem State.readWhole_TRK_CUE_POS (u : State) (x : RegAt) (hid : x.row.id = .TRK_CUE_POS) (hg : x.row.wg = false)
    (hc : x.row.rc = 0) (ho : x.row.wo = 0) : u.readWhole x = (u, u.regAt x.addr x.reset) := by
  unfold State.readWhole State.live
  rw [hid, State.seen_plain u x hc, hg, ho]
  simp [clearBits]

/-- A granted read of the lower half of TRK_POS, TRK_HWM or TRK_CUE_POS (R131). -/
theorem State.busRead_posTrk (u : State) (m : Master) (n : Fin 16) (r : Fin 3)
    (hok : u.granted m ((posTrk n.val).getD r.val (F.TRK_POS n.val)) false = true) :
    u.busRead m ((posTrk n.val).getD r.val (F.TRK_POS n.val)) =
      let f := (posTrk n.val).getD r.val (F.TRK_POS n.val)
      let v := ([(u.psAt n.val u.now).toNat, ((u.settle n.val u.now).track n.val).h.toNat, u.regAt f.addr 0] :
        List Nat).getD r.val 0
      ({ u with latch := tblPut none u.latch (m.code * 2 ^ 32 + f.addr) (some (BitVec.ofNat 32 (v / 2 ^ 32))) } :
        State).answered m (v % 2 ^ 32) := by
  have hin := inWindow_posTrk n r
  match r with
  | 0 => exact u.busRead_lowHalf m _ _ _ (findReg_TRK_POS n) rfl rfl rfl rfl rfl rfl hin hok
  | 1 => exact u.busRead_lowHalf m _ _ _ (findReg_TRK_HWM n) rfl rfl rfl rfl rfl rfl hin hok
  | 2 =>
    exact u.busRead_lowHalf m _ _ _ (findReg_TRK_CUE_POS n) rfl rfl rfl rfl rfl
      (u.readWhole_TRK_CUE_POS _ rfl rfl rfl rfl) hin hok

/-! ### Edges and bounds of the synthesiser -/

/-- Settling a track's position changes no register in force. -/
@[simp] theorem State.settle_act (s : State) (n : Nat) (t : Ps) (f : Fld) : (s.settle n t).act f = s.act f := by
  unfold State.settle
  dsimp only
  split <;> rfl

/-- An edge of an armed track moves it, and what waited for the edge follows (R91, R122). -/
theorem State.edgeIn_armed (u : State) (n : Nat) (aLeads : Bool) (ha : (u.track n).armed = true) :
    u.edgeIn n aLeads =
      (u.edge n (u.stamp n) (decide (aLeads = (u.act (F.TRK_INPUT_DIR_INVERT n) = 1))) 1 true).lateRun n := by
  unfold State.edgeIn
  rw [if_neg (by simp [ha])]

/-- An edge of a track that is not armed is early motion (R75). -/
theorem State.edgeIn_disarmed (u : State) (n : Nat) (aLeads : Bool) (ha : (!(u.track n).armed) = true) :
    u.edgeIn n aLeads = u.earlyMotion n :=
  if_pos ha

/-- An illegal transition of an armed track counts two edges, restarts an acquisition and marks what prints (R92). -/
theorem State.quadErr_armed (u : State) (n : Nat) (ha : (u.track n).armed = true) :
    u.quadErr n =
      let e := u.edge n (u.stamp n) (u.track n).back 2 false
      let e := if (e.track n).st = .acquire then e.setTrack n { e.track n with acq := [], acqEdges := 0 } else e
      ((e.markAll n (u.printingIds n) 7).raise Ev.TRK_QUAD_ERR n).lateRun n := by
  unfold State.quadErr
  rw [if_neg (by simp [ha])]

/-- A rising Z edge of an armed track moving forward closes a revolution (R93). -/
theorem State.zEdge_closes (u : State) (n : Nat) (ha : (u.track n).armed = true)
    (hz : u.act (F.TRK_INPUT_Z_MODE n) = 1) (hb : (!(u.track n).back) = true) :
    u.zEdge n =
      let x := u.track n
      let want := u.act (F.TRK_Z n)
      let e := if x.zValid ∧ want ≠ 0 ∧ x.zCount ≠ want then (u.markAll n x.firedZ 9).raise Ev.TRK_Z_MISMATCH n else u
      e.setTrack n { e.track n with zCount := 0, zValid := true, firedZ := [] } := by
  unfold State.zEdge
  rw [if_neg (by simpa [ha, hz] using hb)]

/-- No edge within TIMEOUT: LOCKED or REJOIN is left, for COAST where REJOIN held or a coast budget is set (R101). -/
theorem State.synthTimeout_due (u : State) (n : Nat) (e : Ps) (ha : (u.track n).armed = true)
    (he : (u.track n).lastEdge = some e) (ht : e + u.timeoutPs n ≤ u.now) (hc : (!(u.edgeComes n)) = true)
    (hst : (u.track n).st = .locked ∨ (u.track n).st = .rejoin) :
    u.synthTimeout n =
      let a := u.settle n u.now
      if (u.track n).st = .rejoin ∨ 0 < u.act (F.TRK_COAST_DISTANCE n) then
        (a.setTrack n { a.track n with
          st := .coast, ps := a.psAt n a.now, psTime := a.now, lossCause := 1
          coastUsed := if (a.track n).st = .locked then 0 else (a.track n).coastUsed }).raise Ev.TRK_LOST n
      else a.toAcquire n u.now 1 := by
  unfold State.synthTimeout
  dsimp only
  rw [he]
  dsimp only
  rw [if_neg (by simpa [ha, ht, hst] using hc), State.settle_act, State.settle_now]

/-- COAST ends where its budget is spent (R101). -/
theorem State.coastEnd_spent (u : State) (n : Nat) (ha : (u.track n).armed = true) (hs : (u.track n).st = .coast)
    (hc : (!(u.edgeComes n)) = true) (hl : u.coastLeft n ≤ u.psMove n u.now) :
    u.coastEnd n = ((u.settle n u.now).toAcquire n u.now 3).raise Ev.TRK_COAST_END n :=
  if_pos ⟨ha, hs, hc, .inr hl⟩

/-! ### Cue inputs -/

/-- A change of a track's record leaves a cue input on and the track in use. -/
theorem State.cueOn_setTrack (u : State) (n k : Nat) (x : Trk) (he : u.cueEn n k = true)
    (hn : u.act (F.TRK_CTRL_ENABLE n) = 1) :
    ¬((!(u.setTrack n x).cueEn n k) = true ∨ (u.setTrack n x).act (F.TRK_CTRL_ENABLE n) = 0) := by
  have he' : (u.setTrack n x).cueEn n k = true := he
  have hn' : (u.setTrack n x).act (F.TRK_CTRL_ENABLE n) = 1 := hn
  rw [he', hn']
  simp

/-- A change to a level that the input does not stand at starts a debounce with what holds at its time stamp (R95). -/
theorem State.cueTransition_starts (u : State) (n k : Nat) (level : Bool) (t : Ps)
    (hl : (u.track n).cueLevel.testBit k ≠ level) (hc : tblGet none (u.track n).cues k = none)
    (he : u.cueEn n k = true) (hn : u.act (F.TRK_CTRL_ENABLE n) = 1) (hs : level ≠ (u.track n).cueStable.testBit k) :
    u.cueTransition n k level t =
      let x := u.track n
      let a := (u.setTrack n { x with
        cueLevel := if level then x.cueLevel ||| 2 ^ k else x.cueLevel &&& (255 - 2 ^ k) }).settle n u.now
      let y := a.track n
      a.setTrack n { y with
        cues := tblPut none y.cues k (some
          { level, at_ := t, pos := a.psAt n t, st := y.st, lockedOnce := y.lockedOnce, reverse := y.reverse
            inhibited := a.inhibited n, inCall := decide (a.mode = 1) }) } := by
  have hd : u.cueDue n k t = u := by
    unfold State.cueDue
    rw [hc]
  unfold State.cueTransition
  rw [if_neg hl, hd]
  dsimp only
  rw [if_neg (u.cueOn_setTrack n k _ he hn), if_neg hs]
  rfl

/-- A change back to the level that the input stands at, before its debounce has passed, drops it (R95). -/
theorem State.cueTransition_reverts (u : State) (n k : Nat) (level : Bool) (t : Ps) (c : CuePending)
    (hl : (u.track n).cueLevel.testBit k ≠ level) (hc : tblGet none (u.track n).cues k = some c)
    (ht : t < c.at_ + u.act (F.TRK_CUE_DEBOUNCE n) * 1000000) (he : u.cueEn n k = true)
    (hn : u.act (F.TRK_CTRL_ENABLE n) = 1) (hs : level = (u.track n).cueStable.testBit k) :
    u.cueTransition n k level t =
      let x := u.track n
      let a := u.setTrack n { x with
        cueLevel := if level then x.cueLevel ||| 2 ^ k else x.cueLevel &&& (255 - 2 ^ k) }
      a.setTrack n { a.track n with cues := tblPut none (a.track n).cues k none } := by
  have hd : u.cueDue n k t = u := by
    unfold State.cueDue
    rw [hc]
    exact if_neg (Nat.not_le.2 ht)
  unfold State.cueTransition
  rw [if_neg hl, hd]
  dsimp only
  rw [if_neg (u.cueOn_setTrack n k _ he hn), if_pos hs, State.track_setTrack]

/-- The state once input `k` of track `n` stands at a level: its debounce is over (R95). -/
def State.cueStood (u : State) (n k : Nat) (level : Bool) : State :=
  let x := (u.settle n u.now).track n
  (u.settle n u.now).setTrack n { x with
    cues := tblPut none x.cues k none
    cueStable := if level then x.cueStable ||| 2 ^ k else x.cueStable &&& (255 - 2 ^ k) }

/-- A level that has lasted for DEBOUNCE is judged, and what waited for its flush follows (R94, R95). -/
theorem State.cueEvent_due (u : State) (n k : Nat) (c : CuePending) (hc : tblGet none (u.track n).cues k = some c)
    (ht : c.at_ + u.act (F.TRK_CUE_DEBOUNCE n) * 1000000 ≤ u.now) :
    u.cueEvent n k = (u.cueStays n k c).flushLate n := by
  unfold State.cueEvent State.cueDue
  rw [hc]
  dsimp only
  rw [if_pos ht]

/-- A change to the inactive level, or on an input that is off, is no cue event (R94). -/
theorem State.cueStays_inactive (u : State) (n k : Nat) (c : CuePending)
    (h : c.level = (u.cueStood n k c.level).cueEdge n k ∨ (!(u.cueStood n k c.level).cueEn n k) = true) :
    u.cueStays n k c = u.cueStood n k c.level :=
  if_pos h

/-- A cue event of an armed track is judged as a product's on its BIND input, holds printing on an INHIBIT input, and is shown
on any other (R94). -/
theorem State.cueStays_active (u : State) (n k : Nat) (c : CuePending)
    (hl : c.level ≠ (u.cueStood n k c.level).cueEdge n k) (he : (u.cueStood n k c.level).cueEn n k = true)
    (ha : ((u.cueStood n k c.level).track n).armed = true) :
    u.cueStays n k c =
      let a := u.cueStood n k c.level
      if a.act (F.TRK_CUE_BIND_SEL n) = k then a.bindCue n c
      else if a.cueInhibits n k then a
      else (a.emit (.aux n k c.pos)).raise Ev.TRK_CUE_AUX n := by
  have harm : ((u.settle n u.now).track n).armed = true := by
    unfold State.cueStood at ha
    dsimp only at ha
    rw [State.track_setTrack] at ha
    exact ha
  have hoff : ¬(c.level = (u.cueStood n k c.level).cueEdge n k ∨ (!(u.cueStood n k c.level).cueEn n k) = true) := by
    simp [hl, he]
  unfold State.cueStays
  exact (if_neg hoff).trans (if_neg (by simp [harm]))

/-- A BIND cue in CALL, where no item is accepted, in REVERSE, while inhibited or before the first lock is ignored (R96,
R119). -/
theorem State.bindCue_ignored (s : State) (n : Nat) (c : CuePending)
    (h : c.inCall = true ∨ (!s.accepting) = true ∨ c.reverse = true ∨ c.inhibited = true ∨
      (c.st = .acquire ∧ (!c.lockedOnce) = true)) :
    s.bindCue n c = s.raise Ev.TRK_CUE_IGNORED n :=
  if_pos h

/-- Any other BIND cue of a track that has locked is a product's, where no LOCKOUT is set and the device is no understudy
(R119). -/
theorem State.bindCue_product (s : State) (n : Nat) (c : CuePending) (hcall : (!c.inCall) = true)
    (hacc : s.accepting = true) (hrev : (!c.reverse) = true) (hinh : (!c.inhibited) = true) (hst : c.st ≠ .acquire)
    (hlock : s.act (F.TRK_CUE_LOCKOUT n) = 0) (hmode : s.mode ≠ 4) :
    s.bindCue n c = s.productCue n c.pos c.at_ (decide (c.st = .coast)) := by
  rw [Bool.not_eq_true'] at hcall hrev hinh
  unfold State.bindCue
  rw [if_neg (by simp [hcall, hacc, hrev, hinh, hst]), hlock]
  dsimp only
  rw [if_neg (by cases (s.track n).lastBind <;> simp), if_neg hmode, if_neg hst]

/-- Settles O12: each command is its access, or meets the branch of the synthesis rules that its conditions name. -/
theorem trackCommandsComplete : Obligations.TrackCommandsComplete := by
  refine ⟨fun n t => ?_, fun m n r v t => ?_, fun m n v t => ?_, fun m n r t => ?_, fun n aLeads t => ?_,
    fun n aLeads t => ?_, fun n t => ?_, fun n t => ?_, fun n t e => ?_, fun n t e => ?_, fun n t => ?_,
    fun n k level t => ?_, fun n k level t c => ?_, fun n k t c => ?_, fun n k t c => ?_, fun n k t c => ?_,
    fun n k t c => ?_⟩
  · exact runs_of_runU _ _ _ _ (fun _ => rfl) fun u h => if_pos h
  · exact runs_of_runU _ _ _ _ (fun _ => rfl) fun u ⟨hok, h8⟩ => u.busWrite_staged m n r v _ h8 (stagedRow_rw r) hok
  · exact runs_of_runU _ _ _ _ (fun _ => rfl) fun u hok => u.busWrite_TRK_SCHED m n v hok
  · exact runs_of_runU _ _ _ _ (fun _ => rfl) fun u hok => u.busRead_posTrk m n r hok
  · refine runs_of_runU _ _ _ _ (fun _ => rfl) fun u ⟨hin, ha⟩ => ?_
    rw [when, if_pos hin]
    exact u.edgeIn_armed n.track.val aLeads ha
  · refine runs_of_runU _ _ _ _ (fun _ => rfl) fun u ⟨hin, ha⟩ => ?_
    rw [when, if_pos hin]
    exact u.edgeIn_disarmed n.track.val aLeads ha
  · refine runs_of_runU _ _ _ _ (fun _ => rfl) fun u ⟨hin, ha⟩ => ?_
    rw [when, if_pos hin]
    exact u.quadErr_armed n.track.val ha
  · refine runs_of_runU _ _ _ _ (fun _ => rfl) fun u ⟨hin, hedge, hlate, ha, hz, hb⟩ => ?_
    rw [when, if_pos hin, State.afterEdge_now u n.track.val _ (by simpa using hedge) hlate]
    exact u.zEdge_closes n.track.val ha hz hb
  · refine runs_of_runU _ _ _ _ (fun _ => rfl) fun u ⟨hon, ha, he, ht, hedge, hst⟩ => ?_
    rw [when, if_pos hon, u.synthTimeout_due n.val e ha he ht hedge (hst.elim .inr fun h => .inl h.1)]
    exact if_pos (hst.imp_right And.right)
  · refine runs_of_runU _ _ _ _ (fun _ => rfl) fun u ⟨hon, ha, he, ht, hedge, hst, hd⟩ => ?_
    rw [when, if_pos hon, u.synthTimeout_due n.val e ha he ht hedge (.inl hst)]
    exact if_neg (by simp [hst, hd])
  · refine runs_of_runU _ _ _ _ (fun _ => rfl) fun u ⟨hon, ha, hst, hedge, hl⟩ => ?_
    rw [when, if_pos hon]
    exact u.coastEnd_spent n.val ha hst hedge hl
  · refine runs_of_runU _ _ _ _ (fun _ => rfl) fun u ⟨hin, hedge, hlate, hl, hc, he, hn, hs⟩ => ?_
    rw [when, if_pos hin, State.afterEdge_now u n.track.val _ (by simpa using hedge) hlate]
    exact u.cueTransition_starts n.track.val k.val level _ hl hc he hn hs
  · refine runs_of_runU _ _ _ _ (fun _ => rfl) fun u ⟨hin, hedge, hlate, hl, hc, ht, he, hn, hs⟩ => ?_
    rw [when, if_pos hin, State.afterEdge_now u n.track.val _ (by simpa using hedge) hlate]
    exact u.cueTransition_reverts n.track.val k.val level _ c hl hc ht he hn hs
  · refine runs_of_runU _ _ _ _ (fun _ => rfl) fun u ⟨hon, hc, ht, hoff⟩ => ?_
    rw [when, if_pos hon, u.cueEvent_due n.val k.val c hc ht, u.cueStays_inactive n.val k.val c hoff]
    rfl
  · refine runs_of_runU _ _ _ _ (fun _ => rfl) fun u ⟨hon, hc, ht, hl, he, ha, hbind, hinh⟩ => ?_
    rw [Bool.not_eq_true'] at hinh
    rw [when, if_pos hon, u.cueEvent_due n.val k.val c hc ht, u.cueStays_active n.val k.val c hl he ha]
    exact congrArg (State.flushLate · n.val)
      ((if_neg hbind).trans (if_neg (ne_true_of_eq_false hinh)))
  · refine runs_of_runU _ _ _ _ (fun _ => rfl)
      fun u ⟨hon, hc, ht, hl, he, ha, hbind, hcall, hacc, hrev, hinh, hst, hlock, hmode⟩ => ?_
    rw [when, if_pos hon, u.cueEvent_due n.val k.val c hc ht, u.cueStays_active n.val k.val c hl he ha]
    exact congrArg (State.flushLate · n.val) ((if_pos hbind).trans
      (State.bindCue_product _ n.val c hcall hacc hrev hinh hst hlock hmode))
  · refine runs_of_runU _ _ _ _ (fun _ => rfl) fun u ⟨hon, hc, ht, hl, he, ha, hbind, hign⟩ => ?_
    rw [when, if_pos hon, u.cueEvent_due n.val k.val c hc ht, u.cueStays_active n.val k.val c hl he ha]
    exact congrArg (State.flushLate · n.val) ((if_pos hbind).trans (State.bindCue_ignored _ n.val c hign))

end Sys2Proof.Machine
end

section
/-! PROOFS. The forge: the sets of its tile cache, and what the commands of lines, of layouts, of its settings and of variable
data complete with. -/

namespace Sys2Proof.Machine

/-! ### The tile cache (R215, R216) -/

/-- A list is shorter without an element that it holds. -/
theorem length_filter_ne_lt {l : List Nat} {v : Nat} (h : v ∈ l) : (l.filter (· ≠ v)).length < l.length :=
  List.length_filter_lt_length_iff_exists.2 ⟨v, h, by simp⟩

/-- The units of its set that stay behind a unit which takes the front: of 16 others the least recently used unpinned one
goes. -/
def State.cacheBehind (s : State) (u : Nat) : List Nat :=
  let l := (s.cacheLine (cacheSet u)).filter (· ≠ u)
  if l.length < 16 then l else
    match l.reverse.find? (fun v => !(s.frg.pins.contains v)) with
    | some v => l.filter (· ≠ v)
    | none => l

/-- Using a unit changes the cache alone: its set is the unit and what stays behind it. -/
theorem State.cacheUse_eq (s : State) (u : Nat) :
    s.cacheUse u = { s with frg := { s.frg with
      cache := tblPut [] s.frg.cache (cacheSet u) (u :: s.cacheBehind u) } } := rfl

/-- The set of a unit after its use. -/
theorem State.cacheLine_cacheUse_same (s : State) (u : Nat) :
    (s.cacheUse u).cacheLine (cacheSet u) = u :: s.cacheBehind u := by
  rw [s.cacheUse_eq u]
  exact tblGet_put_same [] s.frg.cache (cacheSet u) (u :: s.cacheBehind u)

/-- Every other set after a use. -/
theorem State.cacheLine_cacheUse_ne (s : State) (u k : Nat) (hk : k ≠ cacheSet u) :
    (s.cacheUse u).cacheLine k = s.cacheLine k := by
  rw [s.cacheUse_eq u]
  exact tblGet_put_ne [] [] s.frg.cache (cacheSet u) k (u :: s.cacheBehind u) hk

/-- With fewer than 16 others in its set, all of them stay behind a unit. -/
theorem State.cacheBehind_room (s : State) (u : Nat) (h : ((s.cacheLine (cacheSet u)).filter (· ≠ u)).length < 16) :
    s.cacheBehind u = (s.cacheLine (cacheSet u)).filter (· ≠ u) :=
  if_pos h

/-- With 16 others of which one is unpinned, an unpinned one of them leaves, and the others stay. -/
theorem State.cacheBehind_full (s : State) (u : Nat) (h : ¬((s.cacheLine (cacheSet u)).filter (· ≠ u)).length < 16)
    (hv : ∃ v ∈ (s.cacheLine (cacheSet u)).filter (· ≠ u), v ∉ s.frg.pins) :
    ∃ w ∈ (s.cacheLine (cacheSet u)).filter (· ≠ u), w ∉ s.frg.pins ∧
      s.cacheBehind u = ((s.cacheLine (cacheSet u)).filter (· ≠ u)).filter (· ≠ w) := by
  obtain ⟨v, hv, hpin⟩ := hv
  unfold State.cacheBehind
  dsimp only
  rw [if_neg h]
  split
  next w hw =>
    exact ⟨w, List.mem_reverse.1 (List.mem_of_find?_eq_some hw), by simpa using List.find?_some hw, rfl⟩
  next hnone => exact absurd (List.find?_eq_none.1 hnone v (List.mem_reverse.2 hv)) (by simpa using hpin)

section CacheSet

variable (s : State) (u : Nat) (hlen : (s.cacheLine (cacheSet u)).length ≤ 16)
  (hroom : (s.cacheLine (cacheSet u)).length < 16 ∨ u ∈ s.cacheLine (cacheSet u) ∨
    ∃ v ∈ s.cacheLine (cacheSet u), v ∉ s.frg.pins)

include hlen hroom

/-- A unit whose set has room or an unpinned other either has fewer than 16 others or one of them is unpinned. -/
theorem State.cache_room_or_unpinned : ((s.cacheLine (cacheSet u)).filter (· ≠ u)).length < 16 ∨
    ∃ v ∈ (s.cacheLine (cacheSet u)).filter (· ≠ u), v ∉ s.frg.pins := by
  by_cases hu : u ∈ s.cacheLine (cacheSet u)
  · exact .inl (Nat.lt_of_lt_of_le (length_filter_ne_lt hu) hlen)
  · obtain hlt | hmem | ⟨v, hv, hpin⟩ := hroom
    · exact .inl (Nat.lt_of_le_of_lt (List.length_filter_le _ _) hlt)
    · exact absurd hmem hu
    · exact .inr ⟨v, List.mem_filter.2 ⟨hv, decide_eq_true fun h => hu (h ▸ hv)⟩, hpin⟩

/-- What stays behind a unit leaves it a way of the 16. -/
theorem State.length_cacheBehind_lt : (s.cacheBehind u).length < 16 := by
  by_cases h : ((s.cacheLine (cacheSet u)).filter (· ≠ u)).length < 16
  · rwa [s.cacheBehind_room u h]
  · obtain ⟨w, hw, -, hbehind⟩ := s.cacheBehind_full u h ((s.cache_room_or_unpinned u hlen hroom).resolve_left h)
    rw [hbehind]
    exact Nat.lt_of_lt_of_le (length_filter_ne_lt hw) (Nat.le_trans (List.length_filter_le _ _) hlen)

/-- Every other pinned unit of the set stays behind a unit. -/
theorem State.pinned_mem_cacheBehind (v : Nat) (hv : v ∈ s.cacheLine (cacheSet u)) (hpin : v ∈ s.frg.pins)
    (hne : v ≠ u) : v ∈ s.cacheBehind u := by
  have hmem : v ∈ (s.cacheLine (cacheSet u)).filter (· ≠ u) := List.mem_filter.2 ⟨hv, decide_eq_true hne⟩
  by_cases h : ((s.cacheLine (cacheSet u)).filter (· ≠ u)).length < 16
  · rwa [s.cacheBehind_room u h]
  · obtain ⟨w, -, hw, hbehind⟩ := s.cacheBehind_full u h ((s.cache_room_or_unpinned u hlen hroom).resolve_left h)
    rw [hbehind]
    exact List.mem_filter.2 ⟨hmem, decide_eq_true fun e => hw (e ▸ hpin)⟩

end CacheSet

/-- Settles O56: a unit takes the front of its set, and what stays behind it has room for it and holds what is pinned. -/
theorem theTileCacheKeepsSixteenWays : Obligations.TheTileCacheKeepsSixteenWays := by
  intro s u hlen hroom
  rw [State.cacheLine_cacheUse_same]
  refine ⟨s.length_cacheBehind_lt u hlen hroom, rfl, fun v hv hpin => ?_, s.cacheLine_cacheUse_ne u, rfl⟩
  by_cases hne : v = u
  · exact hne ▸ List.mem_cons_self
  · exact List.mem_cons_of_mem _ (s.pinned_mem_cacheBehind u hlen hroom v hv hpin hne)

/-! ### Lines in the forge -/

/-- The eligible line that comes first (R195). -/
def State.nextLine (s : State) : Option Line :=
  (s.frg.lines.filter s.eligible).foldl (fun b x => match b with
    | none => some x
    | some y => if s.lineBefore x y then some x else some y) none

/-- The line that a pipeline composes. -/
def State.pipeLine (s : State) (k : Nat) : Option Line :=
  s.frg.lines.find? (fun l => match l.st with
    | .composing j _ => j = k
    | _ => false)

/-- An enabled pipeline that is free takes the line that comes first (R195). -/
theorem State.lineStart_takes (s : State) (k : Nat) (l : Line) (hen : (s.get F.FRG_CTRL_PIPE_EN).testBit k = true)
    (hfree : (!s.pipesBusy.testBit k) = true) (hacc : s.accepting = true) (hl : s.nextLine = some l) :
    s.lineStart k = (s.lineRead k l).linesShow := by
  rw [Bool.not_eq_true'] at hfree
  unfold State.lineStart
  rw [if_neg (by simp [hen, hfree, hacc])]
  dsimp only
  split
  next hnone => exact absurd (hl.symm.trans hnone) (by simp)
  next x hx => rw [Option.some.inj (hl.symm.trans hx)]

/-- A line that has been read and is not late leaves its pipeline, and the buffered lines of its track that may leave do
(R196, R197). -/
theorem State.lineComposed_inTime (s : State) (k : Nat) (back : List TapReturn) (badEntries : List Nat)
    (badSets : List (Bool × Nat)) (badDelay : List Nat) (corrected : Nat) (l : Line) (hl : s.pipeLine k = some l)
    (hread : (!s.reading l) = true) (hlate : (!s.lateNow l) = true) :
    s.lineComposed k back badEntries badSets badDelay corrected =
      let errs := badEntries.map (fun i => (0, i)) ++ badSets.map (fun p => (if p.1 then 2 else 1, p.2)) ++
        badDelay.map (fun i => (3, i)) ++ (List.range corrected).map (fun _ => (4, 0))
      let a := errs.foldl (fun s e => s.condError l (s.linePage l.track) e) s
      let a : State := { a with frg := { a.frg with pipeErr := a.frg.pipeErr &&& (255 - 2 ^ (k % 8)) } }
      let b := a.setLine { l with
        st := .buffered, planes := a.compose ((s.version? l.track l.layout l.version).getD {}) (a.printFields l).1 l.index }
      (b.linesRelease l.track back 4096).linesShow := by
  rw [Bool.not_eq_true'] at hread hlate
  unfold State.lineComposed
  split
  next hnone => exact absurd (hl.symm.trans hnone) (by simp)
  next x hx =>
    obtain rfl := Option.some.inj (hl.symm.trans hx)
    exact if_neg (by simp [hread, hlate])

/-- The earliest line of a track past its deadline is dropped where the track will not fire it, and is a deadline fault
otherwise (R384, R386). -/
theorem State.lineDeadline_late (s : State) (n : Nat) (read : Bool) (l : Line)
    (hl : (s.settle n s.now).firstLine n (s.settle n s.now).lateNow = some l) :
    s.lineDeadline n read =
      let a := s.settle n s.now
      if a.lineDead l then a.dropLine l else a.lineFault l (a.faultCause l (a.dOf l) read) false := by
  unfold State.lineDeadline
  dsimp only
  rw [hl]

/-! ### Layout operations -/

/-- A granted pair for FRG_LAYOUT_OP writes its operation, and the master is answered (R227, R248). -/
theorem State.guardWrite_FRG_LAYOUT_OP (u : State) (m : Master) (op : Nat) (track : Fin 16) (id : Nat) (hop : op < 4)
    (hok : u.granted m F.FRG_LAYOUT_OP true = true) :
    u.guardWrite m F.FRG_LAYOUT_OP (layoutValue op track.val id) =
      ((u.withReg F.FRG_LAYOUT_OP (layoutValue op track.val id)).layoutWrite op track.val (id % 2 ^ 16)
        none).answered m 0 := by
  have ht := track.isLt
  rw [State.guardWrite_granted u m _ _ _ findReg_FRG_LAYOUT_OP rfl rfl rfl rfl rfl (layoutValue_mask op _ id hop ht)
    (show (0x3FFFFF : Nat) < 2 ^ 32 by decide) (layoutValue_lt op _ id hop ht) rfl hok]
  show ((u.withReg F.FRG_LAYOUT_OP (layoutValue op track.val id)).layoutOp (layoutValue op track.val id)).answered m 0 = _
  unfold State.layoutOp
  rw [layoutValue_op op _ id hop ht, layoutValue_track op _ id ht, layoutValue_id]

/-- With no operation running, a remove starts, and an install or a replace in a mode that takes one (R227). -/
theorem State.layoutWrite_starts (s : State) (op track id : Nat) (h0 : op ≠ 0) (hn : s.frg.op = none)
    (hmay : op = 3 ∨ s.accepting = true ∨ s.mode = 7) :
    s.layoutWrite op track id none =
      ({ s with frg := { s.frg with
        op := some { op, track, id, addr := 256 * s.get F.FRG_LAYOUT_ADDR, mirror := none } } } : State).put
          F.FRG_LAYOUT_RESULT_BUSY 1 := by
  have hready : ¬(op ≠ 3 ∧ (!decide (s.accepting = true ∨ s.mode = 7)) = true) := by
    rintro ⟨h3, hno⟩
    simp [hmay.resolve_left h3] at hno
  unfold State.layoutWrite
  rw [if_neg h0, if_neg (by simp [hn]), if_neg hready]

/-- A granted pair that starts an operation leaves it running. -/
theorem State.guardWrite_layoutStarts (u : State) (m : Master) (op : Nat) (track : Fin 16) (id : Nat) (h0 : op ≠ 0)
    (hop : op < 4) (hok : u.granted m F.FRG_LAYOUT_OP true = true)
    (hn : (u.withReg F.FRG_LAYOUT_OP (layoutValue op track.val id)).frg.op = none)
    (hmay : op = 3 ∨ (u.withReg F.FRG_LAYOUT_OP (layoutValue op track.val id)).accepting = true ∨
      (u.withReg F.FRG_LAYOUT_OP (layoutValue op track.val id)).mode = 7) :
    u.guardWrite m F.FRG_LAYOUT_OP (layoutValue op track.val id) =
      let w := u.withReg F.FRG_LAYOUT_OP (layoutValue op track.val id)
      (({ w with frg := { w.frg with
        op := some { op, track := track.val, id := id % 2 ^ 16, addr := 256 * w.get F.FRG_LAYOUT_ADDR
                     mirror := none } } } : State).put F.FRG_LAYOUT_RESULT_BUSY 1).answered m 0 := by
  rw [u.guardWrite_FRG_LAYOUT_OP m op track id hop hok, State.layoutWrite_starts _ op _ _ h0 hn hmay]

/-- An operation of the device's own that waits for no understudy takes its effect (R227, R229). -/
theorem State.layoutFinish_applies (s : State) (o : LayoutOp) (ho : s.frg.op = some o) (hw : o.waiting = none)
    (hr : o.op = 3 → s.removeFault o = none) (hm : (!s.mirrors) = true ∨ s.layoutFails o = true)
    (hq : o.mirror = none) : s.layoutFinish = (s.layoutApply o).schedHeld := by
  have hfault : (if o.op = 3 then s.removeFault o else none) = none := by
    split
    next h3 => exact hr h3
    next => rfl
  have halone : ¬(s.mirrors = true ∧ (!s.layoutFails o) = true) := by
    rintro ⟨hmir, hsound⟩
    rw [Bool.not_eq_true'] at hsound
    simp [hmir, hsound] at hm
  unfold State.layoutFinish
  rw [ho]
  dsimp only
  rw [if_neg (by simp [hw]), hfault]
  dsimp only
  rw [if_neg halone, hq]

/-- An operation ends at once where its list can be read and no item of the instant goes before it (R227, R239, R332). -/
theorem State.layoutComplete_now (s : State) (o : LayoutOp) (ho : s.frg.op = some o)
    (hlist : o.op = 3 ∨ (s.dramMay 4 o.addr 64 = true ∧ (!s.nzc.op.any (fun p => p.op = 3)) = true))
    (hmore : o.op = 1 ∨ (!s.more) = true) : s.layoutComplete = s.layoutFinish := by
  have hread : ¬(o.op ≠ 3 ∧ ((!s.dramMay 4 o.addr 64) = true ∨ s.nzc.op.any (fun p => p.op = 3) = true)) := by
    rintro ⟨h3, hno⟩
    obtain ⟨hdram, hnz⟩ := hlist.resolve_left h3
    rw [Bool.not_eq_true'] at hnz
    simp [hdram, hnz] at hno
  have hlast : ¬(o.op ≠ 1 ∧ s.more = true) := by
    rintro ⟨h1, hm⟩
    simp [hm, h1] at hmore
  unfold State.layoutComplete
  rw [ho]
  dsimp only
  rw [if_neg hread, if_neg hlast]

/-! ### Writes of the forge's registers -/

/-- A granted write of a register that acts on its new value does so with the value that its bits take (R14). -/
theorem State.busWrite_acts (u : State) (m : Master) (f : Fld) (v rw : Nat) (r : RegAt) (act : Nat → State)
    (hr : findReg f.addr = some r) (hg : r.row.wg = false) (h0 : r.off = 0) (ha : r.addr = f.addr) (hs : r.reset = f.rst)
    (hrw : r.row.rw &&& 0xFFFFFFFF = rw) (hc : r.row.w1c = 0) (hin : inWindow f.addr = false)
    (hact : ∀ x, u.writePlain r 0xFFFFFFFF x =
      act (r.row.merge (u.regAt r.addr r.reset) 0xFFFFFFFF (u.clearable r x)))
    (hok : u.granted m f true = true) : u.busWrite m f v = (act (u.rwValue f rw v)).answered m 0 := by
  rw [State.busWrite_granted u m f v r hr hg h0 hin hok, hact, State.clearable_plain u r _ hc,
    State.rwValue_merge u f r.row rw v ha hs hrw hc]

/-- The tap registers stand at the addresses of their fields, below the slave window. -/
theorem tapCtrl_at : ∀ k : Fin 8, (⟨⟨.FRG_TAP_CTRL, 0x100080, 0x4, 8, 0x0, 1, false, false, 0xFFFF0003, 0x0, 0x0, 0x0,
    0x0⟩, k.val, 0, 0⟩ : RegAt).addr = (F.FRG_TAP_CTRL k.val).addr ∧ inWindow (F.FRG_TAP_CTRL k.val).addr = false := by
  decide +kernel

/-- A granted write of a tap register changes the tap (R254). -/
theorem State.busWrite_FRG_TAP_CTRL (u : State) (m : Master) (k : Fin 8) (v : Nat)
    (hok : u.granted m (F.FRG_TAP_CTRL k.val) true = true) :
    u.busWrite m (F.FRG_TAP_CTRL k.val) v =
      (u.tapWrite k.val (u.rwValue (F.FRG_TAP_CTRL k.val) 0xFFFF0003 v)).answered m 0 := by
  obtain ⟨ha, hin⟩ := tapCtrl_at k
  exact u.busWrite_acts m _ v _ _ (u.tapWrite k.val) (findReg_FRG_TAP_CTRL k) rfl rfl ha rfl
    (show (0xFFFF0003 : Nat) &&& 0xFFFFFFFF = 0xFFFF0003 from rfl) rfl hin (fun _ => rfl) hok

/-! ### Variable data -/

/-- With no operation running, a granted write of an operation code starts it on its vector (R266, R267). -/
theorem State.busWrite_FRG_VD_OP (u : State) (m : Master) (op : Nat) (vector : Fin 128) (h0 : op ≠ 0) (h4 : op ≤ 4)
    (hok : u.granted m F.FRG_VD_OP true = true) (hidle : (!u.flag F.FRG_VD_RESULT_BUSY) = true) :
    u.busWrite m F.FRG_VD_OP (vdValue op vector.val) =
      (({ u with vd := { u.vd with op := some (op, vector.val) } } : State).put F.FRG_VD_RESULT_BUSY 1).answered m 0 := by
  rw [Bool.not_eq_true'] at hidle
  rw [State.busWrite_granted u m _ _ _ findReg_FRG_VD_OP rfl rfl rfl hok]
  show (u.vdStart (bits (vdValue op vector.val % 2 ^ 32) 2 0)
    (bits (vdValue op vector.val % 2 ^ 32) 14 8)).answered m 0 = _
  rw [vdValue_op op vector (by omega), vdValue_vector op vector (by omega)]
  unfold State.vdStart
  rw [if_neg (by omega), if_neg (by simp [hidle])]

/-- The words of the counters stand at the addresses of their fields, below the slave window. -/
theorem counterWord_at : ∀ (k : Fin 64) (w : Fin 3), (⟨⟨.FRG_VD_CNT_VAL, 0x102400, 0x20, 64, 0x8, 3, true, false,
    0xFFFFFFFFFFFF, 0x0, 0x0, 0x0, 0x0⟩, k.val, w.val, 0⟩ : RegAt).addr = (F.FRG_VD_CNT_VAL k.val w.val).addr ∧
    inWindow (F.FRG_VD_CNT_VAL k.val w.val).addr = false := by
  decide +kernel

/-- A granted write of a word of a counter is checked and stored with the value that its bits take (R306). -/
theorem State.busWrite64_FRG_VD_CNT_VAL (u : State) (m : Master) (k : Fin 64) (w : Fin 3) (v : Nat)
    (hok : u.granted m (F.FRG_VD_CNT_VAL k.val w.val) true = true) :
    u.busWrite64 m (F.FRG_VD_CNT_VAL k.val w.val) v =
      (u.cntWrite k.val w.val
        (bits (u.rwValue (F.FRG_VD_CNT_VAL k.val w.val) 0xFFFFFFFFFFFF v) 47 0)).answered m 0 := by
  obtain ⟨ha, hin⟩ := counterWord_at k w
  have hnv := State.rwValue_merge64 u (F.FRG_VD_CNT_VAL k.val w.val) ⟨.FRG_VD_CNT_VAL, 0x102400, 0x20, 64, 0x8, 3, true,
    false, 0xFFFFFFFFFFFF, 0x0, 0x0, 0x0, 0x0⟩ 0xFFFFFFFFFFFF v ha rfl rfl rfl
  rw [State.busWrite64_granted u m _ v _ (findReg_FRG_VD_CNT_VAL k w) rfl rfl rfl hin hok, ← hnv]
  rfl

/-- Settles O14: each command is a granted write that nothing turns away, or meets the branch that its conditions name. -/
theorem forgeCommandsComplete : Obligations.ForgeCommandsComplete := by
  refine ⟨fun k t l => ?_, fun k back badEntries badSets badDelay corrected t l => ?_, fun n t l => ?_, fun k t => ?_,
    fun t => ?_, fun n read t l => ?_, fun m t => ?_, fun m track id t => ?_, fun m track id t => ?_,
    fun m track id t => ?_, fun t o => ?_, fun m v t => ?_, fun m v t => ?_, fun m v t => ?_, fun m k v t => ?_,
    fun t => ?_, fun m vector t => ?_, fun m vector t => ?_, fun m vector t => ?_, fun m vector t => ?_, fun t => ?_,
    fun m k w v t => ?_⟩
  · exact runs_of_runU _ _ _ _ (fun _ => rfl) fun u ⟨hen, hfree, hacc, hl⟩ => u.lineStart_takes k.val l hen hfree hacc hl
  · exact runs_of_runU _ _ _ _ (fun _ => rfl) fun u ⟨hl, hread, hlate⟩ =>
      u.lineComposed_inTime k.val back badEntries badSets badDelay corrected l hl hread hlate
  · exact runs_of_runU _ _ _ _ (fun _ => rfl) fun _ _ => rfl
  · exact runs_of_runU _ _ _ _ (fun _ => rfl) fun _ _ => rfl
  · exact runs_of_runU _ _ _ _ (fun _ => rfl) fun u hon => if_pos hon
  · exact runs_of_runU _ _ _ _ (fun _ => rfl) fun u hl => u.lineDeadline_late n.val read l hl
  · exact runs_of_runU _ _ _ _ (fun _ => rfl) fun u hok =>
      u.busWrite_granted m _ 1 _ findReg_FRG_DL_POP rfl rfl rfl hok
  · exact runs_of_runU _ _ _ _ (fun _ => rfl) fun u ⟨hok, hn, hmay⟩ =>
      u.guardWrite_layoutStarts m 1 track id (by decide) (by decide) hok hn (.inr hmay)
  · exact runs_of_runU _ _ _ _ (fun _ => rfl) fun u ⟨hok, hn, hmay⟩ =>
      u.guardWrite_layoutStarts m 2 track id (by decide) (by decide) hok hn (.inr hmay)
  · exact runs_of_runU _ _ _ _ (fun _ => rfl) fun u ⟨hok, hn⟩ =>
      u.guardWrite_layoutStarts m 3 track id (by decide) (by decide) hok hn (.inl rfl)
  · exact runs_of_runU _ _ _ _ (fun _ => rfl) fun u ⟨ho, hlist, hmore, hw, hr, hm, hq⟩ =>
      (u.layoutComplete_now o ho hlist hmore).trans (u.layoutFinish_applies o ho hw hr hm hq)
  · exact runs_of_runU _ _ _ _ (fun _ => rfl) fun u hok =>
      u.busWrite_acts m _ v _ _ u.budgetWrite findReg_FRG_BUDGET rfl rfl rfl rfl rfl rfl rfl (fun _ => rfl) hok
  · exact runs_of_runU _ _ _ _ (fun _ => rfl) fun u hok =>
      u.busWrite_acts m _ v _ _ u.frgCtrlWrite findReg_FRG_CTRL rfl rfl rfl rfl rfl rfl rfl (fun _ => rfl) hok
  · exact runs_of_runU _ _ _ _ (fun _ => rfl) fun u hok =>
      u.busWrite_acts m _ v _ _ u.cacheWrite findReg_FRG_CACHE_CFG rfl rfl rfl rfl rfl rfl rfl (fun _ => rfl) hok
  · exact runs_of_runU _ _ _ _ (fun _ => rfl) fun u hok => u.busWrite_FRG_TAP_CTRL m k v hok
  · exact runs_of_runU _ _ _ _ (fun _ => rfl) fun u hre => if_pos hre
  · exact runs_of_runU _ _ _ _ (fun _ => rfl) fun u ⟨hok, hidle⟩ =>
      u.busWrite_FRG_VD_OP m 1 vector (by decide) (by decide) hok hidle
  · exact runs_of_runU _ _ _ _ (fun _ => rfl) fun u ⟨hok, hidle⟩ =>
      u.busWrite_FRG_VD_OP m 2 vector (by decide) (by decide) hok hidle
  · exact runs_of_runU _ _ _ _ (fun _ => rfl) fun u ⟨hok, hidle⟩ =>
      u.busWrite_FRG_VD_OP m 3 vector (by decide) (by decide) hok hidle
  · exact runs_of_runU _ _ _ _ (fun _ => rfl) fun u ⟨hok, hidle⟩ =>
      u.busWrite_FRG_VD_OP m 4 vector (by decide) (by decide) hok hidle
  · exact runs_of_runU _ _ _ _ (fun _ => rfl) fun _ _ => rfl
  · exact runs_of_runU _ _ _ _ (fun _ => rfl) fun u hok => u.busWrite64_FRG_VD_CNT_VAL m k w v hok

end Sys2Proof.Machine
end

section
/-! PROOFS. Radix vectors: the digits of a number and the value of a word, addition over ordinary digits, and the order of
two words. -/

namespace Sys2Proof.Machine

/-! ### Digits and values (R262) -/

/-- The product can be taken from any start. -/
theorem foldl_mul_radix (v : List VDigit) (m : Nat) : v.foldl (fun m d => m * d.radix) m = m * capacity v := by
  induction v generalizing m with
  | nil => exact (Nat.mul_one m).symm
  | cons d v ih => rw [capacity, List.foldl_cons, List.foldl_cons, ih, ih, Nat.one_mul, Nat.mul_assoc]

theorem capacity_cons (d : VDigit) (v : List VDigit) : capacity (d :: v) = d.radix * capacity v := by
  rw [capacity, List.foldl_cons, foldl_mul_radix, Nat.one_mul]

/-- A word has one digit for each position of the vector, each below its radix, as in a valid word (R261). -/
inductive DigitsFit : List VDigit → List Nat → Prop
  | nil : DigitsFit [] []
  | cons {d : VDigit} {v : List VDigit} {x : Nat} {xs : List Nat} :
      x < d.radix → DigitsFit v xs → DigitsFit (d :: v) (x :: xs)

/-- A word of a vector's length fits it when each digit that both list does. -/
theorem digitsFit_of_getElem? {v : List VDigit} {xs : List Nat} (hlen : xs.length = v.length)
    (h : ∀ k : Nat, ∀ d x, v[k]? = some d → xs[k]? = some x → x < d.radix) : DigitsFit v xs := by
  induction v generalizing xs with
  | nil =>
    match xs, hlen with
    | [], _ => exact .nil
  | cons d v ih =>
    match xs, hlen, h with
    | x :: xs, hlen, h => exact .cons (h 0 d x rfl rfl) (ih (Nat.succ.inj hlen) fun k => h (k + 1))

theorem toDigits_cons {d : VDigit} (hr : 0 < d.radix) (v : List VDigit) (n : Nat) :
    toDigits (d :: v) n = n % d.radix :: toDigits v (n / d.radix) := by
  rw [toDigits, Nat.max_eq_right hr]

theorem length_toDigits (v : List VDigit) (n : Nat) : (toDigits v n).length = v.length := by
  induction v generalizing n with
  | nil => rfl
  | cons d v ih => rw [toDigits, List.length_cons, List.length_cons, ih]

theorem digitsVal_toDigits {v : List VDigit} (hpos : ∀ d ∈ v, 0 < d.radix) (n : Nat) :
    digitsVal v (toDigits v n) = n % capacity v := by
  induction v generalizing n with
  | nil => exact (Nat.mod_one n).symm
  | cons d v ih =>
    obtain ⟨hd, hv⟩ := List.forall_mem_cons.1 hpos
    rw [toDigits_cons hd, digitsVal, ih hv, capacity_cons, Nat.mod_mul]

theorem toDigits_digitsVal {v : List VDigit} {xs : List Nat} (h : DigitsFit v xs) :
    toDigits v (digitsVal v xs) = xs := by
  induction h with
  | nil => rfl
  | @cons d v x xs hx _ ih =>
    have hd : 0 < d.radix := Nat.zero_lt_of_lt hx
    rw [digitsVal, toDigits_cons hd, Nat.add_mul_mod_self_left, Nat.mod_eq_of_lt hx,
      Nat.add_mul_div_left _ _ hd, Nat.div_eq_of_lt hx, Nat.zero_add, ih]

/-- With a lower digit below the radix, a smaller rest of the word makes a smaller value. -/
theorem add_radix_mul_lt {r x X Y : Nat} (y : Nat) (hx : x < r) (hXY : X < Y) : x + r * X < y + r * Y :=
  calc x + r * X < r * (X + 1) := by rw [Nat.mul_succ]; omega
    _ ≤ r * Y := Nat.mul_le_mul_left r hXY
    _ ≤ y + r * Y := Nat.le_add_left _ _

theorem digitsVal_lt_capacity {v : List VDigit} {xs : List Nat} (h : DigitsFit v xs) : digitsVal v xs < capacity v := by
  induction h with
  | nil => exact Nat.one_pos
  | cons hx _ ih =>
    rw [digitsVal, capacity_cons, ← Nat.zero_add (_ * capacity _)]
    exact add_radix_mul_lt 0 hx ih

/-- Settles O46: the digits of a number are its remainders in turn, and each division undoes one digit of a value. -/
theorem radixDigitsAndValuesRoundTrip : Obligations.RadixDigitsAndValuesRoundTrip := fun v n hpos =>
  ⟨digitsVal_toDigits hpos n, length_toDigits v n, fun xs hlen hfit =>
    have h : DigitsFit v xs := digitsFit_of_getElem? hlen hfit
    ⟨toDigits_digitsVal h, digitsVal_lt_capacity h⟩⟩

/-! ### Addition over ordinary digits (R263) -/

/-- An ordinary digit keeps the remainder of its sum and hands the quotient up. -/
theorem addDigits_cons_ordinary {d : VDigit} (hr : 0 < d.radix) (ho : d.carry = 0) (v vb : List VDigit)
    (x b c : Nat) (xs bs below : List Nat) (st : AddStatus) :
    addDigits (d :: v) (x :: xs) (b :: bs) c st below vb =
      addDigits v xs bs ((x + b + c) / d.radix) st ((x + b + c) % d.radix :: below) (d :: vb) := by
  have hsat : ¬(d.carry = 1 ∧ d.radix ≤ x + b + c) := by omega
  have hwrap : ¬(d.carry = 2 ∧ d.radix ≤ x + b + c) := by omega
  rw [addDigits]
  simp only [List.headD_cons, List.tail_cons, if_neg hsat, if_pos ho, hwrap, decide_false, Bool.or_false,
    Nat.max_eq_right hr]

/-- Over ordinary digits an addition appends the digits of the whole sum, and overflows when that reaches the capacity. -/
theorem addDigits_ordinary {v : List VDigit} (hv : ∀ d ∈ v, 0 < d.radix ∧ d.carry = 0) {xs bs : List Nat}
    (hxs : xs.length = v.length) (hbs : bs.length = v.length) (c : Nat) (st : AddStatus) (below : List Nat)
    (vb : List VDigit) :
    addDigits v xs bs c st below vb =
      (below.reverse ++ toDigits v (digitsVal v xs + digitsVal v bs + c),
        { st with overflow := st.overflow || decide (capacity v ≤ digitsVal v xs + digitsVal v bs + c) }) := by
  induction v generalizing xs bs c below vb with
  | nil =>
    have hsum : digitsVal [] xs + digitsVal [] bs + c = c := by simp only [digitsVal, Nat.zero_add]
    have hreach : capacity [] ≤ c ↔ c ≠ 0 := Nat.one_le_iff_ne_zero
    simp only [addDigits, toDigits, List.append_nil, hsum, hreach]
  | cons d v ih =>
    obtain ⟨⟨hr, ho⟩, hrest⟩ := List.forall_mem_cons.1 hv
    match xs, bs, hxs, hbs with
    | x :: xs, b :: bs, hxs, hbs =>
      have hsum : digitsVal (d :: v) (x :: xs) + digitsVal (d :: v) (b :: bs) + c =
          (x + b + c) + d.radix * (digitsVal v xs + digitsVal v bs) := by
        rw [digitsVal, digitsVal, Nat.mul_add]
        omega
      have hmod : (digitsVal (d :: v) (x :: xs) + digitsVal (d :: v) (b :: bs) + c) % d.radix =
          (x + b + c) % d.radix := by
        rw [hsum, Nat.add_mul_mod_self_left]
      have hdiv : (digitsVal (d :: v) (x :: xs) + digitsVal (d :: v) (b :: bs) + c) / d.radix =
          digitsVal v xs + digitsVal v bs + (x + b + c) / d.radix := by
        rw [hsum, Nat.add_mul_div_left _ _ hr, Nat.add_comm]
      have hreach : capacity (d :: v) ≤ digitsVal (d :: v) (x :: xs) + digitsVal (d :: v) (b :: bs) + c ↔
          capacity v ≤ digitsVal v xs + digitsVal v bs + (x + b + c) / d.radix := by
        rw [← hdiv, Nat.le_div_iff_mul_le hr, capacity_cons, Nat.mul_comm]
      rw [addDigits_cons_ordinary hr ho, ih hrest (Nat.succ.inj hxs) (Nat.succ.inj hbs)]
      simp only [hreach, toDigits_cons hr, hmod, hdiv, List.reverse_cons, List.append_assoc,
        List.singleton_append]

/-- An addend below the capacity gives the digits of the sum of the values. -/
theorem vecAdd_ordinary {v : List VDigit} (hv : ∀ d ∈ v, 0 < d.radix ∧ d.carry = 0) {xs : List Nat}
    (hxs : xs.length = v.length) {b : Nat} (hb : b < capacity v) :
    vecAdd v xs b = (toDigits v (digitsVal v xs + b), { overflow := decide (capacity v ≤ digitsVal v xs + b) }) := by
  have hval : digitsVal v (toDigits v b) = b :=
    (digitsVal_toDigits (fun d hd => (hv d hd).1) b).trans (Nat.mod_eq_of_lt hb)
  rw [vecAdd, if_neg (by omega), List.take_of_length_le (Nat.le_of_eq hxs),
    addDigits_ordinary hv hxs (length_toDigits v b), hval]
  rfl

/-- Settles O45: the digits that the addition leaves are those of the sum, whose value is the sum modulo the capacity. -/
theorem ordinaryAdditionIsModuloTheCapacity : Obligations.OrdinaryAdditionIsModuloTheCapacity := by
  intro v xs b hv hxs _ hb
  rw [vecAdd_ordinary hv hxs hb]
  exact ⟨digitsVal_toDigits (fun d hd => (hv d hd).1) _, rfl⟩

/-! ### The order of two words (R264) -/

/-- Digit 0 decides only where the digits above it compare equal. -/
theorem cmpDigits_cons (x y : Nat) (xs ys : List Nat) : cmpDigits (x :: xs) (y :: ys) =
    if cmpDigits xs ys = 0 then (if x < y then 1 else if y < x then 2 else 0) else cmpDigits xs ys := by
  unfold cmpDigits
  rw [List.zip_cons_cons, List.reverse_cons, List.find?_append]
  cases (xs.zip ys).reverse.find? (fun p => p.1 ≠ p.2) with
  | some p =>
    show (if p.1 < p.2 then 1 else 2) = ite ((if p.1 < p.2 then 1 else 2) = 0) _ _
    exact (if_neg (by split <;> decide)).symm
  | none =>
    by_cases hxy : x = y
    · rw [hxy, Option.none_or, List.find?_cons_of_neg (by exact fun h => of_decide_eq_true h rfl),
        if_pos rfl, if_neg (Nat.lt_irrefl y), if_neg (Nat.lt_irrefl y)]
      rfl
    · rw [Option.none_or, List.find?_cons_of_pos (by exact decide_eq_true hxy), if_pos rfl]
      show (if x < y then 1 else 2) = _
      split
      · rfl
      · exact (if_pos (by omega)).symm

theorem cmpDigits_self (xs : List Nat) : cmpDigits xs xs = 0 := by
  induction xs with
  | nil => rfl
  | cons x xs ih => rw [cmpDigits_cons, if_pos ih, if_neg (Nat.lt_irrefl x), if_neg (Nat.lt_irrefl x)]

/-- The highest digit at which two words differ decides their order. -/
theorem cmpDigits_of_highest_ne {xs ys : List Nat} {k x y : Nat} (hx : xs[k]? = some x) (hy : ys[k]? = some y)
    (habove : ∀ j, k < j → xs[j]? = ys[j]?) (hne : x ≠ y) : cmpDigits xs ys = if x < y then 1 else 2 := by
  induction k generalizing xs ys with
  | zero =>
    match xs, ys, hx, hy with
    | _ :: xs, _ :: ys, rfl, rfl =>
      have htail : xs = ys := List.ext_getElem? fun j => habove (j + 1) j.succ_pos
      rw [cmpDigits_cons, htail, cmpDigits_self, if_pos rfl]
      split
      · rfl
      · exact if_pos (by omega)
  | succ k ih =>
    match xs, ys, hx, hy with
    | _ :: xs, _ :: ys, hx, hy =>
      have htail := ih hx hy fun j hj => habove (j + 1) (Nat.succ_lt_succ hj)
      rw [cmpDigits_cons, if_neg (by rw [htail]; split <;> decide), htail]

theorem eq_of_cmpDigits_eq_zero {xs ys : List Nat} (hlen : xs.length = ys.length) (h : cmpDigits xs ys = 0) :
    xs = ys := by
  induction xs generalizing ys with
  | nil => exact (List.length_eq_zero_iff.1 hlen.symm).symm
  | cons x xs ih =>
    match ys, hlen, h with
    | y :: ys, hlen, h =>
      rw [cmpDigits_cons] at h
      by_cases htail : cmpDigits xs ys = 0
      · rw [if_pos htail] at h
        have hle : ¬x < y := fun hlt => absurd ((if_pos hlt).symm.trans h) (by decide)
        rw [if_neg hle] at h
        have hge : ¬y < x := fun hlt => absurd ((if_pos hlt).symm.trans h) (by decide)
        have hxy : x = y := by omega
        rw [hxy, ih (Nat.succ.inj hlen) htail]
      · exact absurd ((if_neg htail).symm.trans h) htail

/-- Words of digits below their radices stand in the order of their values. -/
theorem cmpDigits_eq_value_order {v : List VDigit} {xs ys : List Nat} (hxs : DigitsFit v xs) (hys : DigitsFit v ys) :
    cmpDigits xs ys =
      if digitsVal v xs < digitsVal v ys then 1 else if digitsVal v ys < digitsVal v xs then 2 else 0 := by
  induction hxs generalizing ys with
  | nil => cases hys; rfl
  | @cons d v x xs hx _ ih =>
    cases hys with
    | @cons _ _ y ys hy htail =>
      rw [cmpDigits_cons, ih htail, digitsVal, digitsVal]
      rcases Nat.lt_trichotomy (digitsVal v xs) (digitsVal v ys) with h | h | h
      · rw [if_pos h, if_neg Nat.one_ne_zero, if_pos (add_radix_mul_lt y hx h)]
      · rw [h, if_neg (Nat.lt_irrefl _), if_neg (Nat.lt_irrefl _), if_pos rfl]
        simp only [Nat.add_lt_add_iff_right]
      · have hword : y + d.radix * digitsVal v ys < x + d.radix * digitsVal v xs := add_radix_mul_lt x hy h
        rw [if_neg (Nat.lt_asymm h), if_pos h, if_neg (Nat.succ_ne_zero 1), if_neg (Nat.lt_asymm hword), if_pos hword]

/-- Settles O44: digit by digit from the highest, and a digit outweighs all the digits below it. -/
theorem radixWordsCompareByTheFirstUnequalDigit : Obligations.RadixWordsCompareByTheFirstUnequalDigit := by
  intro v xs ys hxs hys
  refine ⟨fun _ _ _ => cmpDigits_of_highest_ne,
    ⟨eq_of_cmpDigits_eq_zero (hxs.trans hys.symm), fun h => h ▸ cmpDigits_self xs⟩, fun hfx hfy => ?_⟩
  rw [cmpDigits_eq_value_order (digitsFit_of_getElem? hxs hfx) (digitsFit_of_getElem? hys hfy)]
  by_cases hlt : digitsVal v xs < digitsVal v ys
  · rw [if_pos hlt]
    omega
  · by_cases hgt : digitsVal v ys < digitsVal v xs
    · rw [if_neg hlt, if_pos hgt]
      omega
    · rw [if_neg hlt, if_neg hgt]
      omega

end Sys2Proof.Machine
end

section
/-! PROOFS. The nozzle map: what its operations, its swaps, their ends, a patched entry and the restored map complete with. -/

namespace Sys2Proof.Machine

/-! ### Operations that begin -/

/-- A granted pair for NZC_OP runs its operation, and the master is answered (R325, R337). -/
theorem State.guardWrite_NZC_OP (u : State) (m : Master) (op : Nat) (hop : op < 8)
    (hok : u.granted m F.NZC_OP true = true) :
    u.guardWrite m F.NZC_OP op = ((u.withReg F.NZC_OP op).nzOp op).answered m 0 := by
  have hmask : op &&& 0xF = op := (Nat.and_two_pow_sub_one_eq_mod op 4).trans (Nat.mod_eq_of_lt (by omega))
  rw [State.guardWrite_granted u m _ op _ findReg_NZC_OP rfl rfl rfl rfl rfl hmask (show (0xF : Nat) < 2 ^ 32 by decide)
    (by omega) (by decide) hok]
  show ((u.withReg F.NZC_OP op).nzOp (bits op 2 0)).answered m 0 = _
  rw [show bits op 2 0 = op by unfold bits; omega]

/-- With no operation running, the codes of COPY, LOAD and PREPARE reach the start, and a lead mirrors what has started. -/
theorem State.nzOp_start (s : State) (op : Nat) (h1 : 1 ≤ op) (h3 : op ≤ 3) (hn : s.nzc.op = none) :
    s.nzOp op = if (s.nzStart op none).nzc.op.isSome ∧ (s.nzStart op none).mirrors then
      (s.nzStart op none).nzMirror op else s.nzStart op none := by
  simp [State.nzOp, h1, h3, hn]

/-- With no operation running, COPY, LOAD or PREPARE starts on a shadow page that is not in use, and a lead mirrors it (R325,
R330). -/
theorem State.nzOp_starts (s : State) (op : Nat) (h1 : 1 ≤ op) (h3 : op ≤ 3) (hn : s.nzc.op = none)
    (hready : s.nzReady false = true) (hprep : s.get F.NZC_STATUS_SHADOW ≠ 1) (hswap : s.get F.NZC_STATUS_SHADOW ≠ 3) :
    s.nzOp op =
      let x := (({ s with nzc := { s.nzc with op := some { op, at_ := s.now } } } : State).put F.NZC_STATUS_BUSY 1).put
        F.NZC_STATUS_SHADOW (if op = 3 then 1 else 0)
      if x.mirrors then x.nzMirror op else x := by
  rw [s.nzOp_start op h1 h3 hn, s.nzStart_runs op none hn hready hprep hswap]
  simp

/-- A granted pair that starts COPY, LOAD or PREPARE leaves it running. -/
theorem State.guardWrite_nzStarts (u : State) (m : Master) (op : Nat) (h1 : 1 ≤ op) (h3 : op ≤ 3)
    (hok : u.granted m F.NZC_OP true = true) (hn : (u.withReg F.NZC_OP op).nzc.op = none)
    (hready : (u.withReg F.NZC_OP op).nzReady false = true)
    (hprep : (u.withReg F.NZC_OP op).get F.NZC_STATUS_SHADOW ≠ 1)
    (hswap : (u.withReg F.NZC_OP op).get F.NZC_STATUS_SHADOW ≠ 3) :
    u.guardWrite m F.NZC_OP op =
      let w := u.withReg F.NZC_OP op
      (let x := (({ w with nzc := { w.nzc with op := some { op, at_ := w.now } } } : State).put F.NZC_STATUS_BUSY 1).put
         F.NZC_STATUS_SHADOW (if op = 3 then 1 else 0)
       if x.mirrors then x.nzMirror op else x).answered m 0 := by
  rw [u.guardWrite_NZC_OP m op (by omega) hok, State.nzOp_starts _ op h1 h3 hn hready hprep hswap]

/-- A granted pair that starts a swap of a prepared page switches the idle tracks at once, and a lead mirrors it while it runs
(R328, R330). -/
theorem State.guardWrite_nzSwaps (u : State) (m : Master) (curtain : Bool) (op : Nat)
    (hop : op = if curtain then 5 else 4) (hok : u.granted m F.NZC_OP true = true)
    (hn : (u.withReg F.NZC_OP op).nzc.op = none)
    (hready : (u.withReg F.NZC_OP op).nzReady false = true)
    (hprep : (u.withReg F.NZC_OP op).get F.NZC_STATUS_SHADOW = 2) :
    u.guardWrite m F.NZC_OP op =
      let w := u.withReg F.NZC_OP op
      (let x := (({ w with nzc := { w.nzc with
           op := some { op, at_ := w.now }
           swap := some { curtain, switched := 0, at_ := w.now }, firstNew := 0xFFFF } } : State).put F.NZC_STATUS_BUSY
             1).put F.NZC_STATUS_SHADOW 3
       let y := (List.range 16).foldl (fun s n => if s.inCurtain n then s.nzSwitch n else s) x
       if y.nzc.op.isSome ∧ y.mirrors then y.nzMirror op else y).answered m 0 := by
  subst hop
  rw [u.guardWrite_NZC_OP m _ (by split <;> decide) hok,
    State.nzOp_swap _ curtain _ hn (State.nzSwap_runs _ curtain none hn hready hprep)]

/-! ### Operations that end -/

/-- The state once an operation has ended in `w`: one that a lead sent is acknowledged when it runs no more (R330, R428). -/
def State.nzAcked (w : State) (mirror : Option Nat) : State :=
  match w.nzc.op, mirror with
  | none, some q => w.dpxAck q 0x07 0
  | _, _ => w

/-- An operation that waits for no understudy takes its result and is acknowledged (R330, R428). -/
theorem State.nzFinish_ends (s : State) (may : Nat → Bool) (f : State → State) (o : NzOp) (ho : s.nzc.op = some o)
    (hw : o.waiting = false) (hmay : may o.op = true) : s.nzFinish may f = (f s).nzAcked o.mirror := by
  unfold State.nzFinish
  rw [ho]
  dsimp only
  rw [if_neg (by simp [hw, hmay])]
  rfl

/-- A LOAD with no range to read, or one whose read is served, ends (R36, R326). -/
theorem State.nzServed_ends (s : State) (o : NzOp) (ho : s.nzc.op = some o) (hw : o.waiting = false) (hop : o.op = 2)
    (hserve : (!s.nzLoadRange) = true ∨ s.dramMay 4 (s.get F.NZC_LOAD_ADDR_ADDR) 64 = true) :
    s.nzServed = s.nzLoaded.nzAcked o.mirror := by
  have hread : ¬(s.nzLoadRange = true ∧ (!s.dramMay 4 (s.get F.NZC_LOAD_ADDR_ADDR) 64) = true) := by
    rintro ⟨hrange, hno⟩
    simp [hrange] at hserve
    simp [hserve] at hno
  unfold State.nzServed
  rw [if_neg hread]
  exact s.nzFinish_ends _ _ o ho hw (by simp [hop])

/-! ### Patches -/

/-- A granted write of an entry that nothing refuses stores it, and a lead mirrors it (R326, R330). -/
theorem State.busWrite_NZC_PATCH_ENTRY (u : State) (m : Master) (v : Nat)
    (hok : u.granted m F.NZC_PATCH_ENTRY true = true) (hcode : u.patchCode (v % 2 ^ 32) false = 0) :
    u.busWrite m F.NZC_PATCH_ENTRY v =
      (let w := u.nzPatch (v % 2 ^ 32) false
       let i := u.get F.NZC_PATCH_INDEX_INDEX
       if w.mirrors then w.dpxCommit 0x07 0 (.patch i (v % 2 ^ 32)) (leBytes 1 2 ++ leBytes 7 0 ++ leBytes 4 6 ++
         leBytes 4 i ++ leBytes 4 (v % 2 ^ 32)) else w).answered m 0 := by
  rw [State.busWrite_granted u m _ v _ findReg_NZC_PATCH_ENTRY rfl rfl rfl hok]
  show (u.nzPatchWrite (v % 2 ^ 32)).answered m 0 = _
  unfold State.nzPatchWrite
  simp only [hcode, decide_true, true_and]

/-- Settles O15: a granted pair or entry that nothing refuses begins or is stored, and an operation that waits for no
understudy ends by its own result. -/
theorem nozzleMapCommandsComplete : Obligations.NozzleMapCommandsComplete := by
  refine ⟨fun m t => ?_, fun m t => ?_, fun m t => ?_, fun m t => ?_, fun m t => ?_, fun t o => ?_, fun t o => ?_,
    fun ecc t o => ?_, fun t o => ?_, fun m v t => ?_, fun t => ?_⟩
  · exact runs_of_runU _ _ _ _ (fun _ => rfl) fun u ⟨hok, hn, hready, hprep, hswap⟩ =>
      u.guardWrite_nzStarts m 1 (by decide) (by decide) hok hn hready hprep hswap
  · exact runs_of_runU _ _ _ _ (fun _ => rfl) fun u ⟨hok, hn, hready, hprep, hswap⟩ =>
      u.guardWrite_nzStarts m 2 (by decide) (by decide) hok hn hready hprep hswap
  · exact runs_of_runU _ _ _ _ (fun _ => rfl) fun u ⟨hok, hn, hready, hprep, hswap⟩ =>
      u.guardWrite_nzStarts m 3 (by decide) (by decide) hok hn hready hprep hswap
  · exact runs_of_runU _ _ _ _ (fun _ => rfl) fun u ⟨hok, hn, hready, hprep⟩ =>
      u.guardWrite_nzSwaps m false 4 rfl hok hn hready hprep
  · exact runs_of_runU _ _ _ _ (fun _ => rfl) fun u ⟨hok, hn, hready, hprep⟩ =>
      u.guardWrite_nzSwaps m true 5 rfl hok hn hready hprep
  · refine runs_of_runU _ _ _ _ (fun _ => rfl) fun u ⟨ho, hw, hop⟩ =>
      (u.nzFinish_ends _ State.nzCopied o ho hw (by simp [hop])).trans ?_
    -- The copied state is named, so that the kernel compares the two sides without evaluating it.
    obtain ⟨w, hcopied⟩ : ∃ w, u.nzCopied = w := ⟨_, rfl⟩
    rw [hcopied]
    rfl
  · exact runs_of_runU _ _ _ _ (fun _ => rfl) fun u ⟨ho, hw, hop, hserve⟩ => u.nzServed_ends o ho hw hop hserve
  · exact runs_of_runU _ _ _ _ (fun _ => rfl) fun u ⟨ho, hw, hop⟩ => u.nzFinish_ends _ _ o ho hw (by simp [hop])
  · exact runs_of_runU _ _ _ _ (fun _ => rfl) fun u ⟨ho, hw, hop⟩ => u.nzFinish_ends _ _ o ho hw (by simpa using hop)
  · exact runs_of_runU _ _ _ _ (fun _ => rfl) fun u ⟨hok, hcode⟩ => u.busWrite_NZC_PATCH_ENTRY m v hok hcode
  · exact runs_of_runU _ _ _ _ (fun _ => rfl) fun u hre => if_neg (by simp [hre])

end Sys2Proof.Machine
end

section
/-! PROOFS. Stage lanes: how a lane trains, fails, is lost and is operated on, and what blocks and frames from its board do. -/

namespace Sys2Proof.Machine

/-! ### Training and loss (R346, R367) -/

/-- Block lock with a locked quad PLL moves a lane from DETECT to ALIGN (R346). -/
theorem State.laneDetect_locked (s : State) (k : Nat) (hs : s.laneState k = 1)
    (hpll : s.flag (F.STG_QUAD_PLL_LOCKED (k / 4)) = true) : s.laneDetect k = s.setLaneState k 2 0 := if_pos ⟨hs, hpll⟩

/-- A lane in ALIGN notes the board and its window, and fails where another board was expected (R346). -/
theorem State.laneAlign_aligning (s : State) (k board window : Nat) (hs : s.laneState k = 2) :
    s.laneAlign k board window =
      let x := s.lane k
      let w := s.put (F.STG_LANE_BOARD k) board
      if x.expected ≠ 0 ∧ x.expected ≠ board then w.laneFail k 3
      else if window < 2 then w
      else (w.setLane k { x with window := 256 * window }).setLaneState k 3 0 := if_neg (by simp [hs])

/-- ALIGN fails after its 200 us (R346). -/
theorem State.laneLate_aligning (s : State) (k : Nat) (hs : s.laneState k = 2)
    (ht : (s.lane k).since + 200000000 ≤ s.now) : s.laneLate k = s.laneFail k 2 := by
  unfold State.laneLate
  simp only [hs]
  exact if_pos (decide_eq_true ht)

/-- The lanes' states are shown in registers, which a lane's run state does not touch. -/
theorem State.laneUp_setLane (s : State) (j k : Nat) (x : Lane) : (s.setLane j x).laneUp k = s.laneUp k := rfl

/-- An UP lane that loses block lock goes DOWN with cause 8, with the instant of its last block noted (R367). -/
theorem State.laneLoss_blockLock (s : State) (k : Nat) (last : Ps) (hup : s.laneUp k = true) :
    s.laneLoss k 0 last =
      (s.setLane k { s.lane k with lastUp := max (s.lane k).lastUp (min last s.now) }).laneDown k 8 := by
  unfold State.laneLoss
  dsimp only
  rw [if_neg (by simp [State.laneUp_setLane, hup]), if_pos rfl]

/-! ### Requested operations (R376, R377) -/

/-- The fields of a request for operation `op` on lane `k`: the guard stores all of it. -/
theorem laneOp_fields : ∀ (k : Fin 32) (op : Fin 4), (256 * k.val + op.val) &&& 0x1F03 = 256 * k.val + op.val ∧
    bits (256 * k.val + op.val) 12 8 = k.val ∧ bits (256 * k.val + op.val) 1 0 = op.val := by decide

/-- A granted pair for STG_LANE_OP runs its operation on its lane, and the master is answered (R377). -/
theorem State.guardWrite_STG_LANE_OP (u : State) (m : Master) (k : Fin 32) (op : Fin 4)
    (hok : u.granted m F.STG_LANE_OP true = true) :
    u.guardWrite m F.STG_LANE_OP (256 * k.val + op.val) =
      ((u.withReg F.STG_LANE_OP (256 * k.val + op.val)).laneOp k.val op.val).answered m 0 := by
  obtain ⟨hmask, hlane, hop⟩ := laneOp_fields k op
  rw [State.guardWrite_granted u m _ _ _ findReg_STG_LANE_OP rfl rfl rfl rfl rfl hmask
    (show (0x1F03 : Nat) < 2 ^ 32 by decide) (by omega) (by decide) hok]
  show ((u.withReg F.STG_LANE_OP _).laneOp (bits _ 12 8) (bits _ 1 0)).answered m 0 = _
  rw [hlane, hop]

/-- An operation on a lane that HEADS names is carried out with result 0 in a mode that is not DARK, INTERVAL or CALL: RETRAIN
of a lane that is DOWN or FAILED, TAKE_DOWN, or RETURN (R346, R370, R376, R377). -/
theorem State.laneOp_carriedOut (s : State) (k op : Nat) (hop : op ≠ 0) (hname : s.laneNamed k = true) (h0 : s.mode ≠ 0)
    (h5 : s.mode ≠ 5) (h1 : s.mode ≠ 1) :
    s.laneOp k op =
      let a := s.put F.STG_OP_RESULT_CODE 0
      let x := a.lane k
      if op = 1 then
        if a.laneState k = 5 ∨ a.laneState k = 6 then (a.setLane k { x with takenDown := false }).laneTrain k else a
      else if op = 2 then
        let b := a.setLane k { x with takenDown := true }
        if b.laneUp k then b.laneDown k 0xB else b.setLaneState k 5 0xB
      else (a.setLane k { x with mayReturn := true }).lanesReturnNow := by
  unfold State.laneOp
  dsimp only
  rw [if_neg hop, if_neg (by simp [hname]), if_neg (by simp [h0, h5, h1])]

/-! ### Blocks and frames from a board (R360, R364 to R366) -/

/-- A wait for credit of 10 us on an UP lane is marked once (R360). -/
theorem State.creditStall_due (s : State) (k : Nat) (a : Ps) (ha : (s.lane k).stalled = some a) (hup : s.laneUp k = true)
    (ht : a + 10000000 ≤ s.now) (hm : (!s.flag (F.STG_LANE_STATUS_CREDIT_STALL k)) = true) :
    s.creditStall k = (s.put (F.STG_LANE_STATUS_CREDIT_STALL k) 1).raise Ev.STG_CREDIT_STALL k := by
  unfold State.creditStall
  rw [ha]
  exact if_pos ⟨hup, ht, hm⟩

/-- An UP lane passes the test that turns away what comes on a lane that is not. -/
theorem State.not_laneDown {s : State} {k : Nat} (hup : s.laneUp k = true) : ¬(!s.laneUp k) = true := by simp [hup]

/-- Settles O16: each command meets the branch of its operation that its conditions name, and each request for a lane is a
granted pair whose operation is carried out. -/
theorem stageLanesComplete : Obligations.StageLanesComplete := by
  refine ⟨fun t k => ?_, fun board window t k => ?_, fun latency t k => ?_, fun t k => ?_, fun t k => ?_,
    fun last t k => ?_, fun m k t => ?_, fun m k t => ?_, fun m k t => ?_, fun k t f rest => ?_, fun k n t l => ?_,
    fun k t a => ?_, fun t => ?_, fun k total t => ?_, fun k h port key missed t => ?_, fun k n key t => ?_,
    fun k n id blocks verdict grade station t => ?_, fun frame t k => ?_⟩
  · exact runs_of_runU _ _ _ _ (fun _ => rfl) fun u ⟨hs, hpll⟩ => u.laneDetect_locked k.val hs hpll
  · exact runs_of_runU _ _ _ _ (fun _ => rfl) fun u hs => u.laneAlign_aligning k.val _ _ hs
  · exact runs_of_runU _ _ _ _ (fun _ => rfl) fun u hs => if_pos (decide_eq_true hs)
  · exact runs_of_runU _ _ _ _ (fun _ => rfl) fun u ⟨hs, ht⟩ => u.laneLate_aligning k.val hs ht
  · exact runs_of_runU _ _ _ _ (fun _ => rfl) fun u hagain => if_pos hagain
  · exact runs_of_runU _ _ _ _ (fun _ => rfl) fun u hup => u.laneLoss_blockLock k.val last hup
  · refine runs_of_runU _ _ _ _ (fun _ => rfl) fun u ⟨hok, hname, h0, h5, h1⟩ => ?_
    exact (u.guardWrite_STG_LANE_OP m k 1 hok).trans
      (congrArg (State.answered · m 0) (State.laneOp_carriedOut _ k.val 1 (by decide) hname h0 h5 h1))
  · refine runs_of_runU _ _ _ _ (fun _ => rfl) fun u ⟨hok, hname, h0, h5, h1⟩ => ?_
    exact (u.guardWrite_STG_LANE_OP m k 2 hok).trans
      (congrArg (State.answered · m 0) (State.laneOp_carriedOut _ k.val 2 (by decide) hname h0 h5 h1))
  · refine runs_of_runU _ _ _ _ (fun _ => rfl) fun u ⟨hok, hname, h0, h5, h1⟩ => ?_
    exact (u.guardWrite_STG_LANE_OP m k 3 hok).trans
      (congrArg (State.answered · m 0) (State.laneOp_carriedOut _ k.val 3 (by decide) hname h0 h5 h1))
  · exact runs_of_runU _ _ _ _ (fun _ => rfl) fun _ _ => rfl
  · exact runs_of_runU _ _ _ _ (fun _ => rfl) fun _ _ => rfl
  · exact runs_of_runU _ _ _ _ (fun _ => rfl) fun u ⟨ha, hup, ht, hm⟩ => u.creditStall_due k.val a ha hup ht hm
  · exact runs_of_runU _ _ _ _ (fun _ => rfl) fun _ _ => rfl
  · exact runs_of_runU _ _ _ _ (fun _ => rfl) fun u hup => if_neg (State.not_laneDown hup)
  · exact runs_of_runU _ _ _ _ (fun _ => rfl) fun _ _ => rfl
  · exact runs_of_runU _ _ _ _ (fun _ => rfl) fun u hup => if_neg (State.not_laneDown hup)
  · exact runs_of_runU _ _ _ _ (fun _ => rfl) fun u hup => if_neg (State.not_laneDown hup)
  · exact runs_of_runU _ _ _ _ (fun _ => rfl) fun u hs => if_neg hs

end Sys2Proof.Machine
end

section
/-! PROOFS. What an instant puts last: when happenings that were put off take place, and in which order. -/

namespace Sys2Proof.Machine

/-! ### Happenings put off to the end of their instant (R409, R453, R498, R530) -/

/-- Two happenings that came in the order of the tables keep it. -/
theorem Later.mergeSort_inOrder {k l : Later} (h : k.rank < l.rank) :
    [k, l].mergeSort (fun a b => decide (a.rank ≤ b.rank)) = [k, l] :=
  List.mergeSort_of_pairwise (by simp [Nat.le_of_lt h])

/-- Two happenings that came in the other order are exchanged. -/
theorem Later.mergeSort_exchanged {k l : Later} (h : k.rank < l.rank) :
    [l, k].mergeSort (fun a b => decide (a.rank ≤ b.rank)) = [k, l] := by
  simp [List.mergeSort, List.MergeSort.Internal.splitInTwo, Nat.not_le_of_lt h]

/-- Where no further command of the instant waits, what was put off takes place in the order `ls` of its ranks, from the
state in which nothing is put off. -/
theorem State.instantEnd_sorted (s u : State) (ls : List Later) (hm : s.more = false) (hl : s.later ≠ [])
    (hs : s.later.mergeSort (fun a b => decide (a.rank ≤ b.rank)) = ls) (hu : { s with later := [] } = u) :
    s.instantEnd = ls.foldl State.laterRun u := by
  subst hs hu
  exact if_neg (by simp [hm, hl])

section PutOff

variable (u : State) (k l : Later) (hu : u.later = [])
include hu

/-- With nothing else put off, one happening is all that is put off. -/
theorem State.defer_of_none : u.defer l = { u with later := [l] } := by simp [State.defer, hu]

/-- With nothing else put off, two happenings are put off in the order they came. -/
theorem State.defer_defer_of_none : (u.defer k).defer l = { u with later := [k, l] } := by simp [State.defer, hu]

end PutOff

/-- Settles O57: the list holds the one happening, or the two in the order they came, and the sort by ranks puts the one
first that the tables put first. -/
theorem whatIsPutOffTakesPlaceWhenItsInstantEnds : Obligations.WhatIsPutOffTakesPlaceWhenItsInstantEnds := by
  intro u k l hu
  have hclear : ({ u with later := [] } : State) = u := by rw [← hu]
  refine ⟨fun hm => if_pos (.inr hm), fun hm => ⟨?_, fun hkl => ⟨?_, ?_⟩⟩⟩
  · rw [u.defer_of_none l hu]
    exact State.instantEnd_sorted _ u [l] hm (List.cons_ne_nil _ _) (List.mergeSort_singleton l) hclear
  · rw [u.defer_defer_of_none k l hu]
    exact State.instantEnd_sorted _ u [k, l] hm (List.cons_ne_nil _ _) (Later.mergeSort_inOrder hkl) hclear
  · rw [u.defer_defer_of_none l k hu]
    exact State.instantEnd_sorted _ u [k, l] hm (List.cons_ne_nil _ _) (Later.mergeSort_exchanged hkl) hclear

end Sys2Proof.Machine
end

section
/-! PROOFS. Inspection: what verdict windows, decisions, gates, staged settings and the heartbeat complete with. -/

namespace Sys2Proof.Machine

/-! ### Verdict windows (R400) -/

/-- The window of an awaited item closes with a station silent, 4 us after FIRED or later: the item is decided as missing. -/
theorem State.windowShut_missing (s a : State) (n id : Nat) (x : Item) (hs : s.settle n s.now = a)
    (hx : a.item? n id = some x) (hp : x.phase = .fired) (ha : a.awaits n x = true) (hf : a.firedLong x = true)
    (hw : posDiff (a.track n).h (x.c + BitVec.ofNat 60 (a.act (F.INS_TRK_WINDOW n) * 4096)) ≥ 0)
    (hm : (!x.passedAll (a.stations n)) = true) :
    s.windowShut n id = (a.closeItem n x true).raise Ev.INS_VERDICT_MISSING n := by
  subst hs
  unfold State.windowShut
  dsimp only
  rw [hx]
  exact if_pos ⟨hp, ha, hf, hw, hm⟩

/-! ### Reject gates (R403, R407) -/

/-- With no undecided item at the gate, the first pulse that H has reached leaves the gate's list, and starts where its track
runs under PERFORMANCE rules or the device shadows a lead, or is cancelled. -/
theorem State.gateReach_due (s a : State) (g n : Nat) (p : Pulse) (hn : s.act (F.INS_GATE_CFG_TRACK g) = n)
    (hs : s.settle n s.now = a) (hen : a.act (F.INS_GATE_CFG_EN g) ≠ 0) (hund : (a.undecidedAt g n).head? = none)
    (hdue : (a.gate g).pend.find? (fun p => posDiff (a.track n).h p.start ≥ 0) = some p) :
    s.gateReach g =
      let x := a.gate g
      let b := a.setGate g { x with
        pend := x.pend.filter (fun q => q.start ≠ p.start) ++ (x.pend.filter (fun q => q.start = p.start)).drop 1 }
      if b.perfNow n ∨ b.mode = 4 then b.gatePulse g n (b.mode = 4) else b.addSat (F.INS_GATE_CANCELLED g) 1 := by
  subst hn hs
  unfold State.gateReach
  dsimp only
  rw [if_neg hen, hund, hdue]

/-- A pulse whose width is counted in time alone ends once its instant has come. -/
theorem State.gateEnd_timed (s a : State) (g : Nat) (e : Ps) (hs : s.settle (s.act (F.INS_GATE_CFG_TRACK g)) s.now = a)
    (ha : (a.gate g).endAt = some e) (he : e ≤ s.now) (hp : (a.gate g).endPos = none) :
    s.gateEnd g =
      ((a.setGate g { a.gate g with endPos := none, endAt := none }).gateOut g false).gateApply g := by
  subst hs
  unfold State.gateEnd
  dsimp only
  rw [ha, hp]
  exact if_pos ⟨.inr rfl, rfl, by simpa using he⟩

/-! ### Staged inspection settings (R408) -/

/-- The four staged registers in the order of INS_CFG_WRITE: two of track `k` modulo 16, two of gate `k`. -/
def insFld (r k : Nat) : Fld := ([F.INS_TRK_CFG (k % 16), F.INS_TRK_WINDOW (k % 16), F.INS_GATE_CFG k,
  F.INS_GATE_OFFSET k] : List Fld).getD r (F.INS_TRK_CFG 0)

/-- Their rows in the register map, each with the instance that the command names. -/
def insReg (r : Fin 4) (k : Fin 32) : RegAt :=
  match r with
  | 0 => ⟨⟨.INS_TRK_CFG, 0x130100, 0x20, 16, 0x0, 1, false, false, 0xFF0000FF, 0x0, 0x0, 0x0, 0x0⟩,
    k.val % 16, 0, 0⟩
  | 1 => ⟨⟨.INS_TRK_WINDOW, 0x130104, 0x20, 16, 0x0, 1, false, false, 0xFFFFFFFF, 0x0, 0x0, 0x0, 0x0⟩,
    k.val % 16, 0, 0⟩
  | 2 => ⟨⟨.INS_GATE_CFG, 0x130800, 0x10, 32, 0x0, 1, false, false, 0xEFFFFFFF, 0x0, 0x0, 0x0, 0x1⟩,
    k.val, 0, 0⟩
  | 3 => ⟨⟨.INS_GATE_OFFSET, 0x130804, 0x10, 32, 0x0, 1, false, false, 0xFFFFFFFF, 0x0, 0x0, 0x0, 0x0⟩,
    k.val, 0, 0⟩

/-- The register map finds each of them in its row. -/
theorem findReg_insFld (r : Fin 4) (k : Fin 32) : findReg (insFld r.val k.val).addr = some (insReg r k) :=
  match r with
  | 0 => findReg_INS_TRK_CFG ⟨k.val % 16, Nat.mod_lt _ (by decide)⟩
  | 1 => findReg_INS_TRK_WINDOW ⟨k.val % 16, Nat.mod_lt _ (by decide)⟩
  | 2 => findReg_INS_GATE_CFG k
  | 3 => findReg_INS_GATE_OFFSET k

/-- Each stands at its field's address with its field's reset value, below the slave window. -/
theorem insReg_at : ∀ (r : Fin 4) (k : Fin 32), (insReg r k).addr = (insFld r.val k.val).addr ∧
    (insReg r k).reset = (insFld r.val k.val).rst ∧ inWindow (insFld r.val k.val).addr = false := by decide +kernel

/-- The bits of each that a write stores; none is guarded, and none has a bit that a write of 1 clears. -/
theorem insReg_plain : ∀ (r : Fin 4) (k : Fin 32), (insReg r k).row.wg = false ∧ (insReg r k).off = 0 ∧
    (insReg r k).row.w1c = 0 ∧ (insReg r k).row.rw &&& 0xFFFFFFFF =
      ([0xFF0000FF, 0xFFFFFFFF, 0xEFFFFFFF, 0xFFFFFFFF] : List Nat).getD r.val 0 := by decide +kernel

/-- A write that leaves `x` in one of them, at address `a` with reset value `d`, is staged for its track, or for
its gate with the track that the gate then names. -/
def State.insStage (u : State) (a d r k x : Nat) : State :=
  let st : State → State := fun s => s.setRegAt a d x
  if r < 2 then u.insWrite st (k % 16) none
  else u.insWrite st ((st u).get (F.INS_GATE_CFG_TRACK k)) (some k)

/-- A write of one of them stages the value that its bits take. -/
theorem State.writePlain_insReg (u : State) (r : Fin 4) (k : Fin 32) (m v : Nat) :
    u.writePlain (insReg r k) m v = u.insStage (insReg r k).addr (insReg r k).reset r.val k.val
      ((insReg r k).row.merge (u.regAt (insReg r k).addr (insReg r k).reset) m (u.clearable (insReg r k) v)) :=
  match r with
  | 0 | 1 | 2 | 3 => rfl

/-- A granted write of one of them is staged or refused, and the master is answered. -/
theorem State.busWrite_insFld (u : State) (m : Master) (r : Fin 4) (k : Fin 32) (v : Nat)
    (hok : u.granted m (insFld r.val k.val) true = true) :
    u.busWrite m (insFld r.val k.val) v =
      (u.insStage (insFld r.val k.val).addr (insFld r.val k.val).rst r.val k.val (u.rwValue (insFld r.val k.val)
        (([0xFF0000FF, 0xFFFFFFFF, 0xEFFFFFFF, 0xFFFFFFFF] : List Nat).getD r.val 0) v)).answered m 0 := by
  obtain ⟨ha, hs, hin⟩ := insReg_at r k
  obtain ⟨hg, h0, hc, hrw⟩ := insReg_plain r k
  refine u.busWrite_acts m _ v _ _ (u.insStage (insFld r.val k.val).addr (insFld r.val k.val).rst r.val k.val)
    (findReg_insFld r k) hg h0 ha hs hrw hc hin (fun x => ?_) hok
  rw [u.writePlain_insReg r k, ha, hs]

/-- INS_CFG_WRITE is a write of the register that it names. -/
theorem exec_insCfgWrite (m : Master) (r : Fin 4) (k : Fin 32) (v t : Nat) (s : State) :
    exec (.insCfgWrite m r k v t) s = runU t s (fun s => s.busWrite m (insFld r.val k.val) v) :=
  match r with
  | 0 | 1 | 2 | 3 => rfl

/-- Settles O18: each command meets the branch of its operation that its conditions name, and a staged setting is a granted
write of its register. -/
theorem inspectionCommandsComplete : Obligations.InspectionCommandsComplete := by
  refine ⟨fun n id t x => ?_, fun n id t x => ?_, fun g t p => ?_, fun g t e => ?_, fun m r k v t => ?_, fun t => ?_⟩
  · exact runs_of_runU _ _ _ _ (fun _ => rfl) fun u ⟨hmore, hx, hp, ha, hf, hw, hm⟩ =>
      (if_neg (by simp [hmore])).trans (u.windowShut_missing _ n.val id x rfl hx hp ha hf hw hm)
  · refine runs_of_runU _ _ _ _ (fun _ => rfl) fun u ⟨hx, hp, hf, hclear⟩ => ?_
    rw [hx]
    exact if_pos ⟨hp, hf, hclear⟩
  · exact runs_of_runU _ _ _ _ (fun _ => rfl) fun u ⟨hmore, hen, hund, hdue⟩ =>
      (if_neg (by simp [hmore])).trans (u.gateReach_due _ g.val _ p rfl rfl hen hund hdue)
  · exact runs_of_runU _ _ _ _ (fun _ => rfl) fun u ⟨ha, he, hp⟩ => u.gateEnd_timed _ g.val e rfl ha he hp
  · exact runs_of_runU _ _ _ _ (exec_insCfgWrite m r k v t) fun u hok => u.busWrite_insFld m r k v hok
  · exact runs_of_runU _ _ _ _ (fun _ => rfl) fun u hb => if_neg (by simp [hb])

end Sys2Proof.Machine
end

section
/-! PROOFS. The duplex pair: what the frames of port D, the CUE pair, the timers of port D and requests for a changeover
complete with. -/

namespace Sys2Proof.Machine

/-! ### Frames of port D (R425, R426) -/

/-- A frame whose SEQ is the next is accepted, its ACK with it, and acts; READY then follows (R426, R439). -/
theorem State.dpxRx_next (u : State) (seq ack : Nat) (act : State → State) (hc : u.dpx.configured = true)
    (hp : u.phaseDone 4 = true) (hs : seq = ((u.dpxHeard seq).dpx.rxSeq + 1) % 2 ^ 32) :
    u.dpxRx seq ack act =
      let a := (u.dpxHeard seq).dpxAcked ack
      (act { a with dpx := { a.dpx with rxSeq := seq } }).dpxReadyCheck := by
  unfold State.dpxRx
  rw [if_neg (by simp [hc, hp])]
  exact congrArg State.dpxReadyCheck (if_pos hs)

/-- A command that is a frame of port D completes with the frame's effect where a twin is configured, the clocks run and the
frame is the next. -/
theorem runs_dpxRx (c : Instr) (seq ack : Nat) (act : State → State)
    (hc : ∀ s, exec c s = runU c.time s (fun s => s.dpxRx (seq % 2 ^ 32) (ack % 2 ^ 32) act)) :
    Runs c
      (fun u => u.dpx.configured ∧ u.phaseDone 4 ∧ seq % 2 ^ 32 = ((u.dpxHeard (seq % 2 ^ 32)).dpx.rxSeq + 1) % 2 ^ 32)
      (fun u =>
        let a := (u.dpxHeard (seq % 2 ^ 32)).dpxAcked (ack % 2 ^ 32)
        (act { a with dpx := { a.dpx with rxSeq := seq % 2 ^ 32 } }).dpxReadyCheck) :=
  runs_of_runU c _ _ _ hc fun u ⟨hconf, hclk, hseq⟩ => u.dpxRx_next _ _ act hconf hclk hseq

/-- Settles O19: each command is a frame of port D, and one that is next in order has the effect of its opcode. -/
theorem duplexCommitFramesComplete : Obligations.DuplexCommitFramesComplete := by
  refine ⟨fun seq ack payload t => ?hello, fun seq ack payload t => ?state, fun seq ack payload t => ?item,
    fun seq ack payload t => ?accession, fun seq ack payload t => ?lease, fun seq ack payload t => ?config,
    fun seq ack payload t => ?flush⟩
  case hello => exact runs_dpxRx _ seq ack (State.helloRx · payload) fun _ => rfl
  case state => exact runs_dpxRx _ seq ack (State.stateRx · payload) fun _ => rfl
  case item => exact runs_dpxRx _ seq ack (State.commitFrame · 0x03 payload) fun _ => rfl
  case accession => exact runs_dpxRx _ seq ack (State.commitFrame · 0x05 payload) fun _ => rfl
  case lease => exact runs_dpxRx _ seq ack (State.commitFrame · 0x06 payload) fun _ => rfl
  case config => exact runs_dpxRx _ seq ack (State.commitFrame · 0x07 payload) fun _ => rfl
  case flush => exact runs_dpxRx _ seq ack (State.commitFrame · 0x08 payload) fun _ => rfl

/-- Settles O20: each command is a frame of port D, and one that is next in order has the effect of its opcode. -/
theorem duplexFramesComplete : Obligations.DuplexFramesComplete := by
  refine ⟨fun seq ack payload t => ?commitAck, fun seq ack payload t => ?head, fun seq ack payload t => ?bind,
    fun seq ack payload t => ?mark, fun seq ack payload t => ?pos, fun seq ack payload t => ?co,
    fun seq ack payload t => ?coAck, fun seq ack payload t => ?nak, fun seq ack payload t => ?submitFwd,
    fun seq ack payload t => ?outcomeFwd, fun seq ack part t => ?syncData⟩
  case commitAck => exact runs_dpxRx _ seq ack (State.commitAck · (payload.take 16)) fun _ => rfl
  case head => exact runs_dpxRx _ seq ack (State.headRx · payload) fun _ => rfl
  case bind => exact runs_dpxRx _ seq ack (State.bindRx · payload) fun _ => rfl
  case mark => exact runs_dpxRx _ seq ack (State.markRx · payload) fun _ => rfl
  case pos =>
    exact runs_dpxRx _ seq ack (State.posRx · (leAt payload 0 1) (leAt payload 4 4) (BitVec.ofNat 60 (leAt payload 8 8))
      (BitVec.ofNat 60 (leAt payload 16 8))) fun _ => rfl
  case co => exact runs_dpxRx _ seq ack (State.coFrame · (leAt payload 0 1) (leAt payload 1 1)) fun _ => rfl
  case coAck => exact runs_dpxRx _ seq ack (State.coAck · (leAt payload 1 1)) fun _ => rfl
  case nak => exact runs_dpxRx _ seq ack (State.dpxNaked · (leAt payload 0 4)) fun _ => rfl
  case submitFwd => exact runs_dpxRx _ seq ack (State.submitFwd · payload) fun _ => rfl
  case outcomeFwd => exact runs_dpxRx _ seq ack (State.outcomeFwd · payload) fun _ => rfl
  case syncData => exact runs_dpxRx _ seq ack (State.syncPart · part) fun _ => rfl

/-! ### The CUE pair (R421, R422, R433) -/

/-- A burst shows that CUE_B is sound, and is trigger 1 (R421, R442). -/
theorem State.burstIn_configured (u : State) (hc : u.dpx.configured = true) :
    u.burstIn =
      (({ u with dpx := { u.dpx with cueAt := some u.now } } : State).put F.DPX_STATUS_CUE_OK 1).coTake 1 false :=
  if_neg (by simp [hc])

/-- With CUE_B and port D silent an understudy takes the lead, an isolated lead goes SOLO, and port D is down (R422, R442). -/
theorem State.leadLost_silent (u : State) (hc : u.dpx.configured = true) (hs : u.frameSilent = true) :
    u.leadLost =
      let s := if u.role = 2 then u.coTake 3 false else u
      let s := s.put F.DPX_STATUS_CUE_OK 0
      let s := if s.flag F.DPX_STATUS_ISOLATED ∧ s.role = 1 then
          ((s.put F.DPX_STATUS_ISOLATED 0).setRole 3).raise Ev.DPX_PARTNER_LOST
        else s
      s.dpxDown.dpxReadyCheck :=
  if_neg (by simp [hc, hs])

/-- A silent CUE_B is a fault of the pair while frames arrive (R422). -/
theorem State.cueFault_framed (u : State) (hc : u.dpx.configured = true) (hs : (!u.frameSilent) = true) :
    u.cueFault = (u.put F.DPX_STATUS_CUE_OK 0).raise Ev.DPX_CUE_FAULT :=
  if_neg (by simpa [hc] using hs)

/-- A silent port D isolates the pair while CUE_B toggles (R433). -/
theorem State.isolatedIn_silent (u : State) (hc : u.dpx.configured = true) (hs : u.frameSilent = true) :
    u.isolatedIn = (u.put F.DPX_STATUS_CUE_OK 1).isolate :=
  if_neg (by simp [hc, hs])

/-! ### The timers of port D (R426, R437, R441) -/

/-- After 4 us without a new ACK every held frame is sent again, from the oldest on (R426). -/
theorem State.resendTimer_due (u : State) (f : Nat × Nat × List Byte) (l : List (Nat × Nat × List Byte))
    (hl : u.dpx.unacked = f :: l) (ht : u.dpx.ackAt + 4000000 ≤ u.now) (hup : u.flag F.DPX_STATUS_LINK_UP = true) :
    u.resendTimer = u.dpxResend f.1 := by
  unfold State.resendTimer
  rw [hl]
  exact if_pos ⟨ht, hup⟩

/-- A lead sends the position of an armed track, with the age of its last edge (R437). -/
theorem State.posSend_armed (u a : State) (n : Nat) (hs : u.settle n u.now = a) (hr : a.role = 1)
    (ha : (a.track n).armed = true) :
    u.posSend n =
      let x := a.track n
      let age := match x.lastEdge with
        | some b => (a.now - b) / 625
        | none => 2 ^ 32 - 1
      a.dpxSend 0x0C (leBytes 1 n ++ leBytes 3 0 ++ leBytes 4 (min age (2 ^ 32 - 1)) ++ leBytes 8 x.pe.toNat ++
        leBytes 8 x.h.toNat) := by
  subst hs
  unfold State.posSend
  exact if_neg (by simp [hr, ha])

/-- A request to take the lead that HANDING has not answered within 3 us is refused with result 5 (R441). -/
theorem State.takeTimeout_due (u : State) (a : Ps) (ha : u.dpx.taking = some a) (ht : a + 3000000 ≤ u.now)
    (hs : u.dpx.switch = none) :
    u.takeTimeout = ({ u with dpx := { u.dpx with taking := none } } : State).coRefuse 5 5 := by
  unfold State.takeTimeout
  rw [ha]
  exact if_pos ⟨ht, by simp [hs]⟩

/-! ### Requests for a changeover, and its instant (R441, R442) -/

/-- A granted pair for DPX_CO_REQ runs its operation, and the master is answered (R441, R458). -/
theorem State.guardWrite_DPX_CO_REQ (u : State) (m : Master) (op : Nat) (hop : op < 4)
    (hok : u.granted m F.DPX_CO_REQ true = true) :
    u.guardWrite m F.DPX_CO_REQ op = ((u.withReg F.DPX_CO_REQ op).coReq op).answered m 0 := by
  have hmask : op &&& 3 = op := (Nat.and_two_pow_sub_one_eq_mod op 2).trans (Nat.mod_eq_of_lt hop)
  rw [State.guardWrite_granted u m _ op _ findReg_DPX_CO_REQ rfl rfl rfl rfl rfl hmask (show (3 : Nat) < 2 ^ 32 by decide)
    (by omega) (by decide) hok]
  show ((u.withReg F.DPX_CO_REQ op).coReq (bits op 1 0)).answered m 0 = _
  rw [show bits op 1 0 = op by unfold bits; omega]

/-- HAND_OVER on a lead is trigger 5 (R441). -/
theorem State.coReq_handOver (s : State) (hr : s.role = 1) : s.coReq 1 = s.coTrigger 5 :=
  if_pos ⟨rfl, hr⟩

/-- TAKE on an understudy asks its lead for a changeover (R441). -/
theorem State.coReq_take (s : State) (hr : s.role = 2) (he : s.coEnabled 5 = true) :
    s.coReq 2 =
      let x := s.dpxSend 0x0D (leBytes 1 5 ++ leBytes 1 2 ++ leBytes 6 0)
      { x with dpx := { x.dpx with taking := some x.now } } := by
  unfold State.coReq
  rw [if_neg (by simp)]
  exact if_pos ⟨rfl, hr, he⟩

/-- At its switch instant, the last happening of it, a twin takes the lead or hands it over (R442, R453). -/
theorem State.switchAt_due (u : State) (w : Switch) (hm : u.more = false) (hw : u.dpx.switch = some w)
    (ht : w.at_ ≤ u.now) : u.switchAt = if w.primary then u.switchTake w else u.switchHand w := by
  unfold State.switchAt State.switchNow
  rw [if_neg (by simp [hm]), hw]
  exact if_neg (Nat.not_lt.2 ht)

/-- Settles O21: each command meets the branch of its operation that its conditions name, and each request is a granted pair
whose operation is carried out. -/
theorem duplexEventsComplete : Obligations.DuplexEventsComplete := by
  refine ⟨fun t => ?burst, fun t => ?leadLost, fun t => ?cueFault, fun t => ?isolated, fun t f l => ?resend,
    fun t => ?idle, fun n t => ?pos, fun cueSilent t c l => ?ackTimeout, fun m t => ?handOver, fun m t => ?take,
    fun t a => ?takeTimeout, fun t w => ?switch, fun t => ?hello⟩
  case burst => exact runs_of_runU _ _ _ _ (fun _ => rfl) fun u hc => u.burstIn_configured hc
  case leadLost => exact runs_of_runU _ _ _ _ (fun _ => rfl) fun u ⟨hc, hs⟩ => u.leadLost_silent hc hs
  case cueFault => exact runs_of_runU _ _ _ _ (fun _ => rfl) fun u ⟨hc, hs⟩ => u.cueFault_framed hc hs
  case isolated => exact runs_of_runU _ _ _ _ (fun _ => rfl) fun u ⟨hc, hs⟩ => u.isolatedIn_silent hc hs
  case resend => exact runs_of_runU _ _ _ _ (fun _ => rfl) fun u ⟨hl, ht, hup⟩ => u.resendTimer_due f l hl ht hup
  case idle => exact runs_of_runU _ _ _ _ (fun _ => rfl) fun u hdue => if_pos hdue
  case pos => exact runs_of_runU _ _ _ _ (fun _ => rfl) fun u ⟨hr, ha⟩ => u.posSend_armed _ n.val rfl hr ha
  case ackTimeout => exact runs_of_runU _ _ _ _ (fun _ => rfl) fun _ _ => rfl
  case handOver =>
    refine runs_of_runU _ _ _ _ (fun _ => rfl) fun u ⟨hok, hr, he, hs, hready, hmode⟩ => ?_
    rw [u.guardWrite_DPX_CO_REQ m 1 (by decide) hok, State.coReq_handOver _ hr,
      State.coTrigger_command _ hr he hs hready hmode]
  case take =>
    refine runs_of_runU _ _ _ _ (fun _ => rfl) fun u ⟨hok, hr, he⟩ => ?_
    rw [u.guardWrite_DPX_CO_REQ m 2 (by decide) hok, State.coReq_take _ hr he]
  case takeTimeout => exact runs_of_runU _ _ _ _ (fun _ => rfl) fun u ⟨ha, ht, hs⟩ => u.takeTimeout_due a ha ht hs
  case switch => exact runs_of_runU _ _ _ _ (fun _ => rfl) fun u ⟨hm, hw, ht⟩ => u.switchAt_due w hm hw ht
  case hello => exact runs_of_runU _ _ _ _ (fun _ => rfl) fun u hdue => if_pos hdue

end Sys2Proof.Machine
end

section
/-! PROOFS. The company: what the frames of its ring, the frames that it sends, its timers and operations on house time
complete with. -/

namespace Sys2Proof.Machine

/-! ### Frames of the ring (R474 to R476) -/

/-- A device on the ring is no company of one (R477). -/
theorem State.sole_of_onRing {u : State} (h : u.onRing = true) : u.sole = false := by
  simp only [State.onRing, Bool.and_eq_true, Bool.not_eq_true'] at h
  obtain ⟨⟨⟨⟨hsole, -⟩, -⟩, -⟩, -⟩ := h
  exact hsole

/-- A frame of its own size that arrives on a trained port is received (R476). -/
theorem State.ringFrame_sized (u : State) (p op src dest seq hops : Nat) (l : List Byte) (next : State → List Byte)
    (act : State → State) (hr : u.onRing = true) (hp : u.portTrained p = true) :
    u.ringFrame p op l.length src dest seq hops l next act =
      u.ringRx p op (src % 2 ^ 16) (dest % 2 ^ 16) (seq % 2 ^ 32) (hops % 2 ^ 16) l (next u) act := by
  unfold State.ringFrame
  rw [if_neg (by simp [hr, hp])]
  exact if_neg (not_not_intro rfl)

/-- A new frame is noted, acts where it is for this seat or for all, and goes on where it is not for this seat alone
(R475). -/
theorem State.ringRx_fresh (u : State) (p op src dest seq hops : Nat) (l next : List Byte) (act : State → State)
    (hs : u.sole = false) (hp : u.portTrained p = true) (hf : u.ringFresh op src seq hops l = true) :
    u.ringRx p op src dest seq hops l next act =
      let a := u.ringNoted op src seq l
      let a := if dest = a.seat ∨ dest = 0xFFFF then act a else a
      if dest = a.seat then a else a.ringOut (1 - p) op src dest seq (hops + 1) next := by
  simp only [State.ringFresh, Bool.and_eq_true, decide_eq_true_eq, Bool.not_eq_true'] at hf
  obtain ⟨⟨hother, hunseen⟩, hhops⟩ := hf
  unfold State.ringRx
  rw [if_neg (by simp [hp])]
  refine if_neg ?_
  rintro (hsole | hown | hseen | hspent)
  · exact Bool.false_ne_true (hs.symm.trans hsole)
  · exact hother hown
  · exact Bool.false_ne_true (hunseen.symm.trans hseen)
  · exact Nat.not_lt.2 hspent hhops

/-- A command that is a frame of the ring completes with the frame taken and passed on, where the ring runs and the frame is
new and of its own size. -/
theorem runs_ringFrame (c : Instr) (p op n src dest seq hops : Nat) (l : List Byte) (next : State → List Byte)
    (act : State → State)
    (hc : ∀ s, exec c s = runU c.time s (fun s => s.ringFrame p op n src dest seq hops l next act)) :
    Runs c
      (fun u => u.onRing ∧ u.portTrained p ∧ l.length = n ∧
        u.ringFresh op (src % 2 ^ 16) (seq % 2 ^ 32) (hops % 2 ^ 16) l)
      (fun u =>
        let a := u.ringNoted op (src % 2 ^ 16) (seq % 2 ^ 32) l
        let a := if dest % 2 ^ 16 = a.seat ∨ dest % 2 ^ 16 = 0xFFFF then act a else a
        if dest % 2 ^ 16 = a.seat then a else a.ringOut (1 - p) op (src % 2 ^ 16) (dest % 2 ^ 16) (seq % 2 ^ 32)
          (hops % 2 ^ 16 + 1) (next u)) := by
  refine runs_of_runU c _ _ _ hc fun u ⟨hr, hp, hl, hf⟩ => ?_
  subst hl
  exact (u.ringFrame_sized p op src dest seq hops l next act hr hp).trans
    (u.ringRx_fresh p op _ _ _ _ l (next u) act (State.sole_of_onRing hr) hp hf)

/-- Settles O22: BEACON, CAST, CATALOGUE and TIME are frames of the ring, and PDELAY frames act on their port. -/
theorem ringFramesComplete : Obligations.RingFramesComplete := by
  refine ⟨fun p src dest seq hops l t => ?beacon, fun p src dest seq hops l t => ?cast,
    fun p src dest seq hops l t => ?catalogue, fun p src dest seq hops l residence t => ?time, fun p t1 t => ?pdelayReq,
    fun p t1 t2 t3 t => ?pdelayResp⟩
  case beacon =>
    exact runs_ringFrame _ p.val 0x01 112 src dest seq hops l (fun _ => l) (State.beaconRx · l) fun _ => rfl
  case cast => exact runs_ringFrame _ p.val 0x02 72 src dest seq hops l (fun _ => l) (State.castRx · l) fun _ => rfl
  case catalogue =>
    exact runs_ringFrame _ p.val 0x03 328 src dest seq hops l (fun _ => l) (State.catalogueRx · l) fun _ => rfl
  case time =>
    exact runs_ringFrame _ p.val 0x04 24 src dest seq hops l (State.timeNext · p.val residence l)
      (State.timeRx · p.val hops l) fun _ => rfl
  case pdelayReq => exact runs_of_runU _ _ _ _ (fun _ => rfl) fun u ⟨hr, hp⟩ => if_pos (by simp [hr, hp])
  case pdelayResp => exact runs_of_runU _ _ _ _ (fun _ => rfl) fun u ⟨hr, hp⟩ => if_pos (by simp [hr, hp])

/-- Settles O23: each command is a frame of the ring, and one that is new has the effect of its opcode. -/
theorem leaseFramesComplete : Obligations.LeaseFramesComplete := by
  refine ⟨fun p src dest seq hops l t => ?request, fun p src dest seq hops l t => ?propose,
    fun p src dest seq hops l t => ?accept, fun p src dest seq hops l t => ?grant, fun p src dest seq hops l t => ?refuse,
    fun p src dest seq hops l t => ?recalled, fun p src dest seq hops l t => ?reply⟩
  case request =>
    exact runs_ringFrame _ p.val 0x07 8 src dest seq hops l (fun _ => l) (State.leaseReqRx · (src % 2 ^ 16) l) fun _ => rfl
  case propose =>
    exact runs_ringFrame _ p.val 0x08 80 src dest seq hops l (fun _ => l) (State.proposeRx · (src % 2 ^ 16) l) fun _ => rfl
  case accept =>
    exact runs_ringFrame _ p.val 0x09 16 src dest seq hops l (fun _ => l) (State.acceptRx · (src % 2 ^ 16) l) fun _ => rfl
  case grant => exact runs_ringFrame _ p.val 0x0A 64 src dest seq hops l (fun _ => l) (State.grantRx · l) fun _ => rfl
  case refuse => exact runs_ringFrame _ p.val 0x0B 8 src dest seq hops l (fun _ => l) (State.refuseRx · l) fun _ => rfl
  case recalled =>
    exact runs_ringFrame _ p.val 0x0C 8 src dest seq hops l (fun _ => l) (State.recallRx · (src % 2 ^ 16) l) fun _ => rfl
  case reply =>
    exact runs_ringFrame _ p.val 0x0D 264 src dest seq hops l (fun _ => l) (State.recallReplyRx · (src % 2 ^ 16) l)
      fun _ => rfl

/-! ### Frames that a member and the keeper send (R476, R485) -/

/-- A member on the ring sends its BEACON; a keeper counts its quorum again, and an election may be complete (R476, R480). -/
theorem State.beaconSend_onRing (u : State) (hr : u.onRing = true) :
    u.beaconSend =
      let w := u.ringSend 0x01 0xFFFF u.beacon
      (if w.cmp.keeper then w.quorumCheck else w).electionCheck :=
  if_neg (by simp [hr])

/-- The keeper's TIME mark carries house time, its epoch, and whether house time is unset or was stepped (R485). -/
theorem State.timeSend_keeper (u : State) (hk : u.cmp.keeper = true) (hr : u.onRing = true) :
    u.timeSend =
      let fl := bit (!u.house.set) + 2 * bit (u.now < u.cmp.steppedUntil)
      u.ringSend 0x04 0xFFFF (leBytes 8 u.houseNs ++ leBytes 8 0 ++ leBytes 4 u.promised ++ leBytes 1 fl ++
        leBytes 3 0) :=
  if_neg (by simp [hk, hr])

/-! ### Timers of leases and of holdover (R486, R487, R493) -/

/-- A proposal that stays without a quorum of ACCEPTs for LT is dropped: the keeper's own request is refused and checked
again, and another seat gets a REFUSE with reason 4 (R493). -/
theorem State.proposalTimeout_due (u : State) (q : Proposal)
    (hq : u.cmp.proposals.find? (fun q => q.sent ∧ q.at_ + u.leasePs ≤ u.now) = some q) :
    u.proposalTimeout =
      let w : State := { u with cmp := { u.cmp with proposals := u.cmp.proposals.filter (fun r => r ≠ q) } }
      if q.lease.holder = w.seat then
        let x := w.leaseRefused q.lease.series 4
        x.leaseCheck q.lease.series x.drawn
      else
        w.ringSend 0x0B q.lease.holder (leBytes 4 q.lease.txn ++ leBytes 1 q.lease.series ++ leBytes 1 4 ++
          leBytes 2 0) := by
  unfold State.proposalTimeout
  rw [hq]

/-- Once every mark of the instant has been taken, a cause that stands puts the device into holdover (R486, R498). -/
theorem State.holdoverCheck_cause (u : State) (c : Nat) (hm : u.more = false) (hc : u.holdoverCause = some c) :
    u.holdoverCheck = u.enterHoldover c := by
  unfold State.holdoverCheck State.holdoverNow
  rw [if_neg (by simp [hm]), hc]

/-- Entry to holdover keeps its instant, its cause and the bound at entry, and house time runs at its own rate (R486,
R487). -/
theorem State.enterHoldover_first (u : State) (c : Nat) (hn : u.cmp.holdoverAt = none) :
    u.enterHoldover c =
      let e := if u.house.set then u.eSync else 0
      let w : State := { u with cmp := { u.cmp with
        holdoverAt := some u.now, holdE := e, returnRun := 0, holdLimitRaised := false } }
      let w := (w.put F.CMP_STATUS_HOLDOVER 1).put F.CMP_STATUS_HOLD_CAUSE c
      (w.houseDrift (w.get F.CMP_TIME_CFG_HOLD_PPB)).raise Ev.CMP_HOLDOVER :=
  if_neg (by simp [hn])

/-! ### Operations on house time (R485, R504) -/

/-- A granted pair for CMP_TIME_OP runs its operation, and the master is answered (R485, R504). -/
theorem State.guardWrite_CMP_TIME_OP (u : State) (m : Master) (op : Nat) (hop : op < 4)
    (hok : u.granted m F.CMP_TIME_OP true = true) :
    u.guardWrite m F.CMP_TIME_OP op = ((u.withReg F.CMP_TIME_OP op).timeOp op).answered m 0 := by
  have hmask : op &&& 3 = op := (Nat.and_two_pow_sub_one_eq_mod op 2).trans (Nat.mod_eq_of_lt hop)
  rw [State.guardWrite_granted u m _ op _ findReg_CMP_TIME_OP rfl rfl rfl rfl rfl hmask
    (show (3 : Nat) < 2 ^ 32 by decide) (by omega) (by decide) hok]
  show ((u.withReg F.CMP_TIME_OP op).timeOp (bits op 1 0)).answered m 0 = _
  rw [show bits op 1 0 = op by unfold bits; omega]

/-- SET on the keeper slews house time that is set, and steps house time that is not (R485). -/
theorem State.timeOp_set (s : State) (hk : s.cmp.keeper = true) :
    s.timeOp 1 =
      if s.house.set then s.houseSlew (((s.get F.CMP_TIME_SET * 1000 : Nat) : Int) - s.house.at s.now)
      else s.houseStep (s.get F.CMP_TIME_SET * 1000) := by
  unfold State.timeOp
  rw [if_neg (by decide), if_neg (by simp [hk])]
  exact if_pos rfl

/-- STEP on the keeper steps house time at once, and marks of the next second tell of it (R485). -/
theorem State.timeOp_step (s : State) (hk : s.cmp.keeper = true) :
    s.timeOp 2 =
      let x := (s.houseStep (s.get F.CMP_TIME_SET * 1000)).raise Ev.CMP_TIME_STEP
      { x with cmp := { x.cmp with steppedUntil := x.now + 1000000000000 } } := by
  unfold State.timeOp
  rw [if_neg (by decide), if_neg (by simp [hk])]
  exact if_neg (by decide)

/-- Settles O24: each command meets the branch of its operation that its conditions name, and each time operation is a
granted pair that the keeper carries out. -/
theorem companyTimersComplete : Obligations.CompanyTimersComplete := by
  refine ⟨fun t => ?beacon, fun t => ?cast, fun t => ?catalogue, fun t => ?time, fun p t => ?pdelay, fun t => ?keeperLost,
    fun t => ?quorumLost, fun t q => ?proposal, fun k t w => ?request, fun t c => ?holdover, fun t => ?limit,
    fun m t => ?set, fun m t => ?step⟩
  case beacon => exact runs_of_runU _ _ _ _ (fun _ => rfl) fun u hr => u.beaconSend_onRing hr
  case cast => exact runs_of_runU _ _ _ _ (fun _ => rfl) fun u hdue => if_pos hdue
  case catalogue => exact runs_of_runU _ _ _ _ (fun _ => rfl) fun _ _ => rfl
  case time => exact runs_of_runU _ _ _ _ (fun _ => rfl) fun u ⟨hk, hr⟩ => u.timeSend_keeper hk hr
  case pdelay => exact runs_of_runU _ _ _ _ (fun _ => rfl) fun u hr => if_pos hr
  case keeperLost => exact runs_of_runU _ _ _ _ (fun _ => rfl) fun u hlost => if_pos hlost
  case quorumLost => exact runs_of_runU _ _ _ _ (fun _ => rfl) fun u hlost => if_pos hlost
  case proposal => exact runs_of_runU _ _ _ _ (fun _ => rfl) fun u hq => u.proposalTimeout_due q hq
  case request => exact runs_of_runU _ _ _ _ (fun _ => rfl) fun _ _ => rfl
  case holdover =>
    exact runs_of_runU _ _ _ _ (fun _ => rfl) fun u ⟨hm, hc, hn⟩ =>
      (u.holdoverCheck_cause c hm hc).trans (u.enterHoldover_first c hn)
  case limit => exact runs_of_runU _ _ _ _ (fun _ => rfl) fun u hpast => if_pos hpast
  case set =>
    refine runs_of_runU _ _ _ _ (fun _ => rfl) fun u ⟨hok, hk⟩ => ?_
    rw [u.guardWrite_CMP_TIME_OP m 1 (by decide) hok, State.timeOp_set _ hk]
  case step =>
    refine runs_of_runU _ _ _ _ (fun _ => rfl) fun u ⟨hok, hk⟩ => ?_
    rw [u.guardWrite_CMP_TIME_OP m 2 (by decide) hok, State.timeOp_step _ hk]

end Sys2Proof.Machine
end

section
/-! PROOFS. The ledger: what an entry that is written, an erase that ends and a RESEAL complete with. -/

namespace Sys2Proof.Machine

/-- An entry written after fewer than three failed verifies, their slots made void, takes effect (R467). -/
theorem State.entryWritten_taken (u : State) (fails : Nat) (r : LdgReq) (hr : (u.ldgWrite fails).2 = some r)
    (hf : fails < 3) : u.entryWritten fails true = (u.ldgWrite fails).1.entryEffect r := by
  unfold State.entryWritten
  rw [if_pos ⟨hf, rfl⟩]
  generalize u.ldgWrite fails = x at hr ⊢
  obtain ⟨w, e⟩ := x
  obtain rfl : e = some r := hr
  rfl

/-- An erase that ends with no copy left to write, and with the supply good, empties its sector (R468). -/
theorem State.eraseDone_empty (u : State) (hq : u.ldg.queue = []) (hw : (!u.sys.earlyWarning) = true) :
    u.eraseDone = u.ldgErased :=
  if_pos ⟨by simp [hq], hw⟩

/-- A granted pair for LDG_RESEAL runs with its key, and the master is answered (R472, R500). -/
theorem State.guardWrite_LDG_RESEAL (u : State) (m : Master) (hok : u.granted m F.LDG_RESEAL true = true) :
    u.guardWrite m F.LDG_RESEAL 0x5EA1 = ((u.withReg F.LDG_RESEAL 0x5EA1).reseal 0x5EA1).answered m 0 :=
  State.guardWrite_granted u m _ _ _ findReg_LDG_RESEAL rfl rfl rfl rfl rfl (by decide)
    (show (0xFFFF : Nat) < 2 ^ 32 by decide) (by decide) (by decide) hok

/-- With the log at fault and no RESEAL under way, the key abandons the device's own leases and requests the entry (R472). -/
theorem State.reseal_fault (s : State) (hf : s.flag F.LDG_STATUS_LOG_FAULT = true) (hn : (!s.ldg.resealing) = true) :
    s.reseal 0x5EA1 =
      let own := s.leases.filter (fun l => !l.partner ∧ (l.state = 1 ∨ l.state = 2))
      let x := own.foldl (fun s l => (s.leaseState l 4).raise Ev.LDG_LEASE_ABANDONED) s
      ({ x with ldg := { x.ldg with resealing := true } } : State).ldgRequest (.reseal own.length) .resealDone :=
  if_neg (by simpa [hf] using hn)

/-- Settles O25: each command meets the branch of its operation that its conditions name, and RESEAL is a granted pair with
the key. -/
theorem ledgerCommandsComplete : Obligations.LedgerCommandsComplete := by
  refine ⟨fun fails t r => ?written, fun t => ?erased, fun m t => ?reseal⟩
  case written => exact runs_of_runU _ _ _ _ (fun _ => rfl) fun u ⟨hr, hf⟩ => u.entryWritten_taken fails r hr hf
  case erased => exact runs_of_runU _ _ _ _ (fun _ => rfl) fun u ⟨hq, hw⟩ => u.eraseDone_empty hq hw
  case reseal =>
    refine runs_of_runU _ _ _ _ (fun _ => rfl) fun u ⟨hok, hf, hn⟩ => ?_
    rw [u.guardWrite_LDG_RESEAL m hok, State.reseal_fault _ hf hn]

end Sys2Proof.Machine
end

section
/-! PROOFS. The stores of event records: no occurrence makes the log or a box's queue exceed its depth. -/

namespace Sys2Proof.Machine

/-- From `s` to `t` a log of at most 4,096 records keeps that depth, and box queues of at most 256 records keep theirs. -/
def State.keepsDepth (s t : State) : Prop :=
  (s.cue.log.length ≤ 4096 → t.cue.log.length ≤ 4096) ∧
  ((∀ b, (s.box b).events.length ≤ 256) → ∀ b, (t.box b).events.length ≤ 256)

theorem State.keepsDepth_refl (s : State) : s.keepsDepth s := ⟨id, id⟩

theorem State.keepsDepth_trans {s t u : State} (h : s.keepsDepth t) (k : t.keepsDepth u) : s.keepsDepth u :=
  ⟨k.1 ∘ h.1, k.2 ∘ h.2⟩

/-- What touches neither the log nor a box keeps the depths. -/
theorem State.keepsDepth_of_eq {s t : State} (hl : t.cue.log = s.cue.log) (hb : t.boxes = s.boxes) : s.keepsDepth t := by
  refine ⟨fun h => hl ▸ h, fun h b => ?_⟩
  unfold State.box
  rw [hb]
  exact h b

/-- A further step that is taken in some cases only. -/
theorem State.keepsDepth_ite {c : Prop} [Decidable c] {s t u : State} (hu : t.keepsDepth u) (ht : s.keepsDepth t) :
    s.keepsDepth (if c then u else t) := by
  split
  · exact State.keepsDepth_trans ht hu
  · exact ht

/-- A box whose new queue is within its depth whenever the old one is. -/
theorem State.keepsDepth_setBox (s : State) (b : Nat) (x : Box)
    (hx : (s.box b).events.length ≤ 256 → x.events.length ≤ 256) : s.keepsDepth (s.setBox b x) := by
  refine ⟨id, fun h k => ?_⟩
  by_cases hk : k = b
  · subst hk
    rw [State.box_setBox]
    exact hx (h k)
  · rw [State.box_setBox_ne _ _ _ _ hk]
    exact h k

/-- The log is a ring of 4,096 records (R737). -/
theorem State.logRecord_keepsDepth (s : State) (r : EvRec) : s.keepsDepth (s.logRecord r) :=
  ⟨fun _ => List.length_take_le 4096 _, id⟩

/-- A record joins a queue that has room for it, and is lost where the queue is full (R524). -/
theorem State.queueEvent_keepsDepth (s : State) (b : Nat) (r : EvRec) : s.keepsDepth (s.queueEvent b r).1 := by
  unfold State.queueEvent
  dsimp only
  split
  · exact s.keepsDepth_refl
  · split
    next hroom =>
      refine s.keepsDepth_setBox b _ fun _ => ?_
      rw [List.length_append]
      exact Nat.succ_le_of_lt hroom
    next =>
      have hmark := s.keepsDepth_setBox b { s.box b with lost := true } id
      exact State.keepsDepth_trans hmark (State.keepsDepth_of_eq rfl rfl)

theorem State.copyBoxes_keepsDepth (s : State) (boxes : Nat) (r : EvRec) :
    ∀ n : Nat, s.keepsDepth (s.copyBoxes boxes r n).1
  | 0 => s.keepsDepth_refl
  | b + 1 => by
    have ih := s.copyBoxes_keepsDepth boxes r b
    unfold State.copyBoxes
    dsimp only
    split
    · exact State.keepsDepth_trans ih (State.queueEvent_keepsDepth _ b r)
    · exact ih

/-- The boxes and the log take a copy; the fabric line and the pin store none (R734 to R737). -/
theorem State.copyEvent_keepsDepth (s : State) (src : Nat) (r : EvRec) : s.keepsDepth (s.copyEvent src r).1 := by
  unfold State.copyEvent
  dsimp only
  split
  · exact s.keepsDepth_refl
  · have hboxes := s.copyBoxes_keepsDepth (bits (s.before (F.CUE_SRC_ROUTE src)) 30 16) r 15
    refine State.keepsDepth_ite (State.logRecord_keepsDepth _ r) ?pin
    refine State.keepsDepth_ite (State.keepsDepth_of_eq rfl rfl) ?line
    exact State.keepsDepth_ite (State.keepsDepth_of_eq rfl rfl) hboxes

theorem State.raisePlain_keepsDepth (s : State) (src inst : Nat) : s.keepsDepth (s.raisePlain src inst).1 := by
  unfold State.raisePlain
  refine State.keepsDepth_trans ?_ (State.copyEvent_keepsDepth _ src _)
  exact State.keepsDepth_of_eq rfl rfl

/-- The reports of boxes that lost a record keep the depths, whichever boxes they are (R524). -/
theorem State.lostReports_keepsDepth (l : List Nat) :
    ∀ s : State, s.keepsDepth (l.foldl (fun s b => (s.raisePlain Ev.IZX_EVENT_LOST b).1) s) := by
  induction l with
  | nil => exact State.keepsDepth_refl
  | cons b l ih => exact fun s => State.keepsDepth_trans (s.raisePlain_keepsDepth _ b) (ih _)

/-- While the cue board is gated an occurrence is only latched; else it and the loss reports that it raises keep the
depths (R524, R663). -/
theorem State.raise_keepsDepth (s : State) (src inst : Nat) : s.keepsDepth (s.raise src inst) := by
  unfold State.raise
  split
  case isTrue =>
    dsimp only
    split
    · exact s.keepsDepth_refl
    · exact State.keepsDepth_of_eq rfl rfl
  case isFalse => exact State.keepsDepth_trans (s.raisePlain_keepsDepth src inst) (State.lostReports_keepsDepth _ _)

/-- Settles O43: an occurrence adds to a store only through `queueEvent` and `logRecord`, which keep its depth. -/
theorem eventStoresKeepTheirDepth : Obligations.EventStoresKeepTheirDepth :=
  fun u e i => u.raise_keepsDepth e i

end Sys2Proof.Machine
end

section
/-! PROOFS. The Izrex link: what the commands of its ports and boxes and its COMMAND frames complete with. -/

namespace Sys2Proof.Machine

/-! ### The Izrex ports (R508) -/

/-- A port that is not taken down and has left OFF shows the lanes that its retrain ended with (R508). -/
theorem State.portRetrained_on (s : State) (p lanes : Nat) (hon : s.linksOn = true)
    (hup : (!(s.port p).takenDown) = true) (hst : s.get (F.IZX_PORT_STATUS_STATE p) ≠ 0) :
    s.portRetrained p lanes =
      ((List.range 4).foldl (fun s k => s.linkTo (6 + 4 * p + k) (if lanes.testBit k then 4 else 5)) s).izrexShow p 8 :=
  if_neg (by simpa [hon, hst] using hup)

/-- The fields of a request for operation `op` on port `p`: the guard stores all of it. -/
theorem izxPortOp_fields : ∀ (p : Fin 2) (op : Fin 4), (256 * p.val + op.val) &&& 0x103 = 256 * p.val + op.val ∧
    bits (256 * p.val + op.val) 8 8 = p.val ∧ bits (256 * p.val + op.val) 1 0 = op.val := by decide

/-- A granted pair for IZX_PORT_OP runs its operation on its port, and the master is answered (R533). -/
theorem State.guardWrite_IZX_PORT_OP (u : State) (m : Master) (p : Fin 2) (op : Fin 4)
    (hok : u.granted m F.IZX_PORT_OP true = true) :
    u.guardWrite m F.IZX_PORT_OP (256 * p.val + op.val) =
      ((u.withReg F.IZX_PORT_OP (256 * p.val + op.val)).portOp p.val op.val).answered m 0 := by
  obtain ⟨hmask, hport, hop⟩ := izxPortOp_fields p op
  rw [State.guardWrite_granted u m _ _ _ findReg_IZX_PORT_OP rfl rfl rfl rfl rfl hmask
    (show (0x103 : Nat) < 2 ^ 32 by decide) (by omega) (by decide) hok]
  show ((u.withReg F.IZX_PORT_OP _).portOp (bits _ 8 8) (bits _ 1 0)).answered m 0 = _
  rw [hport, hop]

/-- RETRAIN, once the clocks run, ends a TAKE_DOWN and trains the port, which goes DOWN first where it is UP (R508). -/
theorem State.portOp_retrain (s : State) (p : Nat) (hclk : s.phaseDone 4 = true) :
    s.portOp p 1 =
      let x := s.setPort p { s.port p with takenDown := false }
      if s.get (F.IZX_PORT_STATUS_STATE p) = 4 then (x.portDown p 0).portTrain p else x.portTrain p :=
  if_neg (by simp [hclk])

/-- TAKE_DOWN, once the clocks run, takes the lanes and the port DOWN with cause 0xB (R508). -/
theorem State.portOp_takeDown (s : State) (p : Nat) (hclk : s.phaseDone 4 = true) :
    s.portOp p 2 =
      let x := (List.range 4).foldl (fun s k => s.linkTo (6 + 4 * p + k) 5) s
      (x.setPort p { x.port p with takenDown := true }).portDown p 0xB :=
  if_neg (by simp [hclk])

/-- A bad frame on an UP port is counted, and the blocks of a bad COMMAND count as freed in its open box (R511, R516). -/
theorem State.izxBadFrame_freed (s : State) (p b blocks : Nat) (command : Bool)
    (hup : s.get (F.IZX_PORT_STATUS_STATE p) = 4) :
    when (decide (s.get (F.IZX_PORT_STATUS_STATE p) = 4))
        (fun s => when command (fun s => s.izxFree b blocks) (s.izxBadFrame p)) s =
      let w := s.izxBadFrame p
      if command ∧ (w.box b).isOpen then w.setBox b { w.box b with freed := ((w.box b).freed + blocks) % 2 ^ 32 }
      else w := by
  refine (if_pos (decide_eq_true hup)).trans ?_
  cases command
  case false => exact (if_neg (by simp)).symm
  case true => simp only [when, State.izxFree, true_and, if_true]

/-! ### The boxes of the Izrex link (R512, R513, R516) -/

/-- The fields of a request to close box `b`: the guard stores all of it. -/
theorem izxBoxOp_fields : ∀ b : Fin 16, (256 * b.val + 1) &&& 0xF03 = 256 * b.val + 1 ∧
    bits (256 * b.val + 1) 11 8 = b.val ∧ bits (256 * b.val + 1) 1 0 = 1 := by decide

/-- A granted pair for CLOSE in IZX_BOX_OP closes its box, and the master is answered (R512, R533). -/
theorem State.guardWrite_IZX_BOX_OP (u : State) (m : Master) (b : Fin 16) (hb : b.val < 15)
    (hok : u.granted m F.IZX_BOX_OP true = true) :
    u.guardWrite m F.IZX_BOX_OP (256 * b.val + 1) =
      ((u.withReg F.IZX_BOX_OP (256 * b.val + 1)).boxEnd b.val none).answered m 0 := by
  obtain ⟨hmask, hbox, hop⟩ := izxBoxOp_fields b
  rw [State.guardWrite_granted u m _ _ _ findReg_IZX_BOX_OP rfl rfl rfl rfl rfl hmask
    (show (0xF03 : Nat) < 2 ^ 32 by decide) (by omega) (by decide) hok]
  show ((u.withReg F.IZX_BOX_OP _).boxOp (bits _ 11 8) (bits _ 1 0)).answered m 0 = _
  rw [hbox, hop]
  exact congrArg (State.answered · m 0) (if_pos ⟨rfl, hb⟩)

/-- An OPEN of a closed box with rights on its UP port, for the host that the prompt book requires if it requires one, opens
the box with its SEQ just below START_SEQ and answers with status OPENED (R512). -/
theorem State.izxOpen_closed (u : State) (p b host start : Nat) (force : Bool)
    (hup : u.get (F.IZX_PORT_STATUS_STATE p) = 4) (hb : b < 15) (hbare : (!u.boxBare b) = true)
    (hport : (u.boxPorts b).testBit p = true)
    (hhost : (!decide (u.promptDone ∧ (u.box b).hostReq ≠ 0 ∧ (u.box b).hostReq ≠ host)) = true)
    (hclosed : (!(u.box b).isOpen) = true) :
    u.izxOpen p b host start force =
      let w := ((u.setBox b { hostReq := (u.box b).hostReq, isOpen := true, port := p }).put (F.IZX_BOX_HIGH b)
        ((start + (2 ^ 32 - 1)) % 2 ^ 32)).put (F.IZX_BOX_EVT_SEQ b) 0
      let w := (w.put (F.IZX_BOX_HOST b) host).boxShow b
      let w := w.emit (.linkResp p b 0x70 0 (w.box b).freed (leBytes 8 Config.deviceId ++ leBytes 4 (w.get F.IZX_BOOT_TAG) ++
        leBytes 4 (w.get (F.IZX_BOX_HIGH b)) ++ leBytes 2 (w.boxCredits b) ++ leBytes 1 p ++ leBytes 1 0 ++ leBytes 4 0))
      w.raise Ev.IZX_BOX_OPENED b := by
  have hclosed : (u.box b).isOpen = false := by simpa using hclosed
  unfold State.izxOpen
  rw [if_neg (not_not_intro hup)]
  dsimp only
  rw [if_neg ?entitled, if_neg (by simp [hclosed])]
  case entitled =>
    rintro (hbig | hnone | hother | hforeign)
    · exact Nat.not_le.2 hb hbig
    · simp [hnone] at hbare
    · simp [hport] at hother
    · simp [hforeign] at hhost
  simp only [hclosed]
  rfl

/-- A CLOSE on the port that its box is open on closes the box (R512). -/
theorem State.izxClose_open (u : State) (p b : Nat) (hup : u.get (F.IZX_PORT_STATUS_STATE p) = 4)
    (hopen : u.openOn p b = true) : u.izxClose p b = u.boxEnd b (some p) := by
  unfold State.izxClose
  rw [if_neg (not_not_intro hup), if_pos hopen]

/-- Settles O26: each command meets the branch of its operation that its conditions name, and each request for a port or a
box is a granted pair whose operation is carried out. -/
theorem izrexLinkComplete : Obligations.IzrexLinkComplete := by
  refine ⟨fun p lanes t => ?retrained, fun p t => ?again, fun m p t => ?retrain, fun m p t => ?takeDown,
    fun m b t => ?boxClose, fun p command b blocks t => ?badFrame, fun p b host start force t => ?openBox,
    fun p b t => ?close, fun p b t => ?nop, fun b t => ?holdEnd⟩
  case retrained =>
    exact runs_of_runU _ _ _ _ (fun _ => rfl) fun u ⟨hon, hup, hst⟩ => u.portRetrained_on p.val _ hon hup hst
  case again => exact runs_of_runU _ _ _ _ (fun _ => rfl) fun u hdue => if_pos hdue
  case retrain =>
    refine runs_of_runU _ _ _ _ (fun _ => rfl) fun u ⟨hok, hclk⟩ => ?_
    exact (u.guardWrite_IZX_PORT_OP m p 1 hok).trans (congrArg (State.answered · m 0) (State.portOp_retrain _ p.val hclk))
  case takeDown =>
    refine runs_of_runU _ _ _ _ (fun _ => rfl) fun u ⟨hok, hclk⟩ => ?_
    exact (u.guardWrite_IZX_PORT_OP m p 2 hok).trans (congrArg (State.answered · m 0) (State.portOp_takeDown _ p.val hclk))
  case boxClose =>
    exact runs_of_runU _ _ _ _ (fun _ => rfl) fun u ⟨hok, hb⟩ => u.guardWrite_IZX_BOX_OP m b hb hok
  case badFrame =>
    exact runs_of_runU _ _ _ _ (fun _ => rfl) fun u hup => u.izxBadFrame_freed p.val b.val blocks command hup
  case openBox =>
    exact runs_of_runU _ _ _ _ (fun _ => rfl) fun u ⟨hup, hb, hbare, hport, hhost, hclosed⟩ =>
      u.izxOpen_closed p.val b.val _ _ force hup hb hbare hport hhost hclosed
  case close => exact runs_of_runU _ _ _ _ (fun _ => rfl) fun u ⟨hup, hopen⟩ => u.izxClose_open p.val b.val hup hopen
  case nop => exact runs_of_runU _ _ _ _ (fun _ => rfl) fun u hup => if_neg (not_not_intro hup)
  case holdEnd => exact runs_of_runU _ _ _ _ (fun _ => rfl) fun u hdue => if_pos hdue

/-! ### COMMAND frames (R516, R521) -/

/-- A command that is a COMMAND frame completes with its opcode started, where the frame has the size of one and is next in
order on an open box with credit of an awake device. -/
theorem runs_izxFrame (c : Instr) (p b op seq : Nat) (l : List Byte)
    (hc : ∀ s, exec c s = runU c.time s (fun s => s.izxFrame p b op seq l)) :
    Runs c
      (fun u => l.length ≤ 4160 ∧ u.get (F.IZX_PORT_STATUS_STATE p) = 4 ∧ u.get F.PWR_STATUS_STATE = 0 ∧
        u.izxMay p b (frameBlocks l) ∧ u.seqDist b (seq % 2 ^ 32) = 1)
      (fun u =>
        let x := u.box b
        let a := (u.setBox b { x with slots := tblPut {} x.slots (seq % 2 ^ 32 % 256) {} }).put (F.IZX_BOX_HIGH b)
          (seq % 2 ^ 32)
        a.izxStart { seq := seq % 2 ^ 32, opcode := op, blocks := frameBlocks l, port := p, crc := crc32c l, payload := l }
          none b) :=
  runs_of_runU c _ _ _ hc fun u ⟨hsize, hup, hwake, hmay, hseq⟩ =>
    (if_neg (Nat.not_lt.2 hsize)).trans (u.izxCommand_next p b op _ l hup hwake hmay hseq)

/-- A bulk write that nothing goes before any more, even with its wait begun again, is served (R36, R520). -/
theorem State.dramBulk_served (u : State) (b q i : Nat) (r : DramReq) (hi : u.dramOf (.bulk b q) = some i)
    (hr : u.dreq[i]? = some r) (hfree : u.dramFree i = true)
    (hbar : (!u.dramBarred (u.dreq.set i { r with since := u.now }) i) = true) :
    u.dramBulk b q = ({ u with dreq := u.dreq.eraseIdx i } : State).dramServe r := by
  unfold State.dramBulk
  rw [hi]
  dsimp only
  rw [hr]
  dsimp only
  rw [if_neg (by simp [hfree]), if_pos hbar]
  unfold State.dramTake
  rw [hr]

/-- The erase that a prompt book transfer waits for ends: its slot is ready, and its BEGIN is answered (R526). -/
theorem State.promptErased_waiting (u : State) (x : Transfer) (q : Nat) (hx : u.promptUp = some x)
    (hw : x.wait = some q) (hr : x.ready = false) :
    u.promptErased =
      let w := u.store (.norErase (slotBase x.slot) (slotBase x.slot + 0x4000000))
      ({ w with promptUp := some { x with ready := true, wait := none } } : State).promptAnswer x.box q 0 x.slot 0 [] := by
  unfold State.promptErased
  rw [hx]
  dsimp only
  rw [hw, hr]

/-- Settles O27: each opcode is a COMMAND frame that starts where it is next in order, and the two completions meet the
branch in which nothing holds them up. -/
theorem izrexCommandsComplete : Obligations.IzrexCommandsComplete := by
  refine ⟨fun p b seq l t => ?regRead, fun p b seq l t => ?regWrite, fun p b seq l t => ?dramWrite,
    fun p b seq l t => ?dramRead, fun p b seq l t => ?itemQuery, fun p b seq l t => ?trackQuery,
    fun p b seq l t => ?subscribe, fun p b seq l t => ?seriesQuery, fun p b seq l t => ?sceneBegin,
    fun p b seq l t => ?promptBegin, fun p b seq l t => ?sceneChunk, fun p b seq l t => ?promptChunk,
    fun p b seq l t => ?sceneEnd, fun p b seq l t => ?promptEnd, fun b seq t i r => ?dramWriteDone,
    fun t x q => ?promptErased⟩
  case regRead => exact runs_izxFrame _ p.val b.val 0x01 seq l fun _ => rfl
  case regWrite => exact runs_izxFrame _ p.val b.val 0x02 seq l fun _ => rfl
  case dramWrite => exact runs_izxFrame _ p.val b.val 0x10 seq l fun _ => rfl
  case dramRead => exact runs_izxFrame _ p.val b.val 0x11 seq l fun _ => rfl
  case itemQuery => exact runs_izxFrame _ p.val b.val 0x22 seq l fun _ => rfl
  case trackQuery => exact runs_izxFrame _ p.val b.val 0x23 seq l fun _ => rfl
  case subscribe => exact runs_izxFrame _ p.val b.val 0x40 seq l fun _ => rfl
  case seriesQuery => exact runs_izxFrame _ p.val b.val 0x50 seq l fun _ => rfl
  case sceneBegin => exact runs_izxFrame _ p.val b.val 0x30 seq (leBytes 1 0 ++ l) fun _ => rfl
  case promptBegin => exact runs_izxFrame _ p.val b.val 0x31 seq (leBytes 1 0 ++ l) fun _ => rfl
  case sceneChunk => exact runs_izxFrame _ p.val b.val 0x30 seq (leBytes 1 1 ++ l) fun _ => rfl
  case promptChunk => exact runs_izxFrame _ p.val b.val 0x31 seq (leBytes 1 1 ++ l) fun _ => rfl
  case sceneEnd => exact runs_izxFrame _ p.val b.val 0x30 seq (leBytes 1 2 ++ l) fun _ => rfl
  case promptEnd => exact runs_izxFrame _ p.val b.val 0x31 seq (leBytes 1 2 ++ l) fun _ => rfl
  case dramWriteDone =>
    exact runs_of_runU _ _ _ _ (fun _ => rfl) fun u ⟨hi, hr, hfree, hbar⟩ => u.dramBulk_served _ _ i r hi hr hfree hbar
  case promptErased =>
    exact runs_of_runU _ _ _ _ (fun _ => rfl) fun u ⟨hx, hw, hr⟩ => u.promptErased_waiting x q hx hw hr

end Sys2Proof.Machine
end

section
/-! PROOFS. The three memories: their canonical form, the bytes that no store touches, and what the end of a command of the
user flash leaves of them. -/

namespace Sys2Proof.Machine

/-! ### The form of the memories, and the bytes outside the stores -/

/-- Settles O5: a command ends in `finish`, a tick of the fabric too, and an idle step changes nothing. -/
theorem everyStepKeepsTheMemoryForm : Obligations.EveryStepKeepsTheMemoryForm := by
  intro s t hm hstep
  cases hp : s.pending with
  | cons c rest =>
    obtain ⟨u, hu, -, -, hmem⟩ := step_front hp
    obtain rfl : u = t := by simpa [hu] using hstep
    exact hmem hm
  | nil =>
    unfold step at hstep
    rw [hp] at hstep
    by_cases hr : s.fabRuns = true
    · obtain rfl : _ = t := by simpa [hr, run] using hstep
      exact finish_memOk _ _ _ hm
    · obtain rfl : s = t := by simpa [hr] using hstep
      exact hm

/-- In a still state what the blocks do of themselves collects no store. -/
theorem State.settled_stores (b : State) (h : b.still = true) : b.settleAll.eventsSend.stores = b.stores := by
  rw [State.settleAll_still b h]
  exact State.onlyEvents_stores b.eventsSend_only

/-- Settles O7: what a command leaves of the memories is what its stores make of them, one after another. -/
theorem bytesOutsideTheStoresKeepTheirValue : Obligations.BytesOutsideTheStoresKeepTheirValue := fun t s b a =>
  ⟨finish_dram t s _ a, finish_flash t s _ a, finish_nor t s _ a, b.settled_stores⟩

/-! ### States in which nothing waits -/

/-- Nothing that waits shows in the register at address `a`. -/
def quietAt (a : Nat) : Prop := a ≠ 0x100 ∧ a ≠ 0xC0008 ∧ ∀ n < 16, (F.WQ_STATUS_CEILING_WAIT n).addr ≠ a

/-- Below the block of the duplex pair only the mode shows what waits. -/
theorem quietAt_low {a : Nat} (h0 : a ≠ 0x100) (h : a < 0xC0000) : quietAt a := by
  refine ⟨h0, by omega, fun n _ => ?_⟩
  show 0xE0000 + 0x100 * n ≠ a
  omega

/-- What waits shows in the ceiling waits, the duplex registers and the mode, and in no other register. -/
theorem State.still_of_regs {s : State} {r : Tbl (BitVec 64)} {h : Tbl (Option Hit)} {a : Nat} (hs : s.still = true)
    (ha : quietAt a) (hr : ∀ f : Fld, f.addr ≠ a → ({ s with regs := r, hits := h } : State).get f = s.get f) :
    ({ s with regs := r, hits := h } : State).still = true := by
  obtain ⟨hmode, hdpx, hceil⟩ := ha
  have hsteady : s.dpxSteady = true → ({ s with regs := r, hits := h } : State).dpxSteady = true :=
    State.dpxSteady_of rfl rfl (hr _ (Ne.symm hmode)) (hr _ (Ne.symm hdpx)) (hr _ (Ne.symm hdpx)) (hr _ (Ne.symm hdpx))
  unfold State.still at hs ⊢
  simp only [Bool.and_eq_true, List.all_eq_true] at hs ⊢
  obtain ⟨⟨⟨⟨⟨⟨⟨⟨⟨⟨hqueue, hl⟩, hy⟩, hc⟩, hb⟩, hg⟩, hp⟩, hd⟩, ho⟩, hx⟩, hlater⟩ := hs
  refine ⟨⟨⟨⟨⟨⟨⟨⟨⟨⟨fun n hn => ?_, hl⟩, hy⟩, hc⟩, hb⟩, hg⟩, hp⟩, hd⟩, ho⟩, hsteady hx⟩, hlater⟩
  unfold State.flag
  rw [hr _ (hceil n (by simpa using hn))]
  exact hqueue n hn

/-- A write of such a register leaves nothing waiting. -/
theorem State.still_put {s : State} (f : Fld) (x : Nat) (h : s.still = true) (hf : quietAt f.addr) :
    (s.put f x).still = true :=
  State.still_of_regs h hf fun g hg => State.get_put_ne s f g x hg

/-! ### The stores that a command collects in a still state -/

/-- On the way from `s` to `t` the stores `l` are collected, and a still state stays still. -/
def State.collects (s : State) (l : List Store) (t : State) : Prop :=
  t.stores = s.stores ++ l ∧ (s.still = true → t.still = true)

theorem State.collects_refl (s : State) : s.collects [] s := ⟨(List.append_nil _).symm, id⟩

theorem State.collects_trans {s t u : State} {l k : List Store} (h : s.collects l t) (h' : t.collects k u) :
    s.collects (l ++ k) u := by
  obtain ⟨hl, ht⟩ := h
  obtain ⟨hk, hu⟩ := h'
  exact ⟨by rw [hk, hl, List.append_assoc], fun hs => hu (ht hs)⟩

section Collects

variable {s t : State} {l : List Store} (h : s.collects l t)

include h

theorem State.collects.put (f : Fld) (x : Nat) (hmode : f.addr ≠ 0x100 := by decide) (hlow : f.addr < 0xC0000 := by decide) :
    s.collects l (t.put f x) :=
  ⟨h.1, fun hs => State.still_put f x (h.2 hs) (quietAt_low hmode hlow)⟩

theorem State.collects.addSat (f : Fld) (n : Nat) (hmode : f.addr ≠ 0x100 := by decide)
    (hlow : f.addr < 0xC0000 := by decide) : s.collects l (t.addSat f n) :=
  ⟨h.1, fun hs => State.still_of_regs (h.2 hs) (quietAt_low hmode hlow) fun g hg => State.get_put_ne (t.note f 0) f g _ hg⟩

theorem State.collects.raise (src inst : Nat) : s.collects l (t.raise src inst) :=
  ⟨(State.onlyEvents_stores (t.raise_only src inst)).trans h.1,
    fun hs => State.still_of_onlyEvents (t.raise_only src inst) (h.2 hs)⟩

theorem State.collects.store (x : Store) : s.collects (l ++ [x]) (t.store x) :=
  ⟨by rw [State.store_stores, h.1, List.append_assoc], h.2⟩

/-- Writes one after another collect no store. -/
theorem State.collects.puts {α : Type} (f : α → Fld) (x : α → Nat) (k : List α)
    (hf : ∀ a ∈ k, (f a).addr ≠ 0x100 ∧ (f a).addr < 0xC0000) :
    s.collects l (k.foldl (fun s a => s.put (f a) (x a)) t) := by
  induction k generalizing t with
  | nil => exact h
  | cons a k ih =>
    obtain ⟨hmode, hlow⟩ := hf a (by simp)
    exact ih (h.put (f a) (x a) hmode hlow) fun b hb => hf b (by simp [hb])

end Collects

/-- What the stores make of the memories depends on the memories alone. -/
theorem applyStores_congr : ∀ (l : List Store) (a b : State), a.dram = b.dram → a.flash = b.flash → a.nor = b.nor →
    (l.foldl applyStore a).dram = (l.foldl applyStore b).dram ∧
    (l.foldl applyStore a).flash = (l.foldl applyStore b).flash ∧ (l.foldl applyStore a).nor = (l.foldl applyStore b).nor
  | [], _, _, hd, hf, hn => ⟨hd, hf, hn⟩
  | x :: l, a, b, hd, hf, hn => by
    refine applyStores_congr l _ _ ?_ ?_ ?_ <;> cases x <;> simp [applyStore, hd, hf, hn]

/-- A command that has collected its stores in a still state leaves of the memories what the stores make of them. -/
theorem settled_memories {t : Ps} {s b : State} {l : List Store} (hs : (begin t s).still = true)
    (h : (begin t s).collects l b) :
    (settled t s b).dram = (l.foldl applyStore s).dram ∧ (settled t s b).flash = (l.foldl applyStore s).flash ∧
      (settled t s b).nor = (l.foldl applyStore s).nor := by
  have hl : b.settleAll.eventsSend.stores = l := (b.settled_stores (h.2 hs)).trans h.1
  simp only [settled, finish, hl]
  exact applyStores_congr l _ s rfl rfl rfl

/-! ### Operations of the user flash (R597, R602) -/

/-- The stores with which an operation of the user flash ends that nothing refuses and whose verify holds. -/
def FlcOp.stores (o : FlcOp) : List Store :=
  let a := bits o.addr 25 0
  if o.op = 1 ∨ o.op = 4 then [] else if o.op = 2 then [.flash a o.data]
  else [.flashErase (8192 * (a / 8192)) (8192 * (a / 8192) + 8192)]

theorem State.collects.flcEnd {s t : State} {l : List Store} (h : s.collects l t) (code : Nat) :
    s.collects l (t.flcEnd code) := by
  have hcfg : s.collects l { t with cfg := { t.cfg with flc := none } } := h
  exact ((hcfg.put F.FLC_RESULT_CODE code).put F.FLC_RESULT_BUSY 0).raise Ev.FLC_OP_DONE 0

/-- Bytes that nothing fixes collect no store. -/
theorem State.collects.freeBytes {s t : State} {l : List Store} (h : s.collects l t) (n : Nat) :
    s.collects l (t.freeBytes n).2 :=
  ⟨h.1, fun hs => h.2 hs⟩

/-- Bytes that the read of the user flash shows. -/
theorem State.collects.flcData {s t : State} {l : List Store} (h : s.collects l t) (bs : List Byte) :
    s.collects l ((List.range 4).foldl (fun s w => s.put (F.FLC_DATA w) (leAt bs (4 * w) 4)) t) :=
  h.puts F.FLC_DATA (fun w => leAt bs (4 * w) 4) (List.range 4) (by decide)

/-- An operation at an aligned address of the user flash that nothing refuses ends with its own stores. -/
theorem State.collects_flcDone (u : State) (o : FlcOp) (ecc pulses : Nat) (ho : u.cfg.flc = some o)
    (harray : bits o.addr 31 28 = 0) (hin : bits o.addr 25 0 < 8388608) (haligned : bits o.addr 25 0 % 16 = 0)
    (hok : u.flcRefused o = none) : u.collects o.stores (u.flcDone ecc pulses false) := by
  have hsector : ¬(3 < bits o.addr 31 28 ∨ arraySectors (bits o.addr 31 28) ≤ bits o.addr 25 0 / 8192) := by
    rw [harray]
    show ¬(3 < 0 ∨ 1024 ≤ _)
    omega
  have hwhere : ¬(bits o.addr 31 28 ≠ 0 ∨ 8388608 ≤ bits o.addr 25 0 ∨ bits o.addr 25 0 % 16 ≠ 0) := by omega
  unfold State.flcDone FlcOp.stores
  rw [ho]
  dsimp only
  by_cases h4 : o.op = 4
  · rw [if_pos h4, if_neg hsector, if_pos (.inr h4)]
    exact (((u.collects_refl.put F.FLC_INFO_STATE _).put F.FLC_INFO_PULSES _).put F.FLC_INFO_CYCLES _).flcEnd 0
  rw [if_neg h4, if_neg hwhere]
  by_cases h1 : o.op = 1
  · rw [if_pos h1, if_pos (.inl h1)]
    by_cases h2 : ecc = 2
    · rw [if_pos h2, if_pos h2]
      exact (((u.collects_refl.freeBytes 16).flcData _).raise _ _).flcEnd _
    · rw [if_neg h2, if_neg h2]
      by_cases he : ecc = 1
      · rw [if_pos he]
        exact (((u.collects_refl.flcData _).addSat F.FLC_ECC _).raise _ _).flcEnd _
      · rw [if_neg he]
        exact (u.collects_refl.flcData _).flcEnd _
  rw [if_neg h1, if_neg (by omega), hok]
  dsimp only
  by_cases h2 : o.op = 2
  · rw [if_pos h2, if_pos h2, if_neg Bool.false_ne_true]
    exact (u.collects_refl.store _).flcEnd _
  · rw [if_neg h2, if_neg h2, if_neg Bool.false_ne_true]
    have hsec : ∀ x : Sector, u.collects [] (u.setSector 0 (bits o.addr 25 0 / 8192) x) := fun x => u.collects_refl
    refine State.collects.flcEnd (State.collects.store (l := []) ?_ _) _
    split
    · exact (hsec _).raise _ _
    · exact hsec _

/-- The sectors of 8 KiB are those of equal quotients. -/
theorem memGet_sectorErase (m : Memory) (k a : Nat) : memGet .flash (memErase m (8192 * k) (8192 * k + 8192)) a =
    if a / 8192 = k then 0xFF else memGet .flash m a := by
  rw [memGet_erase]
  by_cases h : a / 8192 = k
  · rw [if_neg (by omega), if_pos h]
    rfl
  · rw [if_pos (by omega), if_neg h]

/-- Settles O36: in a still state the end of the operation collects its own store and no other. -/
theorem flashCommandsChangeTheirBytesOnly : Obligations.FlashCommandsChangeTheirBytesOnly := by
  intro ecc pulses t s o hh hstill ho harray hin haligned hok
  have hruns : Runs (.flcOpDone ecc pulses false t) (fun u => u.cfg.flc.isSome) (fun u => u.flcDone ecc.val pulses false) :=
    runs_of_runU _ _ _ _ (fun _ => rfl) fun _ _ => rfl
  have hcol := (begin t s).collects_flcDone o ecc.val pulses ho harray hin haligned hok
  obtain ⟨hdram, hflash, hnor⟩ := settled_memories hstill hcol
  refine ⟨settled t s ((begin t s).flcDone ecc.val pulses false), hruns s hh (by simp [begin, ho]), hdram.trans ?_, hnor.trans ?_, fun h2 hlen => ?_, fun h3 a => ?_⟩
  · unfold FlcOp.stores
    split
    · rfl
    · split <;> rfl
  · unfold FlcOp.stores
    split
    · rfl
    · split <;> rfl
  · have hs : o.stores = [.flash (bits o.addr 25 0) o.data] := by simp [FlcOp.stores, h2]
    rw [hflash, hs]
    refine ⟨?_, fun a ha => memGet_write_outside .flash o.data s.flash _ a (by omega)⟩
    rw [← hlen]
    exact memBytes_write .flash s.flash _ o.data
  · have hs : o.stores = [.flashErase (8192 * (bits o.addr 25 0 / 8192)) (8192 * (bits o.addr 25 0 / 8192) + 8192)] := by
      simp [FlcOp.stores, h3]
    rw [hflash, hs]
    exact memGet_sectorErase s.flash _ a

end Sys2Proof.Machine
end

section
/-! PROOFS. The flip-flops of the fabric at the edges of the clock trees. -/

namespace Sys2Proof.Machine

/-- Entries put one after another, by a rule that asks for the key alone: a key of the list has what the rule says. -/
theorem tblGet_foldl_put {α : Type} [DecidableEq α] (d : α) (rule : Nat → Option α) (step : Tbl α → Nat → Tbl α)
    (hstep : ∀ t k, step t k = ((rule k).map (tblPut d t k)).getD t) (l : List Nat) (t : Tbl α) (n : Nat) :
    tblGet d (l.foldl step t) n = if n ∈ l then (rule n).getD (tblGet d t n) else tblGet d t n := by
  induction l generalizing t with
  | nil => simp
  | cons k l ih =>
    rw [List.foldl_cons, ih, hstep]
    by_cases hk : n = k
    · subst hk
      cases hr : rule n <;> simp [tblGet_put_same]
    · have hne : tblGet d (((rule k).map (tblPut d t k)).getD t) n = tblGet d t n := by
        cases rule k with
        | none => rfl
        | some v => exact tblGet_put_ne d d t k n v hk
      simp [hk, hne]

/-- A flip-flop that the design uses is among those that it lists. -/
theorem Design.mem_ffs {d : Design} {n : Nat} {c : FfCfg} (h : d.ff? n = some c) : n ∈ d.ffs := by
  have hcell : ∃ cell, d.cells.lookup (n / 4096, n / 16 % 256, n / 2 % 8) = some cell := by
    unfold Design.ff? Design.cell? at h
    split at h <;> simp_all
  obtain ⟨cell, hcell⟩ := hcell
  obtain ⟨l, r, hl, -⟩ := List.lookup_eq_some_iff.1 hcell
  refine List.mem_flatMap.2 ⟨((n / 4096, n / 16 % 256, n / 2 % 8), cell), by simp [hl], List.mem_filter.2 ⟨?_, by simp [h]⟩⟩
  have : n = ffIx (n / 4096) (n / 16 % 256) (n / 2 % 8) 0 ∨ n = ffIx (n / 4096) (n / 16 % 256) (n / 2 % 8) 0 + 1 := by
    unfold ffIx
    omega
  simpa using this

/-- What flip-flop `n` takes at the edges of the clock trees in `mask` in the quadrants of `on`: nothing where it keeps its
value. -/
def Fab.taken (f : Fab) (inp : Sig → Bool) (mask on n : Nat) : Option Bool :=
  (f.design.ff? n).bind fun c =>
    if on.testBit (quadrantOf (n / 4096) (n / 16 % 256)) = false then none
    else if c.arst.any f.asserted then some false
    else if mask.testBit c.clk then some (c.next (f.levels inp) (tblGet false f.ff n))
    else none

/-- At the edges a flip-flop of the design takes what `taken` says. -/
theorem Fab.edges_ff (f : Fab) (inp pick : Sig → Bool) (mask on src n : Nat) :
    tblGet false (f.edges inp pick mask on src).ff n =
      if n ∈ f.design.ffs then (f.taken inp mask on n).getD (tblGet false f.ff n) else tblGet false f.ff n := by
  refine tblGet_foldl_put false (f.taken inp mask on) _ (fun t k => ?_) f.design.ffs f.ff n
  unfold Fab.taken
  cases f.design.ff? k with
  | none => rfl
  | some c =>
    dsimp only [Option.bind_some]
    split_ifs <;> simp_all

/-- Settles O55: the design lists the flip-flop, so it takes what `taken` says, case by case. -/
theorem flipFlopsTakeTheirDataAtTheirEdges : Obligations.FlipFlopsTakeTheirDataAtTheirEdges := by
  intro f inp pick mask on src n c hc
  have hasserted : c.arst.any f.asserted = true ↔ ∃ k, c.arst = some k ∧ f.asserted k = true := by
    cases c.arst <;> simp
  rw [Fab.edges_ff, if_pos (Design.mem_ffs hc)]
  unfold Fab.taken FfCfg.next
  rw [hc, Option.bind_some]
  simp only [hasserted]
  split_ifs <;> simp_all

end Sys2Proof.Machine
end

section
/-! PROOFS. Accesses in the closed life cycles, and register writes of a calm state that change one register alone. -/

namespace Sys2Proof.Machine

/-! ### The closed life cycles (R711, R715) -/

/-- In SCRAP and LIMBO the life cycle stops every access but those that the two rules name. -/
theorem State.lcyAllows_closed (u : State) (a : Access)
    (hs : u.lcyState = 6 ∨ (u.lcyState = 7 ∧
      ¬ (a.addr = 0x10018 ∧ a.wide = true ∧ a.data = some (0xFFFFFFF9 * 2 ^ 32 + 6))))
    (hread : ¬ (a.data = none ∧ (a.addr < 0x100 ∨ (0x10000 ≤ a.addr ∧ a.addr < 0x20000)))) :
    u.lcyAllows a = false := by
  have hlcy : (decide (blockOf a.addr = 1) && a.data.isNone) = false := by
    rw [Bool.eq_false_iff]
    intro h
    simp only [Bool.and_eq_true, decide_eq_true_eq, Option.isNone_iff_eq_none] at h
    obtain ⟨hb, hd⟩ := h
    exact hread ⟨hd, .inr (by unfold blockOf at hb; omega)⟩
  have hid : (decide (a.addr < 0x100) && a.data.isNone) = false := by
    rw [Bool.eq_false_iff]
    intro h
    simp only [Bool.and_eq_true, decide_eq_true_eq, Option.isNone_iff_eq_none] at h
    exact hread ⟨h.2, .inl h.1⟩
  unfold State.lcyAllows
  rcases hs with h6 | ⟨h7, hpair⟩
  · rw [h6]
    simp only [hlcy, hid, Bool.or_self]
  · rw [h7]
    have hkey : (decide (a.addr = F.LCY_TRANSITION.addr) && a.wide && a.data == some (guardPair 6)) = false := by
      rw [Bool.eq_false_iff]
      intro h
      simp only [Bool.and_eq_true, decide_eq_true_eq, beq_iff_eq] at h
      exact hpair ⟨h.1.1, h.1.2, h.2⟩
    simp only [hlcy, hid, hkey, Bool.or_self]

/-- Settles O40: the life cycle stops the access before it reaches a block. -/
theorem closedLifeCyclesAnswerAsEmptyAddresses : Obligations.ClosedLifeCyclesAnswerAsEmptyAddresses := by
  intro m a wide data t
  refine runs_registerWrite fun u ⟨hmay, hs, hread⟩ => ?_
  have hstop := u.lcyAllows_closed { master := m, addr := a, wide, data } hs hread
  unfold State.accRun
  rw [State.access_reach u _ hmay]
  unfold State.reach
  rw [hstop]
  rfl

/-! ### One register written in a calm state -/

/-- Above the queue block no register shows what waits. -/
theorem quietAt_high {a : Nat} (h : 0xF0000 ≤ a) : quietAt a := by
  refine ⟨by omega, by omega, fun n hn => ?_⟩
  show 0xE0000 + 0x100 * n ≠ a
  omega

/-- States with the same registers read the same. -/
theorem State.get_of_regs {s t : State} (h : t.regs = s.regs) (g : Fld) : t.get g = s.get g := by
  unfold State.get State.regAt
  rw [h]

/-- A field of another register keeps its value. -/
theorem State.get_withReg_ne (s : State) (f g : Fld) (v : Nat) (hg : g.addr ≠ f.addr) : (s.withReg f v).get g = s.get g := by
  unfold State.get State.withReg
  rw [State.regAt_setRegAt_ne _ _ _ _ _ _ hg]

/-- Writing a register in which nothing that waits shows keeps a state calm. -/
theorem State.calm_withReg {s : State} (f : Fld) (v : Nat) (h : s.calm = true) (hf : quietAt f.addr) :
    (s.withReg f v).calm = true := by
  unfold State.calm at h ⊢
  rw [Bool.and_eq_true] at h ⊢
  obtain ⟨hstill, hevents⟩ := h
  exact ⟨State.still_of_regs hstill hf fun g hg => s.get_withReg_ne f g v hg, hevents⟩

/-- An answer keeps a state calm. -/
theorem State.calm_answered (s : State) (m : Master) (v : Nat) : (s.answered m v).calm = s.calm := rfl

/-- A command that in a calm state writes one register and is answered leaves everything else. -/
theorem calm_write {c : Instr} {G : State → Prop} {m : Master} {f : Fld} {V : State → Nat}
    (h : Runs c G fun u => (u.withReg f (V u)).answered m 0) (s : State) (hh : s.sys.held = false)
    (hg : G (begin c.time s)) (hc : (begin c.time s).calm = true) (hf : quietAt f.addr) :
    ∃ u : State, exec c s = .next u ∧ u.regAt f.addr f.rst = V (begin c.time s) % 2 ^ 64 ∧
      (∀ g : Fld, g.addr ≠ f.addr → u.get g = s.get g) ∧
      ({ u with regs := s.regs, out := s.out, now := s.now, stores := s.stores, hits := s.hits } : State) = s := by
  have hcalm : (((begin c.time s).withReg f (V (begin c.time s))).answered m 0).calm = true := by
    rw [State.calm_answered]
    exact State.calm_withReg f _ hc hf
  have hnext := calm_exec h s hh hg hcalm
  have hregs : (finish c.time s (((begin c.time s).withReg f (V (begin c.time s))).answered m 0)).regs =
      (s.withReg f (V (begin c.time s))).regs := rfl
  refine ⟨_, hnext, ?_, fun g hg => ?_, rfl⟩
  · unfold State.regAt
    rw [hregs]
    exact State.regAt_setRegAt s f.addr f.rst _
  · rw [State.get_of_regs hregs]
    exact s.get_withReg_ne f g _ hg

/-- Each bit of the value that a plain write leaves. -/
theorem State.testBit_rwValue (u : State) (f : Fld) (rw v i : Nat) :
    (u.rwValue f rw v).testBit i = if rw.testBit i then v.testBit i else (u.regAt f.addr f.rst).testBit i := by
  unfold State.rwValue
  rw [Nat.testBit_or, testBit_clearBits, Nat.testBit_and]
  cases rw.testBit i <;> simp

/-- Settles O51: the write takes EN and POINT and leaves the other bits. -/
theorem settingAndPortCommandsLeaveTheRest : Obligations.SettingAndPortCommandsLeaveTheRest := by
  intro m v n t s hh hcalm hok hhit
  obtain ⟨-, -, -, -, -, -, -, -, -, -, -, hsel, -⟩ := registerAccessesComplete
  have hquiet : quietAt (F.PRB_SEL n.val).addr := quietAt_high (by
    show 0xF0000 ≤ 0x150000 + 0x4 * n.val
    omega)
  obtain ⟨u, hu, hval, hrest, hframe⟩ := calm_write (hsel m n v t) s hh ⟨hok, hhit⟩ hcalm hquiet
  refine ⟨u, hu, fun i hi => ?_, hrest, hframe⟩
  rw [hval, Nat.testBit_mod_two_pow, State.testBit_rwValue]
  simp only [hi, decide_true, Bool.true_and]
  rfl

end Sys2Proof.Machine
end

section
/-! PROOFS. Commands of the user pins and the peripherals (R681 to R704). -/

namespace Sys2Proof.Machine

/-! ### Accesses to their registers -/

/-- Below the slave window. -/
theorem inWindow_of_lt {a : Nat} (h : a < 0x158000) : inWindow a = false := by
  unfold inWindow
  simp [h]

/-- A granted write of GPIO_PIN is judged by its slots (R686). -/
theorem State.busWrite_GPIO_PIN (u : State) (m : Master) (p : Fin 640) (v : Nat)
    (hok : u.granted m (F.GPIO_PIN p.val) true = true) :
    u.busWrite m (F.GPIO_PIN p.val) v = (u.pinWrite p.val (v % 2 ^ 32)).answered m 0 :=
  u.busWrite_granted m _ v _ (findReg_GPIO_PIN p) rfl rfl
    (inWindow_of_lt (by show 0x71000 + 0x4 * p.val < 0x158000; omega)) hok

/-- A granted write of GPIO_MWR acts on GPIO_OUT (R690). -/
theorem State.busWrite_GPIO_MWR (u : State) (m : Master) (k : Fin 40) (v : Nat)
    (hok : u.granted m (F.GPIO_MWR k.val) true = true) :
    u.busWrite m (F.GPIO_MWR k.val) v =
      (u.put (F.GPIO_OUT_VALUE k.val) (masked (u.get (F.GPIO_OUT_VALUE k.val)) (v % 2 ^ 32))).answered m 0 :=
  u.busWrite_granted m _ v _ (findReg_GPIO_MWR k) rfl rfl
    (inWindow_of_lt (by show 0x70300 + 0x4 * k.val < 0x158000; omega)) hok

/-- A granted write of GPIO_MOE acts on GPIO_OE (R690). -/
theorem State.busWrite_GPIO_MOE (u : State) (m : Master) (k : Fin 40) (v : Nat)
    (hok : u.granted m (F.GPIO_MOE k.val) true = true) :
    u.busWrite m (F.GPIO_MOE k.val) v =
      (u.put (F.GPIO_OE_ENABLE k.val) (masked (u.get (F.GPIO_OE_ENABLE k.val)) (v % 2 ^ 32))).answered m 0 :=
  u.busWrite_granted m _ v _ (findReg_GPIO_MOE k) rfl rfl
    (inWindow_of_lt (by show 0x70400 + 0x4 * k.val < 0x158000; omega)) hok

/-- A granted write of UART_DATA queues its byte (R693). -/
theorem State.busWrite_UART_DATA (u : State) (m : Master) (k : Fin 4) (v : Nat)
    (hok : u.granted m (F.UART_DATA k.val) true = true) :
    u.busWrite m (F.UART_DATA k.val) v = (u.uartWrite k.val (bits (v % 2 ^ 32) 7 0)).answered m 0 :=
  u.busWrite_granted m _ v _ (findReg_UART_DATA k) rfl rfl
    (inWindow_of_lt (by show 0x140008 + 0x100 * k.val < 0x158000; omega)) hok

/-- A granted write of SPI_DATA queues its byte (R694). -/
theorem State.busWrite_SPI_DATA (u : State) (m : Master) (k : Fin 4) (v : Nat)
    (hok : u.granted m (F.SPI_DATA k.val) true = true) :
    u.busWrite m (F.SPI_DATA k.val) v = (u.spiWrite k.val (bits (v % 2 ^ 32) 7 0)).answered m 0 :=
  u.busWrite_granted m _ v _ (findReg_SPI_DATA k) rfl rfl
    (inWindow_of_lt (by show 0x140408 + 0x100 * k.val < 0x158000; omega)) hok

/-- A granted write of I2C_CMD whose FIFO has room queues its operation and byte (R695). -/
theorem State.busWrite_I2C_CMD (u : State) (m : Master) (k : Fin 4) (op : Nat) (byte : Nat) (hop : 1 ≤ op ∧ op ≤ 5)
    (hb : byte < 256) (hok : u.granted m (F.I2C_CMD k.val) true = true) (hroom : (u.i2c k.val).cmds.length < 32) :
    u.busWrite m (F.I2C_CMD k.val) (256 * op + byte) =
      (u.setI2c k.val { u.i2c k.val with cmds := (u.i2c k.val).cmds ++ [(op, byte)] }).answered m 0 := by
  rw [u.busWrite_granted m _ _ _ (findReg_I2C_CMD k) rfl rfl
    (inWindow_of_lt (by show 0x140804 + 0x100 * k.val < 0x158000; omega)) hok]
  have hcode : bits ((256 * op + byte) % 2 ^ 32) 10 8 = op := by
    unfold bits
    omega
  have hdata : bits ((256 * op + byte) % 2 ^ 32) 7 0 % 256 = byte := by
    unfold bits
    omega
  show (u.i2cQueue k.val (bits ((256 * op + byte) % 2 ^ 32) 10 8) (bits ((256 * op + byte) % 2 ^ 32) 7 0)).answered m 0 = _
  unfold State.i2cQueue
  rw [hcode, hdata, if_neg (by omega)]

/-- A granted read of a FIFO register of 32 bits does what reading the register does. -/
theorem State.busRead_fifo (u : State) (m : Master) (f : Fld) (r : RegAt) (q : State × Nat) (hr : findReg f.addr = some r)
    (h1 : r.row.wg = false) (h2 : r.row.wide = false) (h3 : r.row.rc = 0) (hin : f.addr < 0x158000)
    (h : u.readWhole r = q) (hok : u.granted m f false = true) : u.busRead m f = q.1.answered m (q.2 % 2 ^ 32) := by
  rw [u.busRead_granted m f r hr (inWindow_of_lt hin) hok, u.read32_plain m r q h h1 h2 h3]

/-! ### Occurrences that nothing stops -/

/-- A unit that is enabled in an awake device works. -/
theorem enabled_awake {en : Bool} {mode : Nat} (hen : en = true) (hmode : mode ≠ 5) : ¬((!en) = true ∨ mode = 5) := by
  simp [hen, hmode]

/-- A hand-over whose time has come ends (R688). -/
theorem State.handOver_due (u : State) (p : Nat) (a : Ps) (v : Nat) (h : tblGet none u.per.handing p = some (a, v))
    (ht : a + 20000 ≤ u.now) :
    u.handOver p =
      let w := u.ctsDrop p v
      let next : Option (Ps × Nat) := (tblGet none w.per.again p).map (fun x => (w.now, x))
      { w with per := { w.per with slots := tblPut 0 w.per.slots p v, handing := tblPut none w.per.handing p next,
                                   again := tblPut none w.per.again p none } } := by
  unfold State.handOver
  rw [h]
  dsimp only
  rw [if_neg (Nat.not_lt.2 ht)]

/-- The masked write takes the value bits that its mask names (R690). -/
theorem testBit_masked (old v i : Nat) (hi : i < 16) : (masked old v).testBit i =
    if v.testBit (16 + i) then v.testBit i else old.testBit i := by
  have hbits : bits v 31 16 < 2 ^ 16 := Nat.mod_lt _ (by decide)
  have hmask : (0xFFFF - bits v 31 16).testBit i = !v.testBit (16 + i) := by
    rw [show 0xFFFF - bits v 31 16 = 2 ^ 16 - (bits v 31 16 + 1) by omega, Nat.testBit_two_pow_sub_succ hbits, testBit_bits]
    simp [hi, Nat.add_comm]
  unfold masked
  rw [Nat.testBit_or, Nat.testBit_and, Nat.testBit_and, hmask, testBit_bits, testBit_bits, Nat.add_comm i 16]
  cases v.testBit (16 + i) <;> simp [hi]

/-- A masked write fits its field of 16 bits. -/
theorem masked_lt (old v : Nat) (h : old < 2 ^ 16) : masked old v < 2 ^ 16 :=
  Nat.or_lt_two_pow (Nat.lt_of_le_of_lt Nat.and_le_left h)
    (Nat.lt_of_le_of_lt Nat.and_le_left (Nat.mod_lt _ (by decide)))

/-! ### Commands of the pins and the peripherals -/

/-- GPIO_MWR_WRITE acts on GPIO_OUT (R690). -/
theorem runs_gpioMwrWrite (m : Master) (v t : Nat) (k : Fin 40) : Runs (.gpioMwrWrite m k v t)
    (fun u => u.granted m (F.GPIO_MWR k.val) true)
    (fun u => (u.put (F.GPIO_OUT_VALUE k.val) (masked (u.get (F.GPIO_OUT_VALUE k.val)) (v % 2 ^ 32))).answered m 0) :=
  runs_of_runU _ _ _ _ (fun _ => rfl) fun u hok => u.busWrite_GPIO_MWR m k v hok

/-- GPIO_MOE_WRITE acts on GPIO_OE (R690). -/
theorem runs_gpioMoeWrite (m : Master) (v t : Nat) (k : Fin 40) : Runs (.gpioMoeWrite m k v t)
    (fun u => u.granted m (F.GPIO_MOE k.val) true)
    (fun u => (u.put (F.GPIO_OE_ENABLE k.val) (masked (u.get (F.GPIO_OE_ENABLE k.val)) (v % 2 ^ 32))).answered m 0) :=
  runs_of_runU _ _ _ _ (fun _ => rfl) fun u hok => u.busWrite_GPIO_MOE m k v hok

/-- Settles O32: each command is a register access or an occurrence, and where nothing stops it, it is carried out. -/
theorem peripheralCommandsComplete : Obligations.PeripheralCommandsComplete := by
  refine ⟨fun m pin v t => ?_, fun pin t a v => ?_, runs_gpioMwrWrite, runs_gpioMoeWrite, fun levels changed t k => ?_,
    fun n code t => ?_, fun byte pb fb t k => ?_, fun m v t k => ?_, fun m t k => ?_, fun t k => ?_, fun high t k => ?_,
    fun t k => ?_, fun m v t k => ?_, fun m t k => ?_, fun byte t k => ?_, fun t k => ?_, fun m t k => ?_,
    fun m t k => ?_, fun m t k => ?_, fun m t k => ?_, fun m byte t k => ?_, fun m t k => ?_, fun res byte t k => ?_,
    fun t k => ?_, fun k t => ?_, fun k t => ?_, fun m k t => ?_⟩
  · exact runs_of_runU _ _ _ _ (fun _ => rfl) fun u hok => u.busWrite_GPIO_PIN m pin v hok
  · exact runs_of_runU _ _ _ _ (fun _ => rfl) fun u ⟨hp, ht⟩ => u.handOver_due pin.val a v hp ht
  · refine runs_of_runU _ _ _ _ (fun _ => rfl) fun u ⟨hen, hmode⟩ => ?_
    exact if_neg (enabled_awake hen hmode)
  · refine runs_of_runU _ _ _ _ (fun _ => rfl) fun u ⟨hne, hc⟩ => ?_
    exact if_neg (by omega)
  · exact runs_of_runU _ _ _ _ (fun _ => rfl) fun _ _ => rfl
  · exact runs_of_runU _ _ _ _ (fun _ => rfl) fun u hok => u.busWrite_UART_DATA m k v hok
  · refine runs_of_runU _ _ _ _ (fun _ => rfl) fun u hok => ?_
    exact u.busRead_fifo m _ _ _ (findReg_UART_DATA k) rfl rfl rfl (by show 0x140008 + 0x100 * k.val < _; omega) rfl hok
  · exact runs_of_runU _ _ _ _ (fun _ => rfl) fun u h => if_pos h
  · exact runs_of_runU _ _ _ _ (fun _ => rfl) fun _ _ => rfl
  · exact runs_of_runU _ _ _ _ (fun _ => rfl) fun u ⟨hen, hmode⟩ => if_neg (enabled_awake hen hmode)
  · exact runs_of_runU _ _ _ _ (fun _ => rfl) fun u hok => u.busWrite_SPI_DATA m k v hok
  · refine runs_of_runU _ _ _ _ (fun _ => rfl) fun u hok => ?_
    exact u.busRead_fifo m _ _ _ (findReg_SPI_DATA k) rfl rfl rfl (by show 0x140408 + 0x100 * k.val < _; omega) rfl hok
  · refine runs_of_runU _ _ _ _ (fun _ => rfl) fun u hs => ?_
    obtain ⟨b, hb⟩ := Option.isSome_iff_exists.1 hs
    unfold State.spiFrame
    simp only [hb]
  · exact runs_of_runU _ _ _ _ (fun _ => rfl) fun u h => if_pos h
  · exact runs_of_runU _ _ _ _ (fun _ => rfl) fun u ⟨hok, hroom⟩ =>
      u.busWrite_I2C_CMD m k 1 0 (by decide) (by decide) hok hroom
  · exact runs_of_runU _ _ _ _ (fun _ => rfl) fun u ⟨hok, hroom⟩ =>
      u.busWrite_I2C_CMD m k 3 0 (by decide) (by decide) hok hroom
  · exact runs_of_runU _ _ _ _ (fun _ => rfl) fun u ⟨hok, hroom⟩ =>
      u.busWrite_I2C_CMD m k 4 0 (by decide) (by decide) hok hroom
  · exact runs_of_runU _ _ _ _ (fun _ => rfl) fun u ⟨hok, hroom⟩ =>
      u.busWrite_I2C_CMD m k 5 0 (by decide) (by decide) hok hroom
  · exact runs_of_runU _ _ _ _ (fun _ => rfl) fun u ⟨hok, hroom⟩ =>
      u.busWrite_I2C_CMD m k 2 byte.val (by decide) byte.isLt hok hroom
  · refine runs_of_runU _ _ _ _ (fun _ => rfl) fun u hok => ?_
    exact u.busRead_fifo m _ _ _ (findReg_I2C_RXDATA k) rfl rfl rfl (by show 0x14080C + 0x100 * k.val < _; omega) rfl hok
  · exact runs_of_runU _ _ _ _ (fun _ => rfl) fun _ _ => rfl
  · exact runs_of_runU _ _ _ _ (fun _ => rfl) fun u h => if_neg h
  · exact runs_of_runU _ _ _ _ (fun _ => rfl) fun _ _ => rfl
  · refine runs_of_runU _ _ _ _ (fun _ => rfl) fun u ⟨hen, hcap, hmode⟩ => ?_
    exact if_neg (by simp [hen, hcap, hmode])
  · refine runs_of_runU _ _ _ _ (fun _ => rfl) fun u hok => ?_
    rw [u.busRead_fifo m _ _ _ (findReg_TIMER_CAPTURE k) rfl rfl rfl (by show 0x140C10 + 0x40 * k.val < _; omega)
      (u.readWhole_capture _ rfl) hok, State.seen_plain u _ rfl]
    rfl

/-! ### Masked writes (R690) -/

/-- A masked write of a 16-bit field at the foot of its register, in a calm state. -/
theorem calm_masked {c : Instr} {G : State → Prop} {m : Master} {f : Fld} {v : Nat} (hlo : f.lo = 0) (hhi : f.hi = 15)
    (hv : v < 2 ^ 32) (hq : quietAt f.addr)
    (h : Runs c G fun u => (u.put f (masked (u.get f) (v % 2 ^ 32))).answered m 0) (s : State) (hh : s.sys.held = false)
    (hg : G (begin c.time s)) (hc : (begin c.time s).calm = true) :
    ∃ u : State, exec c s = .next u ∧
      (∀ i < 16, (u.get f).testBit i = if v.testBit (16 + i) then v.testBit i else (s.get f).testBit i) ∧
      (∀ g : Fld, g.addr ≠ f.addr → u.get g = s.get g) ∧
      ({ u with regs := s.regs, out := s.out, now := s.now, stores := s.stores, hits := s.hits } : State) = s := by
  obtain ⟨u, hu, hval, hrest, hframe⟩ := calm_write (f := f)
    (V := fun u => setBits (u.regAt f.addr f.rst) f.hi f.lo (masked (u.get f) (v % 2 ^ 32))) h s hh hg hc hq
  have hget : u.get f = masked (s.get f) v := by
    unfold State.get at hval ⊢
    rw [hval, bits_setBits_same _ _ _ _ (by omega) (by omega), hlo, hhi, Nat.mod_eq_of_lt hv]
    exact Nat.mod_eq_of_lt (masked_lt _ _ (Nat.mod_lt _ (by decide)))
  exact ⟨u, hu, fun i hi => by rw [hget]; exact testBit_masked _ v i hi, hrest, hframe⟩

/-- Settles O50: both commands are masked writes of one register. -/
theorem maskedWritesChangeTheMaskedBits : Obligations.MaskedWritesChangeTheMaskedBits := by
  intro m k v t s hv hh hcalm
  have hout : (F.GPIO_OUT_VALUE k.val).addr ≠ 0x100 ∧ (F.GPIO_OUT_VALUE k.val).addr < 0xC0000 := by
    revert k
    decide
  have hoe : (F.GPIO_OE_ENABLE k.val).addr ≠ 0x100 ∧ (F.GPIO_OE_ENABLE k.val).addr < 0xC0000 := by
    revert k
    decide
  exact ⟨fun hok => calm_masked rfl rfl hv (quietAt_low hout.1 hout.2) (runs_gpioMwrWrite m v t k) s hh hok hcalm,
    fun hok => calm_masked rfl rfl hv (quietAt_low hoe.1 hoe.2) (runs_gpioMoeWrite m v t k) s hh hok hcalm⟩

end Sys2Proof.Machine
end

section
/-! PROOFS. The life cycle, debug and the keys (R705 to R720). -/

namespace Sys2Proof.Machine

/-! ### The fuse counter (R706) -/

/-- The number of ones that a thermometer code stands for. -/
theorem thermometer_eq_some {v k : Nat} : thermometer v = some k ↔ k < 65 ∧ v = 2 ^ k - 1 := by
  unfold thermometer
  rw [List.find?_range_eq_some]
  simp only [decide_eq_true_eq, List.mem_range, Bool.not_eq_eq_eq_not, Bool.not_true, decide_eq_false_iff_not]
  refine ⟨fun ⟨hv, hk, _⟩ => ⟨hk, hv⟩, fun ⟨hk, hv⟩ => ⟨hv, hk, fun j hj h => ?_⟩⟩
  have hlt : 2 ^ j < 2 ^ k := Nat.pow_lt_pow_right (by decide) hj
  have hpos : 0 < 2 ^ j := Nat.two_pow_pos j
  omega

/-- A number of more than 64 bits is no thermometer code. -/
theorem thermometer_eq_none {v : Nat} (h : 2 ^ 64 ≤ v) : thermometer v = none := by
  refine Option.eq_none_iff_forall_ne_some.2 fun k hk => ?_
  obtain ⟨hlt, hv⟩ := thermometer_eq_some.1 hk
  have hle : 2 ^ k ≤ 2 ^ 64 := Nat.pow_le_pow_right (by decide) (by omega)
  omega

/-- Settles O48: a counter that is the complement decodes by the number of its ones. -/
theorem lifeCycleCounterDecodes : Obligations.LifeCycleCounterDecodes := by
  intro value compl spent
  have hcode : ∀ k, k < 65 → (value = 2 ^ k - 1 ↔ thermometer value = some k) := fun k hk =>
    ⟨fun h => thermometer_eq_some.2 ⟨hk, h⟩, fun h => (thermometer_eq_some.1 h).2⟩
  have hraw : value = 0 ↔ thermometer value = some 0 := hcode 0 (by decide)
  unfold lcyDecode
  by_cases hsum : compl + value = 2 ^ 64 - 1
  · rw [if_neg (show ¬ compl ≠ 2 ^ 64 - 1 - value by omega), if_neg (show ¬ compl + value ≠ 2 ^ 64 - 1 by omega)]
    simp only [hraw, hcode 8 (by decide), hcode 16 (by decide), hcode 24 (by decide), hcode 40 (by decide),
      hcode 64 (by decide)]
    split <;> simp_all
  · rw [if_pos hsum]
    by_cases hc : compl = 2 ^ 64 - 1 - value
    · rw [if_neg (show ¬ compl ≠ 2 ^ 64 - 1 - value from not_not.2 hc), thermometer_eq_none (by omega)]
    · exact if_pos hc

/-! ### Transitions (R708 to R712) -/

/-- A granted guarded write of a target starts or refuses the transition (R727). -/
theorem State.guardWrite_LCY_TRANSITION (u : State) (m : Master) (k : Nat) (hk : k < 8)
    (hok : u.granted m F.LCY_TRANSITION true = true) :
    u.guardWrite m F.LCY_TRANSITION k = ((u.withReg F.LCY_TRANSITION k).lcyTransition k
      ((u.withReg F.LCY_TRANSITION k).flag F.LCY_STATUS_HOLDUP)).answered m 0 := by
  have hmask : k &&& 0x7 = k := by
    rw [show (0x7 : Nat) = 2 ^ 3 - 1 from rfl, Nat.and_two_pow_sub_one_eq_mod]
    omega
  have htarget : bits k 2 0 = k := by
    unfold bits
    omega
  rw [State.guardWrite_granted u m _ k _ findReg_LCY_TRANSITION rfl rfl rfl rfl rfl hmask
    (show (0x7 : Nat) < 2 ^ 32 by decide) (by omega) (by decide) hok]
  show ((u.withReg F.LCY_TRANSITION k).lcyTransition (bits k 2 0) _).answered m 0 = _
  rw [htarget]

/-- The refusals of R709 in table order, each with whether it holds. -/
def State.lcyRefusals (u : State) (k : Nat) (h : Bool) : List (Nat × Bool) :=
  [(2, u.lcy.op.isSome),
    (3, !((u.lcyState = 0 ∧ k = 1) ∨ (u.lcyState = 1 ∧ k = 2) ∨ (u.lcyState = 2 ∧ k = 3) ∨
      (u.lcyState = 3 ∧ k = 4) ∨ (u.lcyState = 2 ∧ k = 5) ∨ (u.lcyState = 3 ∧ k = 5) ∨
      (u.lcyState = 4 ∧ k = 5) ∨ (u.lcyState ≠ 6 ∧ k = 6))),
    (4, !(u.mode = 0 ∨ u.mode = 1 ∨ u.mode = 2 ∨ u.mode = 7)),
    (5, k = 4 ∧ u.token = none), (6, u.sys.earlyWarning), (7, !h)]

/-- A transition is refused with the first of the refusals that holds. -/
theorem State.lcyFault_eq_find (u : State) (k : Nat) (h : Bool) :
    u.lcyFault k h = ((u.lcyRefusals k h).find? (fun x => x.2)).map Prod.fst := by
  have hpermits : lcyPermits u.lcyState k = decide ((u.lcyState = 0 ∧ k = 1) ∨ (u.lcyState = 1 ∧ k = 2) ∨
      (u.lcyState = 2 ∧ k = 3) ∨ (u.lcyState = 3 ∧ k = 4) ∨ (u.lcyState = 2 ∧ k = 5) ∨ (u.lcyState = 3 ∧ k = 5) ∨
      (u.lcyState = 4 ∧ k = 5) ∨ (u.lcyState ≠ 6 ∧ k = 6)) := by
    unfold lcyPermits
    simp only [or_and_right, or_assoc, or_left_comm]
  have htoken : decide (k = 4 ∧ u.token = none) = decide (k = 4 ∧ u.token.isNone = true) := by
    simp only [Option.isNone_iff_eq_none]
  unfold State.lcyFault State.lcyRefusals
  dsimp only
  rw [hpermits, htoken]
  split_ifs <;> simp_all

/-- A refusal depends on the unit, the supply and the mode alone. -/
theorem State.lcyFault_congr {s t : State} (hl : t.lcy = s.lcy) (hs : t.sys = s.sys) (hm : t.mode = s.mode) (k : Nat)
    (h : Bool) : t.lcyFault k h = s.lcyFault k h := by
  unfold State.lcyFault State.lcyState State.token
  rw [hl, hs, hm]

/-- The level of the hold-up pin that a transition command shows (R710). -/
theorem State.flag_HOLDUP (u : State) (h : Bool) (v : Nat) :
    ((u.put F.LCY_STATUS_HOLDUP (bit h)).withReg F.LCY_TRANSITION v).flag F.LCY_STATUS_HOLDUP = h := by
  unfold State.flag
  rw [State.get_withReg_ne _ _ _ _ (by decide), State.get_put_same _ _ _ (by decide) (by decide)]
  cases h <;> rfl

/-- The state in which a transition is judged: the pin shown and the target stored. -/
def State.lcyJudged (u : State) (h : Bool) (k : Nat) : State :=
  let w := (u.put F.LCY_STATUS_HOLDUP (bit h)).withReg F.LCY_TRANSITION k
  w.put F.LCY_STATUS_HOLDUP (bit (w.flag F.LCY_STATUS_HOLDUP))

theorem State.lcyJudged_lcy (u : State) (h : Bool) (k : Nat) : (u.lcyJudged h k).lcy = u.lcy := by
  unfold State.lcyJudged State.withReg
  dsimp only
  rw [State.put_lcy, State.setRegAt_lcy, State.put_lcy]

theorem State.lcyJudged_sys (u : State) (h : Bool) (k : Nat) : (u.lcyJudged h k).sys = u.sys := by
  unfold State.lcyJudged State.withReg
  dsimp only
  rw [State.put_sys, State.setRegAt_sys, State.put_sys]

/-- Judging a transition writes LCY_STATUS and LCY_TRANSITION alone. -/
theorem State.get_lcyJudged_ne (u : State) (h : Bool) (k : Nat) (g : Fld) (hs : g.addr ≠ F.LCY_STATUS.addr)
    (ht : g.addr ≠ F.LCY_TRANSITION.addr) : (u.lcyJudged h k).get g = u.get g := by
  unfold State.lcyJudged
  dsimp only
  rw [State.get_put_ne _ F.LCY_STATUS_HOLDUP _ _ hs, State.get_withReg_ne _ _ _ _ ht,
    State.get_put_ne _ F.LCY_STATUS_HOLDUP _ _ hs]

/-- Showing the pin and storing the target change no refusal. -/
theorem State.lcyFault_judged (u : State) (h : Bool) (k : Nat) : (u.lcyJudged h k).lcyFault k
    (((u.put F.LCY_STATUS_HOLDUP (bit h)).withReg F.LCY_TRANSITION k).flag F.LCY_STATUS_HOLDUP) = u.lcyFault k h := by
  rw [u.flag_HOLDUP]
  exact State.lcyFault_congr (u.lcyJudged_lcy h k) (u.lcyJudged_sys h k)
    (u.get_lcyJudged_ne h k F.SYS_MODE_MODE (by decide) (by decide)) k h

/-- The operation begins and BUSY shows it. -/
def State.lcyBegins (w : State) (op : LcyOp) : State :=
  ({ w with lcy := { w.lcy with op := some op } } : State).put F.LCY_STATUS_BUSY 1

/-- A granted transition that nothing refuses begins. -/
theorem State.guardWrite_transitionBegins (u : State) (m : Master) (h : Bool) (k : Nat) (hk : k ≠ 0 ∧ k < 7)
    (hok : (u.put F.LCY_STATUS_HOLDUP (bit h)).granted m F.LCY_TRANSITION true = true)
    (hf : (u.lcyJudged h k).lcyFault k
      (((u.put F.LCY_STATUS_HOLDUP (bit h)).withReg F.LCY_TRANSITION k).flag F.LCY_STATUS_HOLDUP) = none) :
    (u.put F.LCY_STATUS_HOLDUP (bit h)).guardWrite m F.LCY_TRANSITION k =
      ((u.lcyJudged h k).lcyBegins (.transition k)).answered m 0 := by
  rw [State.guardWrite_LCY_TRANSITION _ m k (by omega) hok, State.lcyTransition_runs _ k _ hk hf]
  rfl

/-- A transition that is refused leaves the code of the refusal. -/
theorem State.lcyTransition_refused (s : State) (k : Nat) (h : Bool) (code : Nat) (hk : k ≠ 0 ∧ k < 7)
    (hf : (s.put F.LCY_STATUS_HOLDUP (bit h)).lcyFault k h = some code) :
    s.lcyTransition k h = (s.put F.LCY_STATUS_HOLDUP (bit h)).lcyRefuse 1 code := by
  unfold State.lcyTransition
  dsimp only
  rw [if_neg (by omega), hf]

/-- A granted transition that is refused is answered so. -/
theorem State.guardWrite_transitionRefused (u : State) (m : Master) (h : Bool) (k code : Nat) (hk : k ≠ 0 ∧ k < 7)
    (hok : (u.put F.LCY_STATUS_HOLDUP (bit h)).granted m F.LCY_TRANSITION true = true)
    (hf : u.lcyFault k h = some code) :
    (u.put F.LCY_STATUS_HOLDUP (bit h)).guardWrite m F.LCY_TRANSITION k =
      ((u.lcyJudged h k).lcyRefuse 1 code).answered m 0 := by
  rw [State.guardWrite_LCY_TRANSITION _ m k (by omega) hok,
    State.lcyTransition_refused _ k _ code hk ((u.lcyFault_judged h k).trans hf)]
  rfl

/-- Each of the six transition commands is a guarded write of its target, with the level of the hold-up pin. -/
theorem exec_transition {m : Master} {h : Bool} {t : Ps} {p : Instr × Nat}
    (hp : p ∈ ([(.lcyToFactoryTest m h t, 1), (.lcyToProvisioned m h t, 2), (.lcyToField m h t, 3),
      (.lcyToFieldTest m h t, 4), (.lcyToAnalysis m h t, 5), (.lcyToScrap m h t, 6)] : List (Instr × Nat))) :
    (p.2 ≠ 0 ∧ p.2 < 7) ∧ p.1.time = t ∧ ∀ s, exec p.1 s =
      runU p.1.time s (fun s => (s.put F.LCY_STATUS_HOLDUP (bit h)).guardWrite m F.LCY_TRANSITION p.2) := by
  simp only [List.mem_cons, List.not_mem_nil, or_false] at hp
  rcases hp with rfl | rfl | rfl | rfl | rfl | rfl <;> exact ⟨by dsimp only; decide, rfl, fun _ => rfl⟩

/-- Settles O47: the code placed is that of the first refusal that holds. -/
theorem lifeCycleRefusesByTheFirstMatchingCode : Obligations.LifeCycleRefusesByTheFirstMatchingCode := by
  intro m h t code p hp
  obtain ⟨hk, -, hexec⟩ := exec_transition hp
  refine runs_of_runU _ _ _ _ hexec fun u ⟨hok, hfirst⟩ => ?_
  have hfind : (u.lcyRefusals p.2 h).find? (fun x => x.2) = some (code, true) := hfirst
  exact u.guardWrite_transitionRefused m h p.2 code hk hok (by rw [u.lcyFault_eq_find, hfind]; rfl)

/-- `t` differs from `s` in registers alone. -/
def State.onlyRegs (s t : State) : Prop := ∃ r : Tbl (BitVec 64), t = { s with regs := r }

theorem State.onlyRegs.put {s t : State} (h : s.onlyRegs t) (f : Fld) (x : Nat) : s.onlyRegs (t.put f x) := by
  obtain ⟨r, rfl⟩ := h
  exact ⟨_, rfl⟩

theorem State.onlyRegs.withReg {s t : State} (h : s.onlyRegs t) (f : Fld) (v : Nat) : s.onlyRegs (t.withReg f v) := by
  obtain ⟨r, rfl⟩ := h
  exact ⟨_, rfl⟩

/-- A register written beside a new life-cycle unit. -/
theorem State.put_withLcy (s : State) (l : Lcy) (f : Fld) (x : Nat) :
    ({ s with lcy := l } : State).put f x = { s.put f x with lcy := l } := rfl

/-- A transition that begins changes registers and its unit. -/
theorem State.lcyBegins_judged (u : State) (h : Bool) (k : Nat) (op : LcyOp) : (u.lcyJudged h k).lcyBegins op =
    { u with regs := ((u.lcyJudged h k).put F.LCY_STATUS_BUSY 1).regs, lcy := { u.lcy with op := some op } } := by
  obtain ⟨r, hr⟩ : u.onlyRegs ((u.lcyJudged h k).put F.LCY_STATUS_BUSY 1) :=
    State.onlyRegs.put (State.onlyRegs.put (State.onlyRegs.withReg (State.onlyRegs.put ⟨u.regs, rfl⟩ _ _) _ _) _ _) _ _
  unfold State.lcyBegins
  rw [u.lcyJudged_lcy h k, State.put_withLcy, hr]

/-- Whether a state is calm does not depend on the life-cycle unit. -/
theorem State.calm_withLcy (u : State) (l : Lcy) : ({ u with lcy := l } : State).calm = u.calm := rfl

/-- A transition that begins keeps a state calm. -/
theorem State.calm_lcyBegins {u : State} (h : Bool) (k : Nat) (op : LcyOp) (hc : u.calm = true) :
    ((u.lcyJudged h k).lcyBegins op).calm = true := by
  have hq : ∀ f : Fld, f.addr = 0x10000 ∨ f.addr = 0x10018 → quietAt f.addr := fun f hf =>
    quietAt_low (by omega) (by omega)
  have hput : ∀ (w : State) (f : Fld) (x : Nat), f.addr = 0x10000 ∨ f.addr = 0x10018 → w.calm = true →
      (w.put f x).calm = true := fun w f x hf hw => State.calm_withReg f _ hw (hq f hf)
  unfold State.lcyBegins
  refine hput _ _ _ (.inl rfl) ?_
  rw [State.calm_withLcy]
  exact hput _ _ _ (.inl rfl) (State.calm_withReg _ _ (hput _ _ _ (.inl rfl) hc) (hq _ (.inr rfl)))

/-- A transition that begins shows the hold-up pin and its target. -/
theorem State.get_lcyJudged (u : State) (h : Bool) (k : Nat) (hk : k < 7) :
    (u.lcyJudged h k).get F.LCY_STATUS_HOLDUP = bit h ∧ (u.lcyJudged h k).get F.LCY_TRANSITION = k := by
  unfold State.lcyJudged
  dsimp only
  constructor
  · rw [State.get_put_same _ _ _ (by decide) (by decide), u.flag_HOLDUP]
    cases h <;> rfl
  · rw [State.get_put_ne _ _ _ _ (by decide)]
    unfold State.get State.withReg
    rw [State.regAt_setRegAt]
    show k % 2 ^ 64 / 2 ^ 0 % 2 ^ 32 = k
    omega

/-- A command that in a calm state changes registers and the life-cycle unit and is answered leaves everything else. -/
theorem calm_lcy {c : Instr} {G : State → Prop} {m : Master} {R : State → Tbl (BitVec 64)} {L : State → Lcy}
    (h : Runs c G fun u => ({ u with regs := R u, lcy := L u } : State).answered m 0) (s : State) (hh : s.sys.held = false)
    (hg : G (begin c.time s))
    (hc : ({ begin c.time s with regs := R (begin c.time s), lcy := L (begin c.time s) } : State).calm = true) :
    ∃ u : State, exec c s = .next u ∧ u.regs = R (begin c.time s) ∧ u.lcy = L (begin c.time s) ∧
      ({ u with regs := s.regs, lcy := s.lcy, out := s.out, now := s.now, stores := s.stores, hits := s.hits } : State) = s := by
  have hnext := calm_exec h s hh hg hc
  exact ⟨_, hnext, rfl, rfl, rfl⟩

/-- Settles O53: what begins is the operation alone, and the pin, the target and BUSY show it. -/
theorem transitionsBeginWithTheirFusesOnly : Obligations.TransitionsBeginWithTheirFusesOnly := by
  intro m t s hh hcalm p hp hok hf
  obtain ⟨hk, rfl, hexec⟩ := exec_transition hp
  have hbegins : Runs p.1
      (fun u => (u.put F.LCY_STATUS_HOLDUP (bit true)).granted m F.LCY_TRANSITION true = true ∧ u.lcyFault p.2 true = none)
      (fun u => ({ u with regs := ((u.lcyJudged true p.2).put F.LCY_STATUS_BUSY 1).regs,
                          lcy := { u.lcy with op := some (.transition p.2) } } : State).answered m 0) :=
    runs_of_runU _ _ _ _ hexec fun u ⟨hok, hf⟩ => by
      rw [u.guardWrite_transitionBegins m true p.2 hk hok ((u.lcyFault_judged true p.2).trans hf), State.lcyBegins_judged]
  have hkeeps := State.calm_lcyBegins true p.2 (.transition p.2) hcalm
  rw [State.lcyBegins_judged] at hkeeps
  obtain ⟨u, hu, hregs, hlcy, hframe⟩ := calm_lcy hbegins s hh ⟨hok, hf⟩ hkeeps
  obtain ⟨hholdup, htarget⟩ := (begin p.1.time s).get_lcyJudged true p.2 hk.2
  refine ⟨u, hu, hlcy, fun g hs ht => ?_, ?_, ?_, ?_, hframe⟩
  · rw [State.get_of_regs hregs, State.get_put_ne _ F.LCY_STATUS_BUSY _ _ hs, State.get_lcyJudged_ne _ true p.2 g hs ht]
    exact State.get_of_regs rfl g
  · rw [State.get_of_regs hregs, State.get_put_same _ _ _ (by decide) (by decide)]
    rfl
  · rw [State.get_of_regs hregs, State.get_put_beside _ F.LCY_STATUS_BUSY F.LCY_STATUS_HOLDUP _ rfl rfl (by decide)
      (by decide) (by decide), hholdup]
    rfl
  · rw [State.get_of_regs hregs, State.get_put_ne _ _ _ _ (by decide), htarget]

/-! ### Debug (R718 to R720) -/

/-- The state with a new life-cycle unit. -/
def State.withLcy (s : State) (x : Lcy) : State := { s with lcy := x }

/-- A VERIFY ends: nonce and operation are gone (R719). -/
def State.verifySpent (s : State) : State :=
  (s.withLcy { s.lcy with op := none, nonce := none }).nonceShow.put F.LCY_STATUS_BUSY 0

/-- The signature was good: debug opens. -/
def State.verifyGood (s : State) : State :=
  (((s.withLcy { s.lcy with reopened := true }).put F.LCY_STATUS_DEBUG_OPEN
    (bit (s.withLcy { s.lcy with reopened := true }).lcyOpen)).lcyResult 2 1).raise Ev.LCY_DEBUG_OPENED

/-- The signature was bad: the failure is counted. -/
def State.verifyBad (s : State) : State :=
  (((s.withLcy { s.lcy with failedAt := some s.now }).lcyResult 2 8).addSat F.LCY_STATUS_AUTH_FAILS 1).raise Ev.LCY_AUTH_FAIL

/-- A VERIFY that runs ends in one of the two ways. -/
theorem State.verifyDone_ends (s : State) (h : s.lcy.op = some .verify) :
    ∃ ok : Bool, s.verifyDone = if ok then s.verifySpent.verifyGood else s.verifySpent.verifyBad := by
  unfold State.verifyDone
  rw [h]
  exact ⟨_, rfl⟩

/-- A VERIFY that ends in a still state leaves it still. -/
theorem State.collects.verifyDone {s t : State} {l : List Store} (h : s.collects l t) (hop : t.lcy.op = some .verify) :
    s.collects l t.verifyDone := by
  have hlcy : ∀ (w : State) (x : Lcy), s.collects l w → s.collects l (w.withLcy x) := fun _ _ hw => hw
  have hresult : ∀ (w : State) (source code : Nat), s.collects l w → s.collects l (w.lcyResult source code) :=
    fun _ _ _ hw => (hw.put F.LCY_RESULT_CODE _).put F.LCY_RESULT_SOURCE _
  have hshow : ∀ w : State, s.collects l w → s.collects l w.nonceShow := fun _ hw =>
    (((hw.put (F.LCY_NONCE 0) _).put (F.LCY_NONCE 1) _).put (F.LCY_NONCE 2) _).put (F.LCY_NONCE 3) _
  have hspent : s.collects l t.verifySpent := (hshow _ (hlcy _ _ h)).put F.LCY_STATUS_BUSY 0
  obtain ⟨ok, e⟩ := t.verifyDone_ends hop
  rw [e]
  split
  · exact (hresult _ _ _ ((hlcy _ _ hspent).put F.LCY_STATUS_DEBUG_OPEN _)).raise _ _
  · exact ((hresult _ _ _ (hlcy _ _ hspent)).addSat F.LCY_STATUS_AUTH_FAILS 1).raise _ _

/-- The answer to a waiting RESPOND waits for nothing. -/
theorem State.still_respondEnd {s : State} (h : s.still = true) : s.respondEnd.still = true := by
  unfold State.respondEnd
  split
  · exact h
  · exact h

/-- Raising an event leaves the life-cycle unit. -/
theorem State.raise_lcy (s : State) (src inst : Nat) : (s.raise src inst).lcy = s.lcy :=
  State.onlyEvents_lcy (s.raise_only src inst)

theorem State.withLcy_lcy (s : State) (x : Lcy) : (s.withLcy x).lcy = x := rfl

theorem State.lcyResult_lcy (s : State) (source code : Nat) : (s.lcyResult source code).lcy = s.lcy := by
  unfold State.lcyResult
  rw [State.put_lcy, State.put_lcy]

/-- Registers written one after another leave the life-cycle unit. -/
theorem State.foldl_put_lcy {α : Type} (f : α → Fld) (x : State → α → Nat) (l : List α) (s : State) :
    (l.foldl (fun s a => s.put (f a) (x s a)) s).lcy = s.lcy := by
  induction l generalizing s with
  | nil => rfl
  | cons a l ih => rw [List.foldl_cons, ih, State.put_lcy]

theorem State.nonceShow_lcy (s : State) : s.nonceShow.lcy = s.lcy := State.foldl_put_lcy F.LCY_NONCE _ _ s

theorem State.verifySpent_lcy (s : State) : s.verifySpent.lcy = { s.lcy with op := none, nonce := none } := by
  unfold State.verifySpent
  rw [State.put_lcy, State.nonceShow_lcy, State.withLcy_lcy]

theorem State.verifyGood_lcy (s : State) : s.verifyGood.lcy = { s.lcy with reopened := true } := by
  unfold State.verifyGood
  rw [State.raise_lcy, State.lcyResult_lcy, State.put_lcy, State.withLcy_lcy]

theorem State.verifyBad_lcy (s : State) : s.verifyBad.lcy = { s.lcy with failedAt := some s.now } := by
  unfold State.verifyBad
  rw [State.raise_lcy, State.addSat_lcy, State.lcyResult_lcy, State.withLcy_lcy]

/-- A VERIFY that ends has used up its nonce (R719). -/
theorem State.verifyDone_spent (s : State) (h : s.lcy.op = some .verify) :
    s.verifyDone.lcy.nonce = none ∧ s.verifyDone.lcy.op = none := by
  obtain ⟨ok, e⟩ := s.verifyDone_ends h
  rw [e]
  split
  · rw [State.verifyGood_lcy, State.verifySpent_lcy]
    exact ⟨rfl, rfl⟩
  · rw [State.verifyBad_lcy, State.verifySpent_lcy]
    exact ⟨rfl, rfl⟩

/-- The answer to a waiting RESPOND leaves nonce and operation. -/
theorem State.respondEnd_lcy (s : State) : s.respondEnd.lcy.nonce = s.lcy.nonce ∧ s.respondEnd.lcy.op = s.lcy.op := by
  unfold State.respondEnd
  split <;> exact ⟨rfl, rfl⟩

/-- What the blocks do of themselves in a still state leaves the life-cycle unit. -/
theorem settled_lcy {t : Ps} {s b : State} (h : b.still = true) : (settled t s b).lcy = b.lcy := by
  unfold settled finish
  dsimp only
  rw [State.settleAll_still _ h]
  exact State.onlyEvents_lcy (State.eventsSend_only _)

/-- Settles O49: in a still state nothing follows the end of the VERIFY, which leaves no nonce. -/
theorem eachNonceServesOneVerify : Obligations.EachNonceServesOneVerify := by
  intro t s hh hop hstill
  have hruns : Runs (.lcyVerifyDone t) (fun u => u.lcy.op = some .verify) (fun u => u.verifyDone.respondEnd) :=
    runs_of_runU _ _ _ _ (fun _ => rfl) fun _ _ => rfl
  have hend : ((begin t s).verifyDone.respondEnd).still = true :=
    State.still_respondEnd (((begin t s).collects_refl.verifyDone hop).2 hstill)
  obtain ⟨hnonce, hdone⟩ := (begin t s).verifyDone_spent hop
  obtain ⟨hkeepNonce, hkeepOp⟩ := (begin t s).verifyDone.respondEnd_lcy
  have hnext : exec (.lcyVerifyDone t) s = .next (settled t s (begin t s).verifyDone.respondEnd) := hruns s hh hop
  refine ⟨_, hnext, ?_, ?_⟩
  · rw [settled_lcy hend, hkeepNonce, hnonce]
  · rw [settled_lcy hend, hkeepOp, hdone]

/-! ### The commands of the life cycle, debug and the keys -/

/-- A granted guarded write of OP CHALLENGE. -/
theorem State.guardWrite_challenge (u : State) (m : Master) (hok : u.granted m F.LCY_DEBUG_OP true = true) :
    u.guardWrite m F.LCY_DEBUG_OP 1 = (u.withReg F.LCY_DEBUG_OP 1).challenge.answered m 0 :=
  u.guardWrite_granted m _ 1 _ findReg_LCY_DEBUG_OP rfl rfl rfl rfl rfl (by decide)
    (show (0x3 : Nat) < 2 ^ 32 by decide) (by decide) (by decide) hok

/-- A granted guarded write of OP VERIFY. -/
theorem State.guardWrite_verify (u : State) (m : Master) (hok : u.granted m F.LCY_DEBUG_OP true = true) :
    u.guardWrite m F.LCY_DEBUG_OP 2 = (u.withReg F.LCY_DEBUG_OP 2).verifyStart.answered m 0 :=
  u.guardWrite_granted m _ 2 _ findReg_LCY_DEBUG_OP rfl rfl rfl rfl rfl (by decide)
    (show (0x3 : Nat) < 2 ^ 32 by decide) (by decide) (by decide) hok

/-- A granted guarded write of a key operation. -/
theorem State.guardWrite_LCY_KEY_OP (u : State) (m : Master) (kind : Nat) (slot : Fin 256) (hk : kind < 16)
    (hok : u.granted m F.LCY_KEY_OP true = true) :
    u.guardWrite m F.LCY_KEY_OP (256 * slot.val + kind) =
      ((u.withReg F.LCY_KEY_OP (256 * slot.val + kind)).keyOp kind slot.val).answered m 0 := by
  rw [u.guardWrite_granted m _ _ _ findReg_LCY_KEY_OP rfl rfl rfl rfl rfl (keyOp_mask slot kind hk)
    (show (0xFF0F : Nat) < 2 ^ 32 by decide) (by omega) (by decide) hok]
  have hkind : bits (256 * slot.val + kind) 3 0 = kind := by
    unfold bits
    omega
  have hslot : bits (256 * slot.val + kind) 15 8 = slot.val := by
    unfold bits
    omega
  show ((u.withReg F.LCY_KEY_OP _).keyOp (bits (256 * slot.val + kind) 3 0) (bits (256 * slot.val + kind) 15 8)).answered
    m 0 = _
  rw [hkind, hslot]

/-- A nonce whose time has passed is dropped (R719). -/
theorem State.nonceExpire_due (u : State) (b : List Byte) (a : Ps) (h : u.lcy.nonce = some (b, a))
    (ht : a + 600000000000000 ≤ u.now) :
    u.nonceExpire = ({ u with lcy := { u.lcy with nonce := none } } : State).nonceShow := by
  unfold State.nonceExpire
  rw [h]
  exact if_pos ht

/-- A transition command that is granted and not refused begins its operation. -/
theorem runs_transitionBegins {c : Instr} (m : Master) (h : Bool) (k : Nat) (hk : k ≠ 0 ∧ k < 7) (hc : ∀ s, exec c s =
      runU c.time s (fun s => (s.put F.LCY_STATUS_HOLDUP (bit h)).guardWrite m F.LCY_TRANSITION k)) :
    Runs c
      (fun u => (u.put F.LCY_STATUS_HOLDUP (bit h)).granted m F.LCY_TRANSITION true = true ∧ (u.lcyJudged h k).lcyFault k
        (((u.put F.LCY_STATUS_HOLDUP (bit h)).withReg F.LCY_TRANSITION k).flag F.LCY_STATUS_HOLDUP) = none)
      (fun u => ((u.lcyJudged h k).lcyBegins (.transition k)).answered m 0) :=
  runs_of_runU _ _ _ _ hc fun u ⟨hok, hf⟩ => u.guardWrite_transitionBegins m h k hk hok hf

/-- Settles O33: each command is a guarded write that nothing refuses, or an end of what was begun. -/
theorem lifeCycleCommandsComplete : Obligations.LifeCycleCommandsComplete := by
  refine ⟨fun m h t => ?_, fun m h t => ?_, fun m h t => ?_, fun m h t => ?_, fun m h t => ?_, fun m h t => ?_,
    fun t k => ?_, fun m t => ?_, fun m t => ?_, fun t => ?_, fun t b a => ?_, fun m slot t => ?_, fun m slot t => ?_,
    fun m t => ?_, fun m t => ?_, fun m t => ?_, fun m t => ?_, fun t kind slot l => ?_⟩
  · exact runs_transitionBegins m h 1 (by decide) fun _ => rfl
  · exact runs_transitionBegins m h 2 (by decide) fun _ => rfl
  · exact runs_transitionBegins m h 3 (by decide) fun _ => rfl
  · exact runs_transitionBegins m h 4 (by decide) fun _ => rfl
  · exact runs_transitionBegins m h 5 (by decide) fun _ => rfl
  · exact runs_transitionBegins m h 6 (by decide) fun _ => rfl
  · exact runs_of_runU _ _ _ _ (fun _ => rfl) fun _ _ => rfl
  · refine runs_of_runU _ _ _ _ (fun _ => rfl) fun u ⟨hok, hf, hl⟩ => ?_
    rw [u.guardWrite_challenge m hok, State.challenge_runs _ hf hl]
  · refine runs_of_runU _ _ _ _ (fun _ => rfl) fun u ⟨hok, hf, hn⟩ => ?_
    rw [u.guardWrite_verify m hok, State.verifyStart_runs _ hf hn]
  · exact runs_of_runU _ _ _ _ (fun _ => rfl) fun _ _ => rfl
  · exact runs_of_runU _ _ _ _ (fun _ => rfl) fun u ⟨hn, ht⟩ => u.nonceExpire_due b a hn ht
  · refine runs_of_runU _ _ _ _ (fun _ => rfl) fun u ⟨hok, hop, hst, hs, hfree, hcrc⟩ => ?_
    rw [u.guardWrite_LCY_KEY_OP m 1 slot (by decide) hok,
      State.keyOp_aes _ 1 slot.val (by decide) (by decide) hop hst hs hfree hcrc]
  · refine runs_of_runU _ _ _ _ (fun _ => rfl) fun u ⟨hok, hop, hst, hs, hfree, hcrc⟩ => ?_
    rw [u.guardWrite_LCY_KEY_OP m 2 slot (by decide) hok,
      State.keyOp_aes _ 2 slot.val (by decide) (by decide) hop hst hs hfree hcrc]
  · refine runs_of_runU _ _ _ _ (fun _ => rfl) fun u ⟨hok, hop, hst, hfree, hcrc⟩ => ?_
    exact (u.guardWrite_LCY_KEY_OP m 3 0 (by decide) hok).trans
      (congrArg (·.answered m 0) (State.keyOp_pub _ 3 0 (by decide) (by decide) hop hst hfree hcrc))
  · refine runs_of_runU _ _ _ _ (fun _ => rfl) fun u ⟨hok, hop, hst, hfree, hcrc⟩ => ?_
    exact (u.guardWrite_LCY_KEY_OP m 4 0 (by decide) hok).trans
      (congrArg (·.answered m 0) (State.keyOp_pub _ 4 0 (by decide) (by decide) hop hst hfree hcrc))
  · refine runs_of_runU _ _ _ _ (fun _ => rfl) fun u ⟨hok, hop, hst, hfree, hcrc⟩ => ?_
    exact (u.guardWrite_LCY_KEY_OP m 5 0 (by decide) hok).trans
      (congrArg (·.answered m 0) (State.keyOp_pub _ 5 0 (by decide) (by decide) hop hst hfree hcrc))
  · refine runs_of_runU _ _ _ _ (fun _ => rfl) fun u ⟨hok, hop, hst, hfree, hcrc⟩ => ?_
    exact (u.guardWrite_LCY_KEY_OP m 6 0 (by decide) hok).trans
      (congrArg (·.answered m 0) (State.keyOp_pub _ 6 0 (by decide) (by decide) hop hst hfree hcrc))
  · exact runs_of_runU _ _ _ _ (fun _ => rfl) fun _ _ => rfl

end Sys2Proof.Machine
end

section
/-! PROOFS. The Prompter's commands (R721 to R724). -/

namespace Sys2Proof.Machine

/-- A command that the Prompter takes now and that its class allows is run. -/
theorem runs_prompt {i : Instr} {c : PCmd} {G : State → Prop} {E : State → State}
    (hc : ∀ s, exec i s = runU i.time s (fun s => s.promptCmd c))
    (hG : ∀ u, G u → u.promptMay = true ∧ u.promptClass c = none) (hE : ∀ u, G u → u.promptRun c = E u) : Runs i G E :=
  runs_of_runU _ _ _ _ hc fun u h => (u.promptCmd_runs c (hG u h).1 (hG u h).2).trans (hE u h)

/-- A granted READ of one register answers its value (R723). -/
theorem State.promptRun_read_one (u : State) (addr : Nat) (hin : inWindow addr = false)
    (hok : u.granted .prompter ⟨addr, 0, 0, 0⟩ false = true) :
    u.promptRun (.read addr 1) =
      let q := u.access32 .prompter addr none
      if q.2.2 = 0 then q.1.emit (.monitor 0 [q.2.1]) else q.1.emit (.monitor (errOf q.2.2) []) := by
  unfold State.promptRun
  dsimp only
  rw [if_neg (by decide)]
  exact u.prompterRegs_one { master := .prompter, addr, wide := false, data := none } ⟨addr, 0, 0, 0⟩ rfl rfl hin hok

/-- MODE of a mode that the register takes is answered with the result of R60 (R723). -/
theorem State.promptRun_mode (u : State) (m : Nat) (hm : [2, 3, 4, 5, 7].contains m = true)
    (hr : [3, 4, 5].contains ((u.modeReq m).get F.SYS_MODE_REQ_RESULT) = false) :
    u.promptRun (.mode m) = (u.modeReq m).emit (.monitor 0 [(u.modeReq m).get F.SYS_MODE_REQ_RESULT]) := by
  unfold State.promptRun State.judged
  dsimp only
  rw [hm, hr]
  rfl

/-- LOG of a count that the command takes answers the youngest records (R723). -/
theorem State.promptRun_log (u : State) (n : Nat) (h0 : 1 ≤ n) (h1 : n ≤ 64) :
    u.promptRun (.log n) = u.emit (.monitor 0 ((u.cue.log.take n).map (fun r => leNat r.bytes))) := by
  unfold State.promptRun
  dsimp only
  rw [if_neg (by omega)]

/-- SELECT of a plane with a sound record writes the select record (R725). -/
theorem State.promptRun_select (u : State) (p : Nat) (hw : u.sys.earlyWarning = false) (hs : u.recordSound p = true) :
    u.promptRun (.select p) = (u.selectPut p).emit (.monitor 0 []) := by
  unfold State.promptRun
  dsimp only
  rw [if_neg (by simp [hw, hs])]

/-- LCY of a target that nothing refuses begins the transition (R723). -/
theorem State.promptRun_lcy (u : State) (k : Nat) (hf : u.lcyFault k (u.flag F.LCY_STATUS_HOLDUP) = none) :
    u.promptRun (.lcy k) = (u.lcyTransition k (u.flag F.LCY_STATUS_HOLDUP)).emit (.monitor 0 []) := by
  unfold State.promptRun
  dsimp only
  rw [hf]

/-- RESPOND whose VERIFY begins waits for its end (R723). -/
theorem State.promptRun_respond (u : State) (l : List Byte)
    (h : ((List.range 16).foldl (fun s k => s.put (F.LCY_RESP k) (leAt l (4 * k) 4)) u).verifyStart.lcy.op = some .verify) :
    u.promptRun (.respond l) =
      let v := ((List.range 16).foldl (fun s k => s.put (F.LCY_RESP k) (leAt l (4 * k) 4)) u).verifyStart
      { v with lcy := { v.lcy with respond := true } } := by
  unfold State.promptRun
  dsimp only
  rw [if_pos h]

/-- Settles O34: a command that is taken and allowed is run, and each is answered as its own lemma says. -/
theorem prompterCommandsComplete : Obligations.PrompterCommandsComplete := by
  refine ⟨fun chars t => ?_, fun t => ?_, fun t => ?_, fun addr t => ?_, fun addr t => ?_, fun addr value t => ?_,
    fun addr value t => ?_, fun mode t => ?_, fun kind t => ?_, fun count t => ?_, fun plane t => ?_, fun target t => ?_,
    fun t => ?_, fun sig t => ?_⟩
  · exact runs_prompt (fun _ => rfl) (fun u ⟨hm, hc, _⟩ => ⟨hm, hc⟩) fun _ _ => rfl
  · exact runs_prompt (fun _ => rfl) (fun u h => h) fun _ _ => rfl
  · exact runs_prompt (fun _ => rfl) (fun u h => h) fun _ _ => rfl
  · exact runs_prompt (fun _ => rfl) (fun u ⟨hm, hc, _⟩ => ⟨hm, hc⟩) fun u ⟨_, _, hin, hok⟩ =>
      u.promptRun_read_one addr (by simpa using hin) hok
  · exact runs_prompt (fun _ => rfl) (fun u ⟨hm, hc, _⟩ => ⟨hm, hc⟩) fun u ⟨_, _, hin, hok⟩ =>
      u.prompterRegs_one { master := .prompter, addr, wide := true, data := none } ⟨addr, 0, 0, 0⟩ rfl rfl
        (by simpa using hin) hok
  · exact runs_prompt (fun _ => rfl) (fun u ⟨hm, hc, _⟩ => ⟨hm, hc⟩) fun u ⟨_, _, hin, hok⟩ =>
      u.prompterRegs_one { master := .prompter, addr, wide := false, data := some value } ⟨addr, 0, 0, 0⟩ rfl rfl
        (by simpa using hin) hok
  · exact runs_prompt (fun _ => rfl) (fun u ⟨hm, hc, _⟩ => ⟨hm, hc⟩) fun u ⟨_, _, hin, hok⟩ =>
      u.prompterRegs_one { master := .prompter, addr, wide := true, data := some value } ⟨addr, 0, 0, 0⟩ rfl rfl
        (by simpa using hin) hok
  · exact runs_prompt (fun _ => rfl) (fun u ⟨hm, hc, _⟩ => ⟨hm, hc⟩) fun u ⟨_, _, hmode, hr⟩ =>
      u.promptRun_mode mode.val hmode (by simpa using hr)
  · exact runs_prompt (fun _ => rfl) (fun u ⟨hm, hc, _⟩ => ⟨hm, hc⟩) fun u ⟨_, _, hk⟩ => if_neg hk
  · exact runs_prompt (fun _ => rfl) (fun u ⟨hm, hc, _⟩ => ⟨hm, hc⟩) fun u ⟨_, _, h0, h1⟩ => u.promptRun_log count h0 h1
  · exact runs_prompt (fun _ => rfl) (fun u ⟨hm, hc, _⟩ => ⟨hm, hc⟩) fun u ⟨_, _, hw, hs⟩ =>
      u.promptRun_select plane.val (by simpa using hw) hs
  · exact runs_prompt (fun _ => rfl) (fun u ⟨hm, hc, _⟩ => ⟨hm, hc⟩) fun u ⟨_, _, hf⟩ => u.promptRun_lcy target.val hf
  · exact runs_prompt (fun _ => rfl) (fun u ⟨hm, hc, _⟩ => ⟨hm, hc⟩) fun u ⟨_, _, hf, hl⟩ => u.challenge_answer hf hl
  · exact runs_prompt (fun _ => rfl) (fun u ⟨hm, hc, _⟩ => ⟨hm, hc⟩) fun u ⟨_, _, hv⟩ => u.promptRun_respond _ hv

end Sys2Proof.Machine
end

section
/-! PROOFS. The scene planes, the select record and the user flash (R570 to R597). -/

namespace Sys2Proof.Machine

/-! ### Guarded writes of their registers -/

/-- A granted guarded write of CFG_PLANE_SEL selects its plane (R572). -/
theorem State.guardWrite_CFG_PLANE_SEL (u : State) (m : Master) (plane : Fin 4)
    (hok : u.granted m F.CFG_PLANE_SEL true = true) :
    u.guardWrite m F.CFG_PLANE_SEL plane.val = ((u.withReg F.CFG_PLANE_SEL plane.val).planeSel plane.val).answered m 0 := by
  rw [u.guardWrite_granted m _ _ _ findReg_CFG_PLANE_SEL rfl rfl rfl rfl rfl (planeSel_mask plane)
    (show (0x3 : Nat) < 2 ^ 32 by decide) (by omega) (by decide) hok]
  have hplane : bits plane.val 1 0 = plane.val := by
    unfold bits
    omega
  show ((u.withReg F.CFG_PLANE_SEL plane.val).planeSel (bits plane.val 1 0)).answered m 0 = _
  rw [hplane]

/-- OP 1 of CFG_STAGE_OP is LOAD (R574). -/
theorem State.guardAct_stageLoad (s : State) : s.guardAct .CFG_STAGE_OP 0 1 = s.stageLoad := by
  unfold State.guardAct
  exact if_pos (by decide)

/-- OP 2 is ERASE. -/
theorem State.guardAct_stageErase (s : State) : s.guardAct .CFG_STAGE_OP 0 2 = s.stageErase := by
  unfold State.guardAct
  dsimp only
  rw [if_neg (by decide), if_pos (by decide)]

/-- OP 3 is ABORT (R577). -/
theorem State.guardAct_stageAbort (s : State) : s.guardAct .CFG_STAGE_OP 0 3 = s.stageAbort := by
  unfold State.guardAct
  dsimp only
  rw [if_neg (by decide), if_neg (by decide), if_pos (by decide)]

/-- A granted guarded write of CFG_STAGE_OP does its operation. -/
theorem State.guardWrite_CFG_STAGE_OP (u : State) (m : Master) (op : Nat) (ho : op < 4)
    (hok : u.granted m F.CFG_STAGE_OP true = true) :
    u.guardWrite m F.CFG_STAGE_OP op = ((u.withReg F.CFG_STAGE_OP op).guardAct .CFG_STAGE_OP 0 op).answered m 0 :=
  u.guardWrite_granted m _ _ _ findReg_CFG_STAGE_OP rfl rfl rfl rfl rfl (planeSel_mask ⟨op, ho⟩)
    (show (0x3 : Nat) < 2 ^ 32 by decide) (by omega) (by decide) hok

/-- A granted guarded write of CFG_SCENE_OP does its operation (R582, R583). -/
theorem State.guardWrite_CFG_SCENE_OP (u : State) (m : Master) (v : Nat) (hmask : v &&& 0xFFFF001B = v) (hv : v < 2 ^ 32)
    (hok : u.granted m F.CFG_SCENE_OP true = true) :
    u.guardWrite m F.CFG_SCENE_OP v = ((u.withReg F.CFG_SCENE_OP v).guardAct .CFG_SCENE_OP 0 v).answered m 0 :=
  u.guardWrite_granted m _ _ _ findReg_CFG_SCENE_OP rfl rfl rfl rfl rfl hmask (show (0xFFFF001B : Nat) < 2 ^ 32 by decide)
    hv (by decide) hok

/-- A granted guarded write of OP DISARM (R583). -/
theorem State.guardWrite_disarm (u : State) (m : Master) (hok : u.granted m F.CFG_SCENE_OP true = true) :
    u.guardWrite m F.CFG_SCENE_OP 2 = (u.withReg F.CFG_SCENE_OP 2).disarm.answered m 0 := by
  rw [u.guardWrite_CFG_SCENE_OP m 2 (by decide) (by decide) hok]
  unfold State.guardAct
  dsimp only
  rw [if_neg (by decide), if_pos (by decide)]

/-- A granted guarded write of OP ARM arms the tracks that it names (R582). -/
theorem State.guardWrite_arm (u : State) (m : Master) (tracks : Nat) (force trial : Bool)
    (hok : u.granted m F.CFG_SCENE_OP true = true) :
    u.guardWrite m F.CFG_SCENE_OP (armValue tracks force trial) =
      ((u.withReg F.CFG_SCENE_OP (armValue tracks force trial)).arm (tracks % 65536) trial force).answered m 0 := by
  rw [u.guardWrite_CFG_SCENE_OP m _ (armValue_mask tracks force trial) (armValue_lt tracks force trial) hok]
  unfold State.guardAct
  dsimp only
  rw [armValue_op, armValue_tracks, armValue_trial, armValue_force, if_pos rfl]

/-- FIRE_NOW, with and without TRIAL. -/
theorem fireNow_bits : ∀ trial : Bool, (8 * bit trial + 3) &&& 0xFFFF001B = 8 * bit trial + 3 ∧ 8 * bit trial + 3 < 2 ^ 32 ∧
    bits (8 * bit trial + 3) 1 0 = 3 := by decide

/-- A granted guarded write of OP FIRE_NOW (R583). -/
theorem State.guardWrite_fireNow (u : State) (m : Master) (trial : Bool) (hok : u.granted m F.CFG_SCENE_OP true = true) :
    u.guardWrite m F.CFG_SCENE_OP (8 * bit trial + 3) = (u.withReg F.CFG_SCENE_OP (8 * bit trial + 3)).fireNow.answered m 0 := by
  obtain ⟨hmask, hlt, hop⟩ := fireNow_bits trial
  rw [u.guardWrite_CFG_SCENE_OP m _ hmask hlt hok]
  unfold State.guardAct
  dsimp only
  rw [hop, if_neg (by decide), if_neg (by decide), if_pos rfl]

/-- A granted guarded write of FLC_CMD starts its operation (R597). -/
theorem State.guardWrite_FLC_CMD (u : State) (m : Master) (op : Nat) (ho : op < 8) (hok : u.granted m F.FLC_CMD true = true) :
    u.guardWrite m F.FLC_CMD op = ((u.withReg F.FLC_CMD op).flcStart op).answered m 0 := by
  have hmask : op &&& 0x7 = op := by
    rw [show (0x7 : Nat) = 2 ^ 3 - 1 from rfl, Nat.and_two_pow_sub_one_eq_mod]
    omega
  have hop : bits op 2 0 = op := by
    unfold bits
    omega
  rw [u.guardWrite_granted m _ _ _ findReg_FLC_CMD rfl rfl rfl rfl rfl hmask (show (0x7 : Nat) < 2 ^ 32 by decide)
    (by omega) (by decide) hok]
  show ((u.withReg F.FLC_CMD op).flcStart (bits op 2 0)).answered m 0 = _
  rw [hop]

/-! ### Operations that nothing refuses -/

/-- LOAD whose conditions hold begins (R574). -/
theorem State.stageLoad_begins (s : State) (hfree : s.stageFree = true) (hst : (s.plane s.stageTarget).state ≠ 7)
    (ha : s.get F.CFG_STAGE_ADDR % 64 = 0) (hin : s.imageRange (s.get F.CFG_STAGE_ADDR) (s.get F.CFG_STAGE_LEN) = true) :
    s.stageLoad =
      s.stageBegin { plane := s.stageTarget, src := s.get F.CFG_STAGE_ADDR, len := s.get F.CFG_STAGE_LEN } :=
  if_pos ⟨hfree, hst, ha, hin⟩

/-- ERASE of a plane that is free begins (R574). -/
theorem State.stageErase_begins (s : State) (hfree : s.disarm.stageFree = true) :
    s.stageErase = s.disarm.stageBegin { plane := s.disarm.stageTarget, eraseOnly := true } := if_pos hfree

/-- ABORT of a running stage leaves its plane EMPTY (R577). -/
theorem State.stageAbort_ends (s : State) (g : Stage) (hg : s.disarm.cfg.stage = some g) :
    s.stageAbort =
      let x := s.disarm.store (.flashErase (planeBase g.plane) (planeBase g.plane + planeBytes))
      let y := (x.setPlane g.plane { x.plane g.plane with record := {} }).stageEnd 0
      ({ y with scene := none } : State).stageAnswer g (detailResp 6 0) := by
  unfold State.stageAbort
  dsimp only
  rw [hg]

/-- The write of the select record ends (R572). -/
theorem State.selectWritten_ends (s : State) (p : Nat) (h : s.cfg.selecting = some p) :
    s.selectWritten = let w := s.selectPut p
      if w.activePlane? = some p then w.put F.CFG_STATUS_TRIAL 0 else w := by
  unfold State.selectWritten
  rw [h]

/-- A plane selection begins, or is refused (R572). -/
theorem State.planeSel_begins (s : State) (v : Nat) (hv : v = 1 ∨ v = 2) :
    s.planeSel v =
      let p := v - 1
      if !(s.activePlane? = some p || (s.plane p).state = 4) ∨ s.sys.earlyWarning ∨ s.cfg.selecting.isSome ∨ s.cfg.selDefer
      then s.put F.CFG_STATUS_SEL_RESULT 2
      else ({ s with cfg := { s.cfg with selecting := some p } } : State).put F.CFG_STATUS_SEL_RESULT 3 := by
  unfold State.planeSel
  rw [if_neg (by omega)]

/-- An arm that nothing refuses is accepted at once by a device that mirrors nothing (R582). -/
theorem State.arm_accepted (s : State) (tracks : Nat) (trial force : Bool) (hf : s.armFault tracks force false = none)
    (hm : s.mirrors = false) : s.arm tracks trial force = s.armAccept tracks trial s.now := by
  unfold State.arm
  rw [hf]
  dsimp only
  rw [hm, if_neg Bool.false_ne_true]

/-- An arm that nothing refuses waits for the understudy of a lead (R589). -/
theorem State.arm_mirrored (s : State) (tracks : Nat) (trial force : Bool) (hf : s.armFault tracks force false = none)
    (hm : s.mirrors = true) :
    s.arm tracks trial force =
      let x : State := { s with cfg := { s.cfg with
        arm := some { tracks := tracks, trial := trial, at_ := s.now, waiting := some s.dpx.commitSeq } } }
      x.dpxCommit 0x07 0 .scene
        (leBytes 1 4 ++ leBytes 7 0 ++ leBytes 8 (tracks * 65536 + 16 * bit force + 8 * bit trial + 1)) := by
  unfold State.arm
  rw [hf]
  dsimp only
  rw [hm, if_pos rfl]

/-- A pending arm is disarmed (R583). -/
theorem State.disarm_ends (s : State) (h : s.cfg.arm.isSome = true) : s.disarm = s.armEnd 6 := if_pos h

/-- An arm that waits for nothing fires (R583). -/
theorem State.fireNow_fires (s : State) (a : Arm) (ha : s.cfg.arm = some a) (hw : a.waiting = none) :
    s.fireNow = s.sceneFire a.trial := by
  unfold State.fireNow
  rw [ha]
  dsimp only
  rw [hw, if_neg (by decide)]

/-- An arm fires where every armed track that it names is in a curtain window (R583). -/
theorem State.armCurtain_fires (s : State) (a : Arm) (ha : s.cfg.arm = some a) (hw : a.waiting = none) (hm : s.mode ≠ 6)
    (hc : (List.range 16).all (fun n => !(a.tracks.testBit n) || !(s.track n).armed || s.inCurtain n) = true) :
    s.armCurtain = s.sceneFire a.trial := by
  unfold State.armCurtain
  rw [ha]
  dsimp only
  rw [hw, if_neg (by decide), if_neg hm, if_pos hc]

/-- An arm ends whose time has passed (R583). -/
theorem State.armTimeout_ends (s : State) (a : Arm) (ha : s.cfg.arm = some a) (hw : a.waiting.isNone = true)
    (ht : a.at_ + max 1 (s.get F.CFG_ARM_TIMEOUT) * 1000000000 ≤ s.now) : s.armTimeout = s.armEnd 5 := by
  unfold State.armTimeout
  rw [ha]
  exact if_pos ⟨hw, ht⟩

/-- The select record of a scene change is written, or put off (R584, R588). -/
theorem State.sceneRecord_due (s : State) (h : s.cfg.recordDue = true) :
    s.sceneRecord = let w : State := { s with cfg := { s.cfg with recordDue := false } }
      if w.sys.earlyWarning then ({ w with cfg := { w.cfg with selDefer := true } } : State).put F.CFG_STATUS_SEL_RESULT 3
      else w.selectPut (w.get F.CFG_STATUS_ACTIVE) := by
  unfold State.sceneRecord
  rw [h, if_neg (by decide)]

/-- An operation of the user flash starts where none runs in an awake device (R597). -/
theorem State.flcStart_begins (s : State) (op : Nat) (ho : 1 ≤ op ∧ op ≤ 4) (hfree : s.cfg.flc = none) (hm : s.mode ≠ 5) :
    s.flcStart op =
      let data := (List.range 4).flatMap (fun w => leBytes 4 (s.get (F.FLC_DATA w)))
      ({ s with cfg := { s.cfg with flc := some { op := op, addr := s.get F.FLC_ADDR, data := data } } } : State).put
        F.FLC_RESULT_BUSY 1 := by
  unfold State.flcStart
  rw [if_neg (by omega), hfree, if_neg (by decide), if_neg hm]

/-- Settles O28: each command is a guarded write that nothing refuses, or an occurrence whose time has come. -/
theorem planeAndFlashCommandsComplete : Obligations.PlaneAndFlashCommandsComplete := by
  refine ⟨fun m plane t => ?_, fun t p => ?_, fun m t => ?_, fun m t => ?_, fun m t g => ?_, fun pulses t g => ?_,
    fun repaired bad drivers carryOk t g => ?_, fun m tracks force trial t => ?_, fun m tracks force trial t => ?_,
    fun m t => ?_, fun m trial t a => ?_, fun t a => ?_, fun t a => ?_, fun trees t => ?_, fun t => ?_, fun m t => ?_,
    fun m t => ?_, fun m t => ?_, fun m t => ?_, fun ecc pulses fail t => ?_⟩
  · refine runs_of_runU _ _ _ _ (fun _ => rfl) fun u ⟨hok, hp⟩ => ?_
    rw [u.guardWrite_CFG_PLANE_SEL m plane hok, State.planeSel_begins _ _ (by omega)]
  · exact runs_of_runU _ _ _ _ (fun _ => rfl) fun u h => u.selectWritten_ends p h
  · refine runs_of_runU _ _ _ _ (fun _ => rfl) fun u ⟨hok, hfree, hst, ha, hin⟩ => ?_
    rw [u.guardWrite_CFG_STAGE_OP m 1 (by decide) hok, State.guardAct_stageLoad, State.stageLoad_begins _ hfree hst ha hin]
  · refine runs_of_runU _ _ _ _ (fun _ => rfl) fun u ⟨hok, hfree⟩ => ?_
    rw [u.guardWrite_CFG_STAGE_OP m 2 (by decide) hok, State.guardAct_stageErase, State.stageErase_begins _ hfree]
  · refine runs_of_runU _ _ _ _ (fun _ => rfl) fun u ⟨hok, hg⟩ => ?_
    rw [u.guardWrite_CFG_STAGE_OP m 3 (by decide) hok, State.guardAct_stageAbort, State.stageAbort_ends _ g hg]
  · exact runs_of_runU _ _ _ _ (fun _ => rfl) fun _ _ => rfl
  · exact runs_of_runU _ _ _ _ (fun _ => rfl) fun _ _ => rfl
  · refine runs_of_runU _ _ _ _ (fun _ => rfl) fun u ⟨hok, hf, hm⟩ => ?_
    exact (u.guardWrite_arm m tracks force trial hok).trans
      (congrArg (·.answered m 0) (State.arm_accepted _ _ trial force hf (by simpa using hm)))
  · refine runs_of_runU _ _ _ _ (fun _ => rfl) fun u ⟨hok, hf, hm⟩ => ?_
    exact (u.guardWrite_arm m tracks force trial hok).trans
      (congrArg (·.answered m 0) (State.arm_mirrored _ _ trial force hf hm))
  · refine runs_of_runU _ _ _ _ (fun _ => rfl) fun u ⟨hok, ha⟩ => ?_
    rw [u.guardWrite_disarm m hok, State.disarm_ends _ ha]
  · refine runs_of_runU _ _ _ _ (fun _ => rfl) fun u ⟨hok, ha, hw⟩ => ?_
    rw [u.guardWrite_fireNow m trial hok, State.fireNow_fires _ a ha hw]
  · exact runs_of_runU _ _ _ _ (fun _ => rfl) fun u ⟨ha, hw, hm, hc⟩ => u.armCurtain_fires a ha hw hm hc
  · exact runs_of_runU _ _ _ _ (fun _ => rfl) fun u ⟨ha, hw, ht⟩ => u.armTimeout_ends a ha hw ht
  · exact runs_of_runU _ _ _ _ (fun _ => rfl) fun u h => if_pos h
  · exact runs_of_runU _ _ _ _ (fun _ => rfl) fun u h => u.sceneRecord_due h
  · refine runs_of_runU _ _ _ _ (fun _ => rfl) fun u ⟨hok, hfree, hm⟩ => ?_
    rw [u.guardWrite_FLC_CMD m 1 (by decide) hok, State.flcStart_begins _ 1 (by decide) hfree hm]
  · refine runs_of_runU _ _ _ _ (fun _ => rfl) fun u ⟨hok, hfree, hm⟩ => ?_
    rw [u.guardWrite_FLC_CMD m 2 (by decide) hok, State.flcStart_begins _ 2 (by decide) hfree hm]
  · refine runs_of_runU _ _ _ _ (fun _ => rfl) fun u ⟨hok, hfree, hm⟩ => ?_
    rw [u.guardWrite_FLC_CMD m 3 (by decide) hok, State.flcStart_begins _ 3 (by decide) hfree hm]
  · refine runs_of_runU _ _ _ _ (fun _ => rfl) fun u ⟨hok, hfree, hm⟩ => ?_
    rw [u.guardWrite_FLC_CMD m 4 (by decide) hok, State.flcStart_begins _ 4 (by decide) hfree hm]
  · exact runs_of_runU _ _ _ _ (fun _ => rfl) fun _ _ => rfl

end Sys2Proof.Machine
end

section
/-! PROOFS. The DDR5 controllers and the clocks (R614 to R659). -/

namespace Sys2Proof.Machine

/-! ### The controllers -/

/-- A granted guarded write of OP CHANGE asks for its rate (R620). -/
theorem State.guardWrite_DMC_FREQ_OP (u : State) (m : Master) (fgr : Bool) (target : Fin 16)
    (hok : u.granted m F.DMC_FREQ_OP true = true) :
    u.guardWrite m F.DMC_FREQ_OP (256 * bit fgr + 16 * target.val + 1) =
      ((u.withReg F.DMC_FREQ_OP (256 * bit fgr + 16 * target.val + 1)).freqReq fgr target.val).answered m 0 := by
  have hb : bit fgr ≤ 1 := by cases fgr <;> decide
  rw [u.guardWrite_granted m _ _ _ findReg_DMC_FREQ_OP rfl rfl rfl rfl rfl (freqValue_mask fgr target)
    (show (0x1F3 : Nat) < 2 ^ 32 by decide) (by omega) (by decide) hok]
  unfold State.guardAct
  dsimp only
  rw [freqValue_op, freqValue_target, freqValue_fgr, if_pos rfl]

/-- A refresh interval elapses outside a stall (R615). -/
theorem State.refreshInterval_elapses (s : State) (c : Nat) (hr : s.refreshes c = true)
    (ht : (s.ctl c).since + s.interval c ≤ (s.now : Int)) (hs : (s.ctl c).stall = none) :
    s.refreshInterval c = s.setCtl c
      { s.ctl c with since := (s.ctl c).since + s.interval c, debt := min ((s.ctl c).debt + 1) (s.ceiling c)
                     pages := if s.ceiling c < (s.ctl c).debt + 1 then [] else (s.ctl c).pages } := by
  unfold State.refreshInterval
  dsimp only
  rw [if_neg (by simp only [hr, Bool.not_true, Bool.false_eq_true, false_or]; exact Int.not_lt.2 ht), hs]
  simp only [decide_eq_true_eq]

/-- A rate change starts that may (R619, R620). -/
theorem State.freqStart_starts (s : State) (o : FreqOp) (ho : s.freq = some o) (hn : o.started = none)
    (hmay : o.again = true ∨ (s.mode ≠ 3 ∧ s.mode ≠ 4)) (hr : s.dramReady = true)
    (hd : s.dreq.any (fun r => r.cls ≤ 3) = false) :
    s.freqStart =
      let w : State := { s with freq := some { o with started := some s.now } }
      (((w.put (F.DMC_STATUS_STATE 0) 4).put (F.DMC_STATUS_STATE 1) 4).srEnter 0).srEnter 1 := by
  unfold State.freqStart
  rw [ho]
  dsimp only
  rw [if_neg]
  rw [hn, hr, hd]
  rcases hmay with ha | ⟨h3, h4⟩
  · simp [ha]
  · simp [h3, h4]

/-- A rate change that found no curtain instant is given up (R620). -/
theorem State.freqTimeout_due (s : State) (o : FreqOp) (ho : s.freq = some o) (hn : o.started.isNone = true)
    (ha : (!o.again) = true) (ht : o.at_ + 10 ^ 12 ≤ s.now) : s.freqTimeout = s.freqEnd 6 := by
  unfold State.freqTimeout
  rw [ho]
  exact if_pos ⟨hn, ha, ht⟩

/-- A self-refresh entry of a rate change is abandoned before its abort point (R619). -/
theorem State.srAbandon_change (s : State) (c : Nat) (o : FreqOp) (a : Ps) (hstep : s.pwr.step ≠ 4) (ho : s.freq = some o)
    (hs : o.started = some a) (ht : s.now ≤ a + 3000000) (h0 : s.ctlState 0 = 4) (h1 : s.ctlState 1 = 4) :
    s.srAbandon c =
      let w : State := { s with freq := some { o with started := none, again := true } }
      ([0, 1].foldl (fun s c => (s.srExit c).put (F.DMC_STATUS_STATE c) 2) w).raise Ev.DMC_SR_ABANDONED c := by
  unfold State.srAbandon
  rw [if_neg hstep, ho]
  dsimp only
  rw [hs]
  dsimp only
  rw [if_neg (by rw [h0, h1]; simpa using ht)]

/-- A controller whose PLL has not relocked in time has FAILED (R653). -/
theorem State.dmcPllTimeout_due (s : State) (c : Nat) (a : Ps) (hl : (s.ctl c).pllLost = some a)
    (ht : a + 1000000000 ≤ s.now) :
    s.dmcPllTimeout c =
      (((s.setCtl c { s.ctl c with pllLost := none }).put (F.DMC_STATUS_STATE c) 7).frgShow).holdEnter 3 := by
  unfold State.dmcPllTimeout
  rw [hl]
  exact if_neg (Nat.not_lt.2 ht)

/-- Settles O29: each command is a guarded write that nothing refuses, or an occurrence whose time has come. -/
theorem dramCommandsComplete : Obligations.DramCommandsComplete := by
  refine ⟨fun c ok ts0 ts1 t => ?_, fun c t => ?_, fun c t => ?_, fun c t a e => ?_, fun m fgr target t => ?_,
    fun t o => ?_, fun fail t o => ?_, fun t o => ?_, fun c t => ?_, fun c fault t => ?_, fun c fault t => ?_,
    fun c t o a => ?_, fun c t a => ?_⟩
  · exact runs_of_runU _ _ _ _ (fun _ => rfl) fun _ _ => rfl
  · exact runs_of_runU _ _ _ _ (fun _ => rfl) fun u ⟨hr, ht, hs⟩ => u.refreshInterval_elapses c.val hr ht hs
  · exact runs_of_runU _ _ _ _ (fun _ => rfl) fun u h => if_pos h
  · exact runs_of_runU _ _ _ _ (fun _ => rfl) fun _ _ => rfl
  · refine runs_of_runU _ _ _ _ (fun _ => rfl) fun u ⟨hok, hfree, hmode, hshadow, hrating⟩ => ?_
    rw [u.guardWrite_DMC_FREQ_OP m fgr target hok, State.freqReq_runs _ fgr target.val hfree hmode hshadow hrating]
  · exact runs_of_runU _ _ _ _ (fun _ => rfl) fun u ⟨ho, hn, hmay, hr, hd⟩ => u.freqStart_starts o ho hn hmay hr hd
  · exact runs_of_runU _ _ _ _ (fun _ => rfl) fun _ _ => rfl
  · exact runs_of_runU _ _ _ _ (fun _ => rfl) fun u ⟨ho, hn, ha, ht⟩ => u.freqTimeout_due o ho hn ha ht
  · exact runs_of_runU _ _ _ _ (fun _ => rfl) fun u ⟨h5, h6⟩ => if_neg (by omega)
  · exact runs_of_runU _ _ _ _ (fun _ => rfl) fun _ _ => rfl
  · exact runs_of_runU _ _ _ _ (fun _ => rfl) fun _ _ => rfl
  · exact runs_of_runU _ _ _ _ (fun _ => rfl) fun u ⟨hstep, ho, hs, ht, h0, h1⟩ =>
      u.srAbandon_change c.val o a hstep ho hs ht h0 h1
  · exact runs_of_runU _ _ _ _ (fun _ => rfl) fun u ⟨hl, ht⟩ => u.dmcPllTimeout_due c.val a hl ht

/-! ### The clocks -/

/-- A granted guarded write of an operation of a PLL, with the reference frequency found (R658). -/
theorem State.guardWrite_CLK_PLL_OP (u : State) (m : Master) (k : Fin 8) (op : Fin 4)
    (hok : u.granted m (F.CLK_PLL_OP k.val) true = true) :
    u.guardWrite m (F.CLK_PLL_OP k.val) op.val =
      (let q := (u.withReg (F.CLK_PLL_OP k.val) op.val).takeFree 1000000
       q.2.pllOp k.val op.val q.1).answered m 0 := by
  have hop : bits op.val 1 0 = op.val := by
    unfold bits
    omega
  rw [u.guardWrite_granted m _ _ _ (findReg_CLK_PLL_OP k) rfl rfl rfl rfl rfl (planeSel_mask op)
    (show (0x3 : Nat) < 2 ^ 32 by decide) (by omega)
    (inWindow_of_lt (by show 0x30120 + 0x40 * k.val < 0x158000; omega)) hok]
  unfold State.guardAct
  dsimp only
  rw [hop]

/-- A granted guarded write of OP RESTORE for a domain (R651). -/
theorem State.guardWrite_CLK_DOM_OP (u : State) (m : Master) (d : Fin 64) (hok : u.granted m F.CLK_DOM_OP true = true) :
    u.guardWrite m F.CLK_DOM_OP (256 * d.val + 1) =
      ((u.withReg F.CLK_DOM_OP (256 * d.val + 1)).domRestore d.val).answered m 0 := by
  have hop : bits (256 * d.val + 1) 1 0 = 1 := by
    unfold bits
    omega
  have hdom : bits (256 * d.val + 1) 13 8 = d.val := by
    unfold bits
    omega
  rw [u.guardWrite_granted m _ _ _ findReg_CLK_DOM_OP rfl rfl rfl rfl rfl (domOp_mask d)
    (show (0x3F03 : Nat) < 2 ^ 32 by decide) (by omega) (by decide) hok]
  unfold State.guardAct
  dsimp only
  rw [hop, hdom, if_pos rfl]

/-- A PLL that runs an attempt on a reference that is there declares lock (R642). -/
theorem State.lockDeclared_locks (s : State) (k band trim : Nat)
    (hst : s.get (F.CLK_PLL_STATUS_STATE k) = 1 ∨ s.get (F.CLK_PLL_STATUS_STATE k) = 2)
    (href : s.onRef k = false ∨ s.clk.refLostAt = none) :
    s.lockDeclared k band trim = let w := s.pllLock k band trim
      if k = 4 then w.dmcPllBack 0 else if k = 5 then w.dmcPllBack 1 else w := by
  unfold State.lockDeclared
  rw [if_neg]
  rcases hst with hst | hst <;> rcases href with href | href <;> simp [hst, href]

/-- A relock from band memory that does not come makes its entry invalid, and a full search follows (R643). -/
theorem State.bandStale_due (s : State) (k : Nat) (hc : ¬((k = 4 ∨ k = 5) ∧ s.ctlState (k - 4) = 4))
    (hst : s.get (F.CLK_PLL_STATUS_STATE k) = 2) (ht : (s.pll k).since + 20000000 ≤ s.now) :
    s.bandStale k =
      let x := s.pll k
      let e := s.get (F.CLK_PLL_STATUS_ENTRY k)
      ((s.setPll k { x with bands := tblPut {} x.bands e { tblGet {} x.bands e with valid := false } }).raise
        Ev.CLK_BAND_STALE k).pllAttempt k true := by
  unfold State.bandStale
  rw [if_neg hc]
  dsimp only
  rw [if_neg (by rw [hst]; simpa using ht)]

/-- Settles O30: each command is a write that is granted, or an occurrence that its PLL can have. -/
theorem clockCommandsComplete : Obligations.ClockCommandsComplete := by
  refine ⟨fun t => ?_, fun t => ?_, fun k band trim t => ?_, fun k t => ?_, fun k t => ?_, fun m k t => ?_,
    fun m k t => ?_, fun m k t => ?_, fun m d t => ?_, fun m d v t => ?_⟩
  · exact runs_of_runU _ _ _ _ (fun _ => rfl) fun _ _ => rfl
  · exact runs_of_runU _ _ _ _ (fun _ => rfl) fun _ _ => rfl
  · exact runs_of_runU _ _ _ _ (fun _ => rfl) fun u ⟨hst, href⟩ => u.lockDeclared_locks k.val band.val trim.val hst href
  · exact runs_of_runU _ _ _ _ (fun _ => rfl) fun _ _ => rfl
  · exact runs_of_runU _ _ _ _ (fun _ => rfl) fun u ⟨hc, hst, ht⟩ => u.bandStale_due k.val
      (by simpa only [Bool.not_eq_true', decide_eq_false_iff_not] using hc) hst ht
  · refine runs_of_runU _ _ _ _ (fun _ => rfl) fun u ⟨hok, hk⟩ => ?_
    exact (u.guardWrite_CLK_PLL_OP m k 1 hok).trans (congrArg (State.answered · m 0) (State.pllOp_relock _ k.val _ hk))
  · refine runs_of_runU _ _ _ _ (fun _ => rfl) fun u ⟨hok, hk⟩ => ?_
    exact (u.guardWrite_CLK_PLL_OP m k 2 hok).trans (congrArg (State.answered · m 0) (State.pllOp_search _ k.val _ hk))
  · refine runs_of_runU _ _ _ _ (fun _ => rfl) fun u ⟨hok, hk⟩ => ?_
    exact (u.guardWrite_CLK_PLL_OP m k 3 hok).trans (congrArg (State.answered · m 0) (State.pllOp_clear _ k.val _ hk))
  · refine runs_of_runU _ _ _ _ (fun _ => rfl) fun u ⟨hok, h⟩ => ?_
    exact (u.guardWrite_CLK_DOM_OP m d hok).trans (congrArg (State.answered · m 0) (if_pos h))
  · exact runs_of_runU _ _ _ _ (fun _ => rfl) fun u ⟨hok, _⟩ => u.busWrite_granted m _ v _ (findReg_CLK_DOM d) rfl rfl
      (inWindow_of_lt (by show 0x30800 + 0x4 * d.val < 0x158000; omega)) hok

end Sys2Proof.Machine
end

section
/-! PROOFS. Entry to INTERVAL, the wake and retention (R664 to R677). -/

namespace Sys2Proof.Machine

/-- An entry step with no wake source due goes on to the next step (R664). -/
theorem State.entryNext_idle (u : State) (k : Nat) (next : State → State) (hdue : u.pwr.due = 0) :
    u.entryNext k next = next { u with pwr := { u.pwr with step := k + 1, stepAt := u.now } } :=
  if_neg (not_not_intro hdue)

/-- Step 1 ends when every armed track waits in a curtain and no item commits (R664). -/
theorem State.entryCurtain_reached (u : State) (hstep : u.pwr.step = 1) (hdue : u.pwr.due = 0)
    (hidle : (List.range 16).all (fun n => (!(u.track n).armed || u.inCurtain n) &&
      !((u.queue n).items.any Item.committing)) = true) :
    u.entryCurtain = (List.range 16).foldl (fun s n => s.markRequest n 1)
      { u with pwr := { u.pwr with step := 2, stepAt := u.now } } := by
  unfold State.entryCurtain
  dsimp only
  rw [hidle, if_neg (by simp [hstep]), State.entryNext_idle u 1 _ hdue]

/-- Step 2 ends when no checkpoint is outstanding (R664). -/
theorem State.entryCheckpoints_done (u : State) (hstep : u.pwr.step = 2) (hdue : u.pwr.due = 0)
    (hmarks : (List.range 16).any (fun n => u.marksOut n ≠ 0) = false) :
    u.entryCheckpoints =
      ({ u with pwr := { u.pwr with step := 3, stepAt := u.now } } : State).addWrap F.AON_RET_SEQ 1 := by
  unfold State.entryCheckpoints
  rw [if_neg (by simp only [hmarks, hstep, ne_eq, not_true_eq_false, Bool.false_eq_true, or_self, not_false_eq_true]),
    State.entryNext_idle u 2 _ hdue]

/-- Step 3 writes the retention banks and ends (R664). -/
theorem State.entryRetention_written (u : State) (hstep : u.pwr.step = 3) (hdue : u.pwr.due = 0) :
    u.entryRetention = (let w := (List.range 8).foldl State.bankWrite u
      { w with pwr := { w.pwr with step := 4, stepAt := w.now } }) := by
  unfold State.entryRetention
  rw [if_neg (not_not_intro hstep), State.entryNext_idle _ 3 _ ((congrArg _ (State.banksWrite_pwr _ u)).trans hdue)]

/-- Step 4 puts both DRAM channels into self-refresh once no request waits (R664). -/
theorem State.entrySelfRefresh_idle (u : State) (hstep : u.pwr.step = 4) (hdue : u.pwr.due = 0) (hreq : u.dreq = []) :
    u.entrySelfRefresh =
      (let w := (((u.srEnter 0).srEnter 1).put (F.DMC_STATUS_STATE 0) 3).put (F.DMC_STATUS_STATE 1) 3
       ({ w with pwr := { w.pwr with step := 5, stepAt := w.now } } : State)) := by
  unfold State.entrySelfRefresh
  rw [if_neg (by simp [hstep, hreq]), if_neg (not_not_intro hdue)]

/-- A wake source that became due during step 5 wakes the device as soon as it has entered (R666). -/
theorem State.entryDone_entered (u : State) (hstep : u.pwr.step = 5) :
    u.entryDone = if u.pwr.due ≠ 0 then u.entered.wakeBegin else u.entered := by
  unfold State.entryDone
  dsimp only
  rw [hstep]
  simp only [true_and]

/-- In INTERVAL an access to a block that sleeps waits for the wake that it begins (R667, R669). -/
theorem State.accRun_asleep (u : State) (a : Access) (hblock : aonServed a.addr = false)
    (hsleep : u.get F.PWR_STATUS_STATE = 2) (hmay : u.mayReg a.master a.addr a.data.isSome = true)
    (hlcy : u.lcyAllows a = true) :
    u.accRun (.bare a.master) a = (let w := (u.setFlags F.PWR_WAKE_CAUSE_CAUSE (2 ^ 0)).wakeBegin
      { w with pwr := { w.pwr with stalls := w.pwr.stalls ++ [{ at_ := w.now, what := .reg (.bare a.master) a }] } }) := by
  unfold State.accRun
  rw [u.access_asleep a hblock hsleep hmay hlcy]
  rfl

/-- PWR_OP code 1 is wake source 0 (R667). -/
theorem State.pwrOp_wake (u : State) (hsleep : u.get F.PWR_STATUS_STATE = 2) :
    u.pwrOp 1 = (u.setFlags F.PWR_WAKE_CAUSE_CAUSE (2 ^ 0)).wakeBegin :=
  (if_pos ⟨rfl, hsleep⟩).trans (u.wakeSource_sleep 0 (.inl rfl) hsleep)

/-- PWR_OP code 2 begins the wake again after one that failed (R670). -/
theorem State.pwrOp_retry (u : State) (hfailed : u.get F.PWR_STATUS_STATE = 4) : u.pwrOp 2 = u.wakeBegin := by
  unfold State.pwrOp
  dsimp only
  rw [if_neg (by simp), if_pos ⟨rfl, hfailed⟩]

/-- A granted write of an operation to PWR_OP runs it. -/
theorem State.guardWrite_PWR_OP (u : State) (m : Master) (op : Fin 4) (hok : u.granted m F.PWR_OP true = true) :
    u.guardWrite m F.PWR_OP op.val = ((u.withReg F.PWR_OP op.val).pwrOp op.val).answered m 0 := by
  have hmask : ∀ op : Fin 4, op.val &&& 0x3 = op.val := by decide
  have hop : bits op.val 1 0 = op.val := by
    unfold bits
    omega
  rw [u.guardWrite_granted m _ _ _ findReg_PWR_OP rfl rfl rfl rfl rfl (hmask op)
    (show (0x3 : Nat) < 2 ^ 32 by decide) (by omega) (by decide) hok]
  unfold State.guardAct
  dsimp only
  rw [hop]

/-- A granted write of banks to PWR_RET_RELEASE releases them (R677). -/
theorem State.guardWrite_PWR_RET_RELEASE (u : State) (m : Master) (banks : Fin 256)
    (hok : u.granted m F.PWR_RET_RELEASE true = true) :
    u.guardWrite m F.PWR_RET_RELEASE banks.val =
      ((u.withReg F.PWR_RET_RELEASE banks.val).retRelease banks.val).answered m 0 := by
  have hbanks : bits banks.val 7 0 = banks.val := by
    unfold bits
    omega
  rw [u.guardWrite_granted m _ _ _ findReg_PWR_RET_RELEASE rfl rfl rfl rfl rfl (banks_mask banks)
    (show (0xFF : Nat) < 2 ^ 32 by decide) (by omega) (by decide) hok]
  unfold State.guardAct
  dsimp only
  rw [hbanks]

/-- Settles O31: the entry steps in their order, the wake sources, the wake's instants, and retention. -/
theorem powerCommandsComplete : Obligations.PowerCommandsComplete := by
  refine ⟨fun t => ?_, fun t => ?_, fun t => ?_, fun t => ?_, fun t => ?_, fun t => ?_, fun a t => ?_, fun t => ?_,
    fun t => ?_, fun t => ?_, fun n t => ?_, fun k q t => ?_, fun m t => ?_, fun m t => ?_, fun bad t => ?_,
    fun cause domain pll t => ?_, fun t => ?_, fun m banks t => ?_⟩
  · exact runs_of_runU _ _ _ _ (fun _ => rfl) fun u ⟨hstep, hdue, hidle⟩ => u.entryCurtain_reached hstep hdue hidle
  · exact runs_of_runU _ _ _ _ (fun _ => rfl) fun u ⟨hstep, hdue, hmarks⟩ => u.entryCheckpoints_done hstep hdue hmarks
  · exact runs_of_runU _ _ _ _ (fun _ => rfl) fun u ⟨hstep, hdue⟩ => u.entryRetention_written hstep hdue
  · exact runs_of_runU _ _ _ _ (fun _ => rfl) fun u ⟨hstep, hdue, hreq⟩ => u.entrySelfRefresh_idle hstep hdue hreq
  · exact runs_of_runU _ _ _ _ (fun _ => rfl) fun u hstep => u.entryDone_entered hstep
  · exact runs_of_runU _ _ _ _ (fun _ => rfl) fun _ h => if_pos h
  · refine runs_of_runU _ _ _ _ (fun _ => rfl) fun u ⟨hblock, hsleep, hmay, hlcy⟩ => ?_
    exact (if_pos (by simpa [hsleep] using hblock)).trans
      (u.accRun_asleep a (by simpa using hblock) hsleep hmay hlcy)
  · refine runs_of_runU _ _ _ _ (fun _ => rfl) fun u ⟨hset, hnow, hsleep, hon⟩ => ?_
    have halarm : u.alarm = true := by simp [State.alarm, hset, hnow]
    exact (if_pos halarm).trans (congrArg (State.raise · Ev.AON_ALARM) (u.wakeSource_sleep 1 (.inr hon) hsleep))
  · exact runs_of_runU _ _ _ _ (fun _ => rfl) fun u ⟨hsleep, hon⟩ => u.wakeSource_sleep 2 (.inr hon) hsleep
  · exact runs_of_runU _ _ _ _ (fun _ => rfl) fun u ⟨hsleep, hon⟩ => u.wakeSource_sleep 3 (.inr hon) hsleep
  · exact runs_of_runU _ _ _ _ (fun _ => rfl) fun u ⟨hkeep, harmed, hsleep, hon⟩ =>
      (if_pos ⟨hkeep, harmed⟩).trans (u.wakeSource_sleep 4 (.inr hon) hsleep)
  · exact runs_of_runU _ _ _ _ (fun _ => rfl) fun u ⟨hkeep, hphase, hsleep, hon⟩ => (if_pos ⟨hkeep, hphase⟩).trans
      (congrArg (State.raise · Ev.PRB_USER k.val) (u.wakeSource_sleep 5 (.inr hon) hsleep))
  · exact runs_of_runU _ _ _ _ (fun _ => rfl) fun u ⟨hok, hsleep⟩ =>
      (u.guardWrite_PWR_OP m 1 hok).trans (congrArg (State.answered · m 0) (State.pwrOp_wake _ hsleep))
  · exact runs_of_runU _ _ _ _ (fun _ => rfl) fun u ⟨hok, hfailed⟩ =>
      (u.guardWrite_PWR_OP m 2 hok).trans (congrArg (State.answered · m 0) (State.pwrOp_retry _ hfailed))
  · exact runs_of_runU _ _ _ _ (fun _ => rfl) fun _ _ => rfl
  · exact runs_of_runU _ _ _ _ (fun _ => rfl) fun _ _ => rfl
  · exact runs_of_runU _ _ _ _ (fun _ => rfl) fun _ hlong => if_pos hlong
  · exact runs_of_runU _ _ _ _ (fun _ => rfl) fun u hok => u.guardWrite_PWR_RET_RELEASE m banks hok

end Sys2Proof.Machine
end
